-- ==== Sys2Proof/Word.lean ====
section
/-! DEFINITION. The plain types that commands and state are written in: a byte, a sparse map, the sender of a
dictionary access, and what a request at an arbiter serves. -/

namespace Sys2Proof

/-- One byte, as the spec's tables give bytes (02 R42). -/
abbrev Byte := BitVec 8

/-- A sparse table: pairs of key and entry. In a state it is held in one canonical form: keys strictly rising, and
no entry equal to what an unlisted key reads as. -/
abbrev Map (α : Type) := List (Nat × α)

/-- Who sends a dictionary access: the management port with a tag (15 R431), or an in-band MGMT frame, named by
its requester and sequence number (02 R48, R50; 15 R433). -/
inductive MgmtSrc where
  | port (tag : Nat)
  | frame (req seq : Nat)
  deriving DecidableEq, Repr

/-- What a request at an arbiter or at a Stockpot serves; its class, its colour and with them its priority and stack level
follow (10 R299 to R301, R306, R315). -/
inductive Origin where
  /-- an admitted frame, by requester and sequence number -/
  | frame (req seq : Nat)
  /-- the transfer that the engine of tile t has under way (04 R127) -/
  | tile (t : Nat)
  /-- a frame that the block originates under SYS_CLASS (10 R301) -/
  | system
  /-- background work: zeroing, digest rehash, folds and discards, scrubbing, and the load engine (10 R299, R321) -/
  | background
  deriving DecidableEq, Repr

/-- One request that waits at an arbiter in a round (10 R322 to R325). -/
structure ArbReq where
  /-- the index of the requesting input -/
  idx : Nat
  /-- what the request at its head serves -/
  src : Origin
  /-- whether the input is at a break point, so that it may lose the grant -/
  last : Bool
  deriving DecidableEq, Repr

end Sys2Proof
end

