-- ==== Sys2Proof/Syntax.lean ====
section
/-! DEFINITION. The commands of the block: one constructor per row of spec/opcode_table.json, in its order. Frame
operations are named by requester and sequence number, dictionary accesses carry their sender, tile operations carry
the tile and the slot word of 04 R125, R131, R137 or R142, and an event that the surroundings or the stacks decide
carries what they present. -/

namespace Sys2Proof

/-- A command. -/
inductive Instr where
  /-- INGRESS_CELL: A 256-byte cell arrives on an attach port; it is checked, parked for reassembly, dropped as a duplicate, or processed as a header cell (R38) -/
  | ingressCell (port : Nat) (cell : List Byte)
  /-- REASSEMBLY_TIMEOUT: The reassembly timeout of a frame expires; an admitted frame is answered RETRY_INCOMPLETE, and otherwise the cells are freed silently (R64) -/
  | reassemblyTimeout (req seq att : Nat)
  /-- LATE_CELL_WINDOW_END: The window after a non-admitting decision, in which later cells of its key are dropped, ends (R61) -/
  | lateCellWindowEnd (req seq att : Nat)
  /-- ORDERED_RELEASE: An ORDERED frame begins execution once every lower sequence number that was OPEN at its admission has left OPEN (R45) -/
  | orderedRelease (req seq : Nat)
  /-- HOLD_TIME_END: The hold time of a held response ends, its ring cells are freed and HELD returns to 0 (R69) -/
  | holdTimeEnd (req seq : Nat)
  /-- DONE_TABLE_WRITE_ACCEPTED: The Stockpot accepts a done-table entry write, and the final response may then be sent (R67) -/
  | doneTableWriteAccepted (entry slot : Nat)
  /-- EGRESS_CELL: The egress scheduler of a port sends one cell from S0 to S3 or the W group on a PCLK for which it holds a credit (R309) -/
  | egressCell (port : Nat)
  /-- EGRESS_CREDIT: The host grants one egress credit for a port on att_tx_crd (R37) -/
  | egressCredit (port : Nat)
  /-- PORT_UP: att_up_p and att_rdy_p are both high and the port becomes up, with credits restarting from none (R488) -/
  | portUp (port : Nat)
  /-- PORT_DOWN: A port stops being up, and the frames queued for it are removed, owed or sent again on another port (R302) -/
  | portDown (port : Nat)
  /-- READ: READ returns LENGTH bytes of a region range, with zeros for failing granules (R48) -/
  | read (req seq : Nat)
  /-- WRITE: WRITE stores its payload into a region range (R48) -/
  | write (req seq : Nat)
  /-- ACCUM: ACCUM adds its elements exactly into the accumulators of an open reduction slot (R88) -/
  | accum (req seq : Nat)
  /-- WINDOWED_PARTIAL_APPLY: A windowed exact payload is checked during execution and, once escape room is reserved, applied to the slot (R102) -/
  | windowedPartialApply (req seq : Nat)
  /-- RED_OPEN: RED_OPEN opens or reopens a reduction slot and places its zeroed accumulators (R85) -/
  | redOpen (req seq : Nat)
  /-- RED_CLOSE: RED_CLOSE closes a slot, or is admitted as a pending close while EXPECT is unmet (R89) -/
  | redClose (req seq : Nat)
  /-- SLOT_CLOSE: A CLOSING slot whose admitted ACCUMs all have outcomes rounds and writes its result, or sends its partials as a feeder (R89) -/
  | slotClose (part slot : Nat)
  /-- PARTIAL_ANSWER: The answer to a feeder partial frame arrives, and the frame is finished, resent or the slot becomes BROKEN (R103) -/
  | partialAnswer (ep seq code orig : Nat)
  /-- SLOT_WAIT_EXPIRY: SLOT_WAIT passes on a pending close, the close is short, the slot becomes BROKEN and the step is marked (R91) -/
  | slotWaitExpiry (part slot : Nat)
  /-- SLOT_OPEN_FTC: A declared slot opens on the edge at which the FTC equals its open FTC (R86) -/
  | slotOpenFtc (ctx entry : Nat)
  /-- SLOT_CLOSE_FTC: A declared slot starts to close on its close FTC (R89) -/
  | slotCloseFtc (part slot : Nat)
  /-- MCAST: MCAST copies a range into the group's retention buffer and delivers it to every member (R106) -/
  | mcast (req seq : Nat)
  /-- MCAST_DELIVERY: A delivery frame for a member is sent on its port once an egress credit is obtained (R108) -/
  | mcastDelivery (group step member ofs : Nat)
  /-- OWE_WAIT_EXPIRY: No egress credit arrives within OWE_WAIT, and the frame goes on the owed list (R108) -/
  | oweWaitExpiry (group step member ofs : Nat)
  /-- OWE_RETRY: An owed entry is retried on PORT and then ALT_PORT (R109) -/
  | oweRetry (group step member ofs : Nat)
  /-- MCAST_DEADLINE: At the multicast deadline, entries still owed are dropped and a scheduled step is marked for replay (R110) -/
  | mcastDeadline (part step : Nat)
  /-- KV_APPEND: KV_APPEND allocates a slot if needed, writes tokens, and then sets the bitmap bits and FILL (R184) -/
  | kvAppend (req seq : Nat)
  /-- ATTN_QUERY: ATTN_QUERY is admitted for attention over a stream and queued to an attention set (R187) -/
  | attnQuery (req seq : Nat)
  /-- QUERY_START: The dispatcher writes the query and argument block into a set and starts its tiles on one edge (R189) -/
  | queryStart (set : Nat)
  /-- QUERY_COMPLETE: Every tile of the set has halted, and the dispatcher reads the completion record and answers (R190) -/
  | queryComplete (set : Nat)
  /-- SPILL_ANSWER: The answer to a forwarded query arrives, and its record is checked and written to the inbox, or the query is ended (R200) -/
  | spillAnswer (ep seq code orig aux : Nat) (notHeld : Bool) (payload : List Byte)
  /-- SPILL_WAIT_EXPIRY: No spill answer arrives within SPILL_WAIT, and the query ends with REFUSED_CAPACITY (R200) -/
  | spillWaitExpiry (req seq rec : Nat)
  /-- RUNAHEAD_FETCH: The dispatcher reads leading home pages of a queued query into the run-ahead staging area (R202) -/
  | runaheadFetch (set pieces : Nat)
  /-- CTX_RELEASE: A write of CTX_RELEASE moves a context to releasing (R186) -/
  | ctxRelease (src : MgmtSrc) (handle ctx : Nat)
  /-- CONTEXT_FREED: A releasing context with no operations left returns its slots, increments GENERATION and becomes free (R186) -/
  | contextFreed (handle ctx : Nat)
  /-- OPT_STEP: OPT_STEP opens the PARAM region, waits for the logged gradient, records the update and starts the update set (R224) -/
  | optStep (req seq : Nat)
  /-- UPDATE_START: The dispatcher starts a queued optimizer operation on its update set, loading the image if needed (R225) -/
  | updateStart (set : Nat)
  /-- UPDATE_COMPLETE: Every tile of the update set has halted and the shadow and cast writes are accepted, and OPT_STEP is answered (R224) -/
  | updateComplete (set : Nat)
  /-- MIRROR_ANSWER: The answer to a log-mirroring WRITE arrives, and the frame counts as mirrored, is resent, or the step is marked (R219) -/
  | mirrorAnswer (ep seq code orig : Nat)
  /-- MIRROR_WAIT_EXPIRY: MIRROR_WAIT passes after a close without mirroring, and the step is marked for replay (R219) -/
  | mirrorWaitExpiry (id : Nat)
  /-- VOTE: A participant that becomes ready seals its log entries and sends its vote to the commit home (R232) -/
  | vote (part step : Nat)
  /-- VOTE_ANSWER: The home's answer to a vote arrives and fixes the commit point, or aborts the step (R234) -/
  | voteAnswer (ep seq code orig aux : Nat)
  /-- COMMIT_DECISION_EDGE: At a decision edge the home releases if every vote is counted, or aborts after the last point (R233) -/
  | commitDecisionEdge (ctx : Nat)
  /-- COMMIT_EDGE: On its commit edge a participant moves its PARAM regions to FOLDING and sets COMMITTED_STEP (R234) -/
  | commitEdge (part step : Nat)
  /-- FOLD_COMPLETE: The last written page-map entry is rewritten, and the region returns to IDLE with ROOT updated (R215) -/
  | foldComplete (desc : Nat)
  /-- STEP_DECIDE: A write of STEP_DECIDE commits or aborts a step at the home, or resolves an in-doubt participant (R233) -/
  | stepDecide (src : MgmtSrc) (step action k : Nat)
  /-- SET_CKPT: A write of SET_CKPT sets CKPT_STEP of a LOG region (R238) -/
  | setCkpt (src : MgmtSrc) (handle step : Nat)
  /-- SET_COMMITTED: A write of SET_COMMITTED sets COMMITTED_STEP of an IDLE PARAM region (R239) -/
  | setCommitted (src : MgmtSrc) (handle step : Nat)
  /-- RESTORE_LOG: A write of RESTORE_LOG copies log entries from a source block's LOG region by READ (R239) -/
  | restoreLog (src : MgmtSrc) (handle ep srcHandle first last : Nat) (data : List Byte)
  /-- RESTORE_RUN: A write of RESTORE_RUN replays the logged updates step by step, committing each locally (R239) -/
  | restoreRun (src : MgmtSrc) (handle last : Nat)
  /-- SYNC: SYNC adds its amount to a counter of a tile of the frame's partition and reports the value (R250) -/
  | sync (req seq : Nat)
  /-- BARRIER: A BARRIER frame at the home is counted, answered at once, or refused (R258) -/
  | barrier (req seq : Nat)
  /-- BARRIER_ANSWER: The home's answer to a non-home barrier frame arrives, and the local part is released (R257) -/
  | barrierAnswer (ep seq code orig aux : Nat)
  /-- REMOTE_SIGNAL_SEND: The sync hub sends a queued remote signal, with combined amounts, as a SYNC frame (R249) -/
  | remoteSignalSend
  /-- REMOTE_SIGNAL_ANSWER: The answer to a remote SYNC arrives, and the signal is finished, resent or abandoned (R249) -/
  | remoteSignalAnswer (ep seq code orig : Nat)
  /-- LAUNCH: LAUNCH is checked and arms a schedule context (R277) -/
  | launch (req seq : Nat)
  /-- ARMING_COMPLETE: Ladel finishes checking the schedule, loading images and reserving slots, and LAUNCH is answered (R278) -/
  | armingComplete (ctx : Nat)
  /-- ARMING_DEADLINE: A context not armed by LAUNCH_FTC − 1 is abandoned and its step marked for replay (R278) -/
  | armingDeadline (ctx : Nat)
  /-- LAUNCH_EDGE: On LAUNCH_FTC the context becomes RUNNING, its spill records load and an old run of the step is cleared (R279) -/
  | launchEdge (ctx : Nat)
  /-- PROGRAM_ENTRY_FIRE: A PROGRAM entry starts its tile set at LAUNCH_FTC + REL (R274) -/
  | programEntryFire (ctx entry : Nat)
  /-- CONTEXT_END: A context whose span, tiles, slots and commit are all done is freed (R279) -/
  | contextEnd (ctx : Nat)
  /-- READ_OBJECT: A single-object read, by MGMT MOP 0x01 or port KIND 0x1, returns an object's value (R430) -/
  | readObject (src : MgmtSrc) (idx sub ofs len : Nat)
  /-- WRITE_OBJECT: A single-object write, by MOP 0x02 or KIND 0x2, to an object with no row of its own (R457) -/
  | writeObject (src : MgmtSrc) (idx sub ofs : Nat) (data : List Byte)
  /-- BULK_READ: A bulk read returns a snapshot of a range of a BLOB object (R430) -/
  | bulkRead (src : MgmtSrc) (idx sub ofs len : Nat)
  /-- BULK_WRITE: A bulk write replaces a byte range of a BLOB object (R457) -/
  | bulkWrite (src : MgmtSrc) (idx sub ofs : Nat) (data : List Byte)
  /-- STATUS: Control word STATUS returns the boot stage, boot slot, failure cause and firmware version (R432) -/
  | status (tag : Nat)
  /-- HOLD: Control word HOLD holds Ladel at stage 0x02 or releases it to stage 0x03 (R432) -/
  | hold (tag arg : Nat)
  /-- BOOT_SELECT: Control word BOOT_SELECT chooses the boot slot for this start (R432) -/
  | bootSelect (tag arg : Nat)
  /-- FLASH_READ: Control word FLASH_READ returns bytes of the image flash (R432) -/
  | flashRead (tag addr len : Nat)
  /-- FLASH_ERASE: Control word FLASH_ERASE erases a 4 KiB sector of the flash (R432) -/
  | flashErase (tag addr : Nat)
  /-- FLASH_PROGRAM: Control word FLASH_PROGRAM programs and verifies one flash page (R432) -/
  | flashProgram (tag addr : Nat) (data : List Byte)
  /-- EVENT_PEEK: Control word EVENT_PEEK returns the newest 8 event records (R432) -/
  | eventPeek (tag : Nat)
  /-- LOCK_REQ: A write of LOCK_REQ grants or refuses the lock of a dictionary domain (R435) -/
  | lockReq (src : MgmtSrc) (digit : Nat)
  /-- LOCK_COMMIT: A write of LOCK_COMMIT checks all staged writes and applies them together on one edge (R436) -/
  | lockCommit (src : MgmtSrc) (digit : Nat)
  /-- LOCK_ABORT: A write of LOCK_ABORT discards the staged writes and releases the lock (R436) -/
  | lockAbort (src : MgmtSrc) (digit : Nat)
  /-- LOCK_EXPIRED: LOCK_HOLD passes without a commit, and the lock ends with its writes discarded (R436) -/
  | lockExpired (digit : Nat)
  /-- REGION_CREATE: A creation record is checked, and a descriptor and BPA range are allocated and the region made active (R464) -/
  | regionCreate (src : MgmtSrc) (record : List Byte)
  /-- REGION_RETIRE: A write of REGION_RETIRE moves an active region to draining (R466) -/
  | regionRetire (src : MgmtSrc) (handle : Nat)
  /-- REGION_RDONLY: A write of REGION_RDONLY changes the RDONLY bit of an active region (R466) -/
  | regionRdonly (src : MgmtSrc) (handle value : Nat)
  /-- REGION_DRAINED: A draining region whose OUTSTANDING is 0 moves to zeroing (R29) -/
  | regionDrained (desc : Nat)
  /-- ZEROING_COMPLETE: The last zero granule of a zeroing region is written, and the descriptor and range return to free (R30) -/
  | zeroingComplete (desc : Nat)
  /-- IMAGE_HASH_CHECK: Ladel's BODY_HASH check of a CODE region completes, allowing or refusing loads from it (R148) -/
  | imageHashCheck (desc ofs : Nat)
  /-- SCHED_VERIFY: A write of SCHED_VERIFY starts the BODY_HASH check of a schedule region (R272) -/
  | schedVerify (src : MgmtSrc) (handle : Nat)
  /-- REGION_HEADER: A selector write of REGION_HEADER chooses the region whose header later reads return (R455) -/
  | regionHeader (src : MgmtSrc) (handle : Nat)
  /-- DIGEST_STATUS: A selector write of DIGEST_STATUS chooses the region whose dirty-leaf count later reads return (R455) -/
  | digestStatus (src : MgmtSrc) (handle : Nat)
  /-- REGION_DESC: A selector write of REGION_DESC chooses the region whose descriptor later reads return (R455) -/
  | regionDesc (src : MgmtSrc) (handle : Nat)
  /-- REHASH_PASS: A digest engine finishes rehashing dirty leaves, and ROOT is replaced (R294) -/
  | rehashPass (desc : Nat)
  /-- LADEL_SIGNAL: A write of LADEL_SIGNAL applies a fenced signal from a Ladel core to a counter (R264) -/
  | ladelSignal (src : MgmtSrc) (ctr amount : Nat)
  /-- FTC_PULSE: A discipline pulse is sampled, its error formed, and the servo and FTC state updated (R267) -/
  | ftcPulse (valid : Bool) (value phase : Nat)
  /-- PULSE_TIMEOUT: No pulse arrives for 3 expected periods, and ACQUIRE or TRACK enters HOLDOVER (R268) -/
  | pulseTimeout
  /-- HOLDOVER_MAX_EXPIRY: FTC_HOLDOVER_MAX passes without a pulse, and the discipline enters FAULT (R268) -/
  | holdoverMaxExpiry
  /-- FTC_RESYNC: A write of FTC_RESYNC arms a reload of the FTC at the next accepted pulse (R270) -/
  | ftcResync (src : MgmtSrc) (value : Nat)
  /-- WHEEL_TABLE_EFFECT: A written wheel table takes effect on the first position-0 edge at least 1,200 TCLK after the write (R284) -/
  | wheelTableEffect (table : Nat)
  /-- BUDGET_WINDOW_EDGE: A budget window opens, and each class becomes or stops being OVER (R313) -/
  | budgetWindowEdge
  /-- ARBITER_ROUND: An arbiter instance holds a round at a break point and grants one requester (R322) -/
  | arbiterRound (kind inst : Nat) (reqs : List ArbReq)
  /-- GRANULE_REQUEST_ACCEPT: A granule request takes a pool entry of its physical PC and counts as accepted (R336) -/
  | granuleRequestAccept (stack : Nat) (write : Bool) (bpa : Nat) (mask : Nat) (data : List Byte) (src : Origin) (unit tag : Nat)
  /-- STACK_COMMAND_ISSUE: A PC's command bus issues the next precharge, activate, read or write of the chosen request (R337) -/
  | stackCommandIssue (stack pc : Nat)
  /-- WRITE_RETIRE: A write retires after its second burst leaves the PHY, ending in-order mode where it caused it (R344) -/
  | writeRetire (stack pc id : Nat)
  /-- GRANULE_READ_DECODE: A read granule is decoded as CLEAN, CORRECTED, UNCORRECTABLE or POISONED (R357) -/
  | granuleReadDecode (stack pc id : Nat) (word : List Byte) (lost : Nat) (req seq : Nat)
  /-- AGE_LIMIT_AGED: A request of level 1 to 3 older than AGE_LIMIT becomes aged under policy 1 (R339) -/
  | ageLimitAged (stack pc id : Nat)
  /-- PAGE_IDLE_PRECHARGE: PAGE_IDLE passes with no column command, and the open row is precharged (R343) -/
  | pageIdlePrecharge (stack pc bank : Nat)
  /-- REFRESH_DEBT_TICK: The refresh debt of a PC rises by 1 every T_REFI ÷ 64 (R347) -/
  | refreshDebtTick (stack pc : Nat)
  /-- REFPB: A per-bank refresh issues to the next bank as the debt and the bus allow (R347) -/
  | refpb (stack pc : Nat)
  /-- RFM: A per-bank RFM issues before an activate that would take RAA to RAA_MAX (R349) -/
  | rfm (stack pc bank : Nat)
  /-- POWER_DOWN_ENTRY: A rank idle for SID_PD_TIMER enters power-down (R352) -/
  | powerDownEntry (stack pc sid : Nat)
  /-- TEMP_POLL: Ladel reads a stack's temperature and sets its refresh rate (R348) -/
  | tempPoll (stack : Nat) (reading : Int)
  /-- MERGE_WRITE_BACK: A merge-buffer entry is written back as one whole granule (R363) -/
  | mergeWriteBack (stack pc gran : Nat)
  /-- PATROL_SCRUB: The Scrubber reads the next granule of its patrol and compares mirror copies (R368) -/
  | patrolScrub (stack pc : Nat) (word : List Byte)
  /-- REMAP_ROW: Ladel writes a remap entry in copying state and copies a failing row to its target (R369) -/
  | remapRow (stack pc sid bank row : Nat)
  /-- REMAP_ACTIVE: Every granule of a row is copied, and its remap entry becomes active (R369) -/
  | remapActive (stack pc entry : Nat)
  /-- POST_PACKAGE_REPAIR: Hard repair of a row is applied over IEEE 1500, and the remap entry is freed (R371) -/
  | postPackageRepair (stack pc entry : Nat) (ok : Bool)
  /-- RETIRE_RANK: A write of RETIRE_RANK, or a trigger, starts the retirement of a rank into a spare slot (R372) -/
  | retireRank (src : MgmtSrc) (stack pc sid : Nat)
  /-- MIGRATION_ROW_COPY: A row of the source rank is copied and MARK moves past it (R373) -/
  | migrationRowCopy (stack : Nat) (words : List (List Byte))
  /-- TRAINING: Ladel trains a channel through CA eye, read gate, read eye, write eye, lane repair and verify (R386) -/
  | training (stack ch : Nat) (ok : Bool) (maps verify : List Nat)
  /-- SWEEP_COMPLETE: A sweep of the sweep engine finishes and its pass maps are in CMP_RESULT (R383) -/
  | sweepComplete (stack ch : Nat) (maps : List Nat)
  /-- PATGEN_CTL: A write of PATGEN_CTL starts a pattern-generator run (R382) -/
  | patgenCtl (src : MgmtSrc) (stack ch word : Nat)
  /-- SWEEP_CTL: A write of SWEEP_CTL with GO starts a sweep (R383) -/
  | sweepCtl (src : MgmtSrc) (stack ch word : Nat)
  /-- CMP_CTL: A write of CMP_CTL sets the compare mode or clears its counts (R384) -/
  | cmpCtl (src : MgmtSrc) (stack ch word : Nat)
  /-- TEST_HOLD: A write of TEST_HOLD puts a channel into TEST or returns it to service (R385) -/
  | testHold (src : MgmtSrc) (stack ch value : Nat)
  /-- HISTOGRAM_COMPLETE: A lane's edge histogram completes and its result is judged plausible or rejected (R389) -/
  | histogramComplete (stack ch lane : Nat) (bins : List Nat)
  /-- TAP_MOVE: Once per millisecond each setting moves one tap towards its target (R391) -/
  | tapMove (stack ch lane : Nat)
  /-- RETRAIN: A trigger or a write of RETRAIN starts a retrain of a channel by stand-in or split (R396) -/
  | retrain (src : Option MgmtSrc) (stack ch trigger : Nat)
  /-- RETRAIN_PERIOD_EXPIRY: RETRAIN_PERIOD passes since a channel's last training and a retrain is triggered (R396) -/
  | retrainPeriodExpiry (stack ch : Nat)
  /-- CA_PARITY_ALERT: A CA parity alert freezes the bus, replays recent commands and triggers a retrain (R397) -/
  | caParityAlert (stack ch : Nat)
  /-- STANDIN_FILL_END: Both FILL_MARKs pass their last row and the stand-in enters STANDING (R399) -/
  | standinFillEnd (stack : Nat)
  /-- STANDIN_RETURN_END: No dirty group remains, routing returns to the channel and BORROWED is cleared (R399) -/
  | standinReturnEnd (stack : Nat)
  /-- SPLIT_WINDOW: A split-retrain window runs up to 15 training points on a channel (R400) -/
  | splitWindow (stack ch : Nat)
  /-- TRIVET_INTERVAL: Every 10 µs Trivet estimates power, updates boost and sets array duty (R421) -/
  | trivetInterval (temps : List Int)
  /-- VID_STEP: Trivet changes the VDD_CORE code by one after pwr_vid_ok (R407) -/
  | vidStep (vidOk : Bool) (margin : Nat)
  /-- DOMAIN_STEP_DOWN: An idle domain moves down one power state after its idle time (R413) -/
  | domainStepDown (d : Nat)
  /-- DOMAIN_WAKE: A doorkeeper sees work and wakes its domain (R415) -/
  | domainWake (d : Nat)
  /-- DOMAIN_EXIT: A waking domain's exit time ends and it accepts requests at P0 (R411) -/
  | domainExit (d : Nat)
  /-- DOMAIN_RESET: A write of DOMAIN_RESET drains and resets a domain, bumping its epoch (R418) -/
  | domainReset (src : MgmtSrc) (d : Nat)
  /-- DRAIN_LIMIT_EXPIRY: DRAIN_LIMIT passes with work held and the domain reset proceeds (R416) -/
  | drainLimitExpiry (d : Nat)
  /-- BLOCK_PARK: A write of BLOCK_PARK puts the block into P5 (R414) -/
  | blockPark (src : MgmtSrc)
  /-- MAIN_POWER_FAIL: pwr_main_fail freezes, drains, self-refreshes the stacks and enters P5 (R409) -/
  | mainPowerFail
  /-- RAIL_GOOD_LOST: A good falls while its enable is high without pwr_main_fail, and the block parks at once (R501) -/
  | railGoodLost (rail : Nat)
  /-- KEEP_SWITCH: KEEP_MAIN falls below 0.700 V and the keep island switches to KEEP_BACKUP (R408) -/
  | keepSwitch
  /-- KEEP_RETURN: KEEP_MAIN stays good for 10 ms and the keep island switches back (R408) -/
  | keepReturn
  /-- KEEP_LOST: Both keep inputs fail and the keep island is lost (R408) -/
  | keepLost
  /-- PLL_LOCK_LOST: Loss of PLL lock switches to the reference, self-refreshes the stacks and stops the switched domains (R19) -/
  | pllLockLost
  /-- PLL_LOCK: The PLL locks and the dividers are released on an alignment edge (R491) -/
  | pllLock
  /-- COLD_START: A rise of rst_cold_n runs the cold-start stages to admission (R494) -/
  | coldStart (bins : List Nat)
  /-- COLD_RESET: A fall of rst_cold_n stops the block at once (R493) -/
  | coldReset
  /-- RAIL_TIMEOUT_EXPIRY: A rail's good does not arrive within RAIL_TIMEOUT and the start fails (R501) -/
  | railTimeoutExpiry (rail : Nat)
  /-- WARM_START: rst_warm_n or a write of WARM_START rebuilds the switched domains and reopens admission (R498) -/
  | warmStart (src : Option MgmtSrc)
  /-- CORE_WATCHDOG_EXPIRY: A core's watchdog expires and the standby takes its duty (R428) -/
  | coreWatchdogExpiry (core : Nat)
  /-- IMAGE_PROGRAM: A write of IMAGE_PROGRAM checks the staged image and programs the other slot (R446) -/
  | imageProgram (src : MgmtSrc)
  /-- FW_UPDATE: A write of FW_UPDATE starts the handover chain of new firmware (R447) -/
  | fwUpdate (src : MgmtSrc)
  /-- DUTY_HANDOVER: At a duty's quiet edge the next core takes the duty with the new image (R447) -/
  | dutyHandover
  /-- PROBATION_END: Probation ends and the programmed slot's boot sector is written (R448) -/
  | probationEnd
  /-- IMAGE_COMMIT: An image commit writes a persist record of dirty RWS objects (R438) -/
  | imageCommit (src : MgmtSrc)
  /-- COMMIT_MIN_GAP_EXPIRY: COMMIT_MIN_GAP passes and merged commits take place (R438) -/
  | commitMinGapExpiry
  /-- STRESS_SAVE: Ladel copies the stress accounts into the active image slot (R425) -/
  | stressSave
  /-- LIB_INSTALL: A write of LIB_INSTALL copies a library image into a CODE region (R445) -/
  | libInstall (src : MgmtSrc) (number handle ofs : Nat)
  /-- EVENT_ACK: A write of EVENT_ACK acknowledges records and clears mgt_irq (R451) -/
  | eventAck (src : MgmtSrc) (pos : Nat)
  /-- EVENT_NOTIFICATION: Qualifying event records are sent to NOTIFY_EP in a notification frame (R451) -/
  | eventNotification
  /-- EGG_TIMER_EVALUATE: Once per microsecond the Egg timer finds stuck sets and writes snapshots (R262) -/
  | eggTimerEvaluate
  /-- SNAPSHOT_CAPTURE: The central reader captures every programmable counter into the snapshot ring (R472) -/
  | snapshotCapture
  /-- CTR_CTL: A write of CTR_CTL_k zeroes the counter and reprograms it (R471) -/
  | ctrCtl (src : MgmtSrc) (d k word : Nat)
  /-- CTR_CLEAR: A write of CTR_CLEAR zeroes a unit's 8 counters (R471) -/
  | ctrClear (src : MgmtSrc) (d : Nat)
  /-- SAMPLE_CTL: A write of SAMPLE_CTL reloads the sampling countdown (R475) -/
  | sampleCtl (src : MgmtSrc) (n word : Nat)
  /-- SAMPLE_CLEAR: A write of SAMPLE_CLEAR empties the sampling buffer (R477) -/
  | sampleClear (src : MgmtSrc) (n : Nat)
  /-- DEBUG_CHALLENGE: A read of DEBUG_CHALLENGE issues a fresh nonce challenge (R478) -/
  | debugChallenge (src : MgmtSrc)
  /-- DEBUG_RESPONSE: A write of DEBUG_RESPONSE verifies the signature and unlocks debug (R478) -/
  | debugResponse (src : MgmtSrc) (data : List Byte)
  /-- DEBUG_LOCK: A write of DEBUG_LOCK ends the unlock (R480) -/
  | debugLock (src : MgmtSrc)
  /-- UNLOCK_DURATION_EXPIRY: An unlock's DURATION passes and debug ends (R480) -/
  | unlockDurationExpiry
  /-- COUNTER_SET: A write of COUNTER_SET hand-sets a sync counter (R481) -/
  | counterSet (src : MgmtSrc) (data : List Byte)
  /-- TILE_CONTROL: A write of TILE_CONTROL stops or resumes a tile (R482) -/
  | tileControl (src : MgmtSrc) (data : List Byte)
  /-- BP_SET: A write of BP_SET sets a breakpoint of a Skillet (R483) -/
  | bpSet (src : MgmtSrc) (data : List Byte)
  /-- ARB_FREEZE: A write of ARB_FREEZE sets or withdraws a freeze of an arbiter instance (R484) -/
  | arbFreeze (src : MgmtSrc) (data : List Byte)
  /-- BYPASS: TAP instruction BYPASS (R490) -/
  | bypass
  /-- IDCODE: TAP instruction IDCODE returns the identity code (R490) -/
  | idcode
  /-- SAMPLE_PRELOAD: TAP instruction SAMPLE/PRELOAD while rst_cold_n is low (R490) -/
  | samplePreload (word : Nat)
  /-- EXTEST: TAP instruction EXTEST while rst_cold_n is low (R490) -/
  | extest
  /-- STACK_1500: TAP instruction STACK_1500 links the TAP to a stack's wrapper port (R490) -/
  | stack1500 (stack : Nat)
  /-- TILE_LOAD: The load engine loads an image into a tile set (R149) -/
  | tileLoad (first count handle ofs part : Nat)
  /-- TILE_START: A tile starts at its start FTC with PC at ENTRY (R150) -/
  | tileStart (tile : Nat)
  /-- TILE_STOP: A stop freezes a tile and it becomes HALTED when in-flight work completes (R151) -/
  | tileStop (tile : Nat)
  /-- TILE_SAVE: A HALTED tile's context is saved to its save slot (R152) -/
  | tileSave (tile : Nat)
  /-- TILE_RESTORE: A saved context is restored and the ledger is added to the counters (R153) -/
  | tileRestore (tile : Nat)
  /-- TILE_DISCARD: A saved context and its ledger are discarded (R153) -/
  | tileDiscard (tile : Nat)
  /-- TILE_SLEEP: A tile waiting for SLEEP_AFTER goes to P1 and lends its credit (R145) -/
  | tileSleep (tile : Nat)
  /-- TRANSFER_START: The transfer engine takes a descriptor from a tile's queue and checks it (R128) -/
  | transferStart (tile : Nat)
  /-- TRANSFER_COMPLETE: A transfer's last byte is visible and its completion signal is sent (R129) -/
  | transferComplete (tile : Nat)
  /-- MMA_START: A queued MMA starts on the array after the one before it (R136) -/
  | mmaStart (tile : Nat)
  /-- FENCE_COMPLETE: Every earlier store and outbound transfer is visible and the fence completes (R251) -/
  | fenceComplete (tile : Nat)
  /-- LDV: Move op LDV loads a vector register from data memory (R126) -/
  | ldv (tile word : Nat)
  /-- STV: Move op STV stores a vector register (R126) -/
  | stv (tile word : Nat)
  /-- LDS: Move op LDS loads a G register (R126) -/
  | lds (tile word : Nat)
  /-- STS: Move op STS stores a G register (R126) -/
  | sts (tile word : Nat)
  /-- MOVI: Move op MOVI writes an immediate to a G register (R126) -/
  | movi (tile word : Nat)
  /-- ALU: Move op ALU combines two G registers (R126) -/
  | alu (tile word : Nat)
  /-- ALUI: Move op ALUI combines a G register with an immediate (R126) -/
  | alui (tile word : Nat)
  /-- BCAST: Move op BCAST broadcasts a G register into every lane (R126) -/
  | bcast (tile word : Nat)
  /-- VTOG: Move op VTOG copies one lane into a G register (R126) -/
  | vtog (tile word : Nat)
  /-- LDM: Move op LDM loads a lane mask (R126) -/
  | ldm (tile word : Nat)
  /-- STM: Move op STM stores a lane mask (R126) -/
  | stm (tile word : Nat)
  /-- XFER: Move op XFER queues a transfer descriptor (R126) -/
  | xfer (tile word : Nat)
  /-- RDCTR: Move op RDCTR reads a local sync counter (R126) -/
  | rdctr (tile word : Nat)
  /-- RDCR: Move op RDCR reads a control register (R126) -/
  | rdcr (tile word : Nat)
  /-- SETL: Move op SETL sets a loop counter (R126) -/
  | setl (tile word : Nat)
  /-- WRCR: Move op WRCR writes EBASE (R126) -/
  | wrcr (tile word : Nat)
  /-- MMA: Array op MMA accumulates A·B into an accumulator bank (R135) -/
  | mma (tile word : Nat)
  /-- ACZERO: Array op ACZERO zeroes an accumulator bank (R136) -/
  | aczero (tile word : Nat)
  /-- FADD: Vector op FADD (R138) -/
  | fadd (tile word : Nat)
  /-- FSUB: Vector op FSUB (R138) -/
  | fsub (tile word : Nat)
  /-- FMUL: Vector op FMUL (R138) -/
  | fmul (tile word : Nat)
  /-- FFMA: Vector op FFMA, rounded once (R138) -/
  | ffma (tile word : Nat)
  /-- FMAX: Vector op FMAX (R138) -/
  | fmax (tile word : Nat)
  /-- FMIN: Vector op FMIN (R138) -/
  | fmin (tile word : Nat)
  /-- FSGN: Vector op FSGN: abs, negate or copy sign (R138) -/
  | fsgn (tile word : Nat)
  /-- FCMP: Vector op FCMP writes a lane mask (R138) -/
  | fcmp (tile word : Nat)
  /-- SEL: Vector op SEL selects lanes by a mask (R138) -/
  | sel (tile word : Nat)
  /-- FEXP: Vector op FEXP computes the bit-exact exponential (R171) -/
  | fexp (tile word : Nat)
  /-- FEXPA: Vector op FEXPA computes an approximate exponential, faulting under DET_STRICT (R175) -/
  | fexpa (tile word : Nat)
  /-- FRCP: Vector op FRCP computes the bit-exact reciprocal (R173) -/
  | frcp (tile word : Nat)
  /-- FSQRT: Vector op FSQRT computes a correctly rounded square root (R174) -/
  | fsqrt (tile word : Nat)
  /-- FMULI: Vector op FMULI multiplies by an F32 immediate (R138) -/
  | fmuli (tile word : Nat)
  /-- FADDI: Vector op FADDI adds an F32 immediate (R138) -/
  | faddi (tile word : Nat)
  /-- IADD: Vector op IADD (R138) -/
  | iadd (tile word : Nat)
  /-- ISUB: Vector op ISUB (R138) -/
  | isub (tile word : Nat)
  /-- IMUL: Vector op IMUL (R138) -/
  | imul (tile word : Nat)
  /-- LOGIC: Vector op LOGIC (R138) -/
  | logic (tile word : Nat)
  /-- SHIFT: Vector op SHIFT (R138) -/
  | shift (tile word : Nat)
  /-- IMINMAX: Vector op IMINMAX (R138) -/
  | iminmax (tile word : Nat)
  /-- RED: Vector op RED reduces 64 lanes along a fixed tree (R138) -/
  | red (tile word : Nat)
  /-- PERM: Vector op PERM permutes lanes (R138) -/
  | perm (tile word : Nat)
  /-- CVTN: Vector op CVTN narrows FP32 with round-to-nearest-even (R139) -/
  | cvtn (tile word : Nat)
  /-- CVTS: Vector op CVTS narrows FP32 with stochastic rounding (R140) -/
  | cvts (tile word : Nat)
  /-- CVTW: Vector op CVTW widens packed elements to FP32 (R139) -/
  | cvtw (tile word : Nat)
  /-- CVTI: Vector op CVTI converts between F32 and I32 (R138) -/
  | cvti (tile word : Nat)
  /-- ACRD: Vector op ACRD reads an accumulator row (R138) -/
  | acrd (tile word : Nat)
  /-- ACWR: Vector op ACWR writes an accumulator row (R138) -/
  | acwr (tile word : Nat)
  /-- SIG: Sync op SIG adds an amount to a counter, locally or through the remote table (R143) -/
  | sig (tile word : Nat)
  /-- SUB: Sync op SUB subtracts from a local counter (R143) -/
  | subCtr (tile word : Nat)
  /-- WAIT: Sync op WAIT holds issue until a local counter reaches a threshold (R143) -/
  | wait (tile word : Nat)
  /-- FENCE: Sync op FENCE holds later bundles until earlier stores and transfers are visible (R143) -/
  | fence (tile word : Nat)
  /-- BR: Sync op BR branches (R143) -/
  | br (tile word : Nat)
  /-- BRZ: Sync op BRZ branches on a G register being zero or not (R143) -/
  | brz (tile word : Nat)
  /-- LOOP: Sync op LOOP decrements a loop counter and branches (R143) -/
  | loop (tile word : Nat)
  /-- HALT: Sync op HALT halts the tile, optionally with a fenced signal (R143) -/
  | halt (tile word : Nat)
  /-- ORIGINATED_FRAME_RESEND: The block resends a request frame that it originated and that has no final answer, keeping its sequence number and raising ATTEMPT (R52) -/
  | originatedFrameResend (ep seq : Nat)
  /-- PWR_MAIN_FAIL_CLEAR: pwr_main_fail falls, and a deferred or interrupted warm start proceeds from its first step (R497) -/
  | pwrMainFailClear
  /-- RAIL_GOOD_RISE: A rail's pwr_sram_good, pwr_core_good or pwr_phy_good rises after its enable, and 10 µs later the block raises the next enable (R501) -/
  | railGoodRise (rail : Nat)
  /-- ERR_WINDOW_EDGE: An error-counting window opens on an edge with FTC mod (ERR_WINDOW × 1.2 × 10^9) = 0, and the per-row and per-rank corrected and uncorrectable counts restart (R366) -/
  | errWindowEdge
  deriving DecidableEq, Repr

end Sys2Proof
end

