-- ==== Sys2Proof/Machine/Bits.lean ====
section
/-! DEFINITION. Bit fields, byte order, signed values and serial comparison, as every table of the spec uses them. -/

namespace Sys2Proof.Machine

/-- The number that bytes spell, most significant byte first (02 R42). -/
def beNat (l : List Byte) : Nat := l.foldl (fun a b => a * 256 + b.toNat) 0

/-- The `n` bytes of a number, most significant byte first (02 R42). -/
def beBytes (n w : Nat) : List Byte :=
  match n with
  | 0 => []
  | k + 1 => BitVec.ofNat 8 (w >>> (8 * k)) :: beBytes k w

/-- The number that bytes spell, least significant byte first (used where 04 and 05 lay lanes out). -/
def leNat (l : List Byte) : Nat := beNat l.reverse

/-- The `n` bytes of a number, least significant byte first. -/
def leBytes (n w : Nat) : List Byte := (beBytes n w).reverse

/-- Bits [hi:lo] of a number, high bit first as 00 R5 writes them. -/
def bits (w hi lo : Nat) : Nat := (w >>> lo) % 2 ^ (hi + 1 - lo)

/-- One bit of a number. -/
def bit (w i : Nat) : Bool := w.testBit i

/-- `true` is 1. -/
def b2n (b : Bool) : Nat := if b then 1 else 0

/-- A number with bit `i` set or cleared. -/
def setBit (w i : Nat) (b : Bool) : Nat := if b then w ||| (1 <<< i) else if w.testBit i then w - (1 <<< i) else w

/-- `len` bytes of a run from `ofs` on; bytes past its end read as zero. -/
def sliceBytes (l : List Byte) (ofs len : Nat) : List Byte :=
  let t := (l.drop ofs).take len
  t ++ List.replicate (len - t.length) 0

/-- The big-endian number of `n` bytes at an offset. -/
def natAt (l : List Byte) (ofs n : Nat) : Nat := beNat (sliceBytes l ofs n)

/-- Replaces the bytes of a run from `ofs` on, padding with zeros where the run is shorter. -/
def splice (l : List Byte) (ofs : Nat) (d : List Byte) : List Byte :=
  let l' := l ++ List.replicate (ofs + d.length - l.length) 0
  l'.take ofs ++ d ++ l'.drop (ofs + d.length)

/-- A run of exactly `n` bytes: cut, or padded with zeros. -/
def fitBytes (n : Nat) (l : List Byte) : List Byte := sliceBytes l 0 n

/-- The two's-complement value of the low `n` bits. -/
def sInt (n w : Nat) : Int := if w % 2 ^ n < 2 ^ (n - 1) then (w % 2 ^ n : Nat) else (w % 2 ^ n : Nat) - (2 ^ n : Nat)

/-- The low `n` bits of a signed value. -/
def uNat (n : Nat) (i : Int) : Nat := (i % (2 ^ n : Nat)).toNat

/-- Serial arithmetic of `n` bits: `a` is later than `b` (02 R58). -/
def later (n a b : Nat) : Bool :=
  let d := (a + 2 ^ n - b % 2 ^ n) % 2 ^ n
  0 < d ∧ d < 2 ^ (n - 1)

/-- ⌈a ÷ b⌉. -/
def ceilDiv (a b : Nat) : Nat := (a + b - 1) / b

/-- `a` rounded up to a multiple of `b`. -/
def roundUp (a b : Nat) : Nat := ceilDiv a b * b

/-- A value held between two bounds. -/
def clampN (lo hi v : Nat) : Nat := max lo (min hi v)

/-- A signed value held between two bounds. -/
def clampI (lo hi v : Int) : Int := max lo (min hi v)

/-- The indices of the set bits of an `n`-bit number, rising. -/
def setBits (n w : Nat) : List Nat := (List.range n).filter (fun i => w.testBit i)

/-- How many of the low `n` bits are set. -/
def popCount (n w : Nat) : Nat := (setBits n w).length

/-- Replaces one element of a list; outside the list nothing changes. -/
def listSet {α : Type} (l : List α) (i : Nat) (v : α) : List α := l.set i v

/-- One element of a list, or the default outside it. -/
def listGet {α : Type} (d : α) (l : List α) (i : Nat) : α := l.getD i d

/-- Inserts one element into a list sorted by a key, after the elements of an equal key. -/
def insertBy {α : Type} (key : α → Nat) (x : α) (l : List α) : List α :=
  match l with
  | [] => [x]
  | y :: r => if key x < key y then x :: y :: r else y :: insertBy key x r

/-- A list sorted by a key; elements of an equal key keep their order. -/
def sortBy {α : Type} (key : α → Nat) (l : List α) : List α := l.foldl (fun a x => insertBy key x a) []

/-- No two elements are equal. -/
def allDistinct (l : List Nat) : Bool :=
  match l with
  | [] => true
  | x :: r => !r.contains x && allDistinct r

/-- Cuts a run of bytes into pieces of `n`, the last padded with zeros. -/
def chunks (n fuel : Nat) (l : List Byte) : List (List Byte) :=
  match fuel with
  | 0 => []
  | k + 1 => if l.isEmpty then [] else fitBytes n l :: chunks n k (l.drop n)

/-- The ASCII bytes of a short text given by its code points. -/
def ascii (l : List Nat) : List Byte := l.map (BitVec.ofNat 8)

/-- Two ranges, each a start and a length, overlap. -/
def overlaps (a n b m : Nat) : Bool := decide (a < b + m ∧ b < a + n)

end Sys2Proof.Machine
end

