-- ==== Sys2Proof/Machine/Crypto.lean ====
section
/-! DEFINITION. The checksums, digests and signatures that the spec names: CRC-32C (02 R43), SHA-256 (04 R148,
09 R292, R294), SHA-384 and ECDSA P-384 (15 R441, 17 R479). -/

namespace Sys2Proof.Machine

/-- One bit of the reflected CRC-32C: polynomial 0x1EDC6F41, whose reflection is 0x82F63B78 (02 R43). -/
def crcBit (c : Nat) : Nat := if c % 2 = 1 then (c >>> 1) ^^^ 0x82F63B78 else c >>> 1

/-- One byte of the reflected CRC-32C. -/
def crcByte (c b : Nat) : Nat :=
  crcBit (crcBit (crcBit (crcBit (crcBit (crcBit (crcBit (crcBit (c ^^^ b))))))))

/-- CRC-32C with initial value and final XOR 0xFFFF_FFFF (02 R43). -/
def crc32c (l : List Byte) : Nat := (l.foldl (fun c b => crcByte c b.toNat) 0xFFFFFFFF) ^^^ 0xFFFFFFFF

/-- Rotation to the right in a word of `n` bits. -/
def rotr (n r x : Nat) : Nat := ((x >>> r) ||| (x <<< (n - r))) % 2 ^ n

/-- The largest number of at most `n` more bits above `x` whose `k`-th power does not exceed `v`, bit by bit from the top. -/
def rootAbove (k v x n : Nat) : Nat :=
  match n with
  | 0 => x
  | m + 1 => rootAbove k v (if (x + 2 ^ m) ^ k ≤ v then x + 2 ^ m else x) m

/-- The first `w` bits of the fractional part of the `k`-th root of a number below 2^10: what FIPS 180-4 takes the
constants of the SHA-2 family from. -/
def rootFrac (k w p : Nat) : Nat := rootAbove k (p <<< (k * w)) 0 (w + 5) % 2 ^ w

/-- The first eighty primes. -/
def shaPrimes : List Nat :=
  [2, 3, 5, 7, 11, 13, 17, 19, 23, 29, 31, 37, 41, 43, 47, 53, 59, 61, 67, 71,
   73, 79, 83, 89, 97, 101, 103, 107, 109, 113, 127, 131, 137, 139, 149, 151, 157, 163, 167, 173] ++
  [179, 181, 191, 193, 197, 199, 211, 223, 227, 229, 233, 239, 241, 251, 257, 263, 269, 271, 277, 281,
   283, 293, 307, 311, 313, 317, 331, 337, 347, 349, 353, 359, 367, 373, 379, 383, 389, 397, 401, 409]

/-- The round constants of SHA-384: 64 bits of the cube roots of the primes. -/
def sha384K : List Nat := shaPrimes.map (rootFrac 3 64)

/-- The round constants of SHA-256: 32 bits of the cube roots of the first 64 primes. -/
def sha256K : List Nat := (shaPrimes.take 64).map (rootFrac 3 32)

/-- The initial hash value of SHA-256: 32 bits of the square roots of the first eight primes. -/
def sha256Init : List Nat := (shaPrimes.take 8).map (rootFrac 2 32)

/-- The initial hash value of SHA-384: 64 bits of the square roots of the next eight primes. -/
def sha384Init : List Nat := ((shaPrimes.drop 8).take 8).map (rootFrac 2 64)

/-- The rotation amounts that tell the 32-bit and the 64-bit member of the SHA-2 family apart. -/
structure ShaParam where
  /-- word width in bits -/
  w : Nat
  /-- Σ0 rotations -/
  a0 : Nat
  a1 : Nat
  a2 : Nat
  /-- Σ1 rotations -/
  e0 : Nat
  e1 : Nat
  e2 : Nat
  /-- σ0: two rotations and a shift -/
  s0 : Nat
  s1 : Nat
  s2 : Nat
  /-- σ1: two rotations and a shift -/
  t0 : Nat
  t1 : Nat
  t2 : Nat
  deriving DecidableEq, Repr

def sha256P : ShaParam := ⟨32, 2, 13, 22, 6, 11, 25, 7, 18, 3, 17, 19, 10⟩
def sha512P : ShaParam := ⟨64, 28, 34, 39, 14, 18, 41, 1, 8, 7, 19, 61, 6⟩

/-- One round on the eight working words; `kw` is the round constant plus the schedule word. -/
def shaRound (p : ShaParam) (h : List Nat) (kw : Nat) : List Nat :=
  match h with
  | [a, b, c, d, e, f, g, hh] =>
    let s1 := rotr p.w p.e0 e ^^^ rotr p.w p.e1 e ^^^ rotr p.w p.e2 e
    let ch := (e &&& f) ^^^ ((2 ^ p.w - 1 - e) &&& g)
    let x := hh + s1 + ch + kw
    let s0 := rotr p.w p.a0 a ^^^ rotr p.w p.a1 a ^^^ rotr p.w p.a2 a
    let mj := (a &&& b) ^^^ (a &&& c) ^^^ (b &&& c)
    [(x + s0 + mj) % 2 ^ p.w, a, b, c, (d + x) % 2 ^ p.w, e, f, g]
  | _ => h

/-- The rounds of one block over a sliding window of the sixteen latest schedule words. -/
def shaRounds (p : ShaParam) (ks : List Nat) (win h : List Nat) : List Nat :=
  match ks with
  | [] => h
  | k :: r =>
    let w0 := win.headD 0
    let x := win.getD 1 0
    let y := win.getD 14 0
    let g0 := rotr p.w p.s0 x ^^^ rotr p.w p.s1 x ^^^ (x >>> p.s2)
    let g1 := rotr p.w p.t0 y ^^^ rotr p.w p.t1 y ^^^ (y >>> p.t2)
    let nw := (w0 + g0 + win.getD 9 0 + g1) % 2 ^ p.w
    shaRounds p r (win.tail ++ [nw]) (shaRound p h (k + w0))

/-- One block of sixteen words. -/
def shaBlock (p : ShaParam) (ks : List Nat) (h : List Nat) (blk : List Byte) : List Nat :=
  let n := p.w / 8
  let win := (List.range 16).map (fun i => natAt blk (n * i) n)
  List.zipWith (fun a b => (a + b) % 2 ^ p.w) h (shaRounds p ks win h)

/-- A message with the padding of the family: a one bit, zeros, and the length in bits. -/
def shaPad (p : ShaParam) (l : List Byte) : List Byte :=
  let blk := 2 * p.w
  let len := p.w / 4
  let z := (blk - (l.length + 1 + len) % blk) % blk
  l ++ [0x80#8] ++ List.replicate z 0 ++ beBytes len (8 * l.length)

/-- A member of the SHA-2 family, all its hash words spelt out. -/
def sha2 (p : ShaParam) (ks init : List Nat) (l : List Byte) : List Byte :=
  let m := shaPad p l
  let bs := chunks (2 * p.w) (m.length / (2 * p.w)) m
  ((bs.foldl (shaBlock p ks) init).map (beBytes (p.w / 8))).flatten

/-- SHA-256, 32 bytes. -/
def sha256 (l : List Byte) : List Byte := sha2 sha256P sha256K sha256Init l

/-- SHA-384, 48 bytes: the first six of eight 64-bit words. -/
def sha384 (l : List Byte) : List Byte := (sha2 sha512P sha384K sha384Init l).take 48

/-- The field prime of P-384. -/
def p384P : Nat := 2 ^ 384 - 2 ^ 128 - 2 ^ 96 + 2 ^ 32 - 1
/-- The group order of P-384. -/
def p384N : Nat :=
  0xFFFFFFFFFFFFFFFFFFFFFFFFFFFFFFFFFFFFFFFFFFFFFFFFC7634D81F4372DDF581A0DB248B0A77AECEC196ACCC52973
/-- The coefficient b of P-384 (the coefficient a is −3). -/
def p384B : Nat :=
  0xB3312FA7E23EE7E4988E056BE3F82D19181D9C6EFE8141120314088F5013875AC656398D8A2ED19D2A85C8EDD3EC2AEF
/-- The base point of P-384. -/
def p384G : Nat × Nat :=
  (0xAA87CA22BE8B05378EB1C71EF320AD746E1D3B628BA79B9859F741E082542A385502F25DBF55296C3A545E3872760AB7,
   0x3617DE4A96262C6F5D9E98BF9292DC29F8F41DBD289A147CE9DA3113B5F0B8C00A60B1CE1D7E819D7A431D7C90EA0E5F)

/-- Modular power by squaring over the low `fuel` bits of the exponent, highest first. -/
def powMod (m b e fuel : Nat) : Nat :=
  match fuel with
  | 0 => 1 % m
  | k + 1 =>
    let r := powMod m b (e / 2) k
    if e % 2 = 1 then r * r % m * b % m else r * r % m

/-- The inverse modulo a prime of 384 bits. -/
def invMod (m a : Nat) : Nat := powMod m (a % m) (m - 2) 384

/-- Addition of points of P-384; none is the point at infinity. -/
def ecAdd (a b : Option (Nat × Nat)) : Option (Nat × Nat) :=
  match a, b with
  | none, q => q
  | q, none => q
  | some (x1, y1), some (x2, y2) =>
    if x1 = x2 ∧ (y1 + y2) % p384P = 0 then none
    else
      let l :=
        if x1 = x2 then (3 * x1 * x1 + (p384P - 3)) * invMod p384P (2 * y1) % p384P
        else (y2 + p384P - y1) * invMod p384P (x2 + p384P - x1) % p384P
      let x := (l * l + 2 * p384P - x1 - x2) % p384P
      some (x, (l * (x1 + p384P - x) + p384P - y1) % p384P)

/-- Multiple of a point of P-384. -/
def ecMul (k : Nat) (q : Option (Nat × Nat)) (fuel : Nat) : Option (Nat × Nat) :=
  match fuel with
  | 0 => none
  | n + 1 =>
    let r := ecMul (k / 2) q n
    let r2 := ecAdd r r
    if k % 2 = 1 then ecAdd r2 q else r2

/-- ECDSA P-384 over SHA-384 (FIPS 186-5): the key is x then y, the signature r then s, 48 bytes each (15 R441). -/
def ecdsaVerify (key sig msg : List Byte) : Bool :=
  let x := natAt key 0 48
  let y := natAt key 48 48
  let r := natAt sig 0 48
  let s := natAt sig 48 48
  let z := beNat (sha384 msg)
  let okKey := x < p384P ∧ y < p384P ∧ (y * y) % p384P = (x * x * x + (p384P - 3) * x + p384B) % p384P
  let okSig := 0 < r ∧ r < p384N ∧ 0 < s ∧ s < p384N
  let w := invMod p384N s
  let q := ecAdd (ecMul (z * w % p384N) (some p384G) 384) (ecMul (r * w % p384N) (some (x, y)) 384)
  decide okKey && decide okSig && (match q with | none => false | some (qx, _) => decide (qx % p384N = r))

end Sys2Proof.Machine
end

