-- ==== Sys2Proof/Machine/Float.lean ====
section
/-! DEFINITION. Formats, rounding and the bit-exact functions of 05: decoding (R156 to R158), round to nearest even
and stochastic rounding with overflow (R161 to R164), IEEE 754 sums, products and fused products on exact values
(R163), Philox (R168, R169), FEXP (R171, R172), FRCP (R173) and FSQRT (R174). -/

namespace Sys2Proof.Machine

/-- An exact value: not a number, an infinity, or (−1)^neg × m × 2^e, zero keeping its sign. -/
inductive FVal where
  | nan
  | inf (neg : Bool)
  | fin (neg : Bool) (m : Nat) (e : Int)
  deriving DecidableEq, Repr

/-- Which codes of a format are no finite value (05 R156). -/
inductive FSpecials where
  /-- exponent all ones: infinity or NaN -/
  | ieee
  /-- only the code of all ones is NaN (E4M3) -/
  | e4m3
  /-- every code is finite (FP6, FP4) -/
  | none
  deriving DecidableEq, Repr

/-- A floating-point format: exponent and mantissa widths, bias, largest finite magnitude code, infinity and NaN
codes (05 R156). -/
structure Fmt where
  eb : Nat
  mb : Nat
  bias : Int
  sp : FSpecials
  maxFin : Nat
  infCode : Nat
  nanCode : Nat
  deriving DecidableEq, Repr

/-- FP32 (05 R156). -/
def fp32 : Fmt := ⟨8, 23, 127, .ieee, 0x7F7FFFFF, 0x7F800000, 0x7FC00000⟩
/-- BF16 (05 R156). -/
def bf16 : Fmt := ⟨8, 7, 127, .ieee, 0x7F7F, 0x7F80, 0x7FC0⟩
/-- FP16 (05 R156). -/
def fp16 : Fmt := ⟨5, 10, 15, .ieee, 0x7BFF, 0x7C00, 0x7E00⟩
/-- FP8 E5M2 (05 R156). -/
def e5m2 : Fmt := ⟨5, 2, 15, .ieee, 0x7B, 0x7C, 0x7E⟩
/-- FP8 E4M3 (05 R156), whose overflow is its canonical NaN (R162). -/
def e4m3 : Fmt := ⟨4, 3, 7, .e4m3, 0x7E, 0x7F, 0x7F⟩
/-- FP6 E3M2, inside MX blocks only (05 R156). -/
def e3m2 : Fmt := ⟨3, 2, 3, .none, 0x1F, 0x1F, 0x1F⟩
/-- FP6 E2M3, inside MX blocks only (05 R156). -/
def e2m3 : Fmt := ⟨2, 3, 1, .none, 0x1F, 0x1F, 0x1F⟩
/-- FP4 E2M1, inside MX blocks only (05 R156). -/
def e2m1 : Fmt := ⟨2, 1, 1, .none, 0x7, 0x7, 0x7⟩

/-- The exact value of a code (05 R157). -/
def fdecode (f : Fmt) (w : Nat) : FVal :=
  let neg := bit w (f.eb + f.mb)
  let e := bits w (f.eb + f.mb - 1) f.mb
  let m := w % 2 ^ f.mb
  let ones := 2 ^ f.eb - 1
  if f.sp = .ieee ∧ e = ones then (if m = 0 then .inf neg else .nan)
  else if f.sp = .e4m3 ∧ e = ones ∧ m = 2 ^ f.mb - 1 then .nan
  else if e = 0 then .fin neg m (1 - f.bias - f.mb)
  else .fin neg (2 ^ f.mb + m) ((e : Int) - f.bias - f.mb)

/-- The code with the sign bit of a format set or not. -/
def fsign (f : Fmt) (neg : Bool) (c : Nat) : Nat := c + (if neg then 2 ^ (f.eb + f.mb) else 0)

/-- How a value is rounded: to nearest even (05 R161), or stochastically with the random word U (05 R164). -/
inductive Rnd where
  | rne
  | stoch (u : Nat)
  deriving DecidableEq, Repr

/-- The multiple of 2^lsb that a magnitude m × 2^e rounds to (05 R161, R164). -/
def roundAt (r : Rnd) (m : Nat) (e lsb : Int) : Nat :=
  if lsb ≤ e then m <<< (e - lsb).toNat
  else
    let sh := (lsb - e).toNat
    let q := m >>> sh
    let rem := m % 2 ^ sh
    if rem = 0 then q
    else match r with
      | .rne => if 2 ^ sh < 2 * rem ∨ (2 * rem = 2 ^ sh ∧ q % 2 = 1) then q + 1 else q
      | .stoch u =>
        let d := if 32 ≤ sh then rem >>> (sh - 32) else rem <<< (32 - sh)
        if 2 ^ 32 ≤ d + u then q + 1 else q

/-- The result of an overflow or of an infinite input (05 R162). -/
def foverflow (f : Fmt) (sat neg : Bool) : Nat :=
  if sat then fsign f neg f.maxFin else if f.sp = .e4m3 then f.nanCode else fsign f neg f.infCode

/-- The code that an exact value rounds to in a format (05 R161 to R164). -/
def fround (f : Fmt) (r : Rnd) (sat : Bool) (v : FVal) : Nat :=
  match v with
  | .nan => f.nanCode
  | .inf neg => foverflow f sat neg
  | .fin neg m e =>
    if m = 0 then fsign f neg 0
    else
      let top := (Nat.log2 m : Int) + e
      let lsb := max (top - f.mb) (1 - f.bias - f.mb)
      let q := roundAt r m e lsb
      let code :=
        if q < 2 ^ f.mb then q
        else if q < 2 ^ (f.mb + 1) then (lsb + f.mb + f.bias).toNat * 2 ^ f.mb + (q - 2 ^ f.mb)
        else (lsb + f.mb + f.bias + 1).toNat * 2 ^ f.mb + (q / 2 - 2 ^ f.mb)
      if f.maxFin < code then foverflow f sat neg else fsign f neg code

/-- Round to nearest even, infinity on overflow. -/
def frne (f : Fmt) (v : FVal) : Nat := fround f .rne false v

/-- The integer a finite value rounds to. -/
def roundInt (r : Rnd) (neg : Bool) (m : Nat) (e : Int) : Int :=
  let q := roundAt r m e 0
  if neg then -(q : Int) else q

/-- Conversion to a saturating integer of `n` bits: NaN gives 0 (05 R162; 04 R138). -/
def toSatInt (n : Nat) (r : Rnd) (v : FVal) : Int :=
  let lo : Int := -(2 ^ (n - 1) : Nat)
  let hi : Int := (2 ^ (n - 1) : Nat) - 1
  match v with
  | .nan => 0
  | .inf neg => if neg then lo else hi
  | .fin neg m e => clampI lo hi (roundInt r neg m e)

/-- The exact value of an integer. -/
def fofInt (i : Int) : FVal := .fin (decide (i < 0)) i.natAbs 0

/-- A signed dyadic number as an exact value; an exact zero takes the sign given. -/
def fofDyadic (zneg : Bool) (i : Int) (e : Int) : FVal :=
  if i = 0 then .fin zneg 0 e else .fin (decide (i < 0)) i.natAbs e

/-- The signed magnitude of a finite value. -/
def fmag (neg : Bool) (m : Nat) : Int := if neg then -(m : Int) else m

/-- Exact sum of two values; the sign of an exact zero sum is that of IEEE 754-2019 under RNE (05 R163). -/
def fadd (a b : FVal) : FVal :=
  match a, b with
  | .nan, _ => .nan
  | _, .nan => .nan
  | .inf x, .inf y => if x = y then .inf x else .nan
  | .inf x, _ => .inf x
  | _, .inf y => .inf y
  | .fin x m e, .fin y n g =>
    let k := min e g
    let i := fmag x m * (2 ^ (e - k).toNat : Nat) + fmag y n * (2 ^ (g - k).toNat : Nat)
    fofDyadic (x && y) i k

/-- The negated value. -/
def fneg (a : FVal) : FVal :=
  match a with
  | .nan => .nan
  | .inf x => .inf (!x)
  | .fin x m e => .fin (!x) m e

/-- Exact product of two values. -/
def fmul (a b : FVal) : FVal :=
  match a, b with
  | .nan, _ => .nan
  | _, .nan => .nan
  | .inf x, .inf y => .inf (x ^^ y)
  | .inf x, .fin y n _ => if n = 0 then .nan else .inf (x ^^ y)
  | .fin x m _, .inf y => if m = 0 then .nan else .inf (x ^^ y)
  | .fin x m e, .fin y n g => .fin (x ^^ y) (m * n) (e + g)

/-- Order of two values that are no NaN: a < b, zeros equal. -/
def flt (a b : FVal) : Bool :=
  match a, b with
  | .nan, _ => false
  | _, .nan => false
  | .inf x, .inf y => x && !y
  | .inf x, _ => x
  | _, .inf y => !y
  | .fin x m e, .fin y n g =>
    let k := min e g
    decide (fmag x m * (2 ^ (e - k).toNat : Nat) < fmag y n * (2 ^ (g - k).toNat : Nat))

/-- Equality of two values as numbers: zeros of either sign are equal, a NaN equals nothing. -/
def feq (a b : FVal) : Bool := a ≠ .nan && b ≠ .nan && !flt a b && !flt b a

/-- Whether a value is NaN. -/
def fisNan (a : FVal) : Bool := decide (a = .nan)

/-- FP32 sum (05 R163). -/
def f32add (a b : Nat) : Nat := frne fp32 (fadd (fdecode fp32 a) (fdecode fp32 b))
/-- FP32 product. -/
def f32mul (a b : Nat) : Nat := frne fp32 (fmul (fdecode fp32 a) (fdecode fp32 b))
/-- FP32 difference. -/
def f32sub (a b : Nat) : Nat := frne fp32 (fadd (fdecode fp32 a) (fneg (fdecode fp32 b)))
/-- FP32 fused product and sum: one rounding. -/
def f32fma (a b c : Nat) : Nat :=
  frne fp32 (fadd (fmul (fdecode fp32 a) (fdecode fp32 b)) (fdecode fp32 c))

/-- The integer square root, bit by bit. -/
def isqrt (n fuel : Nat) : Nat :=
  match fuel with
  | 0 => 0
  | k + 1 =>
    let r := 2 * isqrt (n / 4) k
    if (r + 1) * (r + 1) ≤ n then r + 1 else r

/-- FSQRT: the square root, correctly rounded (05 R174). -/
def f32sqrt (a : Nat) : Nat :=
  match fdecode fp32 a with
  | .nan => fp32.nanCode
  | .inf neg => if neg then fp32.nanCode else fp32.infCode
  | .fin neg m e =>
    if m = 0 then fsign fp32 neg 0
    else if neg then fp32.nanCode
    else
      let odd := (e % 2).toNat
      let x := (m * 2 ^ odd) <<< 64
      let r := isqrt x 48
      let st := if r * r = x then 0 else 1
      frne fp32 (.fin false (2 * r + st) ((e - odd) / 2 - 33))

/-- LOG2E of 05 R171. -/
def fexpLog2e : Nat := 0x3FB8AA3B
/-- The coefficients of 05 R172. -/
def fexpC1 : Nat := 0xB17217F8
def fexpC2 : Nat := 0x3D7F7BFF
def fexpC3 : Nat := 0x0E35846C

/-- The highest number below 2^n of which a downward-closed test holds. -/
def searchMax (p : Nat → Bool) (n acc : Nat) : Nat :=
  match n with
  | 0 => acc
  | k + 1 => if p (acc + 2 ^ k) then searchMax p k (acc + 2 ^ k) else searchMax p k acc

/-- Entry i of T: 2^(i ÷ 256) × 2^31 to the nearest integer, which is the highest t with
(2t − 1)^256 below 2^(i + 32 × 256) (05 R172). -/
def fexpT (i : Nat) : Nat := searchMax (fun t => decide ((2 * t - 1) ^ 256 < 2 ^ (i + 8192))) 32 0

/-- FEXP (05 R171). -/
def f32exp (a : Nat) : Nat :=
  match fdecode fp32 a with
  | .nan => fp32.nanCode
  | .inf neg => if neg then 0 else fp32.infCode
  | .fin neg m e =>
    let x := FVal.fin neg m e
    if flt (.fin false 89 0) x then fp32.infCode
    else if flt x (.fin true 104 0) then 0
    else
      match fdecode fp32 (frne fp32 (fmul x (fdecode fp32 fexpLog2e))) with
      | .fin yn ym ye =>
        let yi := fmag yn ym
        let sh := ye + 32
        let bigY : Int := if 0 ≤ sh then yi * (2 ^ sh.toNat : Nat) else yi / (2 ^ (-sh).toNat : Nat)
        let n := bigY / (2 ^ 32 : Nat)
        let fr := (bigY % (2 ^ 32 : Nat)).toNat
        let i := fr >>> 24
        let low := fr % 2 ^ 24
        let s3 := (fexpC3 * low) >>> 32
        let s2 := ((fexpC2 + s3) * low) >>> 32
        let s1 := ((fexpC1 + s2) * low) >>> 32
        frne fp32 (.fin false (fexpT i * (2 ^ 32 + s1)) (n - 63))
      | _ => fp32.nanCode

/-- Entry j of the seed table S: 2^32 ÷ (257 + 2j) to the nearest integer (05 R173). -/
def frcpS (j : Nat) : Nat := (2 ^ 33 / (257 + 2 * j) + 1) / 2

/-- One Newton-Raphson step of FRCP (05 R173). -/
def frcpStep (mx est : Nat) : Nat :=
  let t := (mx * est) >>> 23
  (est * (2 ^ 33 - t)) >>> 32

/-- FRCP (05 R173). -/
def f32rcp (a : Nat) : Nat :=
  match fdecode fp32 a with
  | .nan => fp32.nanCode
  | .inf neg => fsign fp32 neg 0
  | .fin neg m e =>
    if m = 0 then fsign fp32 neg fp32.infCode
    else
      let sh := 23 - Nat.log2 m
      let mx := m <<< sh
      let ex := e - sh + 23
      let est := frcpStep mx (frcpStep mx (frcpS ((mx >>> 16) % 128) <<< 8))
      frne fp32 (.fin neg est (-32 - ex))

/-- One round of Philox-4×32 on (c0, c1, c2, c3) with the round's keys (05 R168). -/
def philoxRound (c : List Nat) (k0 k1 : Nat) : List Nat :=
  match c with
  | [c0, c1, c2, c3] =>
    let p0 := 0xD2511F53 * c0
    let p1 := 0xCD9E8D57 * c2
    [(p1 >>> 32) ^^^ c1 ^^^ k0, p1 % 2 ^ 32, (p0 >>> 32) ^^^ c3 ^^^ k1, p0 % 2 ^ 32]
  | _ => c

/-- Rounds of Philox, the keys stepping between rounds (05 R168). -/
def philoxRounds (n : Nat) (c : List Nat) (k0 k1 : Nat) : List Nat :=
  match n with
  | 0 => c
  | r + 1 =>
    philoxRounds r (philoxRound c k0 k1) ((k0 + 0x9E3779B9) % 2 ^ 32) ((k1 + 0xBB67AE85) % 2 ^ 32)

/-- The random word U of an element with global index G, step STEP and partition seed SEED (05 R169). -/
def randomWord (seed step g : Nat) : Nat :=
  let c := [(g >>> 2) % 2 ^ 32, (g >>> 34) % 2 ^ 32, step % 2 ^ 32, (step >>> 32) % 2 ^ 32]
  (philoxRounds 10 c (seed % 2 ^ 32) ((seed >>> 32) % 2 ^ 32)).getD (g % 4) 0

/-- The floating-point format of a DTYPE code 0x01 to 0x05 (02 R47). -/
def dtypeFmt (d : Nat) : Option Fmt :=
  match d with
  | 1 => some e4m3
  | 2 => some e5m2
  | 3 => some bf16
  | 4 => some fp16
  | 5 => some fp32
  | _ => none

/-- The element format inside an MX block (02 R47; 05 R156). -/
def mxFmt (d : Nat) : Option Fmt :=
  match d with
  | 6 => some e4m3
  | 7 => some e5m2
  | 8 => some e3m2
  | 9 => some e2m3
  | 10 => some e2m1
  | _ => none

/-- An MX element under its shared scale byte (05 R158). -/
def mxValue (f : Fmt) (scale w : Nat) : FVal :=
  if scale = 255 then .nan
  else match fdecode f w with
    | .nan => .nan
    | .inf n => .inf n
    | .fin n m e => .fin n m (e + scale - 127)

/-- Element k of a packed run of elements of `n` bits, element 0 in the most significant bits (05 R158). -/
def packedElem (n len : Nat) (w k : Nat) : Nat := (w >>> (n * (len - 1 - k))) % 2 ^ n

/-- The width in bits of one element of a DTYPE code. -/
def dtypeBits (d : Nat) : Nat :=
  match d with
  | 1 | 2 | 6 | 7 | 11 => 8
  | 3 | 4 => 16
  | 5 | 12 | 0x21 => 32
  | 8 | 9 => 6
  | 10 => 4
  | _ => 0

/-- A code of a DTYPE as an exact value: a float, INT8 or INT32 (02 R47). -/
def dtypeValue (d w : Nat) : FVal :=
  match d with
  | 11 => fofInt (sInt 8 w)
  | 12 => fofInt (sInt 32 w)
  | 0x21 => fdecode fp32 w
  | _ => match dtypeFmt d with
    | some f => fdecode f w
    | none => .nan

/-- A value rounded to a DTYPE code: a float format, or INT8, or INT32, which saturate (05 R162). -/
def dtypeRound (d : Nat) (r : Rnd) (sat : Bool) (v : FVal) : Nat :=
  match d with
  | 11 => uNat 8 (toSatInt 8 r v)
  | 12 => uNat 32 (toSatInt 32 r v)
  | _ => match dtypeFmt d with
    | some f => fround f r sat v
    | none => 0

end Sys2Proof.Machine
end

