-- ==== Sys2Proof/Machine/Operands.lean ====
section
/-! DEFINITION. The operand fields of the four tile slots (04 R125, R131, R137, R142) and of a transfer descriptor
(04 R127), and the numeric operand forms of the vector and array units. -/

namespace Sys2Proof.Machine

/-! ### Move slot (04 R125) -/
def mvOp (w : Nat) : Nat := bits w 63 58
def mvD (w : Nat) : Nat := bits w 57 53
def mvS1 (w : Nat) : Nat := bits w 52 48
def mvS2 (w : Nat) : Nat := bits w 47 43
def mvFn (w : Nat) : Nat := bits w 42 40
def mvRsv (w : Nat) : Nat := bits w 39 32
def mvImm (w : Nat) : Nat := bits w 31 0

/-! ### Array slot (04 R131) -/
def arOp (w : Nat) : Nat := bits w 55 52
def arBank (w : Nat) : Nat := bits w 51 51
def arZero (w : Nat) : Bool := bit w 50
def arDt (w : Nat) : Nat := bits w 49 46
def arKd (w : Nat) : Nat := bits w 45 42
def arGa (w : Nat) : Nat := bits w 41 37
def arGb (w : Nat) : Nat := bits w 36 32
def arGs (w : Nat) : Nat := bits w 31 27
def arAt (w : Nat) : Bool := bit w 26
def arBt (w : Nat) : Bool := bit w 25
def arAinc (w : Nat) : Bool := bit w 24
def arBinc (w : Nat) : Bool := bit w 23
def arAstr (w : Nat) : Nat := bits w 22 15
def arBstr (w : Nat) : Nat := bits w 14 7
def arRsv (w : Nat) : Nat := bits w 6 0

/-! ### Vector slot (04 R137) -/
def veOp (w : Nat) : Nat := bits w 71 66
def veD (w : Nat) : Nat := bits w 65 61
def veA (w : Nat) : Nat := bits w 60 56
def veB (w : Nat) : Nat := bits w 55 51
def veC (w : Nat) : Nat := bits w 50 46
def veMsk (w : Nat) : Nat := bits w 45 43
def veFn (w : Nat) : Nat := bits w 42 40
def veRsv (w : Nat) : Nat := bits w 39 32
def veImm (w : Nat) : Nat := bits w 31 0

/-! ### Sync slot (04 R142) -/
def syOp (w : Nat) : Nat := bits w 63 59
def syFn (w : Nat) : Nat := bits w 58 56
def syCtr (w : Nat) : Nat := bits w 55 39
def syGr (w : Nat) : Nat := bits w 38 34
def syTgt (w : Nat) : Nat := bits w 33 24
def syImm (w : Nat) : Nat := bits w 23 0

/-! ### Transfer descriptor (04 R127) -/
def xdKind (d : Nat) : Nat := bits d 255 252
def xdHandle (d : Nat) : Nat := bits d 251 228
def xdOfs (d : Nat) : Nat := bits d 227 188
def xdDm (d : Nat) : Nat := bits d 187 170
def xdRtile (d : Nat) : Nat := bits d 169 159
def xdRdm (d : Nat) : Nat := bits d 158 141
def xdLen (d : Nat) : Nat := bits d 140 120
def xdSigCtr (d : Nat) : Nat := bits d 119 103
def xdSigAmt (d : Nat) : Nat := bits d 102 87
def xdTmask (d : Nat) : Nat := bits d 86 55
def xdPrio (d : Nat) : Nat := bits d 54 53
def xdRsv (d : Nat) : Nat := bits d 52 0

/-- The descriptor moves data out of the tile (04 R144). -/
def xdOut (d : Nat) : Bool := xdKind d = 2 || xdKind d = 3 || xdKind d = 4

/-- The data memory of a tile in bytes (04 R117). -/
def dmSize : Nat := 0x30000

/-! ### Numeric forms of the vector unit (04 R138) -/

/-- IEEE 754 maximumNumber with −0 below +0 (04 R138). -/
def f32max (a b : Nat) : Nat :=
  let x := fdecode fp32 a
  let y := fdecode fp32 b
  if x = .nan then (if y = .nan then fp32.nanCode else b)
  else if y = .nan then a
  else if flt x y then b
  else if flt y x then a
  else if bit a 31 then b else a

/-- IEEE 754 minimumNumber with −0 below +0 (04 R138). -/
def f32min (a b : Nat) : Nat :=
  let x := fdecode fp32 a
  let y := fdecode fp32 b
  if x = .nan then (if y = .nan then fp32.nanCode else b)
  else if y = .nan then a
  else if flt x y then a
  else if flt y x then b
  else if bit a 31 then a else b

/-- FSGN: absolute value, negation, or the sign of a second operand; a NaN is canonical (04 R138). -/
def f32sgn (fn a b : Nat) : Nat :=
  if fdecode fp32 a = .nan then fp32.nanCode
  else
    let m := a % 2 ^ 31
    match fn with
    | 0 => m
    | 1 => m + (if bit a 31 then 0 else 2 ^ 31)
    | _ => m + (if bit b 31 then 2 ^ 31 else 0)

/-- FCMP: eq, lt, le, ne, unordered (04 R138). -/
def f32cmp (fn a b : Nat) : Bool :=
  let x := fdecode fp32 a
  let y := fdecode fp32 b
  match fn with
  | 0 => feq x y
  | 1 => flt x y
  | 2 => flt x y || feq x y
  | 3 => !feq x y
  | _ => fisNan x || fisNan y

/-- Integer operations of the move and vector units, modulo 2^32 (04 R126, R138). -/
def wrap32 (n : Nat) : Nat := n % 2 ^ 32
def i32sub (a b : Nat) : Nat := (a + 2 ^ 32 - b % 2 ^ 32) % 2 ^ 32
def i32sar (a n : Nat) : Nat := uNat 32 (sInt 32 a / (2 ^ n : Nat))

/-- The functions of ALU and ALUI (04 R126). -/
def aluFn (fn a b : Nat) : Nat :=
  match fn with
  | 0 => wrap32 (a + b)
  | 1 => i32sub a b
  | 2 => a &&& b
  | 3 => a ||| b
  | 4 => a ^^^ b
  | 5 => wrap32 (a <<< (b % 32))
  | 6 => a >>> (b % 32)
  | _ => wrap32 (a * b)

/-- The functions of LOGIC (04 R138). -/
def logicFn (fn a b : Nat) : Nat :=
  match fn with
  | 0 => a &&& b
  | 1 => a ||| b
  | 2 => a ^^^ b
  | _ => a &&& (2 ^ 32 - 1 - b % 2 ^ 32)

/-- The functions of SHIFT (04 R138). -/
def shiftFn (fn a n : Nat) : Nat :=
  match fn with
  | 0 => wrap32 (a <<< n)
  | 1 => a >>> n
  | _ => i32sar a n

/-- The functions of IMINMAX (04 R138). -/
def iminmaxFn (fn a b : Nat) : Nat :=
  match fn with
  | 0 => if sInt 32 a < sInt 32 b then b else a
  | 1 => if sInt 32 a < sInt 32 b then a else b
  | 2 => max a b
  | _ => min a b

/-- One level of the RED tree: lane i with lane i + h (04 R138). -/
def redLevel (op : Nat → Nat → Nat) (h : Nat) (l : List Nat) : List Nat :=
  (List.range h).map fun i => op (l.getD i 0) (l.getD (i + h) 0)

/-- RED over 64 lanes along the fixed tree (04 R138). -/
def redTree (op : Nat → Nat → Nat) (l : List Nat) : Nat :=
  (redLevel op 1 (redLevel op 2 (redLevel op 4 (redLevel op 8 (redLevel op 16 (redLevel op 32 l)))))).headD 0

/-- The reduction that FN names (04 R138). -/
def redFn (fn : Nat) (l : List Nat) : Nat :=
  match fn with
  | 0 => redTree f32add l
  | 1 => redTree f32max l
  | 2 => redTree f32min l
  | _ => redTree (fun a b => wrap32 (a + b)) l

/-- CVTI: F32 to I32, and back (04 R138). -/
def cvtiFn (fn a : Nat) : Nat :=
  if fn = 0 then uNat 32 (toSatInt 32 .rne (fdecode fp32 a)) else frne fp32 (fofInt (sInt 32 a))

/-- The DTYPE codes that narrow and widen (04 R139). -/
def cvtType (d : Nat) : Bool := (1 ≤ d && d ≤ 5) || d = 0x0B

/-- Bytes of an element of such a type. -/
def cvtBytes (d : Nat) : Nat := dtypeBits d / 8

/-- The bytes of a V register: lane 0 first, each lane most significant byte first. -/
def laneBytes (l : List Nat) : List Byte := (l.map (beBytes 4)).flatten

/-- The 64 lanes that 256 bytes fill. -/
def bytesLanes (b : List Byte) : List Nat := (List.range 64).map fun i => natAt b (4 * i) 4

/-- The sixty-four results of a narrowing in a V register: element i at byte or half-word i; an element whose mask bit
is clear keeps its old bits; the rest becomes 0 (04 R139). -/
def packNarrow (n : Nat) (mask : Nat) (old : List Nat) (res : List Nat) : List Nat :=
  let ob := laneBytes old
  bytesLanes (fitBytes 256
    (((List.range 64).map fun i =>
      if bit mask i then beBytes n (res.getD i 0) else sliceBytes ob (n * i) n).flatten))

/-- Element e of a packed V register. -/
def packedAt (n : Nat) (l : List Nat) (e : Nat) : Nat := natAt (laneBytes l) (n * e) n

/-! ### Numeric forms of the array (04 R132 to R135) -/

/-- The A and B formats of a DT (04 R132). -/
def mmaFmts (dt : Nat) : Option (Fmt × Fmt) :=
  match dt with
  | 1 | 6 => some (e4m3, e4m3)
  | 2 | 7 => some (e5m2, e5m2)
  | 3 => some (e4m3, e5m2)
  | 4 => some (bf16, bf16)
  | 5 => some (fp16, fp16)
  | 8 => some (e3m2, e3m2)
  | 9 => some (e2m3, e2m3)
  | 10 => some (e2m1, e2m1)
  | _ => none

/-- Bits of an operand element of a DT. -/
def mmaBits (dt : Nat) : Nat :=
  match dt with
  | 4 | 5 => 16
  | 8 | 9 => 6
  | 10 => 4
  | _ => 8

/-- The DT is an MX type. -/
def mmaMx (dt : Nat) : Bool := 6 ≤ dt && dt ≤ 10

/-- Rows and elements per row of the A operand, and of the B operand (04 R133). -/
def mmaShapeA (w : Nat) : Nat × Nat := if arAt w then (16, 32 * arKd w) else (32 * arKd w, 16)
def mmaShapeB (w : Nat) : Nat × Nat := if arBt w then (64, 32 * arKd w) else (32 * arKd w, 64)

/-- Bytes of a packed row. -/
def mmaRow (dt n : Nat) : Nat := ceilDiv (n * mmaBits dt) 8

/-- Row pitch of an operand: the stride field × 16 bytes, or the packed row (04 R133). -/
def mmaPitch (dt str n : Nat) : Nat := if str = 0 then mmaRow dt n else 16 * str

/-- Footprints of A and B (04 R133). -/
def mmaFootA (w : Nat) : Nat := (mmaShapeA w).1 * mmaPitch (arDt w) (arAstr w) (mmaShapeA w).2
def mmaFootB (w : Nat) : Nat := (mmaShapeB w).1 * mmaPitch (arDt w) (arBstr w) (mmaShapeB w).2

/-- TCLK that an MMA occupies the array at full duty (04 R132, R136). -/
def mmaOccupancy (w : Nat) : Nat :=
  let k := 32 * arKd w
  match arDt w with
  | 4 | 5 => 2 * k
  | 10 => k / 2
  | _ => k

/-- The exact sum of a group of products (04 R135). -/
def groupSum (ps : List FVal) : FVal := ps.foldl fadd (.fin false 0 0)

/-- AC + Σg, rounded once; an exact zero sum is +0 (04 R135). -/
def accRound (ac : Nat) (g : FVal) : Nat :=
  match fadd (fdecode fp32 ac) g with
  | .fin _ 0 _ => 0
  | v => frne fp32 v

/-- A group sum under its two E8M0 scales (04 R134, R135). -/
def mxScale (sa sb : Nat) (g : FVal) : FVal :=
  if sa = 255 ∨ sb = 255 then .nan
  else match g with
    | .fin n m e => .fin n m (e + sa + sb - 254)
    | v => v

end Sys2Proof.Machine
end

