-- ==== Sys2Proof/Config.lean ====
section
/-! DEFINITION. What the spec leaves open: values it calls undefined, fused or shipped and does not state. Each is a
constant with no body, so that a claim about it holds whatever it is. -/

namespace Sys2Proof.Config

/-- The bits of FEXPA for an ordinary input (05 R175 leaves them undefined): a function of the input and of the
state's counter of free values. -/
opaque fexpa (counter input : Nat) : BitVec 32

/-- The SHA-384 digest fused in image key slot k (15 R441; 16 R461: fused). -/
opaque fusedKey (k : Nat) : BitVec 384

/-- KEY_REVOKED: the fused revocation bits of the four key slots (16 R461). -/
opaque fusedRevoked : BitVec 4

/-- The fused SHA-384 digest of the debug public key (17 R479). -/
opaque fusedDebugKey : BitVec 384

/-- FUSED_SVN (15 R441). -/
opaque fusedSvn : BitVec 16

/-- VMIN_FUSE: the fused floor of VDD_CORE (14 R407). -/
opaque fusedVmin : BitVec 8

/-- The part's identity code for debug and for the TAP (17 R478; 18 R490). -/
opaque partId : BitVec 128

/-- The TAP's IDCODE (18 R490). -/
opaque idCode : BitVec 32

/-- The 32-byte NONCE of a debug challenge, from the block's random source (17 R478). -/
opaque nonce (counter : Nat) : BitVec 256

/-- The bytes of the library image with a number, as the ROM firmware of release 3.1.0 ships it (15 R445): the spec
lists the images and gives no bytes. -/
opaque libImage (number : Nat) : List (BitVec 8)

/-- The dictionary version and the SVN of the ROM firmware (15 R442, R452). -/
opaque romDictVersion : BitVec 16
opaque romSvn : BitVec 16

/-- Whether a page of a flash sector reads back differently from what is programmed into it after its n-th erase (15
R444): the flash is outside the block. -/
opaque flashFails (sector count : Nat) : Bool

/-- The activity term of Trivet's power estimate in 0.1 W (14 R419): the spec states what it is made of, not its
coefficients. -/
opaque powerActivity (counter : Nat) : BitVec 16

/-- The identity bytes of stack s, read over IEEE 1500 (11 R354). -/
opaque stackId (s : Nat) : List (BitVec 8)

/-- The qualified timing values of stack s at each bin, 3 × 20 values of 4 bytes (11 R341, R354). -/
opaque qualTiming (s : Nat) : List (BitVec 8)

/-- The qualified value of stack s that bounds RAA_MAX (11 R354): the identity bytes hold it, in no stated place. -/
opaque raaQual (s : Nat) : BitVec 16

/-- What discovery of the image flash reports (15 R439, FLASH_INFO). -/
opaque flashInfo : List (BitVec 8)

/-- A further open value of the spec, by kind and counter. -/
opaque freeValue (kind counter : Nat) : BitVec 64

end Sys2Proof.Config
end

