-- ==== Sys2Proof/Machine/Map.lean ====
section
/-! DEFINITION. Sparse maps by key in one canonical form (keys strictly rising, no entry equal to the default). -/

namespace Sys2Proof.Machine

/-- The entry under a key, if the map lists one. -/
def mapFind {α : Type} (m : Map α) (k : Nat) : Option α :=
  match m with
  | [] => none
  | (j, v) :: r => if j = k then some v else mapFind r k

/-- The entry under a key; a key that is not listed reads as the default. -/
def mapGet {α : Type} (d : α) (m : Map α) (k : Nat) : α := (mapFind m k).getD d

/-- Lists an entry under a key, in its place by rising key. -/
def mapPut {α : Type} (m : Map α) (k : Nat) (v : α) : Map α :=
  match m with
  | [] => [(k, v)]
  | (j, w) :: r => if k < j then (k, v) :: (j, w) :: r else if j = k then (k, v) :: r else (j, w) :: mapPut r k v

/-- Removes what is listed under a key. -/
def mapDel {α : Type} (m : Map α) (k : Nat) : Map α := m.filter (fun p => p.1 ≠ k)

/-- Writes an entry; writing the default removes it. -/
def mapSet {α : Type} [DecidableEq α] (d : α) (m : Map α) (k : Nat) (v : α) : Map α :=
  if v = d then mapDel m k else mapPut m k v

/-- Changes the entry under a key, where one is listed. -/
def mapMod {α : Type} (m : Map α) (k : Nat) (f : α → α) : Map α :=
  m.map (fun p => if p.1 = k then (p.1, f p.2) else p)

/-- The keys of a map rise strictly. -/
def mapSorted {α : Type} (m : Map α) : Bool :=
  match m with
  | [] => true
  | (k, _) :: r => (match r with | [] => true | (j, _) :: _ => decide (k < j)) && mapSorted r

/-- The canonical form: keys strictly rising and no listed entry equal to the default. -/
def mapWf {α : Type} [DecidableEq α] (d : α) (m : Map α) : Bool :=
  mapSorted m && m.all (fun p => p.2 ≠ d)

/-- The first listed pair that a test accepts, in the order of keys. -/
def mapFirst {α : Type} (m : Map α) (p : Nat → α → Bool) : Option (Nat × α) := m.find? (fun x => p x.1 x.2)

/-- The entries that a test accepts, in the order of keys. -/
def mapVals {α : Type} (m : Map α) : List α := m.map Prod.snd

/-- The lowest number, from `k` on, that is no key of the map (within `fuel` tries). -/
def mapFresh {α : Type} (m : Map α) (k fuel : Nat) : Nat :=
  match fuel with
  | 0 => k
  | n + 1 => if (mapFind m k).isNone then k else mapFresh m (k + 1) n

/-- Writes consecutive entries from a key on. -/
def mapPutList {α : Type} [DecidableEq α] (d : α) (m : Map α) (k : Nat) (l : List α) : Map α :=
  match l with
  | [] => m
  | v :: r => mapPutList d (mapSet d m k v) (k + 1) r

/-- Reads consecutive entries from a key on. -/
def mapGetList {α : Type} (d : α) (m : Map α) (k n : Nat) : List α := (List.range n).map (fun i => mapGet d m (k + i))

/-- Removes every entry whose key lies in a range. -/
def mapClear {α : Type} (m : Map α) (k n : Nat) : Map α := m.filter (fun p => p.1 < k ∨ k + n ≤ p.1)

end Sys2Proof.Machine
end

