-- ==== Sys2Proof/Machine/Objects.lean ====
section
/-! DEFINITION. The object dictionary as a table (16 R453, R460): every object of the block with its type, access
code, stated range, size and factory default, taken from the object tables of the chapters. -/

namespace Sys2Proof.Machine

/-- How many instances a per-instance object has (16 R453; 00 R4). -/
inductive Inst where
  | one
  | n (k : Nat)
  | perS
  | perK
  | perCh
  /-- the power domains, by the numbering of 14 R410 -/
  | perD
  /-- the counter units, by domain number (17 R467) -/
  | perU
  /-- system-area windows (17 R485) -/
  | perWin
  deriving DecidableEq, Repr

/-- Object types (15 R430). -/
inductive OTy where
  | u8 | u16 | u32 | u64 | i32 | i64 | f32 | bool | str | blob
  deriving DecidableEq, Repr

/-- Access codes; a selector object is RO but takes a selector (16 R455). -/
inductive OAcc where
  | ro | rw | rws | rwl | wo | sel
  deriving DecidableEq, Repr

/-- One object: base index, instances, sub-index, type, access, least and largest value, bytes of a BLOB (at the
flagship), factory default. -/
structure Obj where
  base : Nat
  inst : Inst
  sub : Nat
  ty : OTy
  acc : OAcc
  lo : Nat
  hi : Nat
  size : Nat
  dflt : Nat
  deriving DecidableEq, Repr

/-- Objects 0x1000 to 0x2F00. -/
def objTable0 : List Obj :=
  [⟨0x1000, .one, 0x01, .u16, .ro, 0, 65535, 0, 769⟩,
   ⟨0x1000, .one, 0x02, .u32, .ro, 0, 4294967295, 0, 0⟩,
   ⟨0x1000, .one, 0x03, .u32, .ro, 0, 4294967295, 0, 540704⟩,
   ⟨0x1000, .one, 0x04, .u16, .ro, 0, 65535, 0, 0⟩,
   ⟨0x1000, .one, 0x05, .u16, .ro, 0, 65535, 0, 0⟩,
   ⟨0x1000, .one, 0x06, .u16, .ro, 0, 65535, 0, 0⟩,
   ⟨0x1010, .one, 0x00, .u64, .ro, 0, 18446744073709551615, 0, 216454467543957772⟩,
   ⟨0x1010, .one, 0x01, .u8, .ro, 0, 255, 0, 1⟩,
   ⟨0x1010, .one, 0x02, .u8, .ro, 0, 255, 0, 12⟩,
   ⟨0x1012, .one, 0x01, .u16, .ro, 0, 65535, 0, 49⟩,
   ⟨0x1012, .one, 0x02, .u16, .ro, 0, 65535, 0, 1⟩,
   ⟨0x2000, .one, 0x01, .bool, .rwl, 0, 1, 0, 1⟩,
   ⟨0x2000, .one, 0x02, .bool, .wo, 0, 1, 0, 0⟩,
   ⟨0x2000, .one, 0x03, .blob, .ro, 0, 0, 32, 0⟩,
   ⟨0x2000, .one, 0x04, .u32, .ro, 0, 4294967295, 0, 0⟩,
   ⟨0x2000, .one, 0x05, .u32, .ro, 0, 4294967295, 0, 10000⟩,
   ⟨0x2D00, .one, 0x01, .blob, .ro, 0, 0, 6, 0⟩,
   ⟨0x2D00, .one, 0x02, .blob, .ro, 0, 0, 6, 0⟩,
   ⟨0x2D00, .one, 0x03, .u32, .rws, 1000, 1000000, 0, 10000⟩,
   ⟨0x2E00, .one, 0x01, .u8, .wo, 0, 255, 0, 0⟩,
   ⟨0x2E00, .one, 0x02, .u8, .wo, 0, 255, 0, 0⟩,
   ⟨0x2E00, .one, 0x03, .u8, .wo, 0, 255, 0, 0⟩,
   ⟨0x2E00, .one, 0x04, .u32, .rws, 10000, 60000000, 0, 1000000⟩,
   ⟨0x2E00, .one, 0x05, .blob, .ro, 0, 0, 64, 0⟩,
   ⟨0x2E00, .one, 0x06, .u64, .ro, 0, 18446744073709551615, 0, 0⟩,
   ⟨0x2F00, .one, 0x01, .u8, .ro, 0, 255, 0, 0⟩,
   ⟨0x2F00, .one, 0x02, .blob, .wo, 0, 0, 16777216, 0⟩,
   ⟨0x2F00, .one, 0x03, .bool, .wo, 0, 1, 0, 0⟩,
   ⟨0x2F00, .one, 0x04, .u8, .ro, 0, 255, 0, 0⟩,
   ⟨0x2F00, .one, 0x05, .bool, .wo, 0, 1, 0, 0⟩,
   ⟨0x2F00, .one, 0x06, .u8, .ro, 0, 255, 0, 0⟩,
   ⟨0x2F00, .one, 0x07, .u32, .rws, 1, 3600, 0, 10⟩,
   ⟨0x2F00, .one, 0x08, .bool, .wo, 0, 1, 0, 0⟩,
   ⟨0x2F00, .one, 0x09, .u32, .rws, 1, 86400, 0, 10⟩,
   ⟨0x2F00, .one, 0x0A, .u16, .ro, 0, 65535, 0, 0⟩,
   ⟨0x2F00, .one, 0x0B, .u32, .ro, 0, 4294967295, 0, 0⟩,
   ⟨0x2F00, .one, 0x0C, .blob, .ro, 0, 0, 32, 0⟩,
   ⟨0x2F00, .one, 0x0D, .blob, .ro, 0, 0, 2056, 0⟩,
   ⟨0x2F00, .one, 0x0E, .blob, .ro, 0, 0, 384, 0⟩,
   ⟨0x2F00, .one, 0x0F, .blob, .wo, 0, 0, 16, 0⟩]

/-- Objects 0x2F00 to 0x3F01. -/
def objTable1 : List Obj :=
  [⟨0x2F00, .one, 0x10, .blob, .ro, 0, 0, 544, 0⟩,
   ⟨0x3000, .perS, 0x01, .u8, .ro, 0, 255, 0, 0⟩,
   ⟨0x3000, .perS, 0x02, .blob, .ro, 0, 0, 32, 0⟩,
   ⟨0x3000, .perS, 0x03, .u8, .ro, 0, 255, 0, 0⟩,
   ⟨0x3000, .perS, 0x04, .blob, .ro, 0, 0, 240, 0⟩,
   ⟨0x3000, .perS, 0x05, .i32, .ro, 0, 4294967295, 0, 0⟩,
   ⟨0x3000, .perS, 0x06, .u64, .ro, 0, 18446744073709551615, 0, 0⟩,
   ⟨0x3000, .perS, 0x07, .u16, .rws, 16, 65535, 0, 64⟩,
   ⟨0x3000, .perS, 0x08, .u16, .rws, 0, 65535, 0, 16⟩,
   ⟨0x3000, .perS, 0x09, .u8, .ro, 0, 255, 0, 1⟩,
   ⟨0x3000, .perS, 0x0A, .u8, .ro, 0, 255, 0, 0⟩,
   ⟨0x3002, .perS, 0x01, .blob, .ro, 0, 0, 240, 0⟩,
   ⟨0x3003, .perS, 0x01, .blob, .ro, 0, 0, 4096, 0⟩,
   ⟨0x3004, .perS, 0x01, .blob, .ro, 0, 0, 64, 0⟩,
   ⟨0x3004, .perS, 0x02, .blob, .ro, 0, 0, 12, 0⟩,
   ⟨0x3004, .perS, 0x03, .u8, .ro, 0, 255, 0, 16⟩,
   ⟨0x3005, .perS, 0x01, .blob, .ro, 0, 0, 64, 0⟩,
   ⟨0x3005, .perS, 0x02, .u32, .ro, 0, 4294967295, 0, 0⟩,
   ⟨0x3005, .perS, 0x03, .u32, .ro, 0, 4294967295, 0, 0⟩,
   ⟨0x3F00, .one, 0x01, .u8, .rwl, 0, 3, 0, 0⟩,
   ⟨0x3F00, .one, 0x02, .u8, .rwl, 0, 1, 0, 0⟩,
   ⟨0x3F00, .one, 0x03, .u8, .ro, 0, 255, 0, 16⟩,
   ⟨0x3F00, .one, 0x04, .u32, .rws, 480, 240000, 0, 4800⟩,
   ⟨0x3F00, .one, 0x05, .u16, .rws, 0, 4800, 0, 96⟩,
   ⟨0x3F00, .one, 0x06, .u32, .rws, 240, 2400000, 0, 2400⟩,
   ⟨0x3F00, .one, 0x07, .u8, .rws, 70, 95, 0, 85⟩,
   ⟨0x3F00, .one, 0x08, .u8, .rws, 1, 10, 0, 3⟩,
   ⟨0x3F00, .one, 0x09, .u32, .rws, 100, 100000, 0, 1000⟩,
   ⟨0x3F00, .one, 0x0A, .bool, .rws, 0, 1, 0, 1⟩,
   ⟨0x3F00, .one, 0x0B, .u16, .ro, 0, 65535, 0, 9600⟩,
   ⟨0x3F00, .one, 0x0C, .u16, .ro, 0, 65535, 0, 512⟩,
   ⟨0x3F00, .one, 0x0D, .u16, .ro, 0, 65535, 0, 320⟩,
   ⟨0x3F00, .one, 0x0E, .u8, .rws, 16, 160, 0, 48⟩,
   ⟨0x3F01, .one, 0x01, .u16, .rwl, 0, 65535, 0, 36⟩,
   ⟨0x3F01, .one, 0x02, .u16, .rwl, 0, 65535, 0, 36⟩,
   ⟨0x3F01, .one, 0x03, .u16, .rwl, 0, 65535, 0, 79⟩,
   ⟨0x3F01, .one, 0x04, .u16, .rwl, 0, 65535, 0, 115⟩,
   ⟨0x3F01, .one, 0x05, .u16, .rwl, 0, 65535, 0, 48⟩,
   ⟨0x3F01, .one, 0x06, .u16, .rwl, 0, 65535, 0, 12⟩,
   ⟨0x3F01, .one, 0x07, .u16, .rwl, 0, 65535, 0, 2⟩]

/-- Objects 0x3F01 to 0x4000. -/
def objTable2 : List Obj :=
  [⟨0x3F01, .one, 0x08, .u16, .rwl, 0, 65535, 0, 4⟩,
   ⟨0x3F01, .one, 0x09, .u16, .rwl, 0, 65535, 0, 4⟩,
   ⟨0x3F01, .one, 0x0A, .u16, .rwl, 0, 65535, 0, 8⟩,
   ⟨0x3F01, .one, 0x0B, .u16, .rwl, 0, 65535, 0, 36⟩,
   ⟨0x3F01, .one, 0x0C, .u16, .rwl, 0, 65535, 0, 48⟩,
   ⟨0x3F01, .one, 0x0D, .u16, .rwl, 0, 65535, 0, 6⟩,
   ⟨0x3F01, .one, 0x0E, .u16, .rwl, 0, 65535, 0, 18⟩,
   ⟨0x3F01, .one, 0x0F, .u16, .rwl, 0, 65535, 0, 42⟩,
   ⟨0x3F01, .one, 0x10, .u16, .rwl, 0, 65535, 0, 480⟩,
   ⟨0x3F01, .one, 0x11, .u16, .rwl, 0, 65535, 0, 480⟩,
   ⟨0x3F01, .one, 0x12, .u16, .rwl, 0, 65535, 0, 24⟩,
   ⟨0x3F01, .one, 0x13, .u16, .rwl, 0, 65535, 0, 480⟩,
   ⟨0x3F01, .one, 0x14, .u32, .rwl, 0, 4294967295, 0, 9360⟩,
   ⟨0x3F10, .one, 0x01, .u16, .ro, 0, 65535, 0, 18496⟩,
   ⟨0x3F10, .one, 0x02, .u8, .rws, 1, 255, 0, 3⟩,
   ⟨0x3F10, .one, 0x03, .u32, .rws, 1, 1000000, 0, 64⟩,
   ⟨0x3F10, .one, 0x04, .u32, .rws, 16, 10000000, 0, 1024⟩,
   ⟨0x3F10, .one, 0x05, .u32, .rws, 60, 2592000, 0, 86400⟩,
   ⟨0x3F10, .one, 0x06, .u32, .rws, 3600, 2592000, 0, 86400⟩,
   ⟨0x3F10, .one, 0x07, .u16, .rws, 0, 4800, 0, 48⟩,
   ⟨0x3F10, .one, 0x08, .u32, .rws, 960, 38400, 0, 9600⟩,
   ⟨0x3F10, .one, 0x09, .bool, .rws, 0, 1, 0, 1⟩,
   ⟨0x3F10, .one, 0x0A, .bool, .rws, 0, 1, 0, 1⟩,
   ⟨0x3F10, .one, 0x0B, .blob, .wo, 0, 0, 4, 0⟩,
   ⟨0x3F10, .one, 0x0C, .bool, .rws, 0, 1, 0, 1⟩,
   ⟨0x4000, .perCh, 0x01, .u8, .ro, 0, 255, 0, 0⟩,
   ⟨0x4000, .perCh, 0x02, .u32, .ro, 0, 4294967295, 0, 0⟩,
   ⟨0x4000, .perCh, 0x03, .u64, .ro, 0, 18446744073709551615, 0, 0⟩,
   ⟨0x4000, .perCh, 0x04, .u32, .ro, 0, 4294967295, 0, 0⟩,
   ⟨0x4000, .perCh, 0x05, .blob, .ro, 0, 0, 76, 0⟩,
   ⟨0x4000, .perCh, 0x06, .blob, .ro, 0, 0, 304, 0⟩,
   ⟨0x4000, .perCh, 0x07, .blob, .ro, 0, 0, 304, 0⟩,
   ⟨0x4000, .perCh, 0x08, .u32, .ro, 0, 4294967295, 0, 16777215⟩,
   ⟨0x4000, .perCh, 0x09, .blob, .ro, 0, 0, 976, 0⟩,
   ⟨0x4000, .perCh, 0x0A, .u64, .rwl, 0, 18446744073709551615, 0, 216172790703718400⟩,
   ⟨0x4000, .perCh, 0x0B, .u64, .rwl, 0, 18446744073709551615, 0, 71002200314216448⟩,
   ⟨0x4000, .perCh, 0x0C, .u64, .rwl, 0, 18446744073709551615, 0, 0⟩,
   ⟨0x4000, .perCh, 0x0D, .blob, .ro, 0, 0, 3024, 0⟩,
   ⟨0x4000, .perCh, 0x0E, .bool, .wo, 0, 1, 0, 0⟩,
   ⟨0x4000, .perCh, 0x0F, .bool, .rwl, 0, 1, 0, 0⟩]

/-- Objects 0x4F00 to 0x5200. -/
def objTable3 : List Obj :=
  [⟨0x4F00, .one, 0x01, .u8, .ro, 0, 255, 0, 64⟩,
   ⟨0x4F00, .one, 0x02, .u8, .ro, 0, 255, 0, 3⟩,
   ⟨0x4F00, .one, 0x03, .u8, .ro, 0, 255, 0, 2⟩,
   ⟨0x4F00, .one, 0x04, .u16, .rws, 250, 600, 0, 350⟩,
   ⟨0x4F00, .one, 0x05, .u8, .rws, 2, 16, 0, 6⟩,
   ⟨0x4F00, .one, 0x06, .u32, .rws, 65536, 16777216, 0, 524288⟩,
   ⟨0x4F00, .one, 0x07, .u32, .rws, 4096, 16777216, 0, 65536⟩,
   ⟨0x4F00, .one, 0x08, .u32, .rws, 1000, 10000000, 0, 100000⟩,
   ⟨0x4F00, .one, 0x09, .u8, .rws, 6, 16, 0, 10⟩,
   ⟨0x4F00, .one, 0x0A, .u8, .ro, 0, 255, 0, 16⟩,
   ⟨0x4F00, .one, 0x0B, .u32, .rws, 10000, 100000000, 0, 1000000⟩,
   ⟨0x4F00, .one, 0x0C, .u8, .rws, 1, 255, 0, 3⟩,
   ⟨0x4F00, .one, 0x0D, .u16, .rws, 1, 65535, 0, 4⟩,
   ⟨0x4F00, .one, 0x0E, .u32, .rws, 0, 4294967295, 0, 604800⟩,
   ⟨0x4F00, .one, 0x0F, .u8, .rws, 1, 12, 0, 2⟩,
   ⟨0x4F00, .one, 0x10, .blob, .ro, 0, 0, 5, 0⟩,
   ⟨0x4F00, .one, 0x11, .u32, .rws, 4, 1000, 0, 8⟩,
   ⟨0x4F00, .one, 0x12, .u32, .rws, 960, 38400, 0, 19200⟩,
   ⟨0x4F00, .one, 0x13, .u16, .rws, 16, 65535, 0, 128⟩,
   ⟨0x4F00, .one, 0x14, .u32, .rws, 1024, 16777216, 0, 65536⟩,
   ⟨0x4F00, .one, 0x15, .bool, .rws, 0, 1, 0, 0⟩,
   ⟨0x5000, .one, 0x01, .u8, .ro, 0, 255, 0, 64⟩,
   ⟨0x5000, .one, 0x02, .u32, .rwl, 1200, 1200000, 0, 12000⟩,
   ⟨0x5000, .one, 0x03, .u64, .ro, 0, 18446744073709551615, 0, 0⟩,
   ⟨0x5000, .one, 0x04, .u8, .rwl, 0, 63, 0, 1⟩,
   ⟨0x5000, .one, 0x05, .u16, .rwl, 2, 2185, 0, 64⟩,
   ⟨0x5000, .one, 0x06, .u32, .ro, 0, 4294967295, 0, 16384⟩,
   ⟨0x5000, .one, 0x07, .u16, .ro, 0, 65535, 0, 150⟩,
   ⟨0x5100, .one, 0x01, .u32, .rws, 1000, 1000000, 0, 50000⟩,
   ⟨0x5100, .one, 0x02, .u32, .rws, 20, 10000, 0, 200⟩,
   ⟨0x5100, .one, 0x03, .u16, .ro, 0, 65535, 0, 3072⟩,
   ⟨0x5100, .one, 0x04, .u16, .ro, 0, 65535, 0, 1024⟩,
   ⟨0x5100, .one, 0x05, .u32, .ro, 0, 4294967295, 0, 524288⟩,
   ⟨0x5100, .one, 0x06, .u32, .rwl, 0, 1048575, 0, 0⟩,
   ⟨0x5100, .one, 0x07, .u32, .ro, 0, 4294967295, 0, 8388608⟩,
   ⟨0x5100, .one, 0x08, .blob, .rwl, 0, 0, 32768, 0⟩,
   ⟨0x5200, .n 64, 0x01, .u64, .rwl, 0, 18446744073709551615, 0, 18446744073709551615⟩,
   ⟨0x5200, .n 64, 0x02, .u8, .rwl, 0, 15, 0, 0⟩,
   ⟨0x5200, .n 64, 0x03, .u8, .rwl, 0, 3, 0, 0⟩,
   ⟨0x5200, .n 64, 0x04, .u8, .rwl, 0, 7, 0, 0⟩]

/-- Objects 0x5200 to 0x6800. -/
def objTable4 : List Obj :=
  [⟨0x5200, .n 64, 0x05, .u32, .rwl, 0, 409600, 0, 0⟩,
   ⟨0x5200, .n 64, 0x06, .u32, .rwl, 256, 4294967295, 0, 0⟩,
   ⟨0x5200, .n 64, 0x07, .u32, .rwl, 0, 409600, 0, 0⟩,
   ⟨0x5200, .n 64, 0x08, .u32, .rwl, 256, 4294967295, 0, 0⟩,
   ⟨0x5200, .n 64, 0x09, .u64, .rwl, 0, 18446744073709551615, 0, 0⟩,
   ⟨0x5200, .n 64, 0x0A, .u32, .rwl, 0, 4294967295, 0, 0⟩,
   ⟨0x5300, .one, 0x01, .u8, .rwl, 1, 255, 0, 16⟩,
   ⟨0x5300, .one, 0x02, .u8, .rwl, 1, 255, 0, 16⟩,
   ⟨0x5300, .one, 0x03, .u8, .rwl, 1, 255, 0, 16⟩,
   ⟨0x5300, .one, 0x04, .u8, .rwl, 1, 255, 0, 16⟩,
   ⟨0x5300, .one, 0x05, .u8, .rwl, 1, 255, 0, 16⟩,
   ⟨0x5300, .one, 0x06, .u8, .rwl, 1, 255, 0, 16⟩,
   ⟨0x5300, .one, 0x07, .u8, .rwl, 1, 255, 0, 16⟩,
   ⟨0x5300, .one, 0x08, .u8, .rwl, 1, 255, 0, 16⟩,
   ⟨0x5300, .one, 0x09, .u8, .rwl, 1, 255, 0, 16⟩,
   ⟨0x5300, .one, 0x0A, .u8, .rwl, 1, 255, 0, 16⟩,
   ⟨0x5300, .one, 0x0B, .u8, .rwl, 1, 255, 0, 16⟩,
   ⟨0x5300, .one, 0x0C, .u8, .rwl, 1, 255, 0, 16⟩,
   ⟨0x5400, .one, 0x01, .u16, .rwl, 1, 1023, 0, 64⟩,
   ⟨0x5400, .one, 0x02, .u16, .rwl, 1, 1023, 0, 64⟩,
   ⟨0x5400, .one, 0x03, .u16, .rwl, 1, 1023, 0, 64⟩,
   ⟨0x5400, .one, 0x04, .u16, .rwl, 1, 1023, 0, 64⟩,
   ⟨0x5400, .one, 0x05, .u16, .rwl, 1, 1023, 0, 64⟩,
   ⟨0x6000, .one, 0x01, .u8, .ro, 0, 255, 0, 64⟩,
   ⟨0x6000, .one, 0x02, .u16, .ro, 0, 65535, 0, 2048⟩,
   ⟨0x6000, .one, 0x03, .u8, .ro, 0, 255, 0, 8⟩,
   ⟨0x6000, .one, 0x04, .u8, .ro, 0, 255, 0, 8⟩,
   ⟨0x6000, .one, 0x05, .u32, .rws, 240, 1200000, 0, 2400⟩,
   ⟨0x6000, .one, 0x06, .u8, .ro, 0, 255, 0, 49⟩,
   ⟨0x6000, .one, 0x07, .u8, .ro, 0, 255, 0, 16⟩,
   ⟨0x6000, .one, 0x08, .u16, .ro, 0, 65535, 0, 4096⟩,
   ⟨0x6100, .perK, 0x01, .blob, .ro, 0, 0, 32, 0⟩,
   ⟨0x6100, .perK, 0x02, .blob, .ro, 0, 0, 256, 0⟩,
   ⟨0x6100, .perK, 0x03, .u32, .ro, 0, 4294967295, 0, 0⟩,
   ⟨0x6100, .perK, 0x04, .u32, .ro, 0, 4294967295, 0, 0⟩,
   ⟨0x6100, .perK, 0x05, .u8, .ro, 0, 255, 0, 16⟩,
   ⟨0x6800, .one, 0x01, .u32, .ro, 0, 4294967295, 0, 4096⟩,
   ⟨0x6800, .one, 0x02, .u32, .ro, 0, 4294967295, 0, 4194304⟩,
   ⟨0x6800, .one, 0x03, .u8, .rwl, 0, 1, 0, 0⟩,
   ⟨0x6800, .one, 0x04, .u8, .rws, 0, 255, 0, 32⟩]

/-- Objects 0x6800 to 0x7000. -/
def objTable5 : List Obj :=
  [⟨0x6800, .one, 0x05, .u32, .rws, 50, 100000, 0, 2000⟩,
   ⟨0x6800, .one, 0x06, .u8, .ro, 0, 255, 0, 16⟩,
   ⟨0x6800, .one, 0x07, .u8, .ro, 0, 255, 0, 4⟩,
   ⟨0x6810, .n 64, 0x01, .u8, .rwl, 0, 63, 0, 0⟩,
   ⟨0x6810, .n 64, 0x02, .u16, .rwl, 0, 65535, 0, 0⟩,
   ⟨0x6810, .n 64, 0x03, .u16, .rwl, 0, 256, 0, 0⟩,
   ⟨0x6810, .n 64, 0x04, .u32, .rwl, 0, 16777215, 0, 0⟩,
   ⟨0x6810, .n 64, 0x05, .u64, .rwl, 0, 18446744073709551615, 0, 0⟩,
   ⟨0x6810, .n 64, 0x06, .u8, .ro, 0, 255, 0, 0⟩,
   ⟨0x6810, .n 64, 0x07, .u8, .ro, 0, 255, 0, 0⟩,
   ⟨0x6880, .one, 0x01, .blob, .wo, 0, 0, 8, 0⟩,
   ⟨0x6900, .one, 0x01, .u32, .ro, 0, 4294967295, 0, 16384⟩,
   ⟨0x6900, .one, 0x02, .u32, .rws, 24000, 12000000, 0, 120000⟩,
   ⟨0x6900, .one, 0x03, .u32, .rws, 2400, 1200000, 0, 12000⟩,
   ⟨0x6900, .one, 0x04, .u8, .rws, 1, 64, 0, 8⟩,
   ⟨0x6900, .one, 0x05, .u32, .rws, 50, 100000, 0, 2000⟩,
   ⟨0x6900, .one, 0x06, .u8, .ro, 0, 255, 0, 32⟩,
   ⟨0x6900, .one, 0x07, .u16, .ro, 0, 65535, 0, 1024⟩,
   ⟨0x6910, .n 16, 0x01, .u8, .rwl, 0, 63, 0, 0⟩,
   ⟨0x6910, .n 16, 0x02, .u16, .rwl, 0, 65535, 0, 0⟩,
   ⟨0x6910, .n 16, 0x03, .u16, .rwl, 0, 256, 0, 0⟩,
   ⟨0x6910, .n 16, 0x04, .u8, .ro, 0, 255, 0, 0⟩,
   ⟨0x6920, .n 16, 0x01, .u32, .rwl, 0, 16777215, 0, 0⟩,
   ⟨0x6920, .n 16, 0x02, .u64, .rwl, 0, 18446744073709551615, 0, 0⟩,
   ⟨0x6920, .n 16, 0x03, .u8, .rwl, 1, 4, 0, 0⟩,
   ⟨0x6A00, .n 256, 0x01, .blob, .rw, 0, 0, 64, 0⟩,
   ⟨0x6B00, .one, 0x01, .blob, .wo, 0, 0, 16, 0⟩,
   ⟨0x6B00, .one, 0x02, .blob, .wo, 0, 0, 16, 0⟩,
   ⟨0x6B00, .one, 0x03, .blob, .wo, 0, 0, 32, 0⟩,
   ⟨0x6B00, .one, 0x04, .blob, .wo, 0, 0, 16, 0⟩,
   ⟨0x6B00, .one, 0x05, .u8, .ro, 0, 255, 0, 0⟩,
   ⟨0x6B00, .one, 0x06, .blob, .wo, 0, 0, 16, 0⟩,
   ⟨0x6B00, .one, 0x07, .blob, .sel, 0, 0, 64, 0⟩,
   ⟨0x6B00, .one, 0x08, .blob, .ro, 0, 0, 16, 0⟩,
   ⟨0x7000, .one, 0x01, .u16, .ro, 0, 65535, 0, 4096⟩,
   ⟨0x7000, .one, 0x02, .u32, .ro, 0, 4294967295, 0, 116508⟩,
   ⟨0x7000, .one, 0x03, .u32, .ro, 0, 4294967295, 0, 2560⟩,
   ⟨0x7000, .one, 0x04, .u32, .ro, 0, 4294967295, 0, 256⟩,
   ⟨0x7000, .one, 0x05, .u32, .ro, 0, 4294967295, 0, 268435456⟩,
   ⟨0x7000, .one, 0x06, .u32, .rws, 100, 1000000, 0, 10000⟩]

/-- Objects 0x7000 to 0x9000. -/
def objTable6 : List Obj :=
  [⟨0x7000, .one, 0x07, .u8, .rwl, 32, 33, 0, 32⟩,
   ⟨0x7000, .one, 0x08, .u32, .rws, 1, 1000, 0, 10⟩,
   ⟨0x7000, .one, 0x09, .u32, .rws, 5, 10000, 0, 20⟩,
   ⟨0x7000, .one, 0x0A, .u32, .rws, 100, 1000000, 0, 10000⟩,
   ⟨0x7000, .one, 0x0B, .u32, .ro, 0, 4294967295, 0, 65536⟩,
   ⟨0x7000, .one, 0x0C, .u16, .ro, 0, 65535, 0, 1024⟩,
   ⟨0x7400, .n 1024, 0x01, .u8, .rwl, 0, 63, 0, 0⟩,
   ⟨0x7400, .n 1024, 0x02, .u32, .rwl, 0, 16777215, 0, 0⟩,
   ⟨0x7400, .n 1024, 0x03, .blob, .rwl, 0, 0, 32768, 0⟩,
   ⟨0x7400, .n 1024, 0x04, .u16, .ro, 0, 65535, 0, 0⟩,
   ⟨0x8000, .one, 0x01, .u32, .rws, 10, 1000000, 0, 100⟩,
   ⟨0x8000, .one, 0x02, .u32, .ro, 0, 4294967295, 0, 0⟩,
   ⟨0x8000, .one, 0x03, .u16, .ro, 0, 65535, 0, 1024⟩,
   ⟨0x8000, .one, 0x04, .u16, .ro, 0, 65535, 0, 1024⟩,
   ⟨0x8000, .one, 0x05, .blob, .wo, 0, 0, 8, 0⟩,
   ⟨0x8010, .n 8, 0x01, .blob, .ro, 0, 0, 4288, 0⟩,
   ⟨0x8100, .one, 0x01, .blob, .rwl, 0, 0, 32768, 0⟩,
   ⟨0x8200, .n 1024, 0x01, .u8, .rwl, 0, 63, 0, 0⟩,
   ⟨0x8200, .n 1024, 0x02, .u16, .rwl, 0, 65535, 0, 0⟩,
   ⟨0x8200, .n 1024, 0x03, .u16, .rwl, 0, 2048, 0, 0⟩,
   ⟨0x8200, .n 1024, 0x04, .u8, .rwl, 0, 47, 0, 0⟩,
   ⟨0x8200, .n 1024, 0x05, .u16, .rwl, 0, 2048, 0, 0⟩,
   ⟨0x8200, .n 1024, 0x06, .u32, .rwl, 0, 1048575, 0, 0⟩,
   ⟨0x8200, .n 1024, 0x07, .u16, .rwl, 0, 1024, 0, 0⟩,
   ⟨0x8200, .n 1024, 0x08, .u32, .ro, 0, 4294967295, 0, 0⟩,
   ⟨0x8200, .n 1024, 0x09, .u16, .ro, 0, 65535, 0, 0⟩,
   ⟨0x8200, .n 1024, 0x0A, .u16, .ro, 0, 65535, 0, 0⟩,
   ⟨0x8F00, .one, 0x01, .blob, .ro, 0, 0, 48, 0⟩,
   ⟨0x8F00, .one, 0x02, .blob, .wo, 0, 0, 200, 0⟩,
   ⟨0x8F00, .one, 0x03, .u8, .ro, 0, 255, 0, 0⟩,
   ⟨0x8F00, .one, 0x04, .u32, .ro, 0, 4294967295, 0, 0⟩,
   ⟨0x8F00, .one, 0x05, .bool, .wo, 0, 1, 0, 0⟩,
   ⟨0x8F00, .one, 0x06, .blob, .ro, 0, 0, 48, 0⟩,
   ⟨0x8F00, .one, 0x07, .blob, .wo, 0, 0, 8, 0⟩,
   ⟨0x8F00, .one, 0x08, .blob, .wo, 0, 0, 4, 0⟩,
   ⟨0x8F00, .one, 0x0A, .blob, .wo, 0, 0, 12, 0⟩,
   ⟨0x8F00, .one, 0x0B, .blob, .ro, 0, 0, 3072, 0⟩,
   ⟨0x8F00, .one, 0x0C, .blob, .wo, 0, 0, 4, 0⟩,
   ⟨0x8F10, .perWin, 0x01, .blob, .ro, 0, 0, 1073741824, 0⟩,
   ⟨0x9000, .one, 0x01, .u32, .rws, 100, 100000, 0, 100⟩]

/-- Objects 0x9000 to 0xA000. -/
def objTable7 : List Obj :=
  [⟨0x9000, .one, 0x02, .blob, .ro, 0, 0, 5570560, 0⟩,
   ⟨0x9000, .one, 0x03, .u64, .ro, 0, 18446744073709551615, 0, 0⟩,
   ⟨0x9000, .one, 0x04, .u32, .ro, 0, 4294967295, 0, 5440⟩,
   ⟨0x9100, .n 64, 0x01, .u32, .rws, 0, 16777215, 0, 0⟩,
   ⟨0x9100, .n 64, 0x02, .u8, .ro, 0, 255, 0, 0⟩,
   ⟨0x9200, .perK, 0x01, .u64, .rws, 0, 18446744073709551615, 0, 0⟩,
   ⟨0x9200, .perK, 0x02, .blob, .ro, 0, 0, 8192, 0⟩,
   ⟨0x9200, .perK, 0x03, .u16, .ro, 0, 65535, 0, 0⟩,
   ⟨0x9200, .perK, 0x04, .bool, .wo, 0, 1, 0, 0⟩,
   ⟨0x9400, .perU, 0x01, .u64, .rws, 0, 18446744073709551615, 0, 0⟩,
   ⟨0x9400, .perU, 0x02, .u64, .rws, 0, 18446744073709551615, 0, 0⟩,
   ⟨0x9400, .perU, 0x03, .u64, .rws, 0, 18446744073709551615, 0, 0⟩,
   ⟨0x9400, .perU, 0x04, .u64, .rws, 0, 18446744073709551615, 0, 0⟩,
   ⟨0x9400, .perU, 0x05, .u64, .rws, 0, 18446744073709551615, 0, 0⟩,
   ⟨0x9400, .perU, 0x06, .u64, .rws, 0, 18446744073709551615, 0, 0⟩,
   ⟨0x9400, .perU, 0x07, .u64, .rws, 0, 18446744073709551615, 0, 0⟩,
   ⟨0x9400, .perU, 0x08, .u64, .rws, 0, 18446744073709551615, 0, 0⟩,
   ⟨0x9400, .perU, 0x09, .blob, .ro, 0, 0, 64, 0⟩,
   ⟨0x9400, .perU, 0x0A, .bool, .wo, 0, 1, 0, 0⟩,
   ⟨0x9800, .perU, 0x01, .blob, .ro, 0, 0, 32768, 0⟩,
   ⟨0x9A00, .n 64, 0x01, .blob, .ro, 0, 0, 1024, 0⟩,
   ⟨0x9B00, .one, 0x01, .blob, .ro, 0, 0, 1024, 0⟩,
   ⟨0x9B00, .one, 0x02, .blob, .ro, 0, 0, 6336, 0⟩,
   ⟨0xA000, .one, 0x01, .u32, .ro, 0, 4294967295, 0, 0⟩,
   ⟨0xA000, .one, 0x02, .u32, .rws, 100, 950, 0, 950⟩,
   ⟨0xA000, .one, 0x03, .u32, .rws, 100, 1250, 0, 1250⟩,
   ⟨0xA000, .one, 0x04, .u32, .rws, 0, 400000, 0, 400000⟩,
   ⟨0xA000, .one, 0x05, .u32, .rws, 24, 1200000, 0, 120⟩,
   ⟨0xA000, .one, 0x06, .u32, .rws, 1, 1000000, 0, 2⟩,
   ⟨0xA000, .one, 0x07, .u32, .rws, 10, 10000000, 0, 50⟩,
   ⟨0xA000, .one, 0x08, .u32, .rws, 100, 100000000, 0, 2000⟩,
   ⟨0xA000, .one, 0x09, .u32, .rws, 10, 100000, 0, 100⟩,
   ⟨0xA000, .one, 0x0A, .u8, .rws, 1, 16, 0, 2⟩,
   ⟨0xA000, .one, 0x0B, .u8, .ro, 0, 255, 0, 0⟩,
   ⟨0xA000, .one, 0x0C, .u8, .rws, 4, 20, 0, 8⟩,
   ⟨0xA000, .one, 0x0D, .u8, .ro, 0, 255, 0, 0⟩,
   ⟨0xA000, .one, 0x0E, .bool, .wo, 0, 1, 0, 0⟩,
   ⟨0xA000, .one, 0x0F, .u32, .ro, 0, 4294967295, 0, 400000⟩,
   ⟨0xA000, .one, 0x10, .u8, .ro, 0, 255, 0, 0⟩,
   ⟨0xA000, .one, 0x11, .u8, .ro, 0, 255, 0, 0⟩]

/-- Objects 0xA000 to 0xC400. -/
def objTable8 : List Obj :=
  [⟨0xA000, .one, 0x12, .bool, .ro, 0, 1, 0, 0⟩,
   ⟨0xA100, .perD, 0x01, .u8, .ro, 0, 255, 0, 0⟩,
   ⟨0xA100, .perD, 0x02, .u8, .rws, 0, 4, 0, 0⟩,
   ⟨0xA100, .perD, 0x03, .u16, .ro, 0, 65535, 0, 0⟩,
   ⟨0xA100, .perD, 0x04, .bool, .wo, 0, 1, 0, 0⟩,
   ⟨0xA100, .perD, 0x05, .i32, .ro, 0, 4294967295, 0, 0⟩,
   ⟨0xA200, .one, 0x01, .u8, .rws, 85, 105, 0, 100⟩,
   ⟨0xA200, .one, 0x02, .u8, .rws, 90, 115, 0, 110⟩,
   ⟨0xA200, .one, 0x03, .u8, .rws, 90, 105, 0, 100⟩,
   ⟨0xA200, .one, 0x04, .u8, .rws, 95, 115, 0, 110⟩,
   ⟨0xA200, .one, 0x05, .i32, .ro, 0, 4294967295, 0, 0⟩,
   ⟨0xA300, .one, 0x01, .u64, .rws, 0, 18446744073709551615, 0, 0⟩,
   ⟨0xA300, .one, 0x02, .u64, .rws, 0, 18446744073709551615, 0, 0⟩,
   ⟨0xA300, .one, 0x03, .u32, .rws, 3600, 604800, 0, 86400⟩,
   ⟨0xA300, .one, 0x04, .u32, .rws, 0, 4294967295, 0, 61320⟩,
   ⟨0xB000, .one, 0x01, .blob, .ro, 0, 0, 131072, 0⟩,
   ⟨0xB000, .one, 0x02, .u64, .ro, 0, 18446744073709551615, 0, 0⟩,
   ⟨0xB000, .one, 0x03, .u64, .ro, 0, 18446744073709551615, 0, 0⟩,
   ⟨0xB000, .one, 0x04, .u64, .rw, 0, 18446744073709551615, 0, 0⟩,
   ⟨0xB000, .one, 0x05, .u8, .rws, 0, 5, 0, 2⟩,
   ⟨0xB000, .one, 0x06, .u32, .rws, 0, 1048575, 0, 0⟩,
   ⟨0xB000, .one, 0x07, .u32, .ro, 0, 4294967295, 0, 0⟩,
   ⟨0xC000, .one, 0x01, .u8, .ro, 0, 255, 0, 64⟩,
   ⟨0xC000, .one, 0x02, .u32, .ro, 0, 4294967295, 0, 131072⟩,
   ⟨0xC000, .one, 0x03, .u32, .ro, 0, 4294967295, 0, 0⟩,
   ⟨0xC000, .one, 0x05, .blob, .rwl, 0, 0, 1048576, 0⟩,
   ⟨0xC000, .one, 0x06, .blob, .rws, 0, 0, 64, 0⟩,
   ⟨0xC010, .one, 0x01, .blob, .ro, 0, 0, 48, 0⟩,
   ⟨0xC010, .one, 0x02, .blob, .ro, 0, 0, 48, 0⟩,
   ⟨0xC010, .one, 0x03, .blob, .ro, 0, 0, 48, 0⟩,
   ⟨0xC010, .one, 0x04, .blob, .ro, 0, 0, 48, 0⟩,
   ⟨0xC010, .one, 0x05, .u8, .ro, 0, 255, 0, 0⟩,
   ⟨0xC100, .n 64, 0x01, .u64, .rwl, 0, 18446744073709551615, 0, 0⟩,
   ⟨0xC100, .n 64, 0x02, .u16, .rwl, 0, 16384, 0, 16384⟩,
   ⟨0xC100, .n 64, 0x03, .u16, .ro, 0, 65535, 0, 0⟩,
   ⟨0xC100, .n 64, 0x04, .u32, .ro, 0, 4294967295, 0, 0⟩,
   ⟨0xC400, .one, 0x01, .blob, .wo, 0, 0, 16480, 0⟩,
   ⟨0xC400, .one, 0x02, .blob, .ro, 0, 0, 16, 0⟩,
   ⟨0xC400, .one, 0x03, .blob, .wo, 0, 0, 4, 0⟩,
   ⟨0xC400, .one, 0x04, .blob, .wo, 0, 0, 4, 0⟩]

/-- Objects 0xC400 to 0xD200. -/
def objTable9 : List Obj :=
  [⟨0xC400, .one, 0x05, .blob, .sel, 0, 0, 64, 0⟩,
   ⟨0xC400, .one, 0x06, .u32, .ro, 0, 4294967295, 0, 243456⟩,
   ⟨0xC400, .one, 0x07, .u32, .ro, 0, 4294967295, 0, 243456⟩,
   ⟨0xD000, .one, 0x01, .u64, .ro, 0, 18446744073709551615, 0, 0⟩,
   ⟨0xD000, .one, 0x02, .u8, .ro, 0, 255, 0, 0⟩,
   ⟨0xD000, .one, 0x03, .i32, .ro, 0, 4294967295, 0, 0⟩,
   ⟨0xD000, .one, 0x04, .i32, .ro, 0, 4294967295, 0, 0⟩,
   ⟨0xD000, .one, 0x05, .u32, .rws, 4, 960, 0, 24⟩,
   ⟨0xD000, .one, 0x06, .u32, .rws, 960, 9600000, 0, 9600⟩,
   ⟨0xD000, .one, 0x07, .u32, .rws, 150000, 1200000000, 0, 1200000⟩,
   ⟨0xD000, .one, 0x08, .u32, .rws, 1000, 10000000, 0, 100000⟩,
   ⟨0xD000, .one, 0x09, .u32, .rws, 0, 4294967295, 0, 28633⟩,
   ⟨0xD000, .one, 0x0A, .u32, .rws, 0, 4294967295, 0, 2863⟩,
   ⟨0xD000, .one, 0x0B, .bool, .wo, 0, 1, 0, 0⟩,
   ⟨0xD000, .one, 0x0C, .u32, .rws, 2400, 120000000, 0, 24000⟩,
   ⟨0xD000, .one, 0x0D, .u8, .ro, 0, 255, 0, 16⟩,
   ⟨0xD000, .one, 0x0E, .u16, .ro, 0, 65535, 0, 2048⟩,
   ⟨0xD000, .one, 0x0F, .blob, .wo, 0, 0, 8, 0⟩,
   ⟨0xD000, .one, 0x10, .u16, .ro, 0, 65535, 0, 4096⟩,
   ⟨0xD010, .n 16, 0x01, .u8, .ro, 0, 255, 0, 0⟩,
   ⟨0xD010, .n 16, 0x02, .u8, .ro, 0, 255, 0, 0⟩,
   ⟨0xD010, .n 16, 0x03, .u64, .ro, 0, 18446744073709551615, 0, 0⟩,
   ⟨0xD010, .n 16, 0x04, .u64, .ro, 0, 18446744073709551615, 0, 0⟩,
   ⟨0xD010, .n 16, 0x05, .u32, .ro, 0, 4294967295, 0, 0⟩,
   ⟨0xD010, .n 16, 0x06, .u8, .ro, 0, 255, 0, 0⟩,
   ⟨0xD100, .one, 0x01, .blob, .rwl, 0, 0, 1200, 0⟩,
   ⟨0xD100, .one, 0x02, .blob, .rwl, 0, 0, 1200, 0⟩,
   ⟨0xD100, .one, 0x03, .blob, .rwl, 0, 0, 1200, 0⟩,
   ⟨0xD100, .one, 0x04, .u64, .ro, 0, 18446744073709551615, 0, 0⟩,
   ⟨0xD200, .one, 0x01, .blob, .sel, 0, 0, 4, 0⟩]

/-- Every object of the dictionary (16 R460). -/
def objTable : List Obj :=
  objTable0 ++ objTable1 ++ objTable2 ++ objTable3 ++ objTable4 ++ objTable5 ++ objTable6 ++ objTable7 ++ objTable8 ++ objTable9

/-- Bytes of a value by its type (15 R430). -/
def OTy.bytes (t : OTy) : Nat :=
  match t with
  | .u8 | .bool => 1
  | .u16 => 2
  | .u32 | .i32 | .f32 => 4
  | .u64 | .i64 => 8
  | .str | .blob => 0

/-- The type code of a type (15 R430). -/
def OTy.code (t : OTy) : Nat :=
  match t with
  | .u8 => 1 | .u16 => 2 | .u32 => 3 | .u64 => 4 | .i32 => 5 | .i64 => 6 | .f32 => 7 | .bool => 8 | .str => 9
  | .blob => 10

end Sys2Proof.Machine
end

