-- ==== Sys2Proof/Machine/TypesClass.lean ====
section
/-! DEFINITION. The part of the state that 10 gives: ingress meters and class budgets. Every field's default is its
value at reset. -/

namespace Sys2Proof.Machine

/-- The two buckets of one meter in units of 2^−16 byte (10 R305), as they stood on a PCLK edge; they refill with the
PCLK edges that have passed since. -/
structure Meter where
  tc : Nat
  tp : Nat
  /-- the PCLK edge, as a count since the first alignment edge -/
  stamp : Nat
  deriving DecidableEq, Repr

/-- What a request competes with: its class, with the ARB_PRIO and STACK_LEVEL that R300 fixed for it, its colour, and the
PRIO of a transfer's descriptor (10 R300, R306, R315; 04 R127). The default is background work: priority 7 and level 3
of no class (10 R299). -/
structure Standing where
  cls : Option Nat := none
  prio : Nat := 7
  level : Nat := 3
  yellow : Bool := false
  /-- the least stack level that the request may take -/
  floor : Nat := 0
  /-- its egress queue (10 R300); 15 for work of no class -/
  eq : Nat := 15
  deriving DecidableEq, Repr

/-- Traffic classes (10 R303 to R313). -/
structure Cls where
  /-- meters by 64 × port + class; an unlisted meter has both buckets full -/
  meters : Map Meter := []
  /-- stack bytes of this budget window by class -/
  bytes : Map Nat := []
  /-- CLASS_OVER: 1 for a class that is OVER -/
  overs : Map Nat := []
  /-- the fabric time of the last window edge, if there was one -/
  edge : Option Nat := none
  deriving DecidableEq, Repr

end Sys2Proof.Machine
end

