-- ==== Sys2Proof/Machine/TypesFabric.lean ====
section
/-! DEFINITION. The parts of the state that 01, 02 and 03 give: the build, time, stacked memory, regions, frames and
the done table, ports, the Whisk's slots, multicast. Every field's default is its value at reset. -/

namespace Sys2Proof.Machine

/-- The build configuration S/K/A (00 R3). Fixed for a part; 27 are valid. -/
structure Build where
  /-- stacks and Stockpots: 2, 4 or 8 -/
  S : Nat := 8
  /-- Skillets: 16, 32 or 64 -/
  K : Nat := 64
  /-- attach ports: 8, 16 or 32 -/
  A : Nat := 32
  deriving DecidableEq, Repr

/-- Time (01 R15, R16, R19). -/
structure Clk where
  /-- RCLK positions since the first alignment edge; a rising edge of MCLK, PCLK, TCLK, CCLK falls on each
  multiple of 4, 6, 8, 16 -/
  now : Nat := 0
  /-- the fabric time counter, 64 bits (09 R265) -/
  ftc : Nat := 0
  /-- the PLL is locked (01 R19) -/
  locked : Bool := true
  deriving DecidableEq, Repr

/-- One failing granule that a read of an operation met and that was not poisoned before (02 R56; 12 R359). -/
structure ReadFail where
  req : Nat
  seq : Nat
  /-- granule number, BPA ÷ 64 -/
  gran : Nat
  deriving DecidableEq, Repr

/-- A read whose decoder gave other bytes than the memory holds, with the operation that it served (12 R357, R359). -/
structure Misread where
  req : Nat
  seq : Nat
  gran : Nat
  data : List Byte
  deriving DecidableEq, Repr

/-- The stacked memory by block physical address, and the granules that are poisoned (01 R21; 12 R359). -/
structure Mem where
  /-- bytes by BPA; an unlisted BPA holds 0 (18 R495: the memory is zero after a cold start) -/
  bytes : Map Byte := []
  /-- poisoned granules by granule number; 1: poisoned -/
  poison : Map Nat := []
  /-- granules whose read as UNCORRECTABLE poisoned them, with the operation that read them -/
  fails : List ReadFail := []
  /-- reads of operations that stand which the decoder miscorrected -/
  misreads : List Misread := []
  deriving DecidableEq, Repr

/-- A region descriptor (01 R25). -/
structure Desc where
  /-- 0 free, 1 active, 2 draining, 3 zeroing -/
  state : Nat := 0
  kind : Nat := 0
  owner : Nat := 0
  mirror : Bool := false
  rdonly : Bool := false
  digest : Bool := false
  classMask : Nat := 2 ^ 64 - 1
  /-- BPA [38:21] of the first byte -/
  base : Nat := 0
  mirrorBase : Nat := 0
  /-- length in units of 2 MiB -/
  length : Nat := 0
  handle : Nat := 0
  createFtc : Nat := 0
  /-- admitted operations not yet completed -/
  outstanding : Nat := 0
  /-- weights-digest root, 128 bits -/
  root : Nat := 0
  tag : Nat := 0
  deriving DecidableEq, Repr

/-- A hash check of an image that RDONLY has started (04 R148), or of a schedule (09 R272). -/
structure HashRec where
  desc : Nat
  ofs : Nat
  /-- 1: the stored hash matches -/
  good : Bool
  deriving DecidableEq, Repr

/-- The regions (01 R25, R29) and what is kept beside their descriptors. -/
structure Rgn where
  /-- descriptors by DESC number; an unlisted one is free -/
  desc : Map Desc := []
  /-- the images checked under 04 R148, by RDONLY region -/
  hash : List HashRec := []
  /-- the schedule bodies checked under 09 R272 -/
  sched : List HashRec := []
  /-- shipped images in CODE regions: DESC, offset and image number (15 R445) -/
  libs : List (Nat × Nat × Nat) := []
  /-- dirty digest leaves, by DESC × 2^20 + leaf (09 R294) -/
  dirty : Map Nat := []
  /-- the edge on which a region became draining, by DESC (01 R29) -/
  drainAt : Map Nat := []
  deriving DecidableEq, Repr

/-- One cell held in a port buffer (02 R38). -/
structure Parked where
  port : Nat
  cell : List Byte
  /-- place in the order of arrivals -/
  ord : Nat := 0
  deriving DecidableEq, Repr

/-- The cells held under one key (requester, sequence number, attempt) (02 R38, R64). -/
structure Reasm where
  /-- cells by INDEX -/
  cells : Map Parked := []
  /-- arrival of the first cell, in RCLK -/
  first : Nat := 0
  /-- the header cell has been admitted -/
  admitted : Bool := false
  /-- admission order, where admitted -/
  admOrder : Nat := 0
  deriving DecidableEq, Repr

/-- A sequence summary (02 R58): slot states 0 FREE, 1 OPEN, 2 DONE, 3 REFUSED. -/
structure Summary where
  high : Nat
  slots : List Nat
  deriving DecidableEq, Repr

/-- One done-table entry (02 R66). -/
structure DoneEntry where
  seq : Nat := 0
  state : Nat := 0
  attempt : Nat := 0
  code : Nat := 0
  opcode : Nat := 0
  held : Bool := false
  aux : Nat := 0
  hold : Nat := 0
  deriving DecidableEq, Repr

/-- One delivery frame of an MCAST to a member that has not left the block (03 R107, R108). -/
structure Deliv where
  group : Nat
  step : Nat
  part : Nat
  /-- member index, endpoint -/
  member : Nat
  ep : Nat
  /-- offset of the first data byte and the data bytes in the frame -/
  ofs : Nat
  len : Nat
  /-- the MCAST's source handle -/
  handle : Nat
  /-- operation key of the MCAST -/
  op : Nat
  /-- its class and that class's egress queue -/
  cls : Nat
  eq : Nat
  /-- the multicast deadline, in fabric time, and whether a schedule context held the step (03 R110) -/
  deadline : Nat
  sched : Bool
  /-- the step's context was arming: the schedule gives the deadline once it is known -/
  arming : Bool := false
  /-- the edge on which it became ready, became owed, or was last due for a retry, in RCLK -/
  at_ : Nat
  owed : Bool := false
  /-- its mark in the egress queue of a port where it stands in one, the edge from which OWE_WAIT counts there, and whether
  the port is ALT_PORT -/
  staged : Option Nat := none
  since : Nat := 0
  alt : Bool := false
  deriving DecidableEq, Repr

/-- A response, multicast delivery or notification on its way to an endpoint (02 R53, R54; 15 R451). -/
structure Resp where
  /-- destination endpoint -/
  req : Nat
  seq : Nat
  att : Nat := 0
  /-- OPCODE as sent, bit 7 set -/
  op : Nat
  code : Nat
  orig : Nat := 0
  notHeld : Bool := false
  aux : Nat := 0
  epoch : Nat := 0
  source : Nat := 0
  digest : Option (List Byte) := none
  payload : List Byte := []
  /-- class tag, and the egress queue and lateness target of the class at admission (10 R300) -/
  cls : Nat
  eq : Nat := 0
  target : Nat := 0
  /-- KIND of the header cell: 3 response, 5 delivery or notification, 1 an originated request -/
  kind : Nat := 3
  /-- the block FTC when the header was built -/
  ftc : Nat := 0
  /-- the 64-byte header of an originated request (02 R51) -/
  hdr : List Byte := []
  /-- the delivery that a multicast frame carries (03 R107) -/
  deliv : Option Deliv := none
  /-- where the response is recorded: REQ_TABLE entry and slot -/
  home : Option (Nat × Nat) := none
  /-- arrival of the last cell of the deciding copy, and the waits to subtract, in RCLK (10 R316) -/
  born : Nat := 0
  sub : Nat := 0
  deriving DecidableEq, Repr

/-- A done-table write that has been issued and not yet accepted, with the response that waits for it (02 R67). -/
structure PendDone where
  r : Nat
  slot : Nat
  entry : DoneEntry
  /-- the class that the entry's 64 bytes are charged to (10 R312) -/
  cls : Nat
  /-- the response, and the port it leaves on -/
  resp : Option (Resp × Nat)
  deriving DecidableEq, Repr

/-- A response in the hold ring (02 R69). -/
structure HoldRec where
  r : Nat
  slot : Nat
  first : Nat
  cells : Nat
  resp : Resp
  /-- the edge from which the hold time counts -/
  left : Option Nat
  deriving DecidableEq, Repr

/-- What a final response carries beyond its code and AUX. -/
structure Final where
  code : Nat
  aux : Nat := 0
  payload : List Byte := []
  /-- the PROGRAM digest of 09 R291, 128 bits -/
  prog : Nat := 0
  /-- the WEIGHTS digest, where the operation fixes it itself; none: the ROOT of the region -/
  weights : Option Nat := none
  /-- the tile with SETPOS 0 of the set that ran it -/
  tile : Nat := 0
  /-- the region offset of its first byte, where OFFSET does not give it (an append's first key) -/
  first : Option Nat := none
  /-- the unit whose domain was reset, with its domain, for RETRY_EPOCH (02 R504) -/
  reset : Option (Nat × Nat) := none
  deriving DecidableEq, Repr

/-- An admitted operation (02 R59 step 10). -/
structure OpRec where
  req : Nat
  seq : Nat
  att : Nat
  /-- the port on which the deciding header cell arrived -/
  port : Nat
  /-- the REQ_TABLE entry -/
  r : Nat
  /-- the 64 header bytes -/
  hdr : List Byte
  yellow : Bool
  /-- place in the order of admissions -/
  ord : Nat
  /-- admission edge, in RCLK and in fabric time -/
  adm : Nat
  admFtc : Nat
  /-- arrival of the last cell so far, and the waits to subtract from the service time (10 R316) -/
  last : Nat
  sub : Nat := 0
  /-- lower sequence numbers that were OPEN at admission of an ORDERED frame (02 R45) -/
  waits : List Nat
  /-- the region descriptor that OUTSTANDING counts it on -/
  region : Option Nat
  /-- EGRESS_Q, STACK_LEVEL, ARB_PRIO and TARGET of the class at admission (10 R300) -/
  eq : Nat := 0
  level : Nat := 0
  prio : Nat := 0
  target : Nat := 0
  /-- the quadrant that serves its first element, or its slot's q0, for an operation of the Whisk (02 R504) -/
  quad : Nat := 0
  /-- granules that Stockpots have accepted for it and that its class has been charged for (10 R312) -/
  moved : Nat := 0
  /-- 0: admitted; 1: executing, its outcome to come from a later event -/
  phase : Nat := 0
  /-- its outcome, where its digest waits for writes that were admitted before it to be rehashed (09 R294) -/
  wait : Option Final := none
  deriving DecidableEq, Repr

/-- One frame staged in an egress queue (02 R37; 10 R308). -/
structure EgFrame where
  resp : Resp
  /-- cells already sent -/
  sent : Nat := 0
  /-- the edge on which it was staged, and the port's time without credit until then -/
  at_ : Nat
  dry0 : Nat := 0
  /-- its first cell entered an empty W queue, which has not woken yet (10 R310) -/
  wake : Bool := false
  deriving DecidableEq, Repr

/-- One attach port (02 R37; 10 R308 to R310). -/
structure Port where
  /-- the edge from which the block returns one ingress credit per PCLK up to 3,072 (02 R37); none: not yet ready -/
  start : Option Nat := none
  /-- cells held in the port's buffer -/
  held : Nat := 0
  /-- egress credits that the block holds -/
  txCredit : Nat := 0
  /-- att_up as sampled -/
  host : Bool := false
  /-- att_up and att_rdy both high (18 R488) -/
  up : Bool := false
  /-- RCLK positions spent with no egress credit held (10 R316) -/
  dry : Nat := 0
  /-- the 16 egress queues, each in order -/
  queues : List (List EgFrame) := List.replicate 16 []
  /-- V of the port (10 R310) -/
  vtime : Nat := 0
  /-- the tags T of the twelve W queues (10 R310) -/
  tags : List Nat := List.replicate 12 0
  /-- the last cell that left on att_tx, and the PCLK edge on which it left, as a count -/
  tx : List Byte := []
  txAt : Option Nat := none
  deriving DecidableEq, Repr

/-- What an originated frame serves (02 R51). -/
inductive Purpose where
  /-- a windowed or plain partial of a feeder slot: slot key and the number of the close that sent it (03 R103) -/
  | partialSum (slot close : Nat)
  /-- a forwarded query: the home query's operation key and the spill record (06 R200) -/
  | spill (query rec : Nat)
  /-- a mirror copy of log pages: the mirror transfer (07 R219) -/
  | mirror (id : Nat)
  /-- a vote for a step (07 R232) -/
  | vote (part step : Nat)
  /-- a BARRIER frame to the home (08 R257) -/
  | barrier (b gen : Nat)
  /-- a remote signal (08 R249) -/
  | signal (entry amount : Nat)
  deriving DecidableEq, Repr

/-- A request frame that the block has originated (02 R51, R52). -/
structure OrigFrame where
  ep : Nat
  seq : Nat
  att : Nat := 0
  part : Nat
  cls : Nat
  op : Nat
  /-- header bytes 12 to 59, from LENGTH to OPERANDS, the FTC as of the first sending -/
  body : List Byte
  payload : List Byte
  purpose : Purpose
  /-- the egress queue where the frame or tile that caused it fixed one (10 R300); none: that of its class -/
  eq : Option Nat := none
  /-- abandoned at ATTEMPT 15: only its number still awaits a final response (02 R62) -/
  dead : Bool := false
  deriving DecidableEq, Repr

/-- Frames, sequence summaries, the done table and the hold ring (02). -/
structure Frm where
  ports : Map Port := []
  /-- cells held, by key req × 2^36 + seq × 16 + attempt -/
  reasm : Map Reasm := []
  /-- decided keys whose later cells are dropped, with the edge of the decision (02 R61) -/
  late : Map Nat := []
  /-- admitted operations, by req × 2^32 + seq -/
  ops : Map OpRec := []
  /-- sequence summaries by REQ_TABLE entry -/
  summ : Map Summary := []
  /-- the done table, entry 64 × r + slot -/
  done : Map DoneEntry := []
  /-- done-table writes issued and not yet accepted, in order -/
  pend : List PendDone := []
  /-- the hold ring, in order of staging -/
  holds : List HoldRec := []
  /-- the next free position of the ring -/
  holdPos : Nat := 0
  /-- arrivals and admissions counted, for their order (02 R64) -/
  order : Nat := 0
  /-- the next number for each destination (02 R52) -/
  next : Map Nat := []
  /-- originated frames without a final answer, by endpoint × 2^32 + seq -/
  orig : Map OrigFrame := []
  /-- originated frames that wait for the window of 64 (02 R52), oldest first -/
  waiting : List OrigFrame := []
  /-- frames that wait because no port is up (10 R301), oldest first -/
  noPort : List Resp := []
  /-- delivery and notification numbers per destination (02 R53; 15 R451) -/
  delivery : Map Nat := []
  notif : Map Nat := []
  deriving DecidableEq, Repr

/-- One accumulator (03 R76): ACC in two's complement, SPECIAL 0 FINITE, 1 PLUS_INF, 2 MINUS_INF, 3 NAN. -/
structure Acc where
  acc : Int := 0
  sp : Nat := 0
  deriving DecidableEq, Repr

/-- What a declaration carries beyond a RED_OPEN (03 R86; 09 R275). -/
structure Decl where
  ctx : Nat
  openFtc : Nat
  closeFtc : Nat
  feeder : Bool
  ownerEp : Nat := 0
  ownerHandle : Nat := 0
  ownerOfs : Nat := 0
  ownerOd : Nat := 0
  deriving DecidableEq, Repr

/-- A reduction slot (03 R83). -/
structure Slot where
  part : Nat
  slot : Nat
  /-- 1 OPEN, 2 CLOSING, 3 CLOSED, 4 BROKEN; a FREE slot has no descriptor -/
  state : Nat
  q0 : Nat
  n : Nat
  /-- OUT_DTYPE and RND -/
  od : Nat
  rnd : Nat
  step : Nat
  expect : Nat
  handle : Nat
  ofs : Nat
  length : Nat
  seed : Nat
  addends : Nat := 0
  cAdm : Nat := 0
  cApp : Nat := 0
  acc : Map Acc := []
  /-- compact blocks placed in slot SRAM at opening, per quadrant (03 R92) -/
  sram : List Nat := [0, 0, 0, 0]
  /-- compact blocks placed in the spill area -/
  spill : Nat := 0
  /-- wide blocks, by block number: 0 to 3 in the SRAM part of that quadrant, 4 in the escape reserve -/
  wide : Map Nat := []
  decl : Option Decl := none
  /-- admitted ACCUMs without an outcome, by operation key -/
  openOps : List Nat := []
  /-- RED_CLOSEs that wait, by operation key -/
  closers : List Nat := []
  /-- the edge from which SLOT_WAIT counts (03 R91) -/
  pendAt : Option Nat := none
  /-- partial frames to the owner without a DONE -/
  partials : Nat := 0
  /-- the number of the close that sent them: answers to the frames of an earlier one are not its own -/
  close : Nat := 0
  /-- the edge on which it became CLOSED or BROKEN -/
  ended : Nat := 0
  deriving DecidableEq, Repr

/-- Escape room reserved for an admitted ACCUM: bytes per SRAM part and in the escape reserve (03 R93). -/
structure Room where
  sram : List Nat
  esc : Nat
  /-- the place reserved for each block that is still compact -/
  blocks : Map Nat
  deriving DecidableEq, Repr

/-- The Whisk (03 R83 to R95). -/
structure Wsk where
  /-- slots by partition × 2^32 + SLOT -/
  slots : Map Slot := []
  /-- the rotation of q0 (03 R83) -/
  q0 : Nat := 0
  /-- closes of feeder slots so far -/
  closes : Nat := 0
  /-- bytes in use of the four SRAM parts, of the spill area's compact part and of the escape reserve -/
  sram : List Nat := [0, 0, 0, 0]
  spill : Nat := 0
  esc : Nat := 0
  /-- escape room by operation key -/
  rooms : Map Room := []
  /-- declared slots whose descriptor and placement an armed context has reserved, by context × 4,096 + entry (09 R275) -/
  resv : Map Slot := []
  deriving DecidableEq, Repr

/-- An MCAST that is being delivered: kept until it is answered (03 R111). -/
structure McOp where
  members : Nat
  /-- members with an owed frame that was dropped -/
  short : List Nat := []
  deriving DecidableEq, Repr

/-- Multicast (03 R105 to R111). -/
structure Mc where
  /-- MCASTs by operation key -/
  ops : Map McOp := []
  /-- deliveries that have not left the block, in order; the owed list is those with owed set -/
  list : List Deliv := []
  /-- the next mark of a staged delivery -/
  marks : Nat := 0
  /-- MCASTs not answered DONE whose retention copy has finished, by operation key (03 R111) -/
  copied : List Nat := []
  deriving DecidableEq, Repr

end Sys2Proof.Machine
end

