-- ==== Sys2Proof/Machine/TypesLadel.lean ====
section
/-! DEFINITION. The parts of the state that 15 and 16 give: the dictionary with its locks and selectors, Ladel's cores
and images, the event log. Every field's default is its value at reset. -/

namespace Sys2Proof.Machine

/-- One staged write (15 R436). -/
structure Staged where
  idx : Nat
  sub : Nat
  ofs : Nat
  data : List Byte
  deriving DecidableEq, Repr

/-- A lock of a domain (15 R435). -/
structure Lock where
  /-- the owner: none is the management port -/
  owner : Option Nat
  /-- the edge of the grant, in RCLK -/
  at_ : Nat
  staged : List Staged := []
  deriving DecidableEq, Repr

/-- The dictionary RAM (15 R437; 16). Keys are 256 × index + sub-index. -/
structure Dict where
  /-- values in force that differ from the factory default -/
  vals : Map Nat := []
  /-- BLOB bytes in force that are not 0, by key × 2^24 + offset -/
  blob : Map Byte := []
  /-- dirty RWS objects (15 R438) -/
  dirty : Map Nat := []
  /-- locks by domain digit -/
  locks : Map Lock := []
  /-- LOCK_EDGE (15 R436) -/
  lockEdge : Nat := 0
  /-- selectors by key × 2^21 + reader; the reader 2^20 is the management port (16 R455) -/
  sel : Map Nat := []
  /-- REGION_RESULT by reader (16 R465) -/
  result : Map (List Byte) := []
  deriving DecidableEq, Repr

/-- A Ladel core (15 R427): its state 0 running, 1 standby, 2 loading, 3 failed, and its duty, 5 standby. -/
structure LCore where
  state : Nat
  duty : Nat
  /-- it runs the programmed (new) image -/
  newImage : Bool := false
  deriving DecidableEq, Repr

/-- Ladel: cores, boot, flash and images (15). -/
structure Ldl where
  cores : List LCore := [⟨0, 0, false⟩, ⟨0, 1, false⟩, ⟨0, 2, false⟩, ⟨0, 3, false⟩, ⟨0, 4, false⟩, ⟨1, 5, false⟩]
  /-- boot stage (15 R432) -/
  stage : Nat := 6
  /-- 0 A, 1 B, 2 ROM -/
  slot : Nat := 2
  cause : Nat := 0
  /-- BOOT_SELECT of this start, and whether a HOLD word holds stage 0x02 -/
  bootSel : Nat := 0
  held : Bool := false
  /-- the edge on which the boot stage was entered, in RCLK -/
  stageAt : Nat := 0
  /-- the flash by address; an unlisted byte holds 0xFF -/
  flash : Map Byte := []
  /-- an image flash is fitted -/
  fitted : Bool := true
  /-- the staging area (15 R446) -/
  staging : Map Byte := []
  imgState : Nat := 0
  updState : Nat := 0
  /-- handover step under way, and the edge on which probation began -/
  updStep : Nat := 0
  probAt : Nat := 0
  deriving DecidableEq, Repr

/-- Persistence (15 R438, R443, R444). -/
structure Persist where
  pseq : Nat := 0
  /-- erase counts by sector number as in WEAR -/
  wear : Map Nat := []
  /-- sectors marked worn -/
  worn : Map Nat := []
  /-- the edge of the last image commit, if there was one -/
  last : Option Nat := none
  /-- a commit waits for the gap -/
  queued : Bool := false
  /-- persistence has stopped -/
  stopped : Bool := false
  deriving DecidableEq, Repr

/-- One record of the event log (15 R449); FLAGS [0] is `inband`, FLAGS [1] `gap`. -/
structure EvRec where
  ftc : Nat
  src : Nat
  subseq : Nat
  sev : Nat
  code : Nat
  inband : Bool := false
  gap : Bool := false
  pos : Nat
  data : List Byte
  deriving DecidableEq, Repr

/-- The event log (15 R449 to R451). -/
structure Evt where
  /-- records held, oldest first, 4,096 at most -/
  ring : List EvRec := []
  newest : Nat := 0
  ack : Nat := 0
  overrun : Nat := 0
  /-- the highest position already notified in band -/
  notified : Nat := 0
  /-- records of this stamp and source so far (09 R295): the stamp, and counts by source -/
  stamp : Nat := 0
  counts : Map Nat := []
  deriving DecidableEq, Repr

end Sys2Proof.Machine
end

