-- ==== Sys2Proof/Machine/TypesObserve.lean ====
section
/-! DEFINITION. The parts of the state that 17 gives: programmable counters, snapshots, sampling buffers, the debug
unlock, breakpoints and freeze requests. Every field's default is its value at reset. -/

namespace Sys2Proof.Machine

/-- A debug challenge held by a reader (17 R478). -/
structure Challenge where
  bytes : List Byte
  /-- the edge on which it was read, in RCLK -/
  at_ : Nat
  deriving DecidableEq, Repr

/-- A debug unlock (17 R478, R479). -/
structure Unlock where
  /-- the reader that owns it; 2^20 is the management port -/
  owner : Nat
  /-- 1 OBSERVE, 2 CONTROL -/
  level : Nat
  /-- a partition, or 64 for the whole block -/
  scope : Nat
  /-- the edge on which it ends, in RCLK -/
  ends : Nat
  deriving DecidableEq, Repr

/-- One breakpoint entry (17 R483). -/
structure Brk where
  on : Bool := false
  mask : Nat := 0
  idx : Nat := 0
  deriving DecidableEq, Repr

/-- Observability and debug (17). -/
structure Obs where
  /-- programmable counters by 8 × domain + k -/
  ctrs : Map Nat := []
  /-- number of the next capture, domains reset since the last one -/
  snapSeq : Nat := 0
  resetMask : Nat := 0
  /-- snapshot records by SNAP_SEQ mod 1,024 -/
  snaps : Map (List Byte) := []
  /-- the FTC of the last capture, if there was one -/
  snapFtc : Option Nat := none
  /-- sampling records by Skillet, oldest first, and the countdown by Skillet -/
  samples : Map (List (List Byte)) := []
  countdown : Map Nat := []
  /-- challenges by reader, and the edge until which reads of DEBUG_CHALLENGE are refused -/
  chal : Map Challenge := []
  refuse : Nat := 0
  unlock : Option Unlock := none
  /-- breakpoints by 4 × Skillet + entry -/
  brks : Map Brk := []
  deriving DecidableEq, Repr

/-- One arbiter instance (10 R321 to R327): the rotating pointer, wait counters, the holder of the grant. -/
structure Arb where
  ptr : Nat := 0
  /-- wait counters by input -/
  waits : Map Nat := []
  /-- the input that holds the grant -/
  holder : Option Nat := none
  /-- freeze requests: bit 0 Ladel, bit 1 Trivet, bit 2 the debugger, bit 3 the Stockpot that answers an alert (13
  R397) -/
  freeze : Nat := 0
  deriving DecidableEq, Repr

end Sys2Proof.Machine
end

