-- ==== Sys2Proof/Machine/TypesParam.lean ====
section
/-! DEFINITION. The parts of the state that 06 and 07 give beyond what lies in region memory: attention sets and
queries, update sets and OPT_STEP operations, mirroring, commits and restores. Every field's default is its value at
reset. -/

namespace Sys2Proof.Machine

/-- A forward of a query to a spill block (06 R200). -/
structure Spill where
  /-- the spill record that it follows -/
  srec : List Byte
  /-- the record returned and written to the inbox, where it has come -/
  data : Option (List Byte) := none
  /-- the edge of the first send, in RCLK, once it has been -/
  sent : Option Nat := none
  deriving DecidableEq, Repr

/-- An admitted query (06 R187, R189, R200). -/
structure Query where
  /-- dispatcher-assigned number -/
  number : Nat
  set : Nat
  /-- its forwards have been sent -/
  forwarded : Bool := false
  /-- the MODE written at its start: 0 canonical, 1 arrival order (06 R189, R197) -/
  mode : Nat := 0
  spills : List Spill := []
  /-- run-ahead pieces read for it, in page order: the fabric time of the read, and 1 where it was valid (06 R202) -/
  pieces : List (Nat × Nat) := []
  deriving DecidableEq, Repr

/-- An attention set (06 R188, R205): 0 unused, 1 loading, 2 ready, 3 busy, 4 faulted. -/
structure AttSet where
  state : Nat := 0
  /-- queries that wait, by operation key -/
  queue : List Nat := []
  running : Option Nat := none
  deriving DecidableEq, Repr

/-- Attention (06). -/
structure Att where
  sets : Map AttSet := []
  /-- queries by operation key -/
  queries : Map Query := []
  /-- the next query number -/
  next : Nat := 0
  /-- page slots reserved at step 9 for admitted appends, by operation key: DESC (06 R183) -/
  reserved : Map Nat := []
  /-- released spill contexts whose slots have been returned, by DESC × 65,536 + CTX (06 R186) -/
  cleaned : Map Nat := []
  deriving DecidableEq, Repr

/-- An update set (07 R225). -/
structure UpdSet where
  state : Nat := 0
  queue : List Nat := []
  running : Option Nat := none
  deriving DecidableEq, Repr

/-- An OPT_STEP that executes: its update set (07 R224, R225). -/
structure OptOp where
  set : Nat
  /-- the edge on which it entered the set's queue, in RCLK (08 R255) -/
  at_ : Nat := 0
  deriving DecidableEq, Repr

/-- An update that an OPT_STEP of a step has made or is to make (07 R223, R224): who sent it, and its pages. -/
structure Claim where
  part : Nat
  step : Nat
  desc : Nat
  req : Nat
  seq : Nat
  first : Nat
  npg : Nat
  /-- it is counted in NUPDATE -/
  opened : Bool := false
  /-- its update record in the log entry -/
  urec : Option Nat := none
  /-- answered DONE -/
  done : Bool := false
  deriving DecidableEq, Repr

/-- A run of WRITE frames to a buddy (07 R219, R221). -/
structure Mirror where
  part : Nat
  step : Nat
  /-- the DESC of the LOG region, the entry's number, and the pages covered; none is the entry's header -/
  desc : Nat
  entry : Nat
  pages : Option (Nat × Nat)
  /-- frames without a DONE -/
  left : Nat
  /-- the edge of the close, in RCLK -/
  since : Nat
  failed : Bool := false
  deriving DecidableEq, Repr

/-- The parameter service (07). -/
structure Par where
  sets : Map UpdSet := []
  /-- OPT_STEPs by operation key -/
  ops : Map OptOp := []
  claims : List Claim := []
  mirrors : Map Mirror := []
  /-- mirrored pages, by (DESC × 16 + entry) × 16,384 + page -/
  mirrored : Map Nat := []
  /-- log entries whose sealed header is mirrored, by DESC × 16 + entry: STEP + 1 -/
  sealed : Map Nat := []
  /-- PARAM regions of which a cast write has been made for the pending step -/
  casts : Map Nat := []
  /-- RESTORE_STATE -/
  restore : Nat := 0
  /-- LAST_DECISION: STEP, ACTION, k -/
  lastStep : Nat := 0
  lastAction : Nat := 0
  lastK : Nat := 0
  /-- steps committed on this block, by partition × 2^64 + STEP -/
  committed : Map Nat := []
  /-- steps aborted on this block and not launched again, by partition × 2^64 + STEP: 1, or at the home that aborted the step 2
  and its commit barrier (07 R223, R233) -/
  aborted : Map Nat := []
  deriving DecidableEq, Repr

end Sys2Proof.Machine
end

