-- ==== Sys2Proof/Machine/TypesPins.lean ====
section
/-! DEFINITION. The parts of the state that 18 gives beside the units: reset pins, rails, the TAP, and the record of the
last start. Every field's default is its value at reset. -/

namespace Sys2Proof.Machine

/-- Which start is under way (18 R494, R498): a cold start, or a warm start by pin or by object. -/
inductive StartKind where
  | cold | warmPin | warmObject
  deriving DecidableEq, Repr

/-- Pins and starts (18 R487 to R503). -/
structure Pins where
  /-- rst_cold_n -/
  coldN : Bool := true
  /-- pwr_sram_en, pwr_core_en, pwr_phy_en, and the goods (18 R501) -/
  en : List Bool := [true, true, true]
  good : List Bool := [true, true, true]
  /-- the edge on which the last enable rose, and those on which the goods rose, in RCLK -/
  enAt : Nat := 0
  goodAt : List Nat := [0, 0, 0]
  /-- the start that waits: for lock, for rails, or for pwr_main_fail to fall -/
  start : Option StartKind := none
  /-- admission has opened since the last cold start, and warm requests merged into a start under way (18 R497, R500) -/
  reached : Bool := true
  merged : Nat := 0
  /-- both keep inputs have failed since the last cold start (14 R408) -/
  keepLost : Bool := false
  /-- QUAL_BINS as the stacks report them at the cold start under way (18 R494) -/
  bins : List Nat := []
  /-- LAST_START: kind, FTC of admission, durations in µs (18 R503) -/
  lastKind : Nat := 0
  lastFtc : Nat := 0
  lastUs : List Nat := [0, 0, 0, 0]
  /-- TAP instruction in force: 0 BYPASS, 1 IDCODE, 2 SAMPLE/PRELOAD, 3 EXTEST, 4 STACK_1500 (18 R490) -/
  tap : Nat := 1
  /-- the TAP's selected data register as captured, and the preloaded boundary word -/
  tapReg : Nat := 0
  boundary : Nat := 0
  /-- the stack whose IEEE 1500 port the TAP is linked to -/
  tapStack : Option Nat := none
  deriving DecidableEq, Repr

end Sys2Proof.Machine
end

