-- ==== Sys2Proof/Machine/TypesPot.lean ====
section
/-! DEFINITION. The parts of the state that 11, 12 and 13 give: stacks, their pools, banks and repair maps, and the PHY's
channels. Every field's default is its value at reset. Times here are MCLK edges, as a count since the first alignment
edge, unless a field says otherwise. -/

namespace Sys2Proof.Machine

/-- A granule request in a pool or a staging FIFO (11 R335, R336). -/
structure PotReq where
  id : Nat
  write : Bool
  /-- the granule's number, BPA ÷ 64 -/
  gran : Nat
  data : List Byte
  /-- bit i: byte i is written -/
  mask : Nat := 2 ^ 64 - 1
  /-- the effective stack level on the edge of acceptance (11 R335) -/
  level : Nat
  /-- what it serves, and what it competes with: more than one for the write-back of a merge entry (12 R363) -/
  src : Origin := .background
  who : List Standing := []
  /-- the unit that waits for it, by its source number (01 R33), and the tag it goes by there -/
  unit : Nat := 0
  tag : Nat
  /-- edge of entry -/
  at_ : Nat
  aged : Bool := false
  /-- physical place after rank map and remap -/
  sid : Nat
  bank : Nat
  row : Nat
  col : Nat
  /-- edge of its column command, once issued -/
  issued : Option Nat := none
  /-- a merge read (12 R362) -/
  merge : Bool := false
  /-- the Stockpot's own copy of a request that has been accepted: the write-back of a merge entry, or the second place of
  a write beside a stand-in (12 R363; 13 R399) -/
  copy : Bool := false
  /-- it writes the poison word (12 R360) -/
  poison : Bool := false
  /-- a write that a later read of its row has put behind itself: its retirement ends in-order mode (11 R344) -/
  cause : Bool := false
  /-- it enters only if no write to its granule has entered since the read that asked for it (12 R360, R367, R373), and one
  has: for a read, a write has entered since it did -/
  cond : Bool := false
  passed : Bool := false
  /-- the remap entry whose row the read copies (12 R369) -/
  remap : Option Nat := none
  deriving DecidableEq, Repr

/-- One bank of a pseudo-channel (11 R342 to R349). -/
structure Bank where
  row : Option Nat := none
  act : Option Nat := none
  pre : Option Nat := none
  /-- the last column command -/
  col : Option Nat := none
  /-- end of the last write's data -/
  wrEnd : Option Nat := none
  /-- no command before this edge: a refresh, an RFM or a power-down exit is under way -/
  ready : Nat := 0
  /-- the rolling activate count RAA -/
  raa : Nat := 0
  /-- in-order mode (11 R344) -/
  inOrder : Bool := false
  /-- column commands in a row while an older miss waits (11 R339, R340) -/
  hits : Nat := 0
  /-- the last column command read COL 15 at level 1 to 3 (11 R350) -/
  spec : Bool := false
  /-- the row that a speculative activate is to open (11 R350) -/
  next : Option Nat := none
  deriving DecidableEq, Repr

/-- A rank, one SID of one pseudo-channel (11 R352). -/
structure Rank where
  down : Bool := false
  /-- since when it has had no request and no command but refresh -/
  idle : Nat := 0
  deriving DecidableEq, Repr

/-- A merge-buffer entry (12 R362). -/
structure MergeEnt where
  gran : Nat
  data : List Byte
  /-- bit i: byte i is written -/
  mask : Nat
  last : Nat
  /-- what the writes merged into it compete with -/
  who : List Standing
  /-- the merge read has returned -/
  back : Bool := false
  /-- what the writes merged into it serve, and the reads that wait for the merge read (12 R364, R365) -/
  srcs : List Origin := []
  waits : List PotReq := []
  deriving DecidableEq, Repr

/-- A remap entry (12 R369): STATE 0 free, 1 copying, 2 active, 3 awaiting PPR; the target in units of 1 KiB. -/
structure Remap where
  state : Nat := 0
  sid : Nat := 0
  bank : Nat := 0
  row : Nat := 0
  target : Nat := 0
  /-- the columns copied to the target -/
  copied : List Nat := []
  deriving DecidableEq, Repr

/-- A command that a bus has issued (13 R397): 1 precharge, 2 activate, 3 column, 4 refresh, 5 RFM, with the request that a column
command served. -/
structure PastCmd where
  at_ : Nat
  kind : Nat
  bank : Nat
  row : Nat := 0
  write : Bool := false
  id : Option Nat := none
  deriving DecidableEq, Repr

/-- One physical pseudo-channel. -/
structure Pc where
  pool : List PotReq := []
  fifo : List PotReq := []
  /-- requests of the Stockpot's own that wait for a pool entry: scrubs, poison words, copies -/
  own : List PotReq := []
  nextId : Nat := 0
  /-- banks by 16 × SID + bank -/
  banks : Map Bank := []
  ranks : Map Rank := []
  /-- refresh debt, the start of the interval that runs, and its length, both in 1/128 MCLK (11 R347, R348) -/
  debt : Nat := 0
  tick : Nat := 0
  step : Nat := 18720
  /-- the bank that is refreshed next -/
  refNext : Nat := 0
  /-- the rotating pointer of policy 0 -/
  ptr : Nat := 0
  /-- policy 1 serves writes first until 16 fewer wait -/
  writesFirst : Bool := false
  /-- the last four activates, newest first: edge and bank index -/
  acts : List (Nat × Nat) := []
  /-- edges of MCLK before which the bus takes no command (13 R397), or none for a request of the pool (13 R400) -/
  halt : Nat := 0
  shut : Nat := 0
  /-- the edges from now on that commands have taken on the command bus (11 R337) -/
  bus : List Nat := []
  /-- the commands of the last 64 MCLK, newest first; an alert that is being answered, since when; the commands that its answer has
  yet to reissue (13 R397) -/
  hist : List PastCmd := []
  alert : Option Nat := none
  replay : List PastCmd := []
  /-- the last column command, and the last that read -/
  lastCol : Option Nat := none
  lastRd : Option Nat := none
  /-- ERASED_LANE -/
  erased : Option Nat := none
  merges : List MergeEnt := []
  /-- what the last write drove on the data lanes: its 72 symbols, scrambled (13 R380) -/
  driven : List Byte := []
  /-- the next granule of the patrol -/
  patrol : Nat := 0
  remaps : Map Remap := []
  /-- the row tracker: corrected granules of this window by row (bank index × 16,384 + row), the most recently counted row
  first, at most 64; uncorrectable granules by row, and corrected ones by SID -/
  rowCe : List (Nat × Nat) := []
  rowUe : Map Nat := []
  rankCe : Map Nat := []
  /-- corrected symbols by lane in the current second, and that second -/
  laneCe : Map Nat := []
  laneSec : Nat := 0
  deriving DecidableEq, Repr

/-- A spare rank slot (12 R372): STATE 0 FREE, 1 MIGRATING, 2 IN_USE, 3 FAILED. -/
structure SpareSlot where
  state : Nat := 0
  borrowed : Bool := false
  srcV : Nat := 0
  srcSid : Nat := 0
  deriving DecidableEq, Repr

/-- The migration of a stack (12 R372 to R374): the visible rank, its slot and MARK. -/
structure Migration where
  v : Nat
  sid : Nat
  slot : Nat
  mark : Nat
  /-- the rank is filled with poison words: its channel is dead (13 R404) -/
  fill : Bool := false
  deriving DecidableEq, Repr

/-- One point of a calibration set (13 R393, R395). -/
structure CalPoint where
  ftc : Nat := 0
  /-- element entries by lane where they differ from 0x8080 -/
  lanes : Map Nat := []
  ca : Map Nat := []
  valid : Bool := false
  deriving DecidableEq, Repr

/-- The settings of a channel in force (13 R378, R391, R392). -/
structure Settings where
  /-- element entries by physical lane 0 to 75, and CA taps by lane 0 to 17, where they differ from the reset values -/
  lanes : Map Nat := []
  ca : Map Nat := []
  /-- SIEVE_MAP -/
  sieve : Nat := 0x00FFFFFF
  /-- beats by which a lane's deskew FIFOs stand off their first place, as taps have wrapped: read at 2 × lane, write at the next
  key (13 R379) -/
  beats : Map Int := []
  deriving DecidableEq, Repr

/-- One channel of a stack (13). -/
structure Chan where
  /-- CH_STATE -/
  state : Nat := 1
  set : Settings := {}
  /-- read targets by lane from live results, their edges, the last accepted centres, rejections in a row -/
  target : Map Nat := []
  takenAt : Map Nat := []
  centre : Map Nat := []
  rejects : Map Nat := []
  points : Map CalPoint := []
  epoch : Nat := 0
  /-- SIEVE of the calibration set: the Sieve map as the set was last written (13 R395) -/
  calSieve : Nat := 0x00FFFFFF
  calCount : Nat := 0
  calFtc : Nat := 0
  retrains : Nat := 0
  eye : List Byte := []
  residual : List Byte := []
  ber : List Byte := []
  /-- the edge on which the last pattern-generator run started, in RCLK (13 R382) -/
  genAt : Nat := 0
  /-- CMP_RESULT -/
  result : List Byte := []
  /-- the settings and the state from before TEST -/
  saved : Option Settings := none
  before : Nat := 1
  /-- TEST has been asked for and begins as the stand-in is STANDING; or it has been ended before that, and the stand-in returns
  once it is filled (13 R385) -/
  test : Option Bool := none
  /-- the edge on which a lane's histogram was cleared, in RCLK (13 R388) -/
  cleared : Map Nat := []
  /-- the edge of the last training, in RCLK -/
  trained : Nat := 0
  /-- windows done of a split retrain, and the edge of its trigger, in MCLK -/
  windows : Nat := 0
  turn : Nat := 0
  /-- lost bursts of the current second, and that second -/
  lost : Nat := 0
  lostSec : Nat := 0
  /-- points whose missing VALID has already triggered a retrain -/
  asked : List Nat := []
  /-- the trigger of a retrain that waits, on a spare channel, for the stand-in to end -/
  deferred : Option Nat := none
  /-- the fabric time of the last tap move by lane -/
  moved : Map Nat := []
  /-- triggers merged into a retrain, counted -/
  merged : Nat := 0
  deriving DecidableEq, Repr

/-- A stand-in by a spare channel (13 R399): phase 0 FILL, 1 STANDING, 2 RETURN. -/
structure StandIn where
  ch : Nat
  spare : Nat
  phase : Nat := 0
  /-- the copy rate in MB/s of its phase -/
  rate : Nat := 19200
  /-- dirty groups of 16 rows -/
  dirty : Map Nat := []
  /-- the edge on which the phase began, in RCLK -/
  since : Nat := 0
  deriving DecidableEq, Repr

/-- One stack with its Stockpot and PHY. -/
structure Pot where
  /-- STACK_STATE -/
  state : Nat := 2
  /-- the stack's qualified RAA_MAX (11 R349, R354) -/
  raaQual : Nat := 64
  /-- since when the stack has been in self-refresh, in MCLK -/
  sleepAt : Option Nat := none
  temp : Int := 0
  /-- the last reading failed -/
  tempBad : Bool := false
  tempFtc : Nat := 0
  rate : Nat := 1
  maxDebt : Nat := 0
  pcs : Map Pc := []
  /-- RANK_MAP entries that differ from the identity, by 4 × v + SID -/
  rankMap : Map Nat := []
  slots : Map SpareSlot := []
  mig : Option Migration := none
  /-- the ranks of dead channels that are being filled, all at once (13 R404) -/
  fills : List Migration := []
  /-- ranks that wait to retire: v, SID -/
  queue : List (Nat × Nat) := []
  /-- POISONED and UNCORRECTABLE -/
  poisoned : Nat := 0
  uncorr : Nat := 0
  chans : Map Chan := []
  stands : List StandIn := []
  deriving DecidableEq, Repr

/-- The stacks, and what they share (13 R400). -/
structure Stk where
  pots : Map Pot := []
  /-- the edge on which the last split window of the block ended, in RCLK -/
  splitAt : Option Nat := none
  /-- the fabric time of the last error-window edge -/
  errEdge : Option Nat := none
  deriving DecidableEq, Repr

end Sys2Proof.Machine
end

