-- ==== Sys2Proof/Machine/TypesPower.lean ====
section
/-! DEFINITION. The parts of the state that 14 and 18 give: power domains with their doorkeepers and epochs, Trivet,
supplies and the reset and power pins. Every field's default is its value at reset. -/

namespace Sys2Proof.Machine

/-- A counter signal held at a doorkeeper (14 R415). -/
structure HeldSig where
  addr : Nat
  amount : Nat
  part : Nat
  /-- the path for the tallies: 0 same tile, 1 same Skillet, 2 other Skillet, 3 hub or Ladel, 4 SYNC -/
  path : Nat
  /-- the tile that takes SIG_REFUSED, for a SIG of a tile -/
  tile : Option Nat := none
  /-- the SYNC operation that is answered, by key -/
  op : Option Nat := none
  /-- it replaces the counter's value: a hand-set (17 R481) -/
  hand : Bool := false
  deriving DecidableEq, Repr

/-- A switched domain (14 R410 to R417). -/
structure Domain where
  /-- 0 to 4: P0 to P4 -/
  state : Nat := 0
  /-- the edge on which it entered that state, in RCLK -/
  since : Nat := 0
  /-- entry to the next state is under way: its arbiters are frozen, and the commit edge is to come (14 R413) -/
  entering : Bool := false
  epoch : Nat := 0
  /-- since when the domain has been idle in its state, in RCLK -/
  idle : Option Nat := none
  /-- the edge on which a wake ends -/
  wake : Option Nat := none
  /-- the doorkeeper's queue of 16 signals, and those that wait at their senders while it is full (14 R415) -/
  held : List HeldSig := []
  wait : List HeldSig := []
  /-- die sensor, in 0.25 °C -/
  temp : Int := 0
  /-- a drain before a reset is under way, since when -/
  drain : Option Nat := none
  deriving DecidableEq, Repr

/-- Trivet and the supplies (14 R406 to R426). -/
structure Pwr where
  doms : Map Domain := []
  /-- POWER_EST in 0.1 W -/
  est : Nat := 0
  /-- boost account in µs, and whether it is EXHAUSTED -/
  boost : Nat := 400000
  exhausted : Bool := false
  /-- a die sensor, a stack or a failed stack reading holds the block hot (14 R422) -/
  hotDie : Bool := false
  hotStack : Bool := false
  hotFail : Bool := false
  /-- the fabric time of the last control interval, if there was one -/
  edge : Option Nat := none
  /-- the budget u in tile-sixteenths; none is u_max -/
  u : Option Nat := none
  /-- duty by Skillet; an unlisted Skillet has 16 -/
  duty : Map Nat := []
  /-- the code on pwr_vid, and the edge of its last change -/
  vid : Nat := 60
  vidAt : Nat := 0
  /-- the regulator and the timing monitors have confirmed the code in force (14 R407) -/
  vidOk : Bool := true
  keepTemp : Int := 0
  /-- KEEP_SOURCE: 0 KEEP_MAIN, 1 KEEP_BACKUP -/
  keep : Nat := 0
  /-- the block is in P5 -/
  parked : Bool := false
  /-- every freeze bit of the block is set (14 R409) -/
  frozen : Bool := false
  /-- the PLL has lost lock since the last start: the switched domains hold their state and serve nothing (01 R19) -/
  stalled : Bool := false
  /-- pwr_therm_trip -/
  trip : Bool := false
  /-- what has tripped: the sensor, as the event names it -/
  tripped : Option Nat := none
  /-- pwr_main_fail as sampled -/
  mainFail : Bool := false
  /-- a power loss without hold-up: only a cold start is accepted (18 R501) -/
  coldOnly : Bool := false
  deriving DecidableEq, Repr

/-- Trivet's accounts (14 R421, R425). -/
structure Stress where
  /-- intervals by exponent: the entry 1,000 + k counts intervals that add 2^(k ÷ 40) × 10 µs -/
  hours : Map Nat := []
  /-- stress restored from the image, in 10^−3 h -/
  base : Nat := 0
  /-- boost time in intervals of 10 µs, and what was restored, in s -/
  boost : Nat := 0
  boostBase : Nat := 0
  /-- advisories raised: 0, 80 or 100 -/
  advised : Nat := 0
  /-- the edge of the last POWER_UNMET, if there was one -/
  unmet : Option Nat := none
  /-- residency in RCLK up to the last change of state, and entries, aborted entries, exits, by 16 × domain + entry (17 R470) -/
  resid : Map Nat := []
  /-- the edge of the last STRESS_SAVE copy -/
  saved : Nat := 0
  deriving DecidableEq, Repr

end Sys2Proof.Machine
end

