-- ==== Sys2Proof/Machine/TypesSched.lean ====
section
/-! DEFINITION. The parts of the state that 09 gives: the discipline of the fabric time, schedule contexts, spill
records in force and the wheel tables. Every field's default is its value at reset. -/

namespace Sys2Proof.Machine

/-- The FTC discipline (09 R266 to R270). -/
structure Disc where
  /-- 0 FREE, 1 ACQUIRE, 2 TRACK, 3 HOLDOVER, 4 FAULT -/
  state : Nat := 0
  /-- FTC_ERROR: error of the last accepted pulse, in 1/8 TCLK -/
  err : Int := 0
  acc : Int := 0
  /-- FTC_TRIM -/
  trim : Int := 0
  /-- the edge of the last accepted pulse, in RCLK, if there was one -/
  last : Option Nat := none
  /-- the state that HOLDOVER was entered from, and since when -/
  from_ : Nat := 0
  holdAt : Nat := 0
  /-- pulses in a row with |e| ≤ 8 in ACQUIRE -/
  close : Nat := 0
  /-- FTC_RESYNC has been written -/
  resync : Bool := false
  deriving DecidableEq, Repr

/-- A spill record in force (06 R198), with the context that loaded it. -/
structure SpillRec where
  bytes : List Byte
  deriving DecidableEq, Repr

/-- A run that a context arms or has armed (09 R277, R278). -/
structure Arm where
  /-- armed: the launch edge is awaited -/
  ready : Bool := false
  /-- the LAUNCH that arms it, by operation key, until it is answered -/
  op : Option Nat
  launch : Nat
  sched : Nat
  /-- the schedule image: handle, offset, bytes of the LAUNCH range -/
  handle : Nat
  ofs : Nat
  length : Nat
  span : Nat := 0
  mcastDl : Nat := 0
  digest : Nat := 0
  entries : List (List Byte) := []
  args : List (List Byte) := []
  deriving DecidableEq, Repr

/-- A schedule context (09 R273, R277 to R280). -/
structure Ctx where
  /-- 0 free, 1 arming, 2 armed, 3 running -/
  state : Nat := 0
  /-- the step is marked for replay -/
  marked : Bool := false
  /-- the step has been aborted -/
  aborted : Bool := false
  part : Nat := 0
  step : Nat := 0
  launch : Nat := 0
  sched : Nat := 0
  run : Nat := 0
  /-- the run that it arms or has armed -/
  arm : Option Arm := none
  span : Nat := 0
  mcastDl : Nat := 0
  /-- the schedule digest, 128 bits -/
  digest : Nat := 0
  /-- the entries, 64 bytes each -/
  entries : List (List Byte) := []
  /-- the argument block of each entry, as read at arming -/
  args : List (List Byte) := []
  /-- program entries fired in this run -/
  fired : List Nat := []
  /-- the step has committed -/
  committed : Bool := false
  /-- this participant has voted (07 R232), and its vote has no final answer at ATTEMPT 15 (07 R236) -/
  voted : Bool := false
  inDoubt : Bool := false
  /-- at the home: its own vote is counted; the votes that wait, by operation key -/
  own : Bool := false
  votes : List Nat := []
  /-- the commit point k that the home released -/
  released : Option Nat := none
  /-- the commit point k of this participant -/
  point : Option Nat := none
  deriving DecidableEq, Repr

/-- A wheel table: 1,200 entries, none for the reset table of 09 R283, and a table that waits for its edge. -/
structure Wheel where
  table : Option (List Nat) := none
  /-- the waiting tables, each with the fabric time of the edge on which it takes effect, rising -/
  next : List (List Nat × Nat) := []
  deriving DecidableEq, Repr

/-- The schedule hub (09). -/
structure Sch where
  disc : Disc := {}
  ctxs : Map Ctx := []
  spills : List SpillRec := []
  /-- the fabric time of the last launch edge of a partition (06 R202) -/
  edges : Map Nat := []
  skillet : Wheel := {}
  whisk : Wheel := {}
  stockpot : Wheel := {}
  /-- WHEEL_ACTIVE_FTC -/
  wheelFtc : Nat := 0
  deriving DecidableEq, Repr

end Sys2Proof.Machine
end

