-- ==== Sys2Proof/Machine/TypesTile.lean ====
section
/-! DEFINITION. The parts of the state that 04 and 08 give: tiles, save slots and ledgers, the sync hub, the barrier
hub and the Egg timer. Every field's default is its value at reset. -/

namespace Sys2Proof.Machine

/-- The registers and memories of a tile (04 R115). An unlisted entry holds 0. -/
structure TileRegs where
  /-- data memory by byte address -/
  dm : Map Byte := []
  /-- instruction store by bundle index: 256-bit bundles -/
  is : Map Nat := []
  /-- G1 to G31 -/
  g : Map Nat := []
  /-- V registers by 64 × register + lane -/
  v : Map Nat := []
  /-- M1 to M7 -/
  m : Map Nat := []
  /-- L0 to L3 -/
  l : Map Nat := []
  /-- accumulator banks by 1,024 × bank + 64 × row + column -/
  ac : Map Nat := []
  /-- the 48 sync counters -/
  ctr : Map Nat := []
  pc : Nat := 0
  deriving DecidableEq, Repr

/-- The control registers that are held, and the fault record (04 R116, R146). -/
structure TileCr where
  part : Nat := 0
  cls : Nat := 0
  /-- ARB_PRIO, STACK_LEVEL and EGRESS_Q of the class on the start edge (10 R300) -/
  prio : Nat := 0
  level : Nat := 0
  eq : Nat := 0
  setpos : Nat := 0
  setsize : Nat := 0
  step : Nat := 0
  seed : Nat := 0
  /-- a schedule step started the program (08 R249) -/
  sched : Bool := false
  status : Nat := 0
  /-- POISON_OFS, and whether a failing granule has set it since start -/
  poisonOfs : Nat := 0
  poisonSet : Bool := false
  ebase : Nat := 0
  /-- FTC_HI as latched by a read of FTC_LO -/
  ftcHi : Nat := 0
  /-- the last fault record -/
  fault : Nat := 0
  deriving DecidableEq, Repr

/-- A start that waits for its tile to halt or for its start FTC (04 R150). -/
structure StartRec where
  args : List Byte
  part : Nat
  cls : Nat
  setpos : Nat
  setsize : Nat
  step : Nat
  /-- a schedule step started the program (08 R249) -/
  sched : Bool := false
  ftc : Nat
  /-- its start FTC had passed when it arrived -/
  late : Bool := false
  deriving DecidableEq, Repr

/-- What holds the issue of a tile's next bundle (08 R261). -/
inductive Blocked where
  | wait (ctr threshold : Nat)
  | fence
  | xferQueue
  | remoteQueue
  deriving DecidableEq, Repr

/-- A signal that a tile sends once the fence it implies is complete (04 R144). -/
structure FencedSig where
  fn : Nat
  ctr : Nat
  amount : Nat
  /-- the signal of a HALT -/
  halt : Bool
  deriving DecidableEq, Repr

/-- A fence under way: the outbound transfers it still waits for, and the signal that follows it; none is a FENCE
(04 R143, R144; 08 R251). -/
structure FenceRec where
  left : Nat
  sig : Option FencedSig
  deriving DecidableEq, Repr

/-- A fault that waits for the operations already issued to run out: its code, bundle and slot (04 R146). -/
structure Failing where
  code : Nat
  bundle : Nat
  slot : Nat
  deriving DecidableEq, Repr

/-- Control of a tile: its program, queues and waits (04 R113, R122, R149 to R151). -/
structure TileCtl where
  /-- 0 EMPTY, 1 LOADING, 2 LOADED, 3 RUNNING, 4 HALTED, 5 FAULTED, 6 SAVED (04 R151, R155) -/
  state : Nat := 0
  nbundle : Nat := 0
  entry : Nat := 0
  ctrMask : Nat := 0
  /-- the image's CODE handle, offset and program digest -/
  image : Nat := 0
  imageOfs : Nat := 0
  digest : Nat := 0
  /-- the number of the shipped image that the tile holds (15 R445); 0 is none -/
  lib : Nat := 0
  /-- partition of the load that filled the tile (08 R245) -/
  owner : Nat := 0
  dirty : Bool := false
  /-- queued transfer descriptors, oldest first, 16 at most -/
  xq : List Nat := []
  /-- the transfer that the engine has taken from the queue -/
  xrun : Option Nat := none
  /-- the OPT_STEP under whose grant that transfer was accepted, by operation key (07 R214) -/
  xopt : Option Nat := none
  /-- the fences under way, oldest first -/
  fences : List FenceRec := []
  /-- the start that waits -/
  start : Option StartRec := none
  /-- the stop bit (04 R151) -/
  frozen : Bool := false
  /-- its last stop came by TILE_CONTROL (17 R482) -/
  byHand : Bool := false
  /-- it reached HALTED by a stop, so that it can be resumed at its PC (04 R152) -/
  stopped : Bool := false
  /-- a fault has stopped it, and it enters FAULTED once its work has run out (04 R146) -/
  failing : Option Failing := none
  deriving DecidableEq, Repr

/-- The array and the wait of a tile (04 R136, R145; 08 R261). -/
structure TileAux where
  /-- the MMA that waits behind the one executing: slot word and the operand addresses read at issue -/
  mmaWait : Option (Nat × Nat × Nat × Nat) := none
  /-- the RCLK position at which the executing MMA's occupancy ends, and that MMA, as for `mmaWait` -/
  arrayFree : Nat := 0
  mmaRun : Option (Nat × Nat × Nat × Nat) := none
  /-- by accumulator bank, the RCLK position from which what was last issued for it can be read (04 R136) -/
  banks : Map Nat := []
  /-- what holds issue, and since when (RCLK) -/
  blocked : Option Blocked := none
  since : Nat := 0
  /-- the tile has dropped to P1 in a WAIT (04 R145) -/
  asleep : Bool := false
  /-- woken from P1, it issues from this RCLK position on (04 R145) -/
  wakeAt : Nat := 0
  /-- the last edge on which a bundle issued, kept through loads and saves (08 R262) -/
  moved : Nat := 0
  /-- the last edge on which one of its transfers completed (08 R261) -/
  landed : Nat := 0
  /-- since when its next bundle has failed to issue for one of the reasons of 08 R261 alone, without a break -/
  stuckAt : Option Nat := none
  /-- the branch or the end of the loop just issued costs the next TCLK (04 R124) -/
  hold : Bool := false
  /-- the TCLK edge that `net` counts, and by counter what signals have added less what SUB has taken on it (08 R246) -/
  netAt : Nat := 0
  net : Map Nat := []
  /-- for each transfer in flight, oldest first: the edge of its XFER, its bundle and its descriptor's address -/
  xinfo : List (Nat × Nat × Nat) := []
  /-- granules that Stockpots have accepted for its transfers and that its class has been charged for (10 R312) -/
  paid : Nat := 0
  /-- a resume passes the breakpoint at its bundle once (17 R482) -/
  passBp : Bool := false
  deriving DecidableEq, Repr

/-- A tile. -/
structure Tile where
  r : TileRegs := {}
  cr : TileCr := {}
  c : TileCtl := {}
  x : TileAux := {}
  deriving DecidableEq, Repr

/-- A saved context (04 R152). -/
structure SaveSlot where
  r : TileRegs
  cr : TileCr
  c : TileCtl
  stale : Bool := false
  /-- saved by the load engine for P4 (04 R154) -/
  forP4 : Bool := false
  deriving DecidableEq, Repr

/-- The tiles with their save slots and signal ledgers (04 R113, R152, R153). -/
structure Tl where
  tiles : Map Tile := []
  saves : Map SaveSlot := []
  /-- ledger entries by 64 × tile + counter -/
  ledger : Map Nat := []
  deriving DecidableEq, Repr

/-- A remote signal queued at the sync hub (08 R249). -/
structure RemoteSig where
  entry : Nat
  amount : Nat
  part : Nat
  cls : Nat
  step : Nat
  /-- the tile that sent it, and the egress queue that its class had on its start edge (10 R300) -/
  tile : Nat
  eq : Nat
  /-- the edge of its push (08 R255) -/
  at_ : Nat
  deriving DecidableEq, Repr

/-- A barrier (08 R256). -/
structure Barrier where
  gen : Nat := 0
  arrived : Nat := 0
  /-- frames counted for the generation, by operation key, in order -/
  frames : List Nat := []
  /-- the local part is complete and its frame has been sent (home elsewhere) -/
  sent : Bool := false
  /-- STEP of the last arriving tile -/
  step : Nat := 0
  /-- the edge of the first arrival of the generation, in RCLK, and that of the last release (08 R261, R262) -/
  since : Nat := 0
  freed : Nat := 0
  deriving DecidableEq, Repr

/-- One Egg timer snapshot (08 R263). -/
structure EggSnap where
  bytes : List Byte
  deriving DecidableEq, Repr

/-- The sync hub, the barrier hub and the Egg timer (08). -/
structure Syn where
  /-- the remote-signal queue, oldest first, 1,024 at most -/
  queue : List RemoteSig := []
  bars : Map Barrier := []
  /-- EGG_EVENTS -/
  eggs : Nat := 0
  /-- snapshots by ring position 0 to 7 -/
  snaps : Map EggSnap := []
  /-- the edge of the last report of a set, by (kind × 16 + context) × 65,536 + number (08 R262) -/
  reported : Map Nat := []
  /-- tiles that the broadcasts of releases have skipped (08 R257) -/
  skipped : Nat := 0
  deriving DecidableEq, Repr

end Sys2Proof.Machine
end

