-- ==== Sys2Proof/Machine/State.lean ====
section
/-! DEFINITION. The state of the block: plain data, every register, queue, buffer, counter, mode and pin that the spec
gives it, and the queue of waiting commands. -/

namespace Sys2Proof.Machine

/-- Why the block stops. -/
inductive Fault where
  /-- Raised by the accessors of stacked memory on a block physical address outside the visible space
  (01 R21: the space ends at 60 GiB × S). Safe: no operation that passes check 6 of R28 reaches it. -/
  | outsideMemory (bpa : Nat)
  deriving DecidableEq, Repr

/-- Why a command has no meaning. -/
inductive Refusal where
  /-- Raised by `exec` for a command that is not modelled. Safe. -/
  | notModelled (mnemonic : String)
  /-- Raised by every meaning whose command names a unit that this build does not have (00 R4), or carries an operand
  that no wire, frame or register of its width could carry. No such command can reach the block. Safe. -/
  | illFormed
  deriving DecidableEq, Repr

/-- The state of the block. -/
structure State where
  build : Build := {}
  /-- the commands that wait, first in, first out -/
  pending : List Instr := []
  clk : Clk := {}
  mem : Mem := {}
  dict : Dict := {}
  frm : Frm := {}
  rgn : Rgn := {}
  wsk : Wsk := {}
  mc : Mc := {}
  tl : Tl := {}
  syn : Syn := {}
  sch : Sch := {}
  ldl : Ldl := {}
  per : Persist := {}
  pwr : Pwr := {}
  stress : Stress := {}
  evt : Evt := {}
  att : Att := {}
  par : Par := {}
  obs : Obs := {}
  cls : Cls := {}
  stk : Stk := {}
  pin : Pins := {}
  /-- arbiter instances by kind × 65,536 + instance (17 R484) -/
  arb : Map Arb := []
  /-- tallies by set × 8,192 + entry (17 R470) -/
  tally : Map Nat := []
  /-- the words of the last response on the management port (15 R431) -/
  mgtRsp : List Nat := []
  /-- the model's own counter of free values: each open value of the spec that a step needs is a fixed but unknown
  function of it -/
  free : Nat := 0
  deriving DecidableEq, Repr

/-- The machine right after reset: cold start has reached admission and nothing has been placed in it (18 R494). -/
def State.reset : State := {}

end Sys2Proof.Machine
end

