-- ==== Sys2Proof/Machine/Update.lean ====
section
/-! DEFINITION. One update per group of the state, through which every operation changes it. -/

namespace Sys2Proof.Machine

/-- Changes the group `mem`. -/
def State.modMem (s : State) (f : Mem → Mem) : State := { s with mem := f s.mem }

/-- Changes the group `dict`. -/
def State.modDict (s : State) (f : Dict → Dict) : State := { s with dict := f s.dict }

/-- Changes the group `frm`. -/
def State.modFrm (s : State) (f : Frm → Frm) : State := { s with frm := f s.frm }

/-- Changes the group `rgn`. -/
def State.modRgn (s : State) (f : Rgn → Rgn) : State := { s with rgn := f s.rgn }

/-- Changes the group `wsk`. -/
def State.modWsk (s : State) (f : Wsk → Wsk) : State := { s with wsk := f s.wsk }

/-- Changes the group `mc`. -/
def State.modMc (s : State) (f : Mc → Mc) : State := { s with mc := f s.mc }

/-- Changes the group `tl`. -/
def State.modTl (s : State) (f : Tl → Tl) : State := { s with tl := f s.tl }

/-- Changes the group `syn`. -/
def State.modSyn (s : State) (f : Syn → Syn) : State := { s with syn := f s.syn }

/-- Changes the group `sch`. -/
def State.modSch (s : State) (f : Sch → Sch) : State := { s with sch := f s.sch }

/-- Changes the group `ldl`. -/
def State.modLdl (s : State) (f : Ldl → Ldl) : State := { s with ldl := f s.ldl }

/-- Changes the group `per`. -/
def State.modPer (s : State) (f : Persist → Persist) : State := { s with per := f s.per }

/-- Changes the group `pwr`. -/
def State.modPwr (s : State) (f : Pwr → Pwr) : State := { s with pwr := f s.pwr }

/-- Changes the group `stress`. -/
def State.modStress (s : State) (f : Stress → Stress) : State := { s with stress := f s.stress }

/-- Changes the group `evt`. -/
def State.modEvt (s : State) (f : Evt → Evt) : State := { s with evt := f s.evt }

/-- Changes the group `att`. -/
def State.modAtt (s : State) (f : Att → Att) : State := { s with att := f s.att }

/-- Changes the group `par`. -/
def State.modPar (s : State) (f : Par → Par) : State := { s with par := f s.par }

/-- Changes the group `obs`. -/
def State.modObs (s : State) (f : Obs → Obs) : State := { s with obs := f s.obs }

/-- Changes the group `cls`. -/
def State.modCls (s : State) (f : Cls → Cls) : State := { s with cls := f s.cls }

/-- Changes the group `stk`. -/
def State.modStk (s : State) (f : Stk → Stk) : State := { s with stk := f s.stk }

/-- Changes the group `pin`. -/
def State.modPin (s : State) (f : Pins → Pins) : State := { s with pin := f s.pin }

/-- Changes the group `arb`. -/
def State.modArb (s : State) (f : Map Arb → Map Arb) : State := { s with arb := f s.arb }

/-- Changes the group `tally`. -/
def State.modTally (s : State) (f : Map Nat → Map Nat) : State := { s with tally := f s.tally }

/-- Changes the group `mgtRsp`. -/
def State.modMgtRsp (s : State) (f : List Nat → List Nat) : State := { s with mgtRsp := f s.mgtRsp }

/-- Changes the group `free`. -/
def State.modFree (s : State) (f : Nat → Nat) : State := { s with free := f s.free }

/-- Changes the clocks. -/
def State.modClk (s : State) (f : Clk → Clk) : State := { s with clk := f s.clk }

end Sys2Proof.Machine
end

