-- ==== Sys2Proof/Machine/Ops.lean ====
section
/-! DEFINITION. The operations that every family shares: time, parameters of the dictionary, BLOB bytes, stacked
memory with its poisoned granules, the event log, tallies and free values. -/

namespace Sys2Proof.Machine

/-! ### Outcomes -/

/-- A meaning: the effect where the command is well formed in this build, a refusal by name otherwise. -/
def runIf (ok : Bool) (t : State) : Host.Outcome State Fault Refusal :=
  if ok then .next t else .refused .illFormed

/-- The switched domains run: stacks are up or admission is open (15 R432), the block is not in P5 (14 R414), and the PLL
is locked (01 R19). -/
def State.live (s : State) : Bool :=
  (s.ldl.stage = 5 || s.ldl.stage = 6) && !s.pwr.parked && !s.pwr.stalled && s.clk.locked

/-- A meaning of a unit of the switched domains: while they do not run, nothing happens in it. -/
def State.runLive (s : State) (ok : Bool) (t : State) : Host.Outcome State Fault Refusal :=
  if ok then .next (if s.live then t else s) else .refused .illFormed

/-- A start that cannot proceed: stage 0xFF with its cause, and the block parked with every rail enable low (18 R496). -/
def State.failStart (s : State) (cause : Nat) : State :=
  ((s.modLdl fun l => { l with stage := 255, cause := cause }).modPwr fun p => { p with parked := true }).modPin fun p =>
    { p with en := [false, false, false], start := none }

/-! ### Time (01 R15): all times are in RCLK positions -/

/-- RCLK positions of a count of µs. -/
def usR (n : Nat) : Nat := n * 9600
/-- RCLK positions of a count of ns, rounded up. -/
def nsR (n : Nat) : Nat := ceilDiv (n * 48) 5
/-- RCLK positions of a count of seconds. -/
def secR (n : Nat) : Nat := n * 9600000000
/-- RCLK positions of a count of TCLK. -/
def tclkR (n : Nat) : Nat := n * 8
/-- RCLK positions of a count of MCLK. -/
def mclkR (n : Nat) : Nat := n * 4
/-- Whole ns of a count of RCLK positions. -/
def rToNs (n : Nat) : Nat := n * 5 / 48

/-- At least `d` positions have passed since `t`. -/
def State.since (s : State) (t d : Nat) : Bool := decide (t + d ≤ s.clk.now)

/-- Time goes on by n RCLK positions: the FTC counts TCLK edges, or 12 on each reference cycle while the PLL is unlocked (01
R15, R19; 09 R265). -/
def State.passTime (s : State) (n : Nat) : State :=
  s.modClk fun c => { c with
    now := c.now + n,
    ftc := (c.ftc + (if c.locked then (c.now + n) / 8 - c.now / 8 else 12 * ((c.now + n) / 96 - c.now / 96))) % 2 ^ 64 }

/-! ### The build (00 R3, R4; 01 R10, R22; 14 R410) -/

/-- Tiles: 32 × K. -/
def Build.tiles (b : Build) : Nat := 32 * b.K
/-- The visible stacked memory in bytes: 60 GiB × S (01 R21). -/
def Build.space (b : Build) : Nat := 64424509440 * b.S
/-- The system area in bytes: 512 MiB × S + 8 MiB × K (01 R22). -/
def Build.sysSize (b : Build) : Nat := 536870912 * b.S + 8388608 * b.K
/-- The base of the system area (01 R22). -/
def Build.sysBase (b : Build) : Nat := b.space - b.sysSize
/-- Allocatable space in units of 2 MiB (01 R14). -/
def Build.units (b : Build) : Nat := b.sysBase / 2097152
/-- Entries of REQ_TABLE (16 R461). -/
def Build.reqEntries (b : Build) : Nat := 16384 * b.S
/-- One of the 27 valid configurations (00 R3). -/
def Build.valid (b : Build) : Bool := [2, 4, 8].contains b.S && [16, 32, 64].contains b.K && [8, 16, 32].contains b.A
/-- Domain d is present (14 R410). -/
def Build.hasDomain (b : Build) (d : Nat) : Bool :=
  d < b.K || (64 ≤ d && d < 64 + b.S) || (72 ≤ d && d < 72 + b.A / 4) || (80 ≤ d && d < 88)
/-- The unit of domain d has programmable counters (17 R467). -/
def Build.hasCounters (b : Build) (d : Nat) : Bool := b.hasDomain d && decide (d < 84)
/-- The domains present, rising. -/
def Build.domains (b : Build) : List Nat := (List.range 88).filter b.hasDomain

/-! ### The object table -/

/-- The instance number of an index under an object, if the index is one of the object's (16 R453). -/
def Obj.inst? (b : Build) (o : Obj) (idx : Nat) : Option Nat :=
  if idx < o.base then none
  else
    let i := idx - o.base
    match o.inst with
    | .one => if i = 0 then some 0 else none
    | .n k => if i < k then some i else none
    | .perS => if i % 256 = 0 ∧ i / 256 < b.S then some (i / 256) else none
    | .perK => if i < b.K then some i else none
    | .perCh => if i % 256 < 32 ∧ i / 256 < b.S then some (32 * (i / 256) + i % 256) else none
    | .perD => if b.hasDomain i then some i else none
    | .perU => if b.hasCounters i then some i else none
    | .perWin => if i < ceilDiv b.sysSize 1073741824 then some i else none

/-- Whether any object has this index in this build (16 R454 check 1). -/
def hasIndex (b : Build) (idx : Nat) : Bool := objTable.any (fun o => (o.inst? b idx).isSome)

/-- The object with this index and sub-index. -/
def findObj (b : Build) (idx sub : Nat) : Option Obj :=
  objTable.find? (fun o => decide (o.sub = sub) && (o.inst? b idx).isSome)

/-- The key of an object. -/
def okey (idx sub : Nat) : Nat := 256 * idx + sub

/-- The factory class map (10 R299), by sub-index of the class descriptor. -/
def classDefault (b : Build) (c sub : Nat) : Nat :=
  match sub with
  | 1 => 2 ^ 64 - 1
  | 2 => if c < 4 then c else 4 + (c - 4) % 12
  | 3 => if c = 0 then 0 else if c < 4 then 1 else 2
  | 4 => if c < 4 then c else 4
  | 5 => if c = 0 then 51200 else 409600
  | 6 => if c = 0 then 16384 else 16777216
  | 7 => 409600
  | 8 => 16777216
  | 9 => if c = 0 then 2880000 * b.S else 0
  | 10 => if c = 0 then 1800 else 0
  | _ => 0

/-- The deepest state of 14 R412 for domain d, the default of DOMAIN_FLOOR. -/
def floorDefault (d : Nat) : Nat :=
  if d < 84 then 4 else if d < 86 then 3 else 1

/-- The factory default of a scalar object (00 R8), those that depend on the build or the instance included. -/
def objDefault (b : Build) (idx sub : Nat) : Nat :=
  if 0x5200 ≤ idx ∧ idx < 0x5240 then classDefault b (idx - 0x5200) sub
  else if idx = 0x3F00 ∧ sub = 2 then (if b.S = 8 then 1 else 0)
  else if 0xA100 ≤ idx ∧ idx < 0xA158 ∧ sub = 2 then floorDefault (idx - 0xA100)
  else match findObj b idx sub with
    | some o => o.dflt
    | none => 0

/-- The value in force of a scalar object (15 R437). -/
def State.param (s : State) (idx sub : Nat) : Nat :=
  match mapFind s.dict.vals (okey idx sub) with
  | some v => v
  | none => objDefault s.build idx sub

/-- Puts a scalar value in force; the factory default is not listed. -/
def State.setParam (s : State) (idx sub v : Nat) : State :=
  s.modDict fun d =>
    { d with
      vals := if v = objDefault s.build idx sub then mapDel d.vals (okey idx sub) else mapPut d.vals (okey idx sub) v }

/-- The key of a BLOB byte. -/
def bkey (idx sub ofs : Nat) : Nat := okey idx sub * 2 ^ 24 + ofs

/-- Bytes of a BLOB in force. -/
def State.blob (s : State) (idx sub ofs n : Nat) : List Byte := mapGetList 0 s.dict.blob (bkey idx sub ofs) n

/-- Replaces bytes of a BLOB in force (16 R457). -/
def State.setBlob (s : State) (idx sub ofs : Nat) (d : List Byte) : State :=
  s.modDict fun x => { x with blob := mapPutList 0 x.blob (bkey idx sub ofs) d }

/-- DET_STRICT (09 R287). -/
def State.strict (s : State) : Bool := s.param 0x2000 1 = 1

/-- A parameter of a class (10 R299, R318). -/
def State.classParam (s : State) (c sub : Nat) : Nat := s.param (0x5200 + c) sub

/-- The partition seed in force (05 R170). -/
def State.partSeed (s : State) (p : Nat) : Nat := s.param (0xC100 + p) 1

/-- BLOCK_EP (02 R75). -/
def State.blockEp (s : State) : Nat := s.param 0x5100 6

/-- The fingerprint of block version 3.1 (09 R285). -/
def fprint : Nat := 0x030100310001010C

/-! ### Tallies (17 R470) and free values -/

/-- The tally sets: a counter unit by its domain number, a class, the block. -/
def tallyClass (c : Nat) : Nat := 256 + c
def tallyBlock : Nat := 512

/-- The control word of programmable counter k of domain d (17 R468). -/
def State.ctrWord (s : State) (d k : Nat) : Nat := mapGet 0 s.dict.vals (okey (0x9400 + d) (k + 1))

/-- What an event of `n` adds to a counter under its control word: the event selected, enabled, and of the counter's
partition where it filters; `kind` 0 is an occurrence, 1 a level on one edge, 2 a magnitude (17 R468). -/
def ctrIncrement (w event kind n : Nat) (part : Option Nat) : Nat :=
  if !bit w 47 || bits w 63 50 ≠ event || (bit w 46 && part ≠ some (bits w 45 40)) then 0
  else match bits w 49 48 with
    | 0 => if kind = 2 then 1 else n
    | _ => if bits w 31 0 < n then 1 else 0

/-- Programmable counters advance on an event of their unit (17 R467 to R469). -/
def State.ctrEvent (s : State) (d event kind n : Nat) (part : Option Nat) : State :=
  (List.range 8).foldl (fun s k =>
    let i := ctrIncrement (s.ctrWord d k) event kind n part
    if i = 0 then s
    else s.modObs fun o =>
      { o with ctrs := mapSet 0 o.ctrs (8 * d + k) ((mapGet 0 o.ctrs (8 * d + k) + i) % 2 ^ 48) }) s

/-- Advances one tally, and the programmable counters of its unit that select it (17 R469, R470). -/
def State.bumpP (s : State) (set entry n : Nat) (part : Option Nat) : State :=
  let s := s.modTally fun t => mapSet 0 t (set * 8192 + entry) (mapGet 0 t (set * 8192 + entry) + n)
  if set < 84 then s.ctrEvent set (entry + 1) 0 n part else s

/-- Advances one tally on an event that no partition caused. -/
def State.bump (s : State) (set entry n : Nat) : State := s.bumpP set entry n none

/-- Uses up one free value. -/
def State.spend (s : State) : State := s.modFree (· + 1)

/-- Block tallies by their place in 17 R470. -/
def tbPulseOk : Nat := 0
def tbPulseIgnored : Nat := 1
def tbFtcState : Nat := 2
def tbLaunchDone : Nat := 3
def tbLaunchRefused : Nat := 4
def tbLaunchAbandoned : Nat := 5
def tbLate : Nat := 6
def tbMark : Nat := 7
def tbDigest : Nat := 14
def tbQuery : Nat := 15
def tbPages : Nat := 16
def tbRunIssued : Nat := 17
def tbRunUsed : Nat := 18
def tbRunDropped : Nat := 19
def tbSpillSent : Nat := 20
def tbSpillDone : Nat := 21
def tbSpillResent : Nat := 22
def tbSpillFailed : Nat := 23
def tbBadHead : Nat := 24
def tbEmptyHead : Nat := 25
def tbOptStep : Nat := 26
def tbPagesUpdated : Nat := 27
def tbShadow : Nat := 28
def tbCast : Nat := 29
def tbFold : Nat := 30
def tbDiscard : Nat := 31
def tbVote : Nat := 32
def tbPointLater : Nat := 33
def tbLateCommit : Nat := 34
def tbAbort : Nat := 35
def tbMirrorResent : Nat := 36
def tbRestore : Nat := 37
def tbRemoteSent : Nat := 38
def tbRemoteCombined : Nat := 39
def tbRemoteResent : Nat := 40
def tbRemoteAbandoned : Nat := 41
def tbBarrier : Nat := 42
def tbKeep : Nat := 43
def tbThrottled : Nat := 44
def tbUnmet : Nat := 45
def tbHot : Nat := 46
def tbMgmtPort : Nat := 47
def tbMgmtInband : Nat := 48
def tbMgmtRefused : Nat := 49
def tbLockGrant : Nat := 50
def tbLockRefused : Nat := 51
def tbLockExpired : Nat := 52
def tbImgCommit : Nat := 53
def tbErase : Nat := 54
def tbNotifySent : Nat := 55
def tbNotifyDropped : Nat := 56
def tbSnapSkipped : Nat := 57
def tbXbarRounds : Nat := 58
def tbXbarRevoked : Nat := 59
def tbXbarForced : Nat := 60

/-! ### The event log (15 R449, R450; 09 R295) -/

/-- The severity of an event code (15 R450); a code outside the table is a warning. -/
def evSeverity (code : Nat) : Nat :=
  if [0x0101, 0x0502, 0x0602].contains code then
    4
  else if [0x0103, 0x0204, 0x0302, 0x0401, 0x0403, 0x0404, 0x0406, 0x0601].contains code then 3
  else if [0x0201, 0x0405, 0x0504, 0x0603, 0x0605, 0x0606].contains code then 1
  else 2

/-- Logs an event: its stamp is the fabric time, its SUBSEQ counts the source's events on this edge, its position is
the next (15 R449; 09 R295). -/
def State.raise (s : State) (src code : Nat) (data : List Byte) : State :=
  s.modEvt fun e =>
    let counts := if e.stamp = s.clk.ftc then e.counts else []
    let k := mapGet 0 counts src
    let r : EvRec :=
      { ftc := s.clk.ftc, src := src, subseq := k % 256, sev := evSeverity code, code := code,
        pos := e.newest + 1, data := fitBytes 12 data }
    let full := decide (4096 ≤ e.ring.length)
    let lost := match e.ring with | [] => false | o :: _ => full && decide (e.ack < o.pos)
    let kept := if full then e.ring.drop 1 else e.ring
    let ring := kept ++ [r]
    let ring := if full then (match ring with | [] => [] | o :: t => { o with gap := true } :: t) else ring
    { e with
      ring := ring, newest := e.newest + 1, overrun := e.overrun + b2n lost, stamp := s.clk.ftc,
      counts := mapPut counts src (k + 1) }

/-- Logs an event that has no code of its own: the rule that raises it and the item it names (15 R450). -/
def State.note (s : State) (src rule item : Nat) : State := s.raise src 0 (beBytes 4 rule ++ beBytes 8 item)

/-- The same with a cause, which stands above the rule's number (DESIGN CHOICE, log 79). -/
def State.noteCause (s : State) (src rule cause item : Nat) : State :=
  s.raise src 0 (beBytes 2 cause ++ beBytes 2 rule ++ beBytes 8 item)

def State.pot (s : State) (st : Nat) : Pot := mapGet {} s.stk.pots st
def Pot.chan (p : Pot) (c : Nat) : Chan := mapGet {} p.chans c

/-! ### Addresses (11 R332 to R334) -/

/-- A place in a stack: pseudo-channel, SID, bank within the SID, row, column. -/
structure Place where
  st : Nat
  pc : Nat
  sid : Nat
  bank : Nat
  row : Nat
  col : Nat
  deriving DecidableEq, Repr

/-- The visible place of a granule number under the order in force. -/
def State.visible (s : State) (g : Nat) : Place :=
  let o := s.param 0x3F00 1
  let w := if o = 1 ∨ o = 3 then 4 else 0
  let low := g % 2 ^ w
  let m := g / 2 ^ w
  let p := 60 * s.build.S
  let q := m % p
  let u := m / p
  let st := if o < 2 then q / 60 else q % s.build.S
  let v := if o < 2 then q % 60 else q / s.build.S
  match o with
  | 1 => ⟨st, v, bits u 19 18, 4 * bits low 3 2 + bits low 1 0, bits u 17 4, bits u 3 0⟩
  | 3 => ⟨st, v, bits u 19 18, 4 * bits u 1 0 + bits u 3 2, bits u 17 4, low⟩
  | _ => ⟨st, v, bits u 23 22, 4 * bits u 5 4 + bits u 7 6, bits u 21 8, bits u 3 0⟩

/-- The granule number of a visible place. -/
def State.granAt (s : State) (x : Place) : Nat :=
  let o := s.param 0x3F00 1
  let p := 60 * s.build.S
  let q := if o < 2 then 60 * x.st + x.pc else x.pc * s.build.S + x.st
  let bg := x.bank / 4
  let ba := x.bank % 4
  match o with
  | 1 => (q + p * (x.sid * 2 ^ 18 + x.row * 16 + x.col)) * 16 + bg * 4 + ba
  | 3 => (q + p * (x.sid * 2 ^ 18 + x.row * 16 + ba * 4 + bg)) * 16 + x.col
  | _ => q + p * (x.sid * 2 ^ 22 + x.row * 256 + ba * 64 + bg * 16 + x.col)

/-- A rank-map entry: physical pseudo-channel and SID. -/
def Pot.rankOf (p : Pot) (v sid : Nat) : Nat × Nat :=
  let w := mapGet (4 * v + sid) p.rankMap (4 * v + sid)
  (w / 4, w % 4)

/-- The migration or the fill of a visible rank (12 R373; 13 R404). -/
def Pot.mover (p : Pot) (v sid : Nat) : Option Migration :=
  (p.mig.toList ++ p.fills).find? fun m => decide (m.v = v ∧ m.sid = sid)

/-- The physical rank of a visible place: a rank that is moving is served by its row (11 R334; 12 R373). -/
def State.physical (s : State) (x : Place) : Place :=
  let p := s.pot x.st
  let r := match p.mover x.pc x.sid with
    | some m => if 16384 * x.bank + x.row < m.mark then (60 + m.slot / 4, m.slot % 4) else p.rankOf x.pc x.sid
    | none => p.rankOf x.pc x.sid
  { x with
    pc := r.1, sid := r.2 }

/-- A granule lies in a row of a dead channel that is not filled: no command reaches it (13 R404). -/
def State.lost (s : State) (g : Nat) : Bool :=
  (s.stk.pots.any fun p => p.2.chans.any fun c => decide (c.2.state = 9)) &&
    (let y := s.physical (s.visible g)
     decide (((s.pot y.st).chan (y.pc / 2)).state = 9))

/-! ### Stacked memory by block physical address (01 R21; 12 R359 to R365) -/

/-- Bytes at a BPA. -/
def State.mread (s : State) (a n : Nat) : List Byte := mapGetList 0 s.mem.bytes a n

/-- One byte at a BPA. -/
def State.mbyte (s : State) (a : Nat) : Byte := mapGet 0 s.mem.bytes a

/-- The big-endian number of `n` bytes at a BPA. -/
def State.mnat (s : State) (a n : Nat) : Nat := beNat (s.mread a n)

/-- Writes bytes at a BPA as they are, without regard to poison. -/
def State.mwrite (s : State) (a : Nat) (d : List Byte) : State :=
  s.modMem fun m => { m with bytes := mapPutList 0 m.bytes a d }

/-- The granules of a range that no command reaches, rising (13 R404). -/
def State.lostIn (s : State) (a n : Nat) : List Nat :=
  if n = 0 ∨ (s.stk.pots.any fun p => p.2.chans.any fun c => decide (c.2.state = 9)) = false then []
  else ((List.range ((a + n - 1) / 64 + 1 - a / 64)).map (a / 64 + ·)).filter s.lost

/-- The lowest granule of a range that is poisoned or that no command reaches. -/
def State.poisonIn (s : State) (a n : Nat) : Option Nat :=
  if n = 0 then none
  else
    let bad := (mapFirst s.mem.poison (fun g _ => decide (a / 64 ≤ g) && decide (g ≤ (a + n - 1) / 64))).map Prod.fst
    match bad, (s.lostIn a n).head? with
    | some g, some l => some (min g l)
    | some g, none => some g
    | none, l => l

/-- A granule is poisoned. -/
def State.poisoned (s : State) (g : Nat) : Bool := (mapFind s.mem.poison g).isSome

/-- A read of a granule fails. -/
def State.failing (s : State) (g : Nat) : Bool := s.poisoned g || s.lost g

/-- The granules that a write of a range covers only in part (12 R362): the first and the last at most. -/
def partialGranules (a n : Nat) : List Nat :=
  let g0 := a / 64
  let g1 := (a + n - 1) / 64
  (if a % 64 ≠ 0 ∨ a + n < 64 * g0 + 64 then [g0] else []) ++
    (if g1 ≠ g0 ∧ (a + n) % 64 ≠ 0 then [g1] else [])

/-- Writes a range that every command reaches: whole granules become good (12 R361); a granule covered in part that is
poisoned keeps its poison and takes none of the bytes (12 R365). -/
def State.storeLive (s : State) (a : Nat) (d : List Byte) : State :=
  if d.isEmpty then s
  else
    let bad := (partialGranules a d.length).filter s.poisoned
    let keep := d.length
    let lo := if bad.contains (a / 64) then min keep (64 - a % 64) else 0
    let hi := if bad.contains ((a + keep - 1) / 64) then (a + keep) / 64 * 64 - a else keep
    let t := if lo < hi then s.mwrite (a + lo) ((d.take hi).drop lo) else s
    t.modMem fun m =>
      { m with
        poison := m.poison.filter fun p =>
          bad.contains p.1 || decide (64 * p.1 < a) || decide (a + keep < 64 * p.1 + 64) }

/-- Writes a range, but for the granules that no command reaches (13 R404). -/
def State.store (s : State) (a : Nat) (d : List Byte) : State :=
  if (s.lostIn a d.length).isEmpty then s.storeLive a d
  else
    (List.range ((a + d.length - 1) / 64 + 1 - a / 64)).foldl (fun t i =>
      let g := a / 64 + i
      let lo := max a (64 * g)
      if s.lost g then t else t.storeLive lo ((d.drop (lo - a)).take (64 * g + 64 - lo))) s

/-- The granule that fails a write of a range, the lowest: one that it covers in part is poisoned (12 R365), or no command
reaches it (13 R404). -/
def State.storeFail (s : State) (a n : Nat) : Option Nat :=
  if n = 0 then none
  else match (partialGranules a n).find? s.poisoned, (s.lostIn a n).head? with
    | some g, some l => some (min g l)
    | some g, none => some g
    | none, l => l

/-- Bytes of a range with every failing granule as zeros (02 R56). -/
def State.loadZ (s : State) (a n : Nat) : List Byte :=
  (s.mread a n).mapIdx fun i b => if s.failing ((a + i) / 64) then 0 else b

/-- Poisons a granule: its bytes read as zeros from then on (12 R359, R360). -/
def State.poisonGranule (s : State) (g : Nat) : State :=
  (s.mwrite (64 * g) (List.replicate 64 0)).modMem fun m => { m with poison := mapPut m.poison g 1 }

/-- Whether a range of bytes lies in the visible space (01 R21). -/
def State.inSpace (s : State) (a n : Nat) : Bool := decide (a + n ≤ s.build.space)

/-! ### Sources (01 R33) -/

def srcHub : Nat := 0x0010
def srcSync : Nat := 0x0011
def srcBarrier : Nat := 0x0012
def srcTrivet : Nat := 0x0013
def srcEgg : Nat := 0x0014
def srcReader : Nat := 0x0015
def srcKeep : Nat := 0x0016
def srcPll : Nat := 0x0017
def srcTile (t : Nat) : Nat := 0x1000 + t
def srcPc (st c : Nat) : Nat := 0x0800 + 64 * st + c

/-- The core that holds a duty, where one serves it (15 R427). -/
def State.coreOf (s : State) (duty : Nat) : Option Nat :=
  (s.ldl.cores.zipIdx.find? fun p => decide (p.1.duty = duty) && decide (p.1.state ≠ 3)).map Prod.snd

/-- The source number of a duty's core; core 4's number where none serves it. -/
def State.srcDuty (s : State) (duty : Nat) : Nat := (s.coreOf duty).getD 4

/-- A core serves a duty; operations that need a duty that none serves wait until a warm start (15 R429). -/
def State.served (s : State) (duty : Nat) : Bool := (s.coreOf duty).isSome

/-- The duty that manages a stack (15 R427). -/
def State.stackDuty (s : State) (st : Nat) : Nat := if 2 * st < s.build.S then 0 else 1

/-- A meaning of a unit of the switched domains that a duty of Ladel carries out: while none serves it, it waits. -/
def State.runDuty (s : State) (duty : Nat) (ok : Bool) (t : State) : Host.Outcome State Fault Refusal :=
  if ok then .next (if s.live && s.served duty then t else s) else .refused .illFormed

end Sys2Proof.Machine
end

