-- ==== Sys2Proof/Machine/Tile.lean ====
section
/-! DEFINITION. Access to tiles, counter signals through doorkeepers, faults (04 R115, R146, R153; 08 R243 to R247;
14 R415). -/

namespace Sys2Proof.Machine

/-! ### Registers (04 R115) -/

/-- G register; G0 reads 0. -/
def TileRegs.getG (r : TileRegs) (i : Nat) : Nat := if i = 0 then 0 else mapGet 0 r.g i
/-- A write of G0 is discarded. -/
def TileRegs.setG (r : TileRegs) (i v : Nat) : TileRegs := if i = 0 then r else { r with g := mapSet 0 r.g i v }
/-- M register; M0 reads all ones. -/
def TileRegs.getM (r : TileRegs) (i : Nat) : Nat := if i = 0 then 2 ^ 64 - 1 else mapGet 0 r.m i
/-- M0 cannot be written. -/
def TileRegs.setM (r : TileRegs) (i v : Nat) : TileRegs := if i = 0 then r else { r with m := mapSet 0 r.m i v }
def TileRegs.getL (r : TileRegs) (i : Nat) : Nat := mapGet 0 r.l i
def TileRegs.setL (r : TileRegs) (i v : Nat) : TileRegs := { r with l := mapSet 0 r.l i v }
/-- The 64 lanes of a V register. -/
def TileRegs.getV (r : TileRegs) (i : Nat) : List Nat := mapGetList 0 r.v (64 * i) 64
def TileRegs.setV (r : TileRegs) (i : Nat) (l : List Nat) : TileRegs := { r with v := mapPutList 0 r.v (64 * i) l }
/-- Lanes whose mask bit is 0 keep their old value (04 R137). -/
def TileRegs.setVm (r : TileRegs) (i mask : Nat) (l : List Nat) : TileRegs :=
  r.setV i ((r.getV i).mapIdx fun k o => if bit mask k then l.getD k 0 else o)
/-- A row of an accumulator bank. -/
def TileRegs.getAc (r : TileRegs) (bank row : Nat) : List Nat := mapGetList 0 r.ac (1024 * bank + 64 * row) 64
def TileRegs.setAc (r : TileRegs) (bank row : Nat) (l : List Nat) : TileRegs :=
  { r with ac := mapPutList 0 r.ac (1024 * bank + 64 * row) l }
def TileRegs.getDm (r : TileRegs) (a n : Nat) : List Byte := mapGetList 0 r.dm a n
def TileRegs.setDm (r : TileRegs) (a : Nat) (d : List Byte) : TileRegs := { r with dm := mapPutList 0 r.dm a d }
def TileRegs.getCtr (r : TileRegs) (i : Nat) : Nat := mapGet 0 r.ctr i
/-- Counters advance modulo 2^32 (04 R143). -/
def TileRegs.setCtr (r : TileRegs) (i v : Nat) : TileRegs := { r with ctr := mapSet 0 r.ctr i (v % 2 ^ 32) }

/-- Tile t. -/
def State.tile (s : State) (t : Nat) : Tile := mapGet {} s.tl.tiles t
/-- Changes tile t. -/
def State.setTile (s : State) (t : Nat) (x : Tile) : State :=
  s.modTl fun l => { l with tiles := mapSet {} l.tiles t x }
def State.modTile (s : State) (t : Nat) (f : Tile → Tile) : State := s.setTile t (f (s.tile t))

/-! ### Domains and doorkeepers (14 R411, R415) -/

def State.dom (s : State) (d : Nat) : Domain := mapGet {} s.pwr.doms d
def State.setDom (s : State) (d : Nat) (x : Domain) : State :=
  s.modPwr fun p => { p with doms := mapSet {} p.doms d x }
def State.modDom (s : State) (d : Nat) (f : Domain → Domain) : State := s.setDom d (f (s.dom d))

/-- The exit time of a domain state in TCLK (14 R411). -/
def exitTime (st : Nat) : Nat :=
  match st with
  | 0 => 0
  | 1 => 24
  | 2 => 240
  | 3 => 2400
  | _ => 24000

/-! ### The arbiters of a domain (10 R321, R325, R327; 14 R413; 17 R484) -/

/-- An instance by its key: kind × 65,536 + instance. -/
def akey (kind inst : Nat) : Nat := kind * 65536 + inst

/-- An instance; while every freeze bit of the block is set, Trivet's request stands at each (14 R409). -/
def State.arbAt (s : State) (kind inst : Nat) : Arb :=
  let a : Arb := mapGet {} s.arb (akey kind inst)
  if s.pwr.frozen then { a with freeze := a.freeze ||| 2 } else a

def State.setArb (s : State) (kind inst : Nat) (a : Arb) : State := s.modArb fun m => mapSet {} m (akey kind inst) a

/-- The arbiter instances that grant into a domain. The command buses of a Stockpot and the egress ports of a port group
grant out of it, and let what has entered leave (11 R353; 14 R416). -/
def arbsInto (d : Nat) : List (Nat × Nat) :=
  if d < 64 then [(1, d)]
  else if d < 72 then [(0, 0x200 + (d - 64))]
  else if d < 80 then [(0, d - 72)]
  else if d < 84 then [(0, 0x100 + (d - 80)), (2, d - 80)]
  else if d = 87 then (List.range 32).map fun m => (0, 0x300 + m)
  else []

/-- A freeze bit of an instance is asked for or withdrawn: 1 is Ladel's, 2 Trivet's, 8 the Stockpot's own (10 R325; 13
R397). -/
def State.freezeArb (s : State) (kind inst who : Nat) (on : Bool) : State :=
  let a := s.arbAt kind inst
  s.setArb kind inst { a with freeze := if on then a.freeze ||| who else a.freeze &&& (15 - who) }

/-- The same for every arbiter into a domain. -/
def State.freezeInto (s : State) (d who : Nat) (on : Bool) : State :=
  (arbsInto d).foldl (fun s k => s.freezeArb k.1 k.2 who on) s

/-! ### Residency (14 R426; 17 R470) and the doorkeeper (14 R413, R415) -/

/-- Entry of a domain: 0 to 5 RCLK in P0 to P5, 6 entries, 7 aborted entries, 8 exits. -/
def State.domBump (s : State) (d entry n : Nat) : State :=
  s.modStress fun x => { x with resid := mapSet 0 x.resid (16 * d + entry) (mapGet 0 x.resid (16 * d + entry) + n) }

/-- A domain is about to leave its state: the time that it has spent there is counted. -/
def State.settleDom (s : State) (d : Nat) : State :=
  (s.domBump d (s.dom d).state (s.clk.now - (s.dom d).since)).modDom d fun x => { x with since := s.clk.now }

/-- An entry that has not reached its commit edge is aborted: a domain at P0 is thawed and stays there, a lower one goes back to
P0 (14 R413). -/
def State.abortEntry (s : State) (d : Nat) : State :=
  let x := s.dom d
  if x.entering then
    ((if x.state = 0 then s.freezeInto d 2 false else s).modDom d fun x => { x with entering := false }).domBump d 7 1
  else s

/-- A doorkeeper wakes its domain: an entry under way is aborted, and the exit time of a state below P0 starts on this edge
(14 R413, R415). -/
def State.wakeDom (s : State) (d : Nat) : State :=
  (s.abortEntry d).modDom d fun x =>
    if x.state = 0 then { x with idle := none }
    else match x.wake with
      | some _ => x
      | none => { x with wake := some (s.clk.now + tclkR (exitTime x.state)) }

/-- A signal is held at the doorkeeper of a gated domain, in a queue of 16; further ones wait at their senders. The domain is
woken (14 R415). -/
def State.holdSig (s : State) (d : Nat) (h : HeldSig) : State :=
  (s.modDom d fun x =>
    if x.held.length < 16 then { x with held := x.held ++ [h] } else { x with wait := x.wait ++ [h] }).wakeDom d

/-- The domain accepts requests (14 R411, R415). -/
def State.awake (s : State) (d : Nat) : Bool := decide ((s.dom d).state = 0)

/-- The domain accepts requests, and is not about to be gated. -/
def State.settled (s : State) (d : Nat) : Bool := s.awake d && !(s.dom d).entering

/-- A request that reaches the doorkeeper before the commit edge of an entry aborts it (14 R413). -/
def State.reach (s : State) (d : Nat) : State := if (s.dom d).entering then s.wakeDom d else s

/-- The epoch of domain d (14 R417). -/
def State.epoch (s : State) (d : Nat) : Nat := (s.dom d).epoch

/-! ### Signals (08 R243 to R247; 04 R153) -/

/-- A counter address names a tile of this build and a counter 0 to 47 (01 R32). -/
def State.ctrOk (s : State) (addr : Nat) : Bool := decide (addr / 64 < s.build.tiles) && decide (addr % 64 < 48)

/-- The value of a counter, the ledger entry of a saved tile included (08 R250). -/
def State.ctrValue (s : State) (addr : Nat) : Nat :=
  let t := addr / 64
  match mapFind s.tl.saves t with
  | some v =>
    if (s.tile t).c.state = 6 then (v.r.getCtr (addr % 64) + mapGet 0 s.tl.ledger addr) % 2 ^ 32
    else (s.tile t).r.getCtr (addr % 64)
  | none => (s.tile t).r.getCtr (addr % 64)

/-- A tile that sleeps in a WAIT wakes when a signal reaches the counter it awaits; its bundle issues 24 TCLK later (04
R145). -/
def wakeOn (now c : Nat) (x : Tile) : Tile :=
  match x.x.blocked with
  | some (.wait k _) =>
    if x.x.asleep = true ∧ k = c then { x with x := { x.x with asleep := false, wakeAt := now + tclkR 24 } } else x
  | _ => x

/-- The partition that a tile belongs to: of the load that filled it, or of its saved context (08 R245; 04 R153); none while
it is EMPTY. -/
def State.belongs (s : State) (t : Nat) : Option Nat :=
  let c := (s.tile t).c
  if c.state = 0 then none
  else if c.state = 6 then some (match mapFind s.tl.saves t with
    | some v => v.cr.part
    | none => c.owner)
  else some c.owner

/-- The target tile accepts signals of a partition (08 R245). -/
def State.sigAccepts (s : State) (addr part : Nat) : Bool :=
  s.ctrOk addr && decide (s.belongs (addr / 64) = some part)

/-- What the updates of this TCLK edge have added to the counters of a tile, SUB taken off, modulo 2^32 (08 R246). -/
def TileAux.netNow (x : TileAux) (now : Nat) : Map Nat := if x.netAt = now / 8 then x.net else []

/-- An update of this edge is remembered, so that a hand-set of the same edge can precede it (08 R246). -/
def TileAux.noteNet (x : TileAux) (now c n : Nat) : TileAux :=
  let m := x.netNow now
  { x with
    netAt := now / 8, net := mapSet 0 m c ((mapGet 0 m c + n) % 2 ^ 32) }

/-- Adds an amount to a counter, or to the ledger of a SAVED tile (08 R246; 04 R153). -/
def State.addCtr (s : State) (addr amount : Nat) : State :=
  let t := addr / 64
  let c := addr % 64
  if (s.tile t).c.state = 6 then
    s.modTl fun l => { l with ledger := mapSet 0 l.ledger addr ((mapGet 0 l.ledger addr + amount) % 2 ^ 32) }
  else s.modTile t fun x =>
    wakeOn s.clk.now c { x with r := x.r.setCtr c (x.r.getCtr c + amount), x := x.x.noteNet s.clk.now c amount }

/-- A debugger's hand-set replaces a counter's value, before the signals and the SUB of its edge (08 R246; 17 R481), and
wakes a tile that sleeps in a WAIT for it. -/
def State.handCtr (s : State) (addr v : Nat) : State :=
  let c := addr % 64
  s.modTile (addr / 64) fun x => wakeOn s.clk.now c { x with r := x.r.setCtr c (v + mapGet 0 (x.x.netNow s.clk.now) c) }

/-- Counts an applied signal by path, and a stray one (08 R244; 17 R470). -/
def State.countSig (s : State) (addr path : Nat) : State :=
  let n := addr / 64 / 32
  let s := s.bump n (21 + path) 1
  if bit (s.tile (addr / 64)).c.ctrMask (addr % 64) then s else s.bump n 26 1

/-- Applies a signal, or nothing if the target refuses it (08 R245). -/
def State.applySig (s : State) (addr amount part path : Nat) : Option State :=
  if s.sigAccepts addr part then some ((s.addCtr addr amount).countSig addr path) else none

/-! ### Faults (04 R146) -/

/-- Nothing that a tile has issued is still under way: transfers, fences, an MMA that waits. -/
def Tile.drained (x : Tile) : Bool :=
  x.c.xq.isEmpty && x.c.xrun.isNone && x.c.fences.isEmpty && x.x.mmaWait.isNone

/-- A tile enters FAULTED: its fault record is written and an event is raised. -/
def State.enterFault (s : State) (t : Nat) (f : Failing) : State :=
  let x := s.tile t
  let rec_ := f.code * 2 ^ 56 + f.bundle * 2 ^ 46 + f.slot * 2 ^ 44 + s.clk.ftc % 2 ^ 44
  let s := s.setTile t
    { x with
      cr := { x.cr with fault := rec_ },
      c := { x.c with state := 5, frozen := false, stopped := false, failing := none },
      x := { x.x with blocked := none, stuckAt := none, asleep := false } }
  (s.bump (t / 32) (10 + f.code) 1).raise (srcTile t) 0x0301 (beBytes 8 rec_)

/-- A tile faults at the bundle that it is at: it stops, and enters FAULTED at once where what it has issued has run out,
otherwise when it has. Of two faults the first stands. -/
def State.tileFault (s : State) (t code slot : Nat) : State :=
  let x := s.tile t
  let f : Failing := ⟨code, x.r.pc % 1024, slot⟩
  if x.drained then s.enterFault t f
  else if x.c.failing.isSome then s
  else s.setTile t
    { x with
      c := { x.c with failing := some f }, x := { x.x with blocked := none, stuckAt := none, asleep := false } }

/-- A fault of a tile outside the issue of a bundle, a refused transfer or signal: it takes effect on a tile that holds a
program and has not faulted. The record names the bundle that PC holds, and the slot that the operation came from (DESIGN
CHOICE, log 71: R146 gives neither for such a fault). -/
def State.asyncFault (s : State) (t code slot : Nat) : State :=
  if [2, 3, 4].contains (s.tile t).c.state && (s.tile t).c.failing.isNone then s.tileFault t code slot else s

/-- Fault codes (04 R146). -/
def fAddr : Nat := 1
def fIllegal : Nat := 2
def fUnfenced : Nat := 3
def fUnderflow : Nat := 4
def fCtrAddr : Nat := 5
def fStrictOp : Nat := 6
def fXferRefused : Nat := 7
def fPcRange : Nat := 8
def fDebugStop : Nat := 9
def fSigRefused : Nat := 10

/-- A signal that the target refuses: its sender takes SIG_REFUSED where it is a tile (08 R245). -/
def State.sigRefused (s : State) (tile : Option Nat) : State :=
  match tile with
  | some t =>
    let s := s.bump (t / 32) 27 1
    if [3, 4].contains (s.tile t).c.state then s.asyncFault t fSigRefused 3 else s
  | none => s

/-- Sends a signal: it is applied, refused, or held by the doorkeeper of a gated Skillet, which it wakes (08 R245;
14 R415). -/
def State.sendSig (s : State) (h : HeldSig) : State :=
  let d := h.addr / 64 / 32
  if s.awake d then
    let s := s.reach d
    match s.applySig h.addr h.amount h.part h.path with
    | some s' => s'
    | none => s.sigRefused h.tile
  else s.holdSig d h

/-- A signal of a SYNC frame or of Ladel that the target refuses is counted in its Skillet; a counter address that names no
counter is logged (01 R32; 08 R245, R264). -/
def State.refusedSig (s : State) (addr : Nat) : State :=
  if s.ctrOk addr then s.bump (addr / 64 / 32) 27 1 else s.note srcSync 32 addr

/-- The path of a signal between tiles, for the tallies (17 R470). -/
def sigPath (t addr : Nat) : Nat :=
  if addr / 64 = t then 0 else if addr / 64 / 32 = t / 32 then 1 else 2

/-- A fenced signal of 1 or more from a hub, the query dispatcher or a Ladel core (08 R251). -/
def State.hubSig (s : State) (addr amount part : Nat) : State :=
  s.sendSig { addr := addr, amount := amount, part := part, path := 3 }

end Sys2Proof.Machine
end

