-- ==== Sys2Proof/Machine/Frame.lean ====
section
/-! DEFINITION. Cells and headers (02 R39 to R46, R54), the requester table (16 R462), the interleave of 11 R333 as far
as it names a stack, staging for egress and frames that the block originates (02 R51, R52; 10 R301). -/

namespace Sys2Proof.Machine

/-! ### Cell prefix (02 R40) -/
def pfx (c : List Byte) : Nat := natAt c 0 12
def pfxReq (c : List Byte) : Nat := bits (pfx c) 95 76
def pfxSeq (c : List Byte) : Nat := bits (pfx c) 75 44
def pfxKind (c : List Byte) : Nat := bits (pfx c) 43 40
def pfxIndex (c : List Byte) : Nat := bits (pfx c) 39 24
def pfxCount (c : List Byte) : Nat := bits (pfx c) 23 8
def pfxAtt (c : List Byte) : Nat := bits (pfx c) 7 4
def pfxRsv (c : List Byte) : Nat := bits (pfx c) 3 0

/-- The prefix bytes of a cell. -/
def mkPfx (req seq kind index count att : Nat) : List Byte :=
  beBytes 12 (req * 2 ^ 76 + seq * 2 ^ 44 + kind * 2 ^ 40 + index * 2 ^ 24 + count * 2 ^ 8 + att * 2 ^ 4)

/-- A cell with its CCRC (02 R39, R43). -/
def mkCell (p body : List Byte) : List Byte :=
  let c := p ++ fitBytes 240 body
  c ++ beBytes 4 (crc32c c)

/-- COUNT of a frame with P payload bytes (02 R41). -/
def cellCount (p : Nat) : Nat := 1 + ceilDiv (p - 176) 240

/-! ### Request header (02 R44, R48), over its 64 bytes -/
def hOp (h : List Byte) : Nat := natAt h 0 1
def hClass (h : List Byte) : Nat := bits (natAt h 1 2) 15 10
def hPart (h : List Byte) : Nat := bits (natAt h 1 2) 9 4
def hAtt (h : List Byte) : Nat := bits (natAt h 1 2) 3 0
def hVer (h : List Byte) : Nat := natAt h 3 1 / 16
def hReq (h : List Byte) : Nat := natAt h 4 4 / 4096
def hSeq (h : List Byte) : Nat := natAt h 8 4
def hLen (h : List Byte) : Nat := natAt h 12 4
def hFtc (h : List Byte) : Nat := natAt h 16 8
def hHandle (h : List Byte) : Nat := natAt h 24 3
def hOfs (h : List Byte) : Nat := natAt h 27 5
def hFlags (h : List Byte) : Nat := natAt h 32 4
def hDigest (h : List Byte) : Bool := bit (hFlags h) 0
def hOrdered (h : List Byte) : Bool := bit (hFlags h) 1
/-- An operand by header offset and size. -/
def hArg (h : List Byte) (ofs n : Nat) : Nat := natAt h ofs n
/-- A header with its HCRC (02 R44). -/
def mkHdr (b : List Byte) : List Byte := let h := fitBytes 60 b; h ++ beBytes 4 (crc32c h)

/-- Opcodes (02 R48). -/
def opRead : Nat := 0x01
def opWrite : Nat := 0x02
def opAccum : Nat := 0x10
def opRedOpen : Nat := 0x11
def opRedClose : Nat := 0x12
def opMcast : Nat := 0x18
def opKvAppend : Nat := 0x20
def opAttnQuery : Nat := 0x21
def opOptStep : Nat := 0x28
def opSync : Nat := 0x30
def opBarrier : Nat := 0x31
def opLaunch : Nat := 0x38
def opMgmt : Nat := 0x3F

/-- Response codes (02 R55). -/
def cDone : Nat := 0x00
def cDoneLate : Nat := 0x01
def cRed : Nat := 0x10
def cPartition : Nat := 0x11
def cCapacity : Nat := 0x12
def cRegion : Nat := 0x13
def cFormat : Nat := 0x14
def cSequence : Nat := 0x15
def cState : Nat := 0x16
def cStrict : Nat := 0x17
def cUncorrectable : Nat := 0x20
def cPoison : Nat := 0x21
def cEpoch : Nat := 0x30
def cReplay : Nat := 0x31
def cIncomplete : Nat := 0x32
def cDupAnswered : Nat := 0x40
def cDupInProgress : Nat := 0x41

/-- The slot state that a final code leaves (02 R55, R71). -/
def codeState (code : Nat) : Nat := if code = 0 ∨ code = 1 ∨ code = 0x20 ∨ code = 0x21 then 2 else 3

/-- The STEP operand of an opcode that has one (02 R48). -/
def hStep? (h : List Byte) : Option Nat :=
  if [0x10, 0x11, 0x12, 0x18, 0x28, 0x30, 0x31, 0x38].contains (hOp h) then some (hArg h 44 8) else none

/-- Bytes of the request payload (02 R48). -/
def hPayload (h : List Byte) : Nat :=
  match hOp h with
  | 0x02 | 0x10 | 0x20 | 0x21 => hLen h
  | 0x3F => if hArg h 36 1 = 2 ∨ hArg h 36 1 = 4 then hLen h else 0
  | _ => 0

/-! ### Handles (01 R24) -/
def hdPart (h : Nat) : Nat := bits h 23 18
def hdRsv (h : Nat) : Nat := bits h 17 14
def hdDesc (h : Nat) : Nat := bits h 13 0

/-! ### Operations on KV streams (06 R183, R185, R187) -/

/-- The stream that a KV_APPEND or ATTN_QUERY names: region, context, layer, KV head. -/
def kvStream (h : List Byte) : List Nat := [hdDesc (hHandle h), hArg h 40 4, hArg h 38 2, hArg h 44 2]

/-- Its tokens: the first and how many. -/
def kvTokens (h : List Byte) : Nat × Nat := if hOp h = opKvAppend then (hArg h 48 4, hArg h 52 4) else (0, hArg h 48 4)

/-- The global page of an append. -/
def kvPage (h : List Byte) : Nat := hArg h 48 4 / 4096

/-- G of a query. -/
def kvG (h : List Byte) : Nat := ceilDiv (hArg h 48 4) 4096

/-- Two operations overlap (06 R185). -/
def kvOverlap (a b : List Byte) : Bool :=
  decide (kvStream a = kvStream b) && !(hOp a = opAttnQuery && hOp b = opAttnQuery) &&
    overlaps (kvTokens a).1 (kvTokens a).2 (kvTokens b).1 (kvTokens b).2

/-! ### Keys -/
/-- Key of an operation. -/
def opKey (req seq : Nat) : Nat := req * 2 ^ 32 + seq
/-- Key of a reassembly. -/
def raKey (req seq att : Nat) : Nat := (req * 2 ^ 32 + seq) * 16 + att

/-! ### Requesters (16 R462) -/

/-- Entry r of REQ_TABLE. -/
def State.reqEntry (s : State) (r : Nat) : Nat := beNat (s.blob 0xC000 5 (8 * r) 8)
def rqValid (w : Nat) : Bool := bit w 63
def rqPeer (w : Nat) : Bool := bit w 62
def rqPart (w : Nat) : Nat := bits w 57 52
def rqReq (w : Nat) : Nat := bits w 51 32
def rqSeq0 (w : Nat) : Nat := bits w 31 0

/-- The entries that may be valid: those of which some byte is listed. -/
def State.reqListed (s : State) : List Nat :=
  let lo := bkey 0xC000 5 0
  ((s.dict.blob.filter fun p => decide (lo ≤ p.1) && decide (p.1 < lo + 8 * s.build.reqEntries)).map
    fun p => (p.1 - lo) / 8).eraseDups

/-- The valid entry that binds a requester. -/
def State.findReq (s : State) (req : Nat) : Option Nat :=
  s.reqListed.find? fun r => rqValid (s.reqEntry r) && decide (rqReq (s.reqEntry r) = req)

/-- The number of valid entries. -/
def State.reqBound (s : State) : Nat := (s.reqListed.filter fun r => rqValid (s.reqEntry r)).length

/-- The requester is listed in MGMT_EPS (02 R50; 16 R461). -/
def State.isMgmtEp (s : State) (req : Nat) : Bool :=
  (List.range 16).any fun i =>
    let w := beNat (s.blob 0xC000 6 (4 * i) 4)
    bit w 31 && decide (bits w 19 0 = req)

/-! ### The stack that holds a BPA (11 R332, R333) -/

/-- The selector q of a granule number under the interleave order in force. -/
def State.granSel (s : State) (g : Nat) : Nat :=
  let w := if s.param 0x3F00 1 = 1 ∨ s.param 0x3F00 1 = 3 then 4 else 0
  (g >>> w) % (60 * s.build.S)

/-- The stack that holds a BPA. -/
def State.stackOf (s : State) (bpa : Nat) : Nat :=
  let q := s.granSel (bpa / 64)
  if s.param 0x3F00 1 < 2 then q / 60 else q % s.build.S

/-! ### Ports -/
def State.port (s : State) (p : Nat) : Port := mapGet {} s.frm.ports p
def State.setPort (s : State) (p : Nat) (x : Port) : State :=
  s.modFrm fun f => { f with ports := mapSet {} f.ports p x }
def State.modPort (s : State) (p : Nat) (f : Port → Port) : State := s.setPort p (f (s.port p))

/-- The ports that are up, rising (10 R301). -/
def State.upPorts (s : State) : List Nat := (List.range s.build.A).filter fun p => (s.port p).up

/-- Ingress credits granted to the host so far: one per PCLK up to 3,072 (02 R37). -/
def State.granted (s : State) (p : Nat) : Nat :=
  match (s.port p).start with
  | none => 0
  | some t => min 3072 ((s.clk.now - t) / 6)

/-- Ingress credits that the host holds. -/
def State.credits (s : State) (p : Nat) : Nat := s.granted p - (s.port p).held

/-- A held cell is freed and its credit returned (02 R37). -/
def State.freeCell (s : State) (p : Nat) : State := s.modPort p fun x => { x with held := x.held - 1 }

/-- Frees every cell parked under a key. -/
def State.freeKey (s : State) (k : Nat) : State :=
  match mapFind s.frm.reasm k with
  | none => s
  | some r =>
    let s := (mapVals r.cells).foldl (fun s c => s.freeCell c.port) s
    s.modFrm fun f => { f with reasm := mapDel f.reasm k }

/-- The payload of an operation whose cells are all parked, in frame order (02 R41). -/
def Reasm.bytes (r : Reasm) : List Byte :=
  ((r.cells.map fun p => if p.1 = 0 then sliceBytes p.2.cell 76 176 else sliceBytes p.2.cell 12 240)).flatten

/-- The cells that a frame of n cells needs are all held: a stray cell, whose INDEX is n or more, counts for none of them
(02 R41, R59 step 10). -/
def Reasm.holds (r : Reasm) (n : Nat) : Bool := decide ((r.cells.filter fun p => decide (p.1 < n)).length = n)

/-! ### Egress staging (02 R37, R57; 10 R308) -/

/-- A frame's cells, header cell first (02 R39, R41, R54). -/
def Resp.payloadCells (r : Resp) : Nat := cellCount r.payload.length

/-- The 64 header bytes of a response or delivery (02 R54). -/
def Resp.header (r : Resp) : List Byte :=
  if r.kind = 1 then r.hdr
  else
    mkHdr (beBytes 1 r.op ++ beBytes 1 r.code ++ beBytes 1 r.orig ++
      beBytes 1 (0x30 + (if r.notHeld then 4 else 0) + (if r.digest.isSome then 2 else 0)) ++
      beBytes 4 (r.req * 4096 + r.att) ++ beBytes 4 r.seq ++ beBytes 4 r.payload.length ++ beBytes 8 r.ftc ++
      beBytes 4 r.aux ++ beBytes 2 r.epoch ++ beBytes 2 r.source ++ fitBytes 16 (r.digest.getD []))

/-- Cell i of a frame. -/
def Resp.cell (r : Resp) (i : Nat) : List Byte :=
  let n := r.payloadCells
  if i = 0 then mkCell (mkPfx r.req r.seq r.kind 0 n r.att) (r.header ++ sliceBytes r.payload 0 176)
  else mkCell (mkPfx r.req r.seq (r.kind + 1) i n r.att) (sliceBytes r.payload (176 + 240 * (i - 1)) 240)

/-- Stages a frame in its egress queue, behind the frames that stand there: its cells pass in order through the 64 cells of
the queue's staging (02 R37; 10 R308). A W queue that was empty is to wake (10 R310). -/
def State.stage (s : State) (p : Nat) (r : Resp) : State :=
  s.modPort p fun x =>
    let q := x.queues.getD r.eq []
    { x with
      queues := x.queues.set r.eq
        (q ++ [{ resp := r, at_ := s.clk.now, dry0 := x.dry, wake := q.isEmpty && decide (4 ≤ r.eq) }]) }

/-- The cells of egress queue q that the port's staging holds: those not yet sent, in order, 64 at most (02 R37). -/
def Port.staged (x : Port) (q : Nat) : Nat :=
  min 64 ((x.queues.getD q []).map fun f => f.resp.payloadCells - f.sent).sum

/-- The egress queue of a class as it stands (10 R299). -/
def State.egressQ (s : State) (c : Nat) : Nat := s.param (0x5200 + c) 2

/-- SYS_CLASS: the class of every originated frame but remote signals and forwarded queries (10 R301). -/
def State.sysClass (s : State) : Nat := s.param 0x5000 4

/-! ### Originated frames (02 R51, R52; 10 R301) -/

/-- The valid PEER_TABLE entry of an endpoint. -/
def State.peerListed (s : State) : List Nat :=
  let lo := bkey 0x5100 8 0
  ((s.dict.blob.filter fun p => decide (lo ≤ p.1) && decide (p.1 < lo + 32768)).map fun p => (p.1 - lo) / 8).eraseDups

def State.peerEntry (s : State) (i : Nat) : Nat := beNat (s.blob 0x5100 8 (8 * i) 8)

def State.findPeer (s : State) (ep : Nat) : Option Nat :=
  s.peerListed.find? fun i => bit (s.peerEntry i) 63 && decide (bits (s.peerEntry i) 51 32 = ep)

/-- The header of an originated frame: its body is header bytes 12 to 59, whose FTC is set when it is sent. -/
def OrigFrame.header (o : OrigFrame) (blockEp ftc : Nat) : List Byte :=
  let b := splice (fitBytes 48 o.body) 4 (beBytes 8 ftc)
  mkHdr (beBytes 1 o.op ++ beBytes 2 (o.cls * 1024 + o.part * 16 + o.att) ++ beBytes 1 0x30 ++
    beBytes 4 (blockEp * 4096) ++ beBytes 4 o.seq ++ b)

/-- The frame as it is staged for egress: cells of KIND 1 and 2, the requester ID being the destination endpoint's
prefix in egress (02 R40). -/
def OrigFrame.resp (s : State) (o : OrigFrame) : Resp :=
  { req := o.ep, seq := o.seq, att := o.att, op := o.op, code := 0, payload := o.payload, cls := o.cls,
    eq := o.eq.getD (s.egressQ o.cls), kind := 1, ftc := s.clk.ftc, hdr := o.header s.blockEp s.clk.ftc }

/-- Stages an originated frame, a delivery or a notification on the port that its number picks (10 R301); with no port
up it waits. -/
def State.stagePick (s : State) (r : Resp) : State :=
  match s.upPorts with
  | [] => s.modFrm fun f => { f with noPort := f.noPort ++ [r] }
  | ps => s.stage (ps.getD (r.seq % ps.length) 0) r

/-- A further frame may go to a destination: the block originates frames, and the number 64 before the next one has its final
response (02 R52, R62, R75). -/
def State.mayOriginate (s : State) (ep : Nat) : Bool :=
  decide (s.blockEp ≠ 0) && (mapFind s.frm.orig (opKey ep ((mapGet 0 s.frm.next ep + 2 ^ 32 - 64) % 2 ^ 32))).isNone

/-- The first send of a forwarded query is remembered (06 R200). -/
def State.firstSent (s : State) (p : Purpose) : State :=
  match p with
  | .spill k i => s.modAtt fun a =>
      { a with
        queries := mapMod a.queries k fun q =>
          { q with spills := q.spills.modify i fun x => { x with sent := some (x.sent.getD s.clk.now) } } }
  | _ => s

/-- Sends an originated frame now: it takes the destination's next number (02 R52). -/
def State.sendOrig (s : State) (o : OrigFrame) : State :=
  let s := s.firstSent o.purpose
  let n := mapGet 0 s.frm.next o.ep
  let o := { o with seq := n }
  let s := s.modFrm fun f =>
    { f with
      next := mapPut f.next o.ep ((n + 1) % 2 ^ 32),
      orig := mapPut f.orig (opKey o.ep n) o }
  s.stagePick (o.resp s)

/-- Frames that wait for a destination are sent, oldest first, as far as its window goes. -/
def State.sendWaiting (fuel : Nat) (s : State) (ep : Nat) : State :=
  match fuel with
  | 0 => s
  | k + 1 =>
    match s.frm.waiting.find? fun o => decide (o.ep = ep) with
    | some o =>
      if s.mayOriginate ep then ((s.modFrm fun f => { f with waiting := f.waiting.erase o }).sendOrig o).sendWaiting k ep
      else s
    | none => s

/-- Originates a frame: it is sent, or waits for the window of its destination. A frame for an endpoint with no valid entry
is not sent, and an event names the endpoint (02 R52): none is answered then. While BLOCK_EP is 0 the action ends in the
same way, and what had been queued before, or is to be resent, waits (DESIGN CHOICE, log 98: 02 R75 only says that no frame
is originated). -/
def State.originate (s : State) (o : OrigFrame) : Option State :=
  if s.blockEp = 0 ∨ (s.findPeer o.ep).isNone then none
  else some ((s.modFrm fun f => { f with waiting := f.waiting ++ [o] }).sendWaiting 64 o.ep)

/-- The event of a frame that could not be originated (02 R52). -/
def State.noPeer (s : State) (ep : Nat) : State := s.note 4 52 ep

/-- A final answer ends an outstanding frame, and the frames that waited for the window are sent (02 R52). -/
def State.endOrig (s : State) (ep seq : Nat) : State :=
  (s.modFrm fun f => { f with orig := mapDel f.orig (opKey ep seq) }).sendWaiting 64 ep

/-- The frame of the block that an answer is for; an abandoned one has no action left that waits for it. -/
def State.awaited (s : State) (ep seq : Nat) : Option OrigFrame :=
  match mapFind s.frm.orig (opKey ep seq) with
  | some o => if o.dead then none else some o
  | none => none

/-- An answer to no frame that is awaited: a final one to an abandoned frame gives its number free (02 R62). -/
def State.lateAnswer (s : State) (ep seq code : Nat) : State :=
  match mapFind s.frm.orig (opKey ep seq) with
  | some o => if o.dead && decide (code ≠ cDupInProgress) then s.endOrig ep seq else s
  | none => s

/-- A frame is abandoned: its number still awaits a final response (02 R62, R63). -/
def State.abandonOrig (s : State) (ep seq : Nat) : State :=
  s.modFrm fun f => { f with orig := mapMod f.orig (opKey ep seq) fun o => { o with dead := true } }

/-- Resends an outstanding frame with ATTEMPT raised by one, its number kept (02 R52, R63); while BLOCK_EP is 0 nothing is
sent (02 R75). -/
def State.resendOrig (s : State) (ep seq : Nat) : State :=
  match mapFind s.frm.orig (opKey ep seq) with
  | none => s
  | some o =>
    if s.blockEp = 0 then s
    else
    let o := { o with att := o.att + 1 }
    let s := s.modFrm fun f => { f with orig := mapPut f.orig (opKey ep seq) o }
    s.stagePick (o.resp s)

end Sys2Proof.Machine
end

