-- ==== Sys2Proof/Machine/Digest.lean ====
section
/-! DEFINITION. Weights digests (09 R292 to R294). -/

namespace Sys2Proof.Machine

/-- The first 16 bytes of SHA-256 (09 R292). -/
def trunc16 (b : List Byte) : List Byte := (sha256 b).take 16

/-- The nodes of a level from those of the level below (09 R292). -/
def merkleLevel (l : List (List Byte)) : List (List Byte) :=
  match l with
  | [] => []
  | [a] => [a]
  | a :: b :: r => trunc16 (1 :: (a ++ b)) :: merkleLevel r

/-- The root over a list of leaves. -/
def merkleRoot (fuel : Nat) (l : List (List Byte)) : List Byte :=
  match fuel with
  | 0 => l.headD []
  | k + 1 => if l.length ≤ 1 then l.headD [] else merkleRoot k (merkleLevel l)

/-- Leaves of a digest space (09 R292). -/
def leafCount (len : Nat) : Nat := ceilDiv len 1048576

/-- ROOT of a digest space of `len` bytes whose bytes from an offset a function reads (09 R292). -/
def rootOf (len : Nat) (read : Nat → Nat → List Byte) : Nat :=
  beNat (merkleRoot 32 ((List.range (leafCount len)).map fun i =>
    trunc16 (0 :: fitBytes 1048576 (read (1048576 * i) (min 1048576 (len - 1048576 * i))))))

/-- ROOT of a zeroed space: every node of a level that covers whole subtrees is the same. -/
def zeroRoot (len : Nat) : Nat := rootOf len fun _ n => List.replicate n 0

/-- Dirty leaves of a region (09 R294). -/
def State.dirtyCount (s : State) (desc : Nat) : Nat :=
  (s.rgn.dirty.filter fun p => decide (p.1 / 2 ^ 20 = desc)).length

/-- ROOT of a region other than PARAM over its bytes as they stand. -/
def State.rangeRoot (s : State) (d : Desc) : Nat :=
  rootOf (d.length * 2097152) fun o n => s.loadZ (d.base * 2097152 + o) n

/-- Leaves that a pass has rehashed, counted at the Stockpot of a leaf's first granule, whose digest engine reads it at the
lowest stack priority, as background work (09 R293; 10 R299; 17 R470; DESIGN CHOICE, log 92). -/
def State.leavesHashed (s : State) (d : Desc) (l : List Nat) : State :=
  l.foldl (fun s i => s.bump (64 + s.stackOf (d.base * 2097152 + 1048576 * i)) 1922 1) s

/-- The WEIGHTS that a result digest takes from a region: ROOT, once every write before it has been rehashed (09 R291,
R294). -/
def State.weightsRoot (s : State) (desc : Nat) (d : Desc) : Nat :=
  if !d.digest then 0 else if d.kind = 1 ∨ s.dirtyCount desc = 0 then d.root else s.rangeRoot d

end Sys2Proof.Machine
end

