-- ==== Sys2Proof/Machine/Layout.lean ====
section
/-! DEFINITION. Where the bytes of a region lie: its backing range, the header and the page map of a PARAM region, and the
pieces of a range (01 R26; 07 R210 to R213). -/

namespace Sys2Proof.Machine

/-! ### Kinds of regions -/

def kData : Nat := 0
def kParam : Nat := 1
def kKv : Nat := 2
def kLog : Nat := 3
def kResult : Nat := 4
def kCode : Nat := 5

/-- The descriptor of a handle. -/
def State.descOf (s : State) (d : Nat) : Desc := mapGet {} s.rgn.desc d

/-! ### Bytes of a region's backing range -/

/-- Replaces bits [hi:lo] of a number. -/
def putBits (w hi lo v : Nat) : Nat := w - (bits w hi lo <<< lo) + ((v % 2 ^ (hi + 1 - lo)) <<< lo)

/-- Bytes of a region. -/
def Desc.capacity (d : Desc) : Nat := d.length * 2097152

/-- The BPA of byte 0 of a descriptor's range. -/
def Desc.bpa0 (d : Desc) : Nat := d.base * 2097152
def Desc.mbpa0 (d : Desc) : Nat := d.mirrorBase * 2097152

/-- Bytes of the backing range as the owning unit reads its own tables. In a mirrored region a granule that has failed in its
first copy is read from the second, where that is good (07 R241). -/
def State.rawRead (s : State) (d : Desc) (ofs n : Nat) : List Byte :=
  let a := d.bpa0 + ofs
  if d.mirror = false ∨ (s.poisonIn a n).isNone then s.mread a n
  else
    (List.range n).map fun i =>
      let b := a + i
      let m := b - d.bpa0 + d.mbpa0
      s.mbyte (if s.failing (b / 64) && !s.failing (m / 64) then m else b)
def State.rawNat (s : State) (d : Desc) (ofs n : Nat) : Nat := beNat (s.rawRead d ofs n)
/-- Writes of the owning unit, to both copies of a mirrored region: whole granules become good, and one covered in part that is
poisoned takes none of the bytes (12 R361, R365). -/
def State.rawWrite (s : State) (d : Desc) (ofs : Nat) (b : List Byte) : State :=
  let s := s.store (d.bpa0 + ofs) b
  if d.mirror then s.store (d.mbpa0 + ofs) b else s

/-! ### PARAM regions (07 R210, R211, R213) -/

def State.prmHdr (s : State) (d : Desc) : Nat := s.rawNat d 0 64
def prmPlanes (h : Nat) : Nat := bits h 511 508
def prmPages (h : Nat) : Nat := bits h 507 493
def prmExtents (h : Nat) : Nat := bits h 492 482
def prmLog (h : Nat) : Nat := bits h 481 458
def prmCast (h : Nat) : Nat := bits h 457 434
def prmCastDtype (h : Nat) : Nat := bits h 433 426
def prmCastOfs (h : Nat) : Nat := bits h 425 386
/-- PSTATE: 0 IDLE, 1 OPEN, 2 FOLDING, 3 DISCARDING. -/
def prmState (h : Nat) : Nat := bits h 385 384
def prmPend (h : Nat) : Nat := bits h 383 320
def prmCommitted (h : Nat) : Nat := bits h 319 256
def prmNupdate (h : Nat) : Nat := bits h 255 250
def prmStale (h : Nat) : Bool := bit h 249
def prmPageBytes (h : Nat) : Nat := 65536 * prmPlanes h

def State.setPrmHdr (s : State) (d : Desc) (h : Nat) : State := s.rawWrite d 0 (beBytes 64 h)

/-- A page-map entry. -/
def State.pageEntry (s : State) (d : Desc) (p : Nat) : Nat := s.rawNat d (0x10000 + 8 * p) 8
def peSel (e : Nat) : Bool := bit e 15
def peW (e : Nat) : Bool := bit e 14
def peFrame (e : Nat) (second : Bool) : Nat := if second then bits e 39 16 else bits e 63 40

/-- The current frame of a page (07 R213). -/
def curFrame (h e : Nat) : Nat := peFrame e (xor (peSel e) (peW e && decide (prmState h = 2)))
/-- The shadow frame of a page (07 R213). -/
def shadowFrame (e : Nat) : Nat := peFrame e (!peSel e)

/-- Pieces of a range that do not cross a boundary of n bytes: offset and length. -/
def splitRange (n fuel ofs len : Nat) : List (Nat × Nat) :=
  match fuel with
  | 0 => []
  | k + 1 =>
    if len = 0 then []
    else
      let m := min len (n - ofs % n)
      (ofs, m) :: splitRange n k (ofs + m) (len - m)

/-- The backing pieces of a range of a region: for PARAM, its logical pages resolved through the page map (07 R212). -/
def State.pieces (s : State) (d : Desc) (ofs len : Nat) (shadow : Bool) : List (Nat × Nat) :=
  if d.kind = kParam then
    let h := s.prmHdr d
    let pb := prmPageBytes h
    if pb = 0 then []
    else (splitRange pb (len / pb + 2) ofs len).map fun q =>
      let e := s.pageEntry d (q.1 / pb)
      (0x200000 + (if shadow then shadowFrame e else curFrame h e) * pb + q.1 % pb, q.2)
  else [(ofs, len)]

end Sys2Proof.Machine
end

