-- ==== Sys2Proof/Machine/WhiskBase.lean ====
section
/-! DEFINITION. Storage of reduction slots (03 R83, R92, R93): placement of blocks in slot SRAM and in the spill area,
escape room, and what an operation leaves behind in the units when it ends without its effect. -/

namespace Sys2Proof.Machine

/-! ### Sizes (03 R92) -/

def compactBytes : Nat := 576
def wideBytes : Nat := 2624
/-- One quadrant's part of slot SRAM. -/
def sramPart : Nat := 16777216
/-- Compact blocks that the spill area holds, and bytes of the escape reserve. -/
def State.spillCap (s : State) : Nat := 301989888 * s.build.S / compactBytes
def State.escCap (s : State) : Nat := 33554432 * s.build.S

/-- Elements of an ACCUM payload of a DTYPE other than 0x20; none where LENGTH is not a whole number of units (03 R82). -/
def accumCount (dtype len : Nat) : Option Nat :=
  let unit := match dtype with
    | 0x01 | 0x02 | 0x0B => (1, 1)
    | 0x03 | 0x04 => (2, 1)
    | 0x05 | 0x0C | 0x21 => (4, 1)
    | 0x06 | 0x07 => (33, 32)
    | 0x08 | 0x09 => (25, 32)
    | 0x0A => (17, 32)
    | _ => (0, 0)
  if unit.1 = 0 ∨ len % unit.1 ≠ 0 then none else some (len / unit.1 * unit.2)

/-! ### Slots -/

def slotKey (part slot : Nat) : Nat := part * 2 ^ 32 + slot
def State.slotAt (s : State) (k : Nat) : Option Slot := mapFind s.wsk.slots k
def State.setSlotRec (s : State) (x : Slot) : State :=
  s.modWsk fun w => { w with slots := mapPut w.slots (slotKey x.part x.slot) x }
def Slot.key (x : Slot) : Nat := slotKey x.part x.slot

/-- Blocks of 64 elements of a slot. -/
def Slot.blocks (x : Slot) : Nat := ceilDiv x.n 64

/-- The quadrant whose stripe a block belongs to (03 R83). -/
def Slot.quadOf (x : Slot) (b : Nat) : Nat := (x.q0 + b / 64) % 4

/-- Blocks of a slot of `nb` blocks that quadrant q serves. -/
def quadBlocks (q0 nb q : Nat) : Nat :=
  let r := (q + 4 - q0) % 4
  (nb / 64 + 3 - r) / 4 * 64 + (if nb / 64 % 4 = r then nb % 64 else 0)

/-- A block's place among the blocks of its quadrant. -/
def blockOrd (b : Nat) : Nat := b / 64 / 4 * 64 + b % 64

/-- A block that was placed in slot SRAM at opening; the others lie in the spill area (03 R92). -/
def Slot.inSram (x : Slot) (b : Nat) : Bool := decide (blockOrd b < x.sram.getD (x.quadOf b) 0)

/-- The compact blocks of a new slot: per quadrant in its SRAM part, the rest in the spill area; none where they do not
fit (03 R85, R92). -/
def State.placeBlocks (s : State) (q0 n : Nat) : Option (List Nat × Nat) :=
  let nb := ceilDiv n 64
  let sram := (List.range 4).map fun q =>
    min (quadBlocks q0 nb q) ((sramPart - s.wsk.sram.getD q 0) / compactBytes)
  let spill := nb - sram.foldl (· + ·) 0
  if s.wsk.spill + spill ≤ s.spillCap then some (sram, spill) else none

/-- Takes or returns bytes of the four SRAM parts. -/
def addParts (a b : List Nat) (k : Nat) : List Nat := (List.range 4).map fun q => a.getD q 0 + k * b.getD q 0
def subParts (a b : List Nat) (k : Nat) : List Nat := (List.range 4).map fun q => a.getD q 0 - k * b.getD q 0

/-- Bytes that wide blocks take per SRAM part, and in the reserve. -/
def wideParts (m : Map Nat) : List Nat := (List.range 4).map fun q => (m.filter fun p => decide (p.2 = q)).length * wideBytes
def wideEsc (m : Map Nat) : Nat := (m.filter fun p => decide (p.2 = 4)).length * wideBytes

/-- Compact blocks of a slot that have escaped, by where they were placed. -/
def Slot.leftSram (x : Slot) : List Nat :=
  (List.range 4).map fun q => (x.wide.filter fun p => x.quadOf p.1 = q && x.inSram p.1).length
def Slot.leftSpill (x : Slot) : Nat := (x.wide.filter fun p => !x.inSram p.1).length

/-- A slot gives up its storage: a CLOSED or BROKEN slot holds only its descriptor (03 R84). -/
def State.dropStorage (s : State) (x : Slot) : State :=
  let c := (List.range 4).map fun q => x.sram.getD q 0 - x.leftSram.getD q 0
  (s.modWsk fun w =>
    { w with
      sram := subParts (subParts w.sram c compactBytes) (wideParts x.wide) 1,
      spill := w.spill - (x.spill - x.leftSpill),
      esc := w.esc - wideEsc x.wide }).setSlotRec
    { x with acc := [], sram := [0, 0, 0, 0], spill := 0, wide := [] }

/-! ### Escape room (03 R93) -/

/-- The blocks that elements j0 to j0 + n − 1 touch. -/
def touched (j0 n : Nat) : List Nat := if n = 0 then [] else (List.range ((j0 + n - 1) / 64 - j0 / 64 + 1)).map (j0 / 64 + ·)

/-- Room for one wide block for every touched block that is compact: from the block's quadrant's free slot SRAM first,
then from the escape reserve. -/
def State.findRoom (s : State) (x : Slot) (j0 n : Nat) : Option Room :=
  let step (r : Option Room) (b : Nat) : Option Room :=
    match r with
    | none => none
    | some r =>
      let q := x.quadOf b
      if s.wsk.sram.getD q 0 + r.sram.getD q 0 + wideBytes ≤ sramPart then
        some { r with sram := r.sram.set q (r.sram.getD q 0 + wideBytes), blocks := r.blocks ++ [(b, q)] }
      else if s.wsk.esc + r.esc + wideBytes ≤ s.escCap then
        some { r with esc := r.esc + wideBytes, blocks := r.blocks ++ [(b, 4)] }
      else none
  ((touched j0 n).filter fun b => (mapFind x.wide b).isNone).foldl step (some ⟨[0, 0, 0, 0], 0, []⟩)

/-- Reserves room for an operation. -/
def State.takeRoom (s : State) (k : Nat) (r : Room) : State :=
  s.modWsk fun w =>
    { w with sram := addParts w.sram r.sram 1, esc := w.esc + r.esc, rooms := mapPut w.rooms k r }

/-- Returns an operation's room but for the blocks that escaped into it. -/
def State.dropRoom (s : State) (k : Nat) (kept : Map Nat) : State :=
  match mapFind s.wsk.rooms k with
  | none => s
  | some r => s.modWsk fun w =>
      { w with
        sram := addParts (subParts w.sram r.sram 1) (wideParts kept) 1,
        esc := w.esc - r.esc + wideEsc kept,
        rooms := mapDel w.rooms k }

/-! ### Operations that end without their effect (02 R55, R71) -/

/-- An ACCUM that ends unapplied: its room returns, and what its admission added to C_adm and ADDENDS is removed (03
R88). -/
def State.dropAccum (s : State) (k part : Nat) (h : List Byte) : State :=
  let s := s.dropRoom k []
  match s.slotAt (slotKey part (hArg h 40 4)) with
  | none => s
  | some x =>
    if x.openOps.contains k then
      let n := (accumCount (hArg h 36 1) (hLen h)).getD 0
      let one := if hArg h 36 1 = 0x20 then 0 else 1
      s.setSlotRec { x with openOps := x.openOps.erase k, cAdm := x.cAdm - n, addends := x.addends - one }
    else s

/-- What the units hold for an operation goes with it. -/
def State.dropOp (s : State) (k : Nat) (h : List Byte) : State :=
  match hOp h with
  | 0x10 => s.dropAccum k (hPart h) h
  | 0x12 => s.modWsk fun w =>
      { w with slots := w.slots.map fun p => (p.1, { p.2 with closers := p.2.closers.erase k }) }
  | 0x18 => s.modMc fun m =>
      { m with ops := mapDel m.ops k, list := m.list.filter fun d => d.owed || decide (d.op ≠ k) }
  | 0x20 => s.modAtt fun a => { a with reserved := mapDel a.reserved k }
  | 0x21 => s.modAtt fun a =>
      { a with
        queries := mapDel a.queries k,
        sets := a.sets.map fun p => (p.1, { p.2 with queue := p.2.queue.erase k }) }
  | 0x28 => s.modPar fun a =>
      { a with
        ops := mapDel a.ops k,
        sets := a.sets.map fun p => (p.1, { p.2 with queue := p.2.queue.erase k }) }
  | 0x30 => s.modPwr fun p =>
      { p with
        doms := p.doms.map fun d => (d.1, { d.2 with
          held := d.2.held.filter (fun g => g.op ≠ some k), wait := d.2.wait.filter fun g => g.op ≠ some k }) }
  | 0x31 =>
    (s.modSyn fun y => { y with bars := y.bars.map fun p => (p.1, { p.2 with frames := p.2.frames.erase k }) }).modSch
      fun c => { c with ctxs := c.ctxs.map fun p => (p.1, { p.2 with votes := p.2.votes.erase k }) }
  | 0x38 => s.modSch fun c =>
      { c with ctxs := c.ctxs.map fun p => (p.1,
        { p.2 with arm := p.2.arm.map fun a => if a.op = some k then { a with op := none } else a }) }
  | _ => s

end Sys2Proof.Machine
end

