-- ==== Sys2Proof/Machine/Response.lean ====
section
/-! DEFINITION. The done table, the hold ring, result digests and the final response of an operation (02 R54 to R57,
R66 to R71, R504; 09 R290, R291). -/

namespace Sys2Proof.Machine

/-! ### Stack bytes of a class (10 R312) -/

/-- A tally of class c (17 R470): `port` entries are three to a port, the others stand after them. -/
def State.classTally (s : State) (c entry n : Nat) : State := s.bump (tallyClass c) entry n
def State.classPast (s : State) (entry : Nat) : Nat := 3 * s.build.A + entry

/-- Stack bytes moved for a class are charged to the window (10 R312). -/
def State.chargeClass (s : State) (c n : Nat) : State :=
  (s.modCls fun x => { x with bytes := mapSet 0 x.bytes c (mapGet 0 x.bytes c + n) }).classTally c (s.classPast 0) n

/-! ### Sequence summaries and the done table (02 R58, R66) -/

/-- The summary of REQ_TABLE entry r; a binding that has seen no frame starts at SEQ0 − 1, all slots FREE (16 R462). -/
def State.summary (s : State) (r : Nat) : Summary :=
  match mapFind s.frm.summ r with
  | some x => x
  | none => { high := (rqSeq0 (s.reqEntry r) + 2 ^ 32 - 1) % 2 ^ 32, slots := List.replicate 64 0 }

def State.setSummary (s : State) (r : Nat) (x : Summary) : State :=
  s.modFrm fun f => { f with summ := mapPut f.summ r x }

/-- The state of the slot that serves a sequence number. -/
def State.slotState (s : State) (r seq : Nat) : Nat := (s.summary r).slots.getD (seq % 64) 0

def State.setSlot (s : State) (r seq st : Nat) : State :=
  let x := s.summary r
  s.setSummary r { x with slots := x.slots.set (seq % 64) st }

/-- The done-table entry as accepted by the Stockpot. -/
def State.doneEntry (s : State) (r i : Nat) : DoneEntry := mapGet {} s.frm.done (64 * r + i)

/-- The entry that the last write issued for it leaves: a write not yet accepted counts (02 R67). -/
def State.doneView (s : State) (r i : Nat) : DoneEntry :=
  match s.frm.pend.reverse.find? fun p => decide (p.r = r) && decide (p.slot = i) with
  | some p => p.entry
  | none => s.doneEntry r i

/-- The 16 bytes of an entry (02 R66). -/
def DoneEntry.bytes (e : DoneEntry) : List Byte :=
  beBytes 16 (e.seq * 2 ^ 96 + e.state * 2 ^ 94 + e.attempt * 2 ^ 90 + e.code * 2 ^ 82 + e.opcode * 2 ^ 74 +
    (if e.held then 2 ^ 73 else 0) + e.aux * 2 ^ 32 + e.hold)

/-- Issues a done-table write for a frame of a class, with the response that waits for its acceptance (02 R66, R67). -/
def State.issueDone (s : State) (r i cls : Nat) (e : DoneEntry) (resp : Option (Resp × Nat)) : State :=
  s.modFrm fun f => { f with pend := f.pend ++ [{ r := r, slot := i, entry := e, cls := cls, resp := resp }] }

/-! ### The hold ring (02 R69) -/

/-- Cells of the ring: 128 MiB × S of 256 bytes (01 R22). -/
def State.holdCells (s : State) : Nat := 524288 * s.build.S

/-- Cells in use. -/
def State.holdUsed (s : State) : Nat := (s.frm.holds.map (·.cells)).foldl (· + ·) 0

/-- A response may be held: it carries a payload or a digest and at most 65,536 bytes of payload (02 R69). -/
def Resp.holdable (r : Resp) : Bool :=
  (!r.payload.isEmpty || r.digest.isSome) && decide (r.payload.length ≤ 65536)

/-- A tally of attach port p, in its group's set (17 R470). -/
def State.portBump (s : State) (p entry n : Nat) (part : Option Nat) : State :=
  s.bumpP (72 + p / 4) (17 * (p % 4) + entry) n part

/-- Holds a response if it qualifies and the ring has room, its cells charged to its class (10 R312); says where it
starts. -/
def State.hold (s : State) (port r i : Nat) (x : Resp) : State × Option Nat :=
  let n := x.payloadCells
  if !x.holdable then (s, none)
  else if s.holdCells < s.holdUsed + n then (s.portBump port 9 1 none, none)
  else
    let pos := s.frm.holdPos
    ((s.chargeClass x.cls (256 * n)).modFrm fun f =>
      { f with
        holds := f.holds ++ [{ r := r, slot := i, first := pos, cells := n, resp := x, left := none }],
        holdPos := (pos + n) % s.holdCells },
     some pos)

/-- The response held for a slot, if one is. -/
def State.heldFor (s : State) (r i : Nat) : Option HoldRec :=
  s.frm.holds.find? fun h => decide (h.r = r) && decide (h.slot = i)

/-- Drops what is held for a slot: its number is taken over, or its hold time has ended. -/
def State.dropHeld (s : State) (r i : Nat) : State :=
  s.modFrm fun f => { f with holds := f.holds.filter fun h => !(decide (h.r = r) && decide (h.slot = i)) }

/-! ### Operations -/

def State.op (s : State) (k : Nat) : Option OpRec := mapFind s.frm.ops k
def State.setOp (s : State) (k : Nat) (o : OpRec) : State := s.modFrm fun f => { f with ops := mapPut f.ops k o }
def OpRec.key (o : OpRec) : Nat := opKey o.req o.seq
def OpRec.raKey (o : OpRec) : Nat := Machine.raKey o.req o.seq o.att
def OpRec.opcode (o : OpRec) : Nat := hOp o.hdr
def OpRec.part (o : OpRec) : Nat := hPart o.hdr
def OpRec.cls (o : OpRec) : Nat := hClass o.hdr

/-- Granules that a range touches. -/
def granulesIn (ofs len : Nat) : Nat := if len = 0 then 0 else (ofs + len - 1) / 64 - ofs / 64 + 1

/-- Granules that a Stockpot moves for a write of a range: a granule covered in part is read for its merge and written back (10
R312; 12 R362). -/
def writtenIn (ofs len : Nat) : Nat := granulesIn ofs len + (if len = 0 then 0 else (partialGranules ofs len).length)

/-- The granules that an operation has moved are charged to its class, but for those that were charged as a Stockpot
accepted them (10 R312). -/
def State.chargeOp (s : State) (k n : Nat) : State :=
  match s.op k with
  | some o => (s.chargeClass o.cls (64 * (n - o.moved))).setOp k { o with moved := max n o.moved }
  | none => s

/-- The request payload of an operation. -/
def State.opPayload (s : State) (o : OpRec) : List Byte :=
  match mapFind s.frm.reasm o.raKey with
  | none => []
  | some r => (r.bytes).take (hPayload o.hdr)

/-- Every cell of the frame is present (02 R59 step 10). -/
def State.opWhole (s : State) (o : OpRec) : Bool :=
  match mapFind s.frm.reasm o.raKey with
  | none => false
  | some r => r.holds (cellCount (hPayload o.hdr))

/-- A range of BPAs has a granule in Stockpot st. The map repeats over the stacks, so that a few granules show it. -/
def State.inPot (s : State) (st a n : Nat) : Bool :=
  decide (n ≠ 0) && (List.range (min (granulesIn a n) (960 * s.build.S))).any fun i => decide (s.stackOf (a + 64 * i) = st)

/-- A range of a region has a granule in Stockpot st. -/
def State.rangeInPot (s : State) (st : Nat) (d : Desc) (ofs len : Nat) (shadow : Bool) : Bool :=
  (s.pieces d ofs len shadow).any fun q => s.inPot st (d.bpa0 + q.1) q.2

/-- The hub and quadrant domains that serve an opcode beside the management fabric hub (14 R410). -/
def opDomains (opcode : Nat) : List Nat :=
  match opcode with
  | 0x10 | 0x11 | 0x12 => [80, 81, 82, 83]
  | 0x21 | 0x28 | 0x38 => [84]
  | 0x31 => [84, 85]
  | _ => []

/-- A Stockpot serves an operation: it holds a granule of the range that is read or written, or of a table that resolves it; of an
append, of its region (11 R332; 14 R415). -/
def State.potServes (s : State) (o : OpRec) (st : Nat) : Bool :=
  let d := s.descOf (hdDesc (hHandle o.hdr))
  match o.opcode with
  | 0x01 | 0x02 | 0x18 =>
    s.rangeInPot st d (hOfs o.hdr) (hLen o.hdr) false || (d.kind = kParam && s.inPot st d.bpa0 64)
  | 0x20 => s.rangeInPot st d 0 d.capacity false
  | _ => false

/-- The domains that an operation waits for: gated, or about to be (14 R413, R415). -/
def State.gatedFor (s : State) (o : OpRec) : List Nat :=
  if s.pwr.doms.all fun p => decide (p.2.state = 0) && !p.2.entering then []
  else
    ((86 :: opDomains o.opcode).filter fun d => !s.settled d) ++
      (((List.range s.build.S).filter fun st => !s.settled (64 + st) && s.potServes o st).map (64 + ·))

/-- The doorkeepers of the gated domains that an admitted operation needs wake them (14 R415). -/
def State.wakeFor (s : State) (req seq opcode : Nat) : State :=
  match s.op (opKey req seq) with
  | some o => if o.opcode = opcode ∧ o.phase = 0 then (s.gatedFor o).foldl State.wakeDom s else s
  | none => s

/-- An admitted operation of an opcode that may execute: whole, not waiting under ORDERED, not yet begun, with every domain that
serves it awake (14 R415). -/
def State.ready (s : State) (req seq opcode : Nat) : Option OpRec :=
  match s.op (opKey req seq) with
  | none => none
  | some o =>
    if o.opcode = opcode ∧ o.phase = 0 ∧ o.waits = [] ∧ s.opWhole o = true ∧ s.gatedFor o = [] then some o else none

/-- An operation that executes and whose outcome a later event gives. -/
def State.begin (s : State) (o : OpRec) : State := s.setOp o.key { o with phase := 1 }

/-- OUTSTANDING of a region goes down by one (01 R29). -/
def State.release (s : State) (d : Option Nat) : State :=
  match d with
  | none => s
  | some d => s.modRgn fun r =>
      { r with
        desc := match mapFind r.desc d with
          | none => r.desc
          | some x => mapPut r.desc d { x with outstanding := x.outstanding - 1 } }

/-- The BPA of a byte of a region: in a PARAM region, of its current frame (07 R212). -/
def State.bpa (s : State) (handle ofs : Nat) : Nat :=
  let d := s.descOf (hdDesc handle)
  d.bpa0 + (((s.pieces d ofs 1 false).head?.map Prod.fst).getD ofs)

/-- The quadrant that serves element j of a slot (03 R83). -/
def slotQuadrant (q0 j : Nat) : Nat := (q0 + j / 4096) % 4

/-- Bytes per element of an output format (03 R83). -/
def odBytes (od : Nat) : Nat :=
  match od with
  | 1 | 2 => 1
  | 3 | 4 => 2
  | _ => 4

/-- The quadrant that an operation of the Whisk names as its serving unit: that of its first element, or q0 (02 R504). -/
def State.quadOf (s : State) (h : List Byte) : Nat :=
  match mapFind s.wsk.slots (hPart h * 2 ^ 32 + hArg h 40 4) with
  | none => 0
  | some x => if hOp h = opAccum then slotQuadrant x.q0 ((hOfs h - x.ofs) / odBytes x.od) else x.q0

/-- The serving unit of an operation that executed, and its domain; none is a unit of the keep island (02 R504). `first` is
the region offset of its first byte, and a set operation names its first tile. -/
def State.serving (s : State) (o : OpRec) (first tile : Nat) : Nat × Option Nat :=
  let h := o.hdr
  let pot := s.stackOf (s.bpa (hHandle h) first)
  match o.opcode with
  | 0x01 | 0x02 | 0x20 | 0x18 => (0x0400 + pot, some (64 + pot))
  | 0x10 | 0x11 | 0x12 => (0x0100 + o.quad, some (80 + o.quad))
  | 0x21 | 0x28 => (srcTile tile, some (tile / 32))
  | 0x30 => (srcTile (hArg h 36 3 / 64), some (hArg h 36 3 / 64 / 32))
  | 0x31 => (srcBarrier, some 85)
  | 0x38 => (srcHub, some 84)
  | _ => (s.srcDuty 4, none)

/-- An opcode that addresses no region: its WEIGHTS is 0 (09 R291). -/
def weightless (op : Nat) : Bool := [0x30, 0x31, 0x3F].contains op

/-- The result digest (09 R290, R291). -/
def State.resultDigest (s : State) (o : OpRec) (f : Final) : List Byte :=
  let h := o.hdr
  let input := sha256 (sliceBytes h 0 1 ++ sliceBytes h 12 4 ++ sliceBytes h 24 8 ++ sliceBytes h 36 24 ++ s.opPayload o)
  let none_ := weightless o.opcode
  let d := s.descOf (hdDesc (hHandle h))
  let w := if none_ then 0 else match f.weights with
    | some x => x
    | none => s.weightsRoot (hdDesc (hHandle h)) d
  (sha256 (beBytes 16 f.prog ++ beBytes 16 w ++ input.take 16 ++ beBytes 8 fprint ++
    beBytes 8 ((hStep? h).getD 0))).take 16

/-- Lower numbers that an ORDERED frame waited for no longer include one that has left OPEN (02 R45). -/
def State.unwait (s : State) (req seq : Nat) : State :=
  s.modFrm fun f =>
    { f with
      ops := f.ops.map fun p => if p.2.req = req then (p.1, { p.2 with waits := p.2.waits.filter (· ≠ seq) }) else p }

/-- Operations of the KV service that waited only for an overlapping earlier one begin their service time anew where
they are whole: the wait is subtracted (06 R185; 10 R316). -/
def State.unwaitKv (s : State) (o : OpRec) : State :=
  if o.opcode = opKvAppend ∨ o.opcode = opAttnQuery then
    s.modFrm fun f =>
      { f with
        ops := f.ops.map fun p =>
          if (p.2.opcode = opKvAppend ∨ p.2.opcode = opAttnQuery) ∧ o.ord < p.2.ord ∧ kvOverlap o.hdr p.2.hdr = true ∧
              s.opWhole p.2 = true then
            (p.1, { p.2 with sub := s.clk.now - p.2.last })
          else p }
  else s

/-- The final response of an admitted operation: its slot leaves OPEN, its entry is written with the outcome, the
response waits for that write, its cells are freed and OUTSTANDING goes down (02 R54 to R57, R66 to R71; 01 R29). -/
def State.finishNow (s : State) (k : Nat) (o : OpRec) (f : Final) : State :=
  let st := codeState f.code
  let dig := if hDigest o.hdr && f.code = 0 then some (s.resultDigest o f) else none
  let sv := match f.reset with
    | some (u, d) => (u, some d)
    | none => s.serving o (f.first.getD (hOfs o.hdr)) f.tile
  let ep := match sv.2 with
    | none => 0
    | some d => s.epoch d
  let x : Resp :=
    { req := o.req, seq := o.seq, att := o.att, op := o.opcode + 128, code := f.code, aux := f.aux % 2 ^ 32,
      epoch := ep, source := sv.1, digest := dig, payload := f.payload, cls := o.cls, eq := o.eq,
      target := o.target, ftc := s.clk.ftc, home := some (o.r, o.seq % 64), born := o.last, sub := o.sub }
  let (s, pos) := s.hold o.port o.r (o.seq % 64) x
  let e : DoneEntry :=
    { seq := o.seq, state := st, attempt := o.att, code := f.code, opcode := o.opcode, held := pos.isSome,
      aux := f.aux % 2 ^ 32, hold := pos.getD 0 }
  let s := (s.setSlot o.r o.seq st).issueDone o.r (o.seq % 64) o.cls e (some (x, o.port))
  let s := if dig.isSome then s.bump tallyBlock tbDigest 1 else s
  let s := ((s.dropOp k o.hdr).freeKey o.raKey).release o.region
  let s := s.modMem fun m => { m with
    fails := m.fails.filter fun g => !(g.req = o.req && g.seq = o.seq),
    misreads := m.misreads.filter fun g => !(g.req = o.req && g.seq = o.seq) }
  let s := s.modFrm fun g => { g with ops := mapDel g.ops k }
  (s.unwait o.req o.seq).unwaitKv o

/-- The digest of an outcome waits for a leaf of its region that a write admitted before the operation has made dirty (09
R294). -/
def State.weightsWait (s : State) (o : OpRec) (f : Final) : Bool :=
  let h := o.hdr
  let desc := hdDesc (hHandle h)
  let d := s.descOf desc
  hDigest h && f.code = 0 && f.weights.isNone && !weightless o.opcode && d.digest && d.kind ≠ kParam &&
    s.rgn.dirty.any fun p => decide (p.1 / 2 ^ 20 = desc) && decide (p.2 < o.ord)

/-- The outcome of an admitted operation: its final response, at once or once a rehash pass has taken in the writes that its
digest must show. -/
def State.finish (s : State) (k : Nat) (f : Final) : State :=
  match s.op k with
  | none => s
  | some o => if s.weightsWait o f then s.setOp k { o with phase := 1, wait := some f } else s.finishNow k o f

/-- Ends an operation with a code and AUX. -/
def State.done (s : State) (k code aux : Nat) : State := s.finish k { code := code, aux := aux }

/-- Ends several operations with a code and AUX. -/
def State.doneAll (s : State) (ks : List Nat) (code aux : Nat) : State := ks.foldl (fun s k => s.done k code aux) s

/-- RETRY_EPOCH for operations that a reset of a domain ends: AUX is the new epoch, SOURCE the unit (14 R417). -/
def State.endEpoch (s : State) (ks : List Nat) (unit dom : Nat) : State :=
  ks.foldl (fun s k => s.finish k { code := cEpoch, aux := s.epoch dom, reset := some (unit, dom) }) s

/-- The code of a granule that no read of the operation has poisoned (12 R359; 13 R404). -/
def State.failCode (s : State) (g : Nat) : Nat := if s.lost g then cUncorrectable else cPoison

/-- The code that a failing granule gives an operation: UNCORRECTABLE where its own read poisoned it (02 R55), or where
no command reaches it (13 R404). -/
def State.failAt (s : State) (o : OpRec) (g : Nat) : Nat :=
  if s.mem.fails.any fun x => x.req = o.req && x.seq = o.seq && x.gran = g then cUncorrectable else s.failCode g

/-- A read of a granule for an operation was uncorrectable, whether or not the granule is poisoned since (12 R360). -/
def State.failedFor (s : State) (o : OpRec) (g : Nat) : Bool :=
  s.mem.fails.any fun x => x.req = o.req && x.seq = o.seq && x.gran = g

/-- The lowest granule of a range that fails a read of an operation. -/
def State.failIn (s : State) (o : OpRec) (a n : Nat) : Option Nat :=
  let mine := if n = 0 then [] else (s.mem.fails.filter fun x =>
    x.req = o.req && x.seq = o.seq && decide (a / 64 ≤ x.gran) && decide (x.gran ≤ (a + n - 1) / 64)).map (·.gran)
  (mine ++ (s.poisonIn a n).toList).min?

/-- The code and granule index that a read of a range reports: the lowest-addressed failing granule (02 R55, R56). -/
def State.readFail (s : State) (o : OpRec) (a n : Nat) : Option (Nat × Nat) :=
  match s.failIn o a n with
  | none => none
  | some g => some (s.failAt o g, g - a / 64)

/-- What a read of a range brings for an operation: failing granules as zeros, and of a granule that the decoder miscorrected
the bytes that it gave (02 R56; 12 R357, R360). -/
def State.loadFor (s : State) (o : OpRec) (a n : Nat) : List Byte :=
  (s.loadZ a n).mapIdx fun i b =>
    let g := (a + i) / 64
    if s.failedFor o g then 0
    else match s.mem.misreads.find? fun x => x.req = o.req && x.seq = o.seq && x.gran = g with
      | some x => x.data.getD ((a + i) % 64) 0
      | none => b

end Sys2Proof.Machine
end

