-- ==== Sys2Proof/Machine/Classes.lean ====
section
/-! DEFINITION. Traffic classes (10 R298 to R318): ingress meters, budgets and lowered priority. -/

namespace Sys2Proof.Machine

/-! ### Meters (10 R303 to R305) -/

/-- The response cells that a frame asks for, from its header as received (10 R304). -/
def respCells (h : List Byte) : Nat :=
  match hOp h with
  | 0x01 => cellCount (hLen h)
  | 0x21 =>
    let w := if hArg h 36 1 = 3 ∨ hArg h 36 1 = 4 then 2 else 1
    cellCount (hArg h 37 1 * hArg h 46 2 * w)
  | 0x3F => if hArg h 36 1 = 1 ∨ hArg h 36 1 = 3 then cellCount (hLen h) else 1
  | _ => 1

/-- B of 10 R304. -/
def chargeBytes (h : List Byte) (count : Nat) : Nat := min (256 * (count + respCells h)) (2 ^ 32 - 1)

/-- The PCLK edge of now, as a count. -/
def State.pclk (s : State) : Nat := s.clk.now / 6

/-- The buckets of a meter as refilled up to now. -/
def State.meter (s : State) (p c : Nat) : Meter :=
  let capC := s.classParam c 6 * 65536
  let capP := s.classParam c 8 * 65536
  match mapFind s.cls.meters (64 * p + c) with
  | none => ⟨capC, capP, s.pclk⟩
  | some m =>
    let n := s.pclk - m.stamp
    ⟨min (m.tc + n * (s.classParam c 5 * 65536 / 1600)) capC, min (m.tp + n * (s.classParam c 7 * 65536 / 1600)) capP,
      s.pclk⟩

/-- The colour of a frame: 0 green, 1 yellow, 2 red (10 R305). -/
def Meter.colour (m : Meter) (b : Nat) : Nat := if m.tp < b * 65536 then 2 else if m.tc < b * 65536 then 1 else 0

/-- A meter after it has coloured a frame. -/
def Meter.charge (m : Meter) (b : Nat) : Meter :=
  match m.colour b with
  | 2 => m
  | 1 => { m with tp := m.tp - b * 65536 }
  | _ => { m with tp := m.tp - b * 65536, tc := m.tc - b * 65536 }

/-- Step 3 of 02 R59: colours a header cell, takes its tokens and counts its bytes. -/
def State.paint (s : State) (p c b : Nat) : State × Nat :=
  let m := s.meter p c
  let k := m.colour b
  ((s.modCls fun x => { x with meters := mapPut x.meters (64 * p + c) (m.charge b) }).classTally c (3 * p + k) b, k)

/-- The meters of a class start full again (10 R305). -/
def State.refillClass (s : State) (c : Nat) : State :=
  s.modCls fun x => { x with meters := x.meters.filter fun p => p.1 % 64 ≠ c }

/-! ### Budgets (10 R312 to R315) -/

/-- A class is OVER. -/
def State.isOver (s : State) (c : Nat) : Bool := (mapFind s.cls.overs c).isSome

/-- CLASS_OVER (10 R313). -/
def State.classOver (s : State) : Nat := (s.cls.overs.map fun p => 2 ^ p.1).foldl (· + ·) 0

/-- BUDGET_WINDOW_EDGE (10 R312, R313): each class becomes or stops being OVER by its count, and a new window opens. -/
def execBudgetWindowEdge (s : State) : Host.Outcome State Fault Refusal :=
  s.runLive true
    (if s.clk.ftc % s.param 0x5000 2 = 0 ∧ s.cls.edge ≠ some s.clk.ftc then
      let past := (List.range 64).filter fun c =>
        decide (s.classParam c 9 ≠ 0) && decide (s.classParam c 9 < mapGet 0 s.cls.bytes c)
      let s := past.foldl (fun s c => s.classTally c (s.classPast 3) 1) s
      s.modCls fun x =>
        { x with
          bytes := [], overs := past.map (fun c => (c, 1)), edge := some s.clk.ftc }
    else s)

/-! ### Effective priority and stack level (10 R299, R300, R306, R315, R326) -/

/-- The effective arbiter priority and stack level of 10 R315. -/
def prioEff (prio : Nat) (yellow isOver : Bool) : Nat := min 7 (prio + b2n yellow + 2 * b2n isOver)
def levelEff (level : Nat) (yellow isOver : Bool) : Nat := min 3 (level + b2n (yellow || isOver))

/-- What a request competes with: the values that an admitted frame took on its admission edge and a tile on its start
edge, SYS_CLASS as it stands for the frames of the block, priority 7 and level 3 for background work (10 R299 to R301,
R306). A frame that is not admitted and a tile that this build does not have make no request. -/
def State.standing (s : State) (o : Origin) : Option Standing :=
  match o with
  | .frame req seq => (s.op (opKey req seq)).map fun o =>
      { cls := some o.cls, prio := o.prio, level := o.level, yellow := o.yellow, eq := o.eq }
  | .tile t =>
    if t < s.build.tiles then
      let x := s.tile t
      some { cls := some x.cr.cls, prio := x.cr.prio, level := x.cr.level, eq := x.cr.eq,
             floor := match x.c.xrun with
               | some d => xdPrio d
               | none => 0 }
    else none
  | .system =>
    let c := s.sysClass
    some { cls := some c, prio := s.classParam c 4, level := s.classParam c 3, eq := s.egressQ c }
  | .background => some {}

/-- The class of a request is OVER now. -/
def State.overNow (s : State) (x : Standing) : Bool :=
  match x.cls with
  | some c => s.isOver c
  | none => false

/-- The arbiter priority of a request in the round of this edge: OVER counts as it stands (10 R315, R326). -/
def State.prioNow (s : State) (x : Standing) : Nat := prioEff x.prio x.yellow (s.overNow x)

/-- The stack level of a request on this edge: never above the level of its class, and for a transfer never above its PRIO
(10 R315, R326; 04 R127). -/
def State.levelOf (s : State) (x : Standing) : Nat := max x.floor (levelEff x.level x.yellow (s.overNow x))

/-- The wheel entry of this edge (09 R282, R283). -/
def State.wheelEntry (s : State) (w : Wheel) : Nat :=
  match w.table with
  | some t => t.getD (s.clk.ftc % 1200) 0
  | none => if s.clk.ftc % 1200 % 8 = 0 then 128 else 0

/-- A request counts as a request of the class that a wheel reserves this edge's position for: only while it is green and
its class is not OVER, by the egress queue that it took at admission or start (09 R283, R284; 10 R300, R306). -/
def State.mayReserve (s : State) (w : Wheel) (x : Standing) : Bool :=
  let e := s.wheelEntry w
  match x.cls with
  | none => false
  | some c =>
    !x.yellow && !s.isOver c &&
      (match e / 64 with
       | 1 => decide (e % 64 = c)
       | 2 => decide (x.eq = 0)
       | _ => false)

end Sys2Proof.Machine
end

