-- ==== Sys2Proof/Machine/Arbiter.lean ====
section
/-! DEFINITION. The common arbiter (10 R321 to R327). -/

namespace Sys2Proof.Machine

/-! ### Instances: kinds as in 17 R484, 5 a data-memory bank -/

/-- Whether an instance exists in this build (10 R321; 17 R484). -/
def Build.hasArb (b : Build) (kind inst : Nat) : Bool :=
  match kind with
  | 0 =>
    decide (inst < b.A / 4) || (0x100 ≤ inst && inst < 0x104) || (0x200 ≤ inst && inst < 0x200 + b.S) ||
      (0x300 ≤ inst && inst < 0x320)
  | 1 => decide (inst < b.K)
  | 2 => decide (inst < 4)
  | 3 => decide (inst < 64 * b.S)
  | 4 => decide (inst < b.A)
  | 5 => decide (inst < 32 * b.tiles)
  | _ => false

/-- The wait limit of a kind (10 R321, R328). -/
def State.waitLimit (s : State) (kind : Nat) : Nat := if kind < 5 then s.param 0x5400 (kind + 1) else 64

/-! ### A round (10 R322, R323) -/

/-- A request in a round as its instance weighs it (10 R321, R322). -/
structure Bid where
  /-- the index of the requesting input -/
  idx : Nat
  prio : Nat
  /-- the wheel position of this edge is reserved for it -/
  eligible : Bool := false
  /-- the input is at a break point, so that it may lose the grant -/
  last : Bool := true
  /-- age, where the instance breaks ties by it -/
  tie : Nat := 0
  deriving DecidableEq, Repr

/-- The order in which an instance breaks ties: its rotating pointer for a crossbar output, age or admission order — the
order of the requests — for mesh injection and the Whisk, age for a command bus, index order otherwise. -/
def tieKey (kind ptr pos : Nat) (r : Bid) : Nat :=
  match kind with
  | 0 => (r.idx + 65536 - ptr) % 65536
  | 1 | 2 => pos
  | 3 => r.tie
  | _ => r.idx

/-- The wait count of a request: 0 for the holder of the grant. -/
def Arb.waitOf (a : Arb) (i : Nat) : Nat := if a.holder = some i then 0 else mapGet 0 a.waits i

/-- The request that a list of candidates yields under a key, the least first, ties in the instance's order. -/
def pickBy (kind ptr : Nat) (key : Bid → Nat) (l : List Bid) : Option Bid :=
  ((sortBy (fun p => key p.1) (sortBy (fun p => tieKey kind ptr p.2 p.1) l.zipIdx)).head?).map Prod.fst

/-- The winner of a round and the rule of R322 that chose it. -/
def Arb.winner (a : Arb) (kind limit : Nat) (reqs : List Bid) : Option (Nat × Nat) :=
  match pickBy kind a.ptr (·.prio) (reqs.filter (·.eligible)) with
  | some r => some (r.idx, 1)
  | none =>
    match pickBy kind a.ptr (fun r => 1023 - a.waitOf r.idx) (reqs.filter fun r => decide (limit ≤ a.waitOf r.idx)) with
    | some r => some (r.idx, 2)
    | none => (pickBy kind a.ptr (·.prio) reqs).map fun r => (r.idx, 3)

/-- The instance after a round that `w` won: every other waiting request's counter goes up by 1, to 1,023 at most. -/
def Arb.granted (a : Arb) (reqs : List Bid) (w : Nat) : Arb :=
  let waits := reqs.foldl (fun m r =>
    if r.idx = w then mapSet 0 m r.idx 0 else mapSet 0 m r.idx (min 1023 (a.waitOf r.idx + 1))) a.waits
  { a with
    ptr := w + 1, waits := waits, holder := some w }

/-- The holder of a grant that no longer asks has released it (10 R325). -/
def Arb.released (a : Arb) (reqs : List Bid) : Arb :=
  match a.holder with
  | some h => if reqs.any fun r => decide (r.idx = h) then a else { a with holder := none }
  | none => a

/-- A round is held: something waits, the instance is not frozen, and the holder, where it still asks, is at a break
point (10 R322, R324, R325). -/
def Arb.open_ (a : Arb) (reqs : List Bid) : Bool :=
  decide (a.freeze = 0) && !reqs.isEmpty && reqs.all fun r => r.last || decide (a.holder ≠ some r.idx)

/-! ### Tallies of an instance (17 R470) -/

/-- The set and entry of an instance's rounds: revocations, forced wins and, where counted, reserved grants and frozen
edges follow. -/
def arbTally (kind inst : Nat) : Option (Nat × Nat × Bool) :=
  match kind with
  | 0 => if 0x100 ≤ inst ∧ inst < 0x104 then some (80 + (inst - 0x100), 11, true) else some (tallyBlock, tbXbarRounds, false)
  | 1 => some (inst, 36, true)
  | _ => none

/-- Counts the outcome of a round: `what` is 0 a round, 1 a revocation, 2 a forced win, 3 a reserved grant, 4 an edge
spent frozen. -/
def State.arbCount (s : State) (kind inst what : Nat) : State :=
  match arbTally kind inst with
  | some (set, e, all) => if all || decide (what < 3) then s.bump set (e + what) 1 else s
  | none => s

/-- The wheel table that governs a kind, and its first tally of reserved positions. -/
def State.wheelOf (s : State) (kind : Nat) : Option (Wheel × Nat) :=
  match kind with
  | 1 => some (s.sch.skillet, 8)
  | 2 => some (s.sch.whisk, 10)
  | 3 => some (s.sch.stockpot, 12)
  | _ => none

/-- Counts a reserved position that was granted to its class, or yielded (17 R470). -/
def State.reservedCount (s : State) (kind rule : Nat) : State :=
  match s.wheelOf kind with
  | some (w, e) =>
    if s.wheelEntry w / 64 = 0 then s else s.bump tallyBlock (if rule = 1 then e else e + 1) 1
  | none => s

/-! ### What the block takes from the state for a request (10 R299, R315, R321) -/

/-- The origin of a request is one that the wires of this build could name. -/
def Build.hasOrigin (b : Build) (o : Origin) : Bool :=
  match o with
  | .frame req seq => decide (req < 2 ^ 20) && decide (seq < 2 ^ 32)
  | .tile t => decide (t < b.tiles)
  | .system | .background => true

/-- A request as the instance weighs it: prio_eff of what it serves, 7 for the load engine, and the order of R118 at a bank
of data memory; a kind with a wheel grants a reserved position to its class (09 R284; 10 R299, R315, R321, R322). A
request of a frame that is not admitted does not wait. -/
def State.bid (s : State) (kind : Nat) (r : ArbReq) : Option Bid :=
  (s.standing r.src).map fun x =>
    { idx := r.idx, prio := if kind = 5 then r.idx else s.prioNow x, last := r.last,
      eligible := match s.wheelOf kind with
        | some (w, _) => s.mayReserve w x
        | none => false }

/-- The domain that an instance grants into (14 R410). -/
def arbDomain (kind inst : Nat) : Option Nat :=
  match kind with
  | 0 => some (if inst < 0x100 then 72 + inst else if inst < 0x200 then 80 + (inst - 0x100)
      else if inst < 0x300 then 64 + (inst - 0x200) else 87)
  | 1 => some inst
  | 2 => some (80 + inst)
  | _ => none

/-- ARBITER_ROUND (10 R321 to R326): one round of an instance over the requests that wait. While the instance is frozen no
round is held, and the holder keeps the resource until it has nothing more to ask for. The rounds of an egress port and
of a PC command bus are held by EGRESS_CELL and STACK_COMMAND_ISSUE, over the queues that the state holds. A request for
a gated domain waits, and the doorkeeper wakes the domain; one for a domain that is about to be gated aborts the entry (14 R413,
R415). -/
def execArbiterRound (kind inst : Nat) (reqs : List ArbReq) (s : State) : Host.Outcome State Fault Refusal :=
  s.runLive (s.build.hasArb kind inst && reqs.all (fun r => decide (r.idx < 65536) && s.build.hasOrigin r.src))
    (let a := s.arbAt kind inst
     let bids := reqs.filterMap (s.bid kind)
     let gated := match arbDomain kind inst with
       | some d => if s.settled d then none else some d
       | none => none
     if kind = 3 ∨ kind = 4 then s
     else if !bids.isEmpty && gated.isSome then s.wakeDom (gated.getD 0)
     else if a.freeze ≠ 0 then
       if bids.isEmpty then s.setArb kind inst (a.released bids)
       else (s.setArb kind inst (a.released bids)).arbCount kind inst 4
     else if !a.open_ bids then s
     else match a.winner kind (s.waitLimit kind) bids with
       | none => s
       | some (w, rule) =>
         let revoked := match a.holder with
           | some h => decide (h ≠ w) && bids.any fun r => decide (r.idx = h)
           | none => false
         let s := (s.setArb kind inst (a.granted bids w)).arbCount kind inst 0
         let s := if revoked then s.arbCount kind inst 1 else s
         let s := if rule = 2 then s.arbCount kind inst 2 else if rule = 1 then s.arbCount kind inst 3 else s
         s.reservedCount kind rule)

end Sys2Proof.Machine
end

