-- ==== Sys2Proof/Machine/Count.lean ====
section
/-! DEFINITION. Precise sampling and magnitude events of a Skillet (17 R469, R475, R476). -/

namespace Sys2Proof.Machine

/-- SAMPLE_CTL of Skillet n. -/
def State.sampleWord (s : State) (n : Nat) : Nat := mapGet 0 s.dict.vals (okey (0x9200 + n) 1)

/-- A sampling record (17 R476). -/
def sampleRec (ftc t ev part bundle slot daddr lat rofs : Nat) : List Byte :=
  beBytes 8 ftc ++ beBytes 2 t ++ beBytes 1 ev ++ beBytes 1 part ++ beBytes 2 bundle ++ beBytes 1 slot ++ beBytes 1 0 ++
    beBytes 4 daddr ++ beBytes 4 (min lat (2 ^ 32 - 1)) ++ beBytes 4 rofs ++ beBytes 4 0

/-- An occurrence of a sampled event ends: every PERIOD-th qualifying one is recorded (17 R475 to R477). -/
def State.sample (s : State) (t ev bundle slot daddr lat rofs : Nat) : State :=
  let n := t / 32
  let w := s.sampleWord n
  let part := (s.tile t).cr.part
  if !bit w 15 || bits w 63 56 ≠ ev || decide (lat < bits w 31 16) || (bit w 7 && bits w 13 8 ≠ part) then s
  else
    let c := mapGet 0 s.obs.countdown n
    if 1 < c then s.modObs fun o => { o with countdown := mapSet 0 o.countdown n (c - 1) }
    else
      let s := s.modObs fun o => { o with countdown := mapSet 0 o.countdown n (bits w 55 32) }
      let l := mapGet [] s.obs.samples n
      if l.length < 256 then
        s.modObs fun o => { o with
          samples := mapSet [] o.samples n (l ++ [sampleRec s.clk.ftc t ev part bundle slot daddr lat rofs]) }
      else if bit w 14 then s.bumpP n 41 1 (some part)
      else
        s.modObs fun o => { o with
          samples := mapSet [] o.samples n (l.drop 1 ++ [sampleRec s.clk.ftc t ev part bundle slot daddr lat rofs]) }

/-- A magnitude event of a tile's Skillet: 0 load latency, 1 transfer latency, 2 WAIT hold, in TCLK (17 R469). -/
def State.skilletMag (s : State) (t ev mag : Nat) : State :=
  s.ctrEvent (t / 32) (0x3000 + ev) 2 mag (some (s.tile t).cr.part)

/-- A load of a slot: its magnitude and its sample (17 R469, R475). -/
def State.loadEvent (s : State) (t addr lat : Nat) : State :=
  (s.skilletMag t 0 lat).sample t 1 (s.tile t).r.pc 0 addr lat 0

/-- Advances a Skillet tally for a tile's partition. -/
def State.tileBump (s : State) (t entry n : Nat) : State := s.bumpP (t / 32) entry n (some (s.tile t).cr.part)

/-- The arithmetic tallies of a tile's Skillet, from what each element counts: 1 a saturation, 2 an overflow, 3 a NaN made
canonical, 0 nothing (05 R177; 17 R470). -/
def State.tileCounts (s : State) (t : Nat) (cs : List Nat) : State :=
  [1, 2, 3].foldl (fun s c =>
    let n := (cs.filter (· = c)).length
    if n = 0 then s else s.tileBump t (30 + c) n) s

end Sys2Proof.Machine
end

