-- ==== Sys2Proof/Machine/Mark.lean ====
section
/-! DEFINITION. Contexts that hold a step, and marks for replay (09 R273, R280; 07 R235). -/

namespace Sys2Proof.Machine

def State.ctx (s : State) (i : Nat) : Ctx := mapGet {} s.sch.ctxs i
def State.setCtx (s : State) (i : Nat) (c : Ctx) : State :=
  s.modSch fun h => { h with ctxs := mapSet {} h.ctxs i c }
def State.modCtx (s : State) (i : Nat) (f : Ctx → Ctx) : State := s.setCtx i (f (s.ctx i))

/-- The context that holds a step of a partition (09 R273). -/
def State.ctxOf (s : State) (part step : Nat) : Option Nat :=
  (s.sch.ctxs.find? fun p =>
    decide (p.2.state ≠ 0) && decide (p.2.part = part) && decide (p.2.step = step)).map Prod.fst

/-- A step is marked for replay. -/
def State.isMarked (s : State) (part step : Nat) : Bool :=
  match s.ctxOf part step with
  | none => false
  | some i => (s.ctx i).marked

/-- The OPEN frames whose operands carry a step of a partition (09 R280). -/
def State.framesOf (s : State) (part step : Nat) : List Nat :=
  (s.frm.ops.filter fun p => decide (p.2.part = part) && decide (hStep? p.2.hdr = some step)).map Prod.fst

/-- Answers every OPEN frame of a step RETRY_REPLAY with AUX STEP[31:0] (02 R71; 09 R280). -/
def State.replayFrames (s : State) (part step : Nat) : State :=
  s.doneAll (s.framesOf part step) cReplay (step % 2 ^ 32)

/-- Sets the mark of the context that holds a step, whatever it has voted, and answers its frames. -/
def State.markCtx (s : State) (i rule : Nat) : State :=
  let c := s.ctx i
  let s := (s.setCtx i { c with marked := true }).raise srcHub 0x0202 (beBytes 8 c.step ++ beBytes 4 rule)
  (s.bump tallyBlock tbMark 1).replayFrames c.part c.step

/-- A mark that reaches a step after its commit edge replays only the stages that follow commit: the step's open multicasts
are answered RETRY_REPLAY, and those that are relaunched are taken (07 R235; DEDUCED, log 91). -/
def State.markCommitted (s : State) (part step rule : Nat) : State :=
  let s := (s.raise srcHub 0x0202 (beBytes 8 step ++ beBytes 4 rule)).bump tallyBlock tbMark 1
  s.doneAll ((s.framesOf part step).filter fun k => (s.op k).any fun o => decide (o.opcode = opMcast)) cReplay (step % 2 ^ 32)

/-- An event of the spec marks a step for replay under a rule. A mark for a step that no context holds is logged only;
a participant that has voted and not yet committed logs the event, and the home's decision stands (09 R280; 07 R235). -/
def State.mark (s : State) (part step rule : Nat) : State :=
  match s.ctxOf part step with
  | none => s.raise srcHub 0x0202 (beBytes 8 step ++ beBytes 4 rule)
  | some i =>
    let c := s.ctx i
    if c.voted && !c.committed then s.raise srcHub 0x0202 (beBytes 8 step ++ beBytes 4 rule)
    else if c.committed then s.markCommitted part step rule
    else if c.marked then s
    else s.markCtx i rule

end Sys2Proof.Machine
end

