-- ==== Sys2Proof/Machine/Sync.lean ====
section
/-! DEFINITION. The barrier hub, the remote table and queue of the sync hub (08 R248, R249, R256 to R259). Frames it
originates and frames it answers are built in Fabric.lean. -/

namespace Sys2Proof.Machine

/-- Entry e of the remote table (08 R248). -/
def State.remoteEntry (s : State) (e : Nat) : Nat := beNat (s.blob 0x8100 1 (8 * e) 8)

def reKind (w : Nat) : Nat := bits w 63 62
def rePart (w : Nat) : Nat := bits w 61 56
def reEp (w : Nat) : Nat := bits w 55 36
def reCtr (w : Nat) : Nat := bits w 35 19
def reBar (w : Nat) : Nat := bits w 18 9

/-- The objects of barrier b (08 R264). -/
def State.barPart (s : State) (b : Nat) : Nat := s.param (0x8200 + b) 1
def State.barFirst (s : State) (b : Nat) : Nat := s.param (0x8200 + b) 2
def State.barTiles (s : State) (b : Nat) : Nat := s.param (0x8200 + b) 3
def State.barRctr (s : State) (b : Nat) : Nat := s.param (0x8200 + b) 4
def State.barLocal (s : State) (b : Nat) : Nat := s.param (0x8200 + b) 5
def State.barHome (s : State) (b : Nat) : Nat := s.param (0x8200 + b) 6
def State.barRemote (s : State) (b : Nat) : Nat := s.param (0x8200 + b) 7

def State.bar (s : State) (b : Nat) : Barrier := mapGet {} s.syn.bars b
def State.setBar (s : State) (b : Nat) (x : Barrier) : State :=
  s.modSyn fun y => { y with bars := mapSet {} y.bars b x }

/-- The local part of the current generation is complete (08 R256). -/
def State.barComplete (s : State) (b : Nat) : Bool := decide (s.barLocal b ≤ (s.bar b).arrived)

/-- At the home, the release condition holds (08 R257). A barrier that expects neither arrivals nor frames, as every one
does out of reset, would meet it on every edge; it is never released (DESIGN CHOICE, log 77: the spec does not say what
such a barrier does). -/
def State.barReady (s : State) (b : Nat) : Bool :=
  s.barHome b = 0 && s.barComplete b && decide (s.barRemote b ≤ (s.bar b).frames.length) &&
    decide (0 < s.barLocal b + s.barRemote b)

/-- The release signals: a fenced 1 to BAR_RCTR of every tile of the range that belongs to BAR_PART; the other tiles of the
range are skipped and counted (08 R257). -/
def State.barSignals (s : State) (b : Nat) : State :=
  (List.range (s.barTiles b)).foldl (fun s i =>
    let t := s.barFirst b + i
    if t < s.build.tiles ∧ s.belongs t = some (s.barPart b) then
      s.hubSig (64 * t + s.barRctr b) 1 (s.barPart b)
    else s.modSyn fun y => { y with skipped := y.skipped + 1 }) s

/-- Releases a barrier: the next generation, no arrivals, the signals (08 R257). -/
def State.barRelease (s : State) (b : Nat) : State :=
  let x := s.bar b
  let s := s.setBar b { gen := (x.gen + 1) % 2 ^ 32, freed := s.clk.now }
  (s.barSignals b).bump tallyBlock tbBarrier 1

/-- A barrier is the commit barrier of an entry that a schedule context holds (08 R259; 09 R276). -/
def State.commitBarrier (s : State) (b : Nat) : Bool :=
  s.sch.ctxs.any fun p => decide (p.2.state ≠ 0) &&
    p.2.entries.any fun e => decide (natAt e 0 1 = 4) && decide (natAt e 2 2 = b)

end Sys2Proof.Machine
end

