-- ==== Sys2Proof/Machine/Fabric.lean ====
section
/-! DEFINITION. Signals that leave a tile through the remote table, arrivals at barriers, and the frames that the sync
hub and the barrier hub send (08 R248, R249, R256, R257). -/

namespace Sys2Proof.Machine

/-- Header bytes 12 to 59 of an originated frame: LENGTH, FTC (set when it is sent), HANDLE, OFFSET, FLAGS and the 24
operand bytes (02 R44). -/
def mkBody (len handle ofs flags : Nat) (operands : List Byte) : List Byte :=
  beBytes 4 len ++ beBytes 8 0 ++ beBytes 3 handle ++ beBytes 5 ofs ++ beBytes 4 flags ++ fitBytes 24 operands

/-- The STEP operand of an originated frame's body, for the opcodes that hold it at header offset 44. -/
def bodyStep (b : List Byte) : Nat := natAt b 32 8

/-- How an answer to an originated frame is taken: done, still waiting, to be resent, or failed (08 R249; 03 R103;
07 R219). -/
inductive Verdict where
  | done | waiting | resend | failed
  deriving DecidableEq, Repr

/-- The verdict on an answer to a frame at an ATTEMPT: DONE and DONE_LATE, or DUP_ANSWERED of one, finish the frame;
REFUSED_RED, REFUSED_CAPACITY and RETRY_INCOMPLETE, and RETRY_EPOCH where the rule of the frame names it, are resent
below ATTEMPT 15; DUP_IN_PROGRESS keeps waiting; every other outcome fails. -/
def verdict (code orig att : Nat) (epoch : Bool) : Verdict :=
  let c := if code = cDupAnswered then orig else code
  if code = cDupInProgress then .waiting
  else if c = cDone ∨ c = cDoneLate then .done
  else if (c = cRed ∨ c = cCapacity ∨ c = cIncomplete ∨ (c = cEpoch ∧ epoch = true)) ∧ att < 15 then .resend
  else .failed

/-- Marks a step that is not 0 (08 R249). -/
def State.markStep (s : State) (part step rule : Nat) : State := if step = 0 then s else s.mark part step rule

/-- A remote signal is abandoned (08 R249). -/
def State.abandonSignal (s : State) (entry part step : Nat) : State :=
  ((s.note srcSync 249 entry).bump tallyBlock tbRemoteAbandoned 1).markStep part step 249

/-- A barrier's frame is abandoned: the barrier stays unreleased (08 R257, R259). -/
def State.abandonBarrier (s : State) (b part step : Nat) : State := (s.note srcBarrier 257 b).markStep part step 249

/-- Sends the BARRIER frame of a complete local part to the home, under SYS_CLASS (08 R257; 10 R301). -/
def State.barFrame (s : State) (b : Nat) : State :=
  let x := s.bar b
  let part := s.barPart b
  let o : OrigFrame :=
    { ep := s.barHome b, seq := 0, part := part, cls := s.sysClass, op := opBarrier,
      body := mkBody 0 0 0 0
        (beBytes 2 b ++ beBytes 2 0 ++ beBytes 4 x.gen ++ beBytes 8 x.step ++ beBytes 4 (s.barRemote b + 1)),
      payload := [], purpose := .barrier b x.gen }
  let s := s.setBar b { x with sent := true }
  match s.originate o with
  | some s => s
  | none => (s.noPeer (s.barHome b)).abandonBarrier b part x.step

/-- A barrier whose local part is complete sends its frame where its home is elsewhere and it has not yet been sent. -/
def State.barLocalDone (s : State) (b : Nat) : State :=
  if s.barHome b ≠ 0 ∧ s.barComplete b = true ∧ (s.bar b).sent = false then s.barFrame b else s

/-- Releases a barrier and answers every counted frame DONE with AUX g (08 R257); a next generation whose local part is
complete at once sends its frame at once (08 R256). -/
def State.barReleaseAll (s : State) (b : Nat) : State :=
  let x := s.bar b
  ((s.barRelease b).doneAll x.frames cDone x.gen).barLocalDone b

/-- What follows a change of a barrier's counts: release at the home, or the frame to the home. -/
def State.barAdvance (s : State) (b : Nat) : State :=
  if s.barReady b then s.barReleaseAll b else s.barLocalDone b

/-- A tile arrives at a barrier (08 R256 to R259). -/
def State.barArrive (s : State) (t b : Nat) : State :=
  let x := s.bar b
  if s.commitBarrier b then s
  else if s.barComplete b then s.note srcBarrier 258 t
  else
    (s.setBar b
      { x with
        arrived := x.arrived + 1, step := (s.tile t).cr.step,
        since := if x.arrived = 0 then s.clk.now else x.since }).barAdvance b

/-- Queues a remote signal, combined with one of the same entry that is still queued, up to 2^31 − 1 (08 R249). The frame
keeps the class, the STEP and the tile of the first signal that it combines (DESIGN CHOICE, log 76: R249 says nothing of
signals of different tiles). -/
def State.queueRemote (s : State) (g : RemoteSig) : State :=
  match s.syn.queue.find? fun q => decide (q.entry = g.entry) && decide (q.amount + g.amount < 2 ^ 31) with
  | some q =>
    (s.modSyn fun y =>
      { y with queue := y.queue.replace q { q with amount := q.amount + g.amount } }).bump tallyBlock tbRemoteCombined 1
  | none => s.modSyn fun y => { y with queue := y.queue ++ [g] }

/-- A tile's signal through remote-table entry e (08 R248, R256): an entry that is invalid, reserved or another
partition's, or an arrival of an amount other than 1, is refused. -/
def State.sendRemote (s : State) (t e amount : Nat) : State :=
  let w := s.remoteEntry e
  let x := s.tile t
  if rePart w ≠ x.cr.part then s.sigRefused (some t)
  else match reKind w with
    | 1 =>
      if reEp w = s.blockEp then
        s.sendSig { addr := reCtr w, amount := amount, part := x.cr.part, path := sigPath t (reCtr w), tile := some t }
      else
        s.queueRemote
          { entry := e, amount := amount, part := x.cr.part, cls := x.cr.cls,
            step := if x.cr.sched then x.cr.step else 0, tile := t, eq := x.cr.eq, at_ := s.clk.now }
    | 2 => if amount = 1 then s.barArrive t (reBar w) else s.sigRefused (some t)
    | _ => s.sigRefused (some t)

end Sys2Proof.Machine
end

