-- ==== Sys2Proof/Machine/Bundle.lean ====
section
/-! DEFINITION. Bundles: what makes a slot illegal or a bundle invalid (04 R123), the faults of a bundle that would
issue (04 R146), and the results of the array and vector units (04 R132 to R140). -/

namespace Sys2Proof.Machine

/-- The four slot words of a bundle (04 R121). -/
structure Slots where
  mv : Nat := 0
  ar : Nat := 0
  ve : Nat := 0
  sy : Nat := 0
  deriving DecidableEq, Repr

/-- The slots of a 256-bit bundle. -/
def Slots.ofBundle (b : Nat) : Slots := ⟨bits b 255 192, bits b 191 136, bits b 135 64, bits b 63 0⟩

/-! ### Illegal slots (04 R123): reserved opcodes, reserved fields, fields out of range -/

def mvBad (w : Nat) : Bool :=
  mvRsv w ≠ 0 ||
    match mvOp w with
    | 1 | 2 => decide (2 < mvFn w)
    | 10 => decide (mvD w = 0 ∨ 8 ≤ mvD w)
    | 11 => decide (8 ≤ mvS2 w)
    | 15 => decide (4 ≤ mvD w)
    | 16 => decide (mvImm w % 256 ≠ 0x10 ∧ mvImm w % 256 ≠ 0x11)
    | op => decide (16 < op)

def arBad (w : Nat) : Bool :=
  arRsv w ≠ 0 ||
    match arOp w with
    | 0 | 2 => false
    | 1 =>
      decide (arDt w = 0 ∨ 11 < arDt w ∨ arKd w = 0 ∨ 8 < arKd w) || (!mmaMx (arDt w) && decide (arGs w ≠ 0))
    | _ => true

/-- CVTW takes the FP32 code 0x05 with part 0 alone, and copies the lanes with NaNs made canonical (DESIGN CHOICE, log 75: R139
admits the code, and R165 lists no such change of format). -/
def veBad (w : Nat) : Bool :=
  veRsv w ≠ 0 ||
    match veOp w with
    | 0x07 | 0x14 => decide (2 < veFn w)
    | 0x08 => decide (4 < veFn w)
    | 0x13 | 0x15 | 0x18 => decide (3 < veFn w)
    | 0x19 | 0x1D => decide (1 < veFn w)
    | 0x1A | 0x1B => !cvtType (veImm w % 256) || decide (veImm w / 512 ≠ 0)
    | 0x1C =>
      !cvtType (veImm w % 256) || decide (veImm w / 256 ≠ 0) ||
        decide (4 / cvtBytes (veImm w % 256) ≤ veFn w)
    | 0x16 | 0x17 => true
    | op => decide (0x1F < op)

def syBad (w : Nat) : Bool :=
  match syOp w with
  | 2 | 3 => decide (syCtr w / 64 ≠ 0)
  | 6 => decide (syGr w = 0)
  | op => decide (8 < op)

/-! ### Registers that a bundle writes: G by number, V from 100, M from 200, L from 300; writes of G0 are discarded -/

def mvWrites (w : Nat) : List Nat :=
  match mvOp w with
  | 1 | 8 => [100 + mvD w]
  | 3 | 5 | 6 | 7 | 9 | 13 | 14 => [mvD w]
  | 10 => [200 + mvD w]
  | 15 => [300 + mvD w]
  | _ => []

def arWrites (w : Nat) : List Nat :=
  if arOp w = 1 then (if arAinc w then [arGa w] else []) ++ (if arBinc w then [arGb w] else []) else []

def veWrites (w : Nat) : List Nat :=
  match veOp w with
  | 0 | 0x1F => []
  | 8 => [200 + veD w % 8]
  | _ => [100 + veD w]

def syWrites (w : Nat) : List Nat := if syOp w = 7 then [300 + syFn w % 4] else []

/-- A valid bundle: no register is written twice (04 R123), so that AINC and BINC of one MMA may not name the same register
either (DEDUCED, log 100: R123 speaks of two slots, and counts each as a write). -/
def Slots.valid (b : Slots) : Bool :=
  allDistinct ((mvWrites b.mv ++ arWrites b.ar ++ veWrites b.ve ++ syWrites b.sy).filter (· ≠ 0))

/-- The slot that makes a bundle illegal, the lowest first; an invalid bundle is charged to the slot 0. -/
def Slots.illegal (b : Slots) : Option Nat :=
  if mvBad b.mv then some 0
  else if arBad b.ar then some 1
  else if veBad b.ve then some 2
  else if syBad b.sy then some 3
  else if b.valid then none
  else some 0

/-! ### Addresses and amounts -/

/-- The address of a memory operation: G[S1] + IMM modulo 2^32 (04 R126). -/
def mvAddr (r : TileRegs) (w : Nat) : Nat := wrap32 (r.getG (mvS1 w) + mvImm w)

/-- The bytes that FN selects for LDV and STV (04 R126). -/
def mvSize (w : Nat) : Nat :=
  match mvFn w with
  | 0 => 256
  | 1 => 128
  | _ => 64

/-- The amount or threshold of a sync operation (04 R143). -/
def syAmount (r : TileRegs) (w : Nat) : Nat := if syGr w = 0 then syImm w else r.getG (syGr w)

/-- A value has reached a threshold (04 R143). -/
def reached (v t : Nat) : Bool := decide ((v + 2 ^ 32 - t % 2 ^ 32) % 2 ^ 32 < 2 ^ 31)

/-- An access that is misaligned or leaves data memory (04 R117). -/
def badAccess (a align n : Nat) : Bool := decide (a % align ≠ 0 ∨ dmSize < a + n)

/-! ### Faults of a bundle that would issue (04 R146) -/

def mvFault (r : TileRegs) (w : Nat) : Option Nat :=
  let a := mvAddr r w
  match mvOp w with
  | 1 | 2 => if badAccess a 64 (mvSize w) then some fAddr else none
  | 3 | 4 => if badAccess a 4 4 then some fAddr else none
  | 10 | 11 => if badAccess a 8 8 then some fAddr else none
  | 12 => if badAccess a 32 32 then some fAddr else none
  | 13 => if 48 ≤ mvImm w % 64 then some fCtrAddr else none
  | _ => none

def arFault (r : TileRegs) (w : Nat) : Option Nat :=
  if arOp w = 1 ∧
      (badAccess (r.getG (arGa w)) 64 (mmaFootA w) || badAccess (r.getG (arGb w)) 64 (mmaFootB w) ||
        (mmaMx (arDt w) && badAccess (r.getG (arGs w)) 16 (80 * arKd w))) = true then some fAddr
  else none

def State.veFault (s : State) (w : Nat) : Option Nat := if veOp w = 11 ∧ s.strict = true then some fStrictOp else none

/-- A signal that its target refuses as it issues; one for a gated Skillet is judged when its doorkeeper lets it in
(08 R245, R248). -/
def State.sigDenied (s : State) (t addr : Nat) : Bool :=
  s.awake (addr / 64 / 32) && !s.sigAccepts addr (s.tile t).cr.part

/-- A remote-table entry that a signal of a tile may not use (08 R248, R256). -/
def State.remoteDenied (s : State) (t e amount : Nat) : Bool :=
  let w := s.remoteEntry e
  decide (rePart w ≠ (s.tile t).cr.part) ||
    match reKind w with
    | 1 => decide (reEp w = s.blockEp) && s.sigDenied t (reCtr w)
    | 2 => decide (amount ≠ 1)
    | _ => true

def State.syFault (s : State) (t w : Nat) : Option Nat :=
  let x := s.tile t
  let n := syAmount x.r w
  let signal (remote fenced : Bool) : Option Nat :=
    if n = 0 ∨ 2 ^ 31 ≤ n then some fIllegal
    else if !remote && !s.ctrOk (syCtr w) then some fCtrAddr
    else if !fenced && x.c.dirty && s.strict then some fUnfenced
    else if remote && s.remoteDenied t (syCtr w % 4096) n then some fSigRefused
    else if !remote && s.sigDenied t (syCtr w) then some fSigRefused
    else none
  match syOp w with
  | 1 => signal (bit (syFn w) 1) (bit (syFn w) 0)
  | 2 =>
    if 48 ≤ syCtr w then some fCtrAddr
    else if x.r.getCtr (syCtr w) < n then some fUnderflow
    else none
  | 3 => if 48 ≤ syCtr w then some fCtrAddr else none
  | 8 => if bit (syFn w) 0 then signal false true else none
  | _ => none

/-- The fault of a bundle, the lowest slot first, with its slot. -/
def State.bundleFault (s : State) (t : Nat) (b : Slots) : Option (Nat × Nat) :=
  let r := (s.tile t).r
  match mvFault r b.mv with
  | some c => some (c, 0)
  | none => match arFault r b.ar with
    | some c => some (c, 1)
    | none => match s.veFault b.ve with
      | some c => some (c, 2)
      | none => (s.syFault t b.sy).map fun c => (c, 3)

/-! ### The array (04 R132 to R136) -/

/-- Element `k` of `n` bits of a packed row that starts at an address. -/
def rowElem (r : TileRegs) (base n k : Nat) : Nat :=
  let p := n * k
  (beNat (r.getDm (base + p / 8) 3) >>> (24 - p % 8 - n)) % 2 ^ n

/-- A[i][κ] of an operand at an address (04 R133). -/
def mmaA (r : TileRegs) (w a i k : Nat) : Nat :=
  let sh := mmaShapeA w
  let p := mmaPitch (arDt w) (arAstr w) sh.2
  if arAt w then rowElem r (a + i * p) (mmaBits (arDt w)) k else rowElem r (a + k * p) (mmaBits (arDt w)) i

/-- B[κ][j] of an operand at an address (04 R133). -/
def mmaB (r : TileRegs) (w a k j : Nat) : Nat :=
  let sh := mmaShapeB w
  let p := mmaPitch (arDt w) (arBstr w) sh.2
  if arBt w then rowElem r (a + j * p) (mmaBits (arDt w)) k else rowElem r (a + k * p) (mmaBits (arDt w)) j

/-- One output of an MMA from the bank's prior value (04 R135): groups of 32 products, in increasing order. -/
def mmaOut (r : TileRegs) (w a b c i j prior : Nat) : Nat :=
  if arDt w = 11 then
    let sum := ((List.range (32 * arKd w)).map fun k =>
      sInt 8 (mmaA r w a i k) * sInt 8 (mmaB r w b k j)).foldl (· + ·) 0
    uNat 32 (sInt 32 prior + sum)
  else match mmaFmts (arDt w) with
    | none => prior
    | some (fa, fb) =>
      (List.range (arKd w)).foldl (fun acc g =>
        let ps := (List.range 32).map fun q =>
          fmul (fdecode fa (mmaA r w a i (32 * g + q))) (fdecode fb (mmaB r w b (32 * g + q) j))
        let sum := groupSum ps
        let sum :=
          if mmaMx (arDt w) then
            mxScale (beNat (r.getDm (c + 16 * g + i) 1)) (beNat (r.getDm (c + 16 * arKd w + 64 * g + j) 1)) sum
          else sum
        accRound acc sum) prior

/-- An MMA with its operands at addresses a, b and scales at c (04 R135). -/
def mmaApply (r : TileRegs) (w a b c : Nat) : TileRegs :=
  (List.range 16).foldl (fun q i =>
    let old := if arZero w then List.replicate 64 0 else q.getAc (arBank w) i
    q.setAc (arBank w) i (old.mapIdx fun j p => mmaOut r w a b c i j p)) r

/-- ACZERO (04 R136). -/
def acZero (r : TileRegs) (bank : Nat) : TileRegs := { r with ac := mapClear r.ac (1024 * bank) 1024 }

/-- The worst of a list of operand values: 2 where one is NaN, 1 where one is infinite, 0 where all are finite. -/
def worst (l : List FVal) : Nat :=
  l.foldl (fun m v => max m (match v with
    | .nan => 2
    | .inf _ => 1
    | .fin .. => 0)) 0

/-- What the outputs of an MMA from registers r to registers q count: 2 for each that is infinite though its prior value and
the operands of its row and column are finite, 3 for each that is NaN because one of them is (05 R177; DESIGN CHOICE, log
102). -/
def mmaCounts (r q : TileRegs) (w a b : Nat) : List Nat :=
  match mmaFmts (arDt w) with
  | none => []
  | some (fa, fb) =>
    let ks := List.range (32 * arKd w)
    let rows := (List.range 16).map fun i => worst (ks.map fun k => fdecode fa (mmaA r w a i k))
    let cols := (List.range 64).map fun j => worst (ks.map fun k => fdecode fb (mmaB r w b k j))
    ((List.range 16).map fun i =>
      let old := r.getAc (arBank w) i
      (q.getAc (arBank w) i).mapIdx fun j v =>
        let prior := if arZero w then 0 else worst [fdecode fp32 (old.getD j 0)]
        let m := max prior (max (rows.getD i 0) (cols.getD j 0))
        match fdecode fp32 v with
        | .nan => if m = 2 then 3 else 0
        | .inf _ => if m = 0 then 2 else 0
        | .fin .. => 0).flatten

/-- RCLK positions for which an MMA occupies the array, stretched by the issue duty (04 R136; 14 R420). -/
def mmaSpan (w duty : Nat) : Nat := tclkR (ceilDiv (mmaOccupancy w * 16) (max 1 (min 16 duty)))

/-- The issue duty of a tile's Skillet. -/
def State.duty (s : State) (t : Nat) : Nat := mapGet 16 s.pwr.duty (t / 32)

/-- The array takes an MMA whose occupancy begins at `from_`, the edge after its issue: it computes, and its bank can be read
10 TCLK after its issue and occupancy, 14 with AT or BT (04 R136). -/
def State.mmaBegin (s : State) (t w a b c from_ : Nat) : State :=
  let d := s.duty t
  let r := (s.tile t).r
  let s := s.tileCounts t (mmaCounts r (mmaApply r w a b c) w a b)
  s.modTile t fun x =>
    { x with
      r := mmaApply x.r w a b c,
      x :=
        { x.x with
          arrayFree := from_ + mmaSpan w d, mmaRun := some (w, a, b, c),
          banks := mapPut x.x.banks (arBank w) (from_ + mmaSpan w d + tclkR (if arAt w || arBt w then 13 else 9)) } }

/-- The MMA that waits starts in the TCLK after the occupancy before it ends (04 R136). -/
def State.mmaTurn (s : State) (t : Nat) : State :=
  let x := s.tile t
  match x.x.mmaWait with
  | some (w, a, b, c) =>
    if x.x.arrayFree ≤ s.clk.now then
      (s.modTile t fun x => { x with x := { x.x with mmaWait := none } }).mmaBegin t w a b c x.x.arrayFree
    else s
  | none => s

/-! ### The vector unit (04 R138 to R140) -/

/-- A lane of an operation of three lanes a, b, c with its function field and immediate. -/
def laneFn (op fn imm a b c : Nat) : Nat :=
  match op with
  | 0x01 => f32add a b
  | 0x02 => f32sub a b
  | 0x03 => f32mul a b
  | 0x04 => f32fma a b c
  | 0x05 => f32max a b
  | 0x06 => f32min a b
  | 0x07 => f32sgn fn a b
  | 0x0A => f32exp a
  | 0x0C => f32rcp a
  | 0x0D => f32sqrt a
  | 0x0E => f32mul a imm
  | 0x0F => f32add a imm
  | 0x10 => wrap32 (a + b)
  | 0x11 => i32sub a b
  | 0x12 => wrap32 (a * b)
  | 0x13 => logicFn fn a b
  | 0x14 => shiftFn fn a (imm % 32)
  | 0x15 => iminmaxFn fn a b
  | 0x1D => cvtiFn fn a
  | _ => 0

/-- e^x for a finite x of magnitude below 128, in units of 2^−400: Taylor's series of x ÷ 256, squared eight times. What it
is off by is below 2^−150 of the result. -/
def expFix (neg : Bool) (m : Nat) (e : Int) : Int :=
  let q : Int := 2 ^ 400
  let y := fmag neg m * 2 ^ (e + 392).toNat
  let t := (List.range 60).foldl (fun (a : Int × Int) (i : Nat) =>
    let u := a.1 * y / (q * ((i : Int) + 1))
    (u, a.2 + u)) (q, q)
  (List.range 8).foldl (fun s _ => s * s / q) t.2

/-- An FP32 number is normal. -/
def f32normal (c : Nat) : Bool := decide (bits c 30 23 ≠ 0) && decide (bits c 30 23 ≠ 255)

/-- A positive normal FP32 number lies within 2^−11 of e^x in proportion (05 R175). -/
def nearExp (c : Nat) (neg : Bool) (m : Nat) (e : Int) : Bool :=
  let x := FVal.fin neg m e
  if bit c 31 || flt (.fin false 89 0) x || flt x (.fin true 104 0) then false
  else match fdecode fp32 c with
    | .fin _ k j =>
      let w := expFix neg m e
      decide ((((k : Int) * 2 ^ (j + 400).toNat - w).natAbs : Int) * 2048 < w)
    | _ => false

/-- FEXPA of one lane: NaN and infinities as FEXP. Otherwise the bits are open, and free here, held to what R175 and R163 say
of them: a normal result lies within 2^−11 of e^x, a result that is normal under FEXP is normal, and a NaN is the canonical
one. -/
def fexpaLane (free a : Nat) : Nat :=
  match fdecode fp32 a with
  | .fin neg m x =>
    let e := f32exp a
    let c := if fdecode fp32 (free % 2 ^ 32) = .nan then fp32.nanCode else free % 2 ^ 32
    if f32normal c then (if nearExp c neg m x then c else e)
    else if f32normal e then e
    else c
  | _ => f32exp a

/-- The narrowing of a lane value to a DTYPE (04 R139, R140; 05 R166). To FP32 an infinity is returned whatever SAT holds
(DESIGN CHOICE, log 75: R165 returns the input, R162 gives the largest finite number with SAT = 1). -/
def cvtLane (imm : Nat) (rnd : Rnd) (a : Nat) : Nat :=
  if imm % 256 = 5 then (if fdecode fp32 a = .nan then fp32.nanCode else a)
  else dtypeRound (imm % 256) rnd (bit imm 8) (fdecode fp32 a)

/-- What a narrowing counts: 1 a saturation, 2 an overflow to infinity or NaN, 3 a NaN made canonical, 0 nothing. -/
def cvtCount (imm : Nat) (rnd : Rnd) (a : Nat) : Nat :=
  match fdecode fp32 a with
  | .nan => if imm % 256 = 11 then 0 else 3
  | .inf _ =>
    if imm % 256 = 5 then 0
    else if imm % 256 = 11 ∨ bit imm 8 = true then 1
    else if imm % 256 = 1 then 2
    else 0
  | .fin neg m e =>
    if imm % 256 = 5 then 0
    else if imm % 256 = 11 then
      let i := roundInt rnd neg m e
      if i < -128 ∨ 127 < i then 1 else 0
    else if dtypeRound (imm % 256) rnd true (fdecode fp32 a) ≠ dtypeRound (imm % 256) rnd false (fdecode fp32 a) then
      (if bit imm 8 then 1 else 2)
    else 0

/-- What a conversion to INT32 counts: a value outside its range saturates (04 R138; 05 R177). -/
def cvtiCount (fn a : Nat) : Nat :=
  match fdecode fp32 a with
  | .nan => 0
  | .inf _ => if fn = 0 then 1 else 0
  | .fin neg m e =>
    let i := roundInt .rne neg m e
    if fn = 0 ∧ (i < -(2 ^ 31) ∨ 2 ^ 31 - 1 < i) then 1 else 0

/-- The rounding of lane i: to nearest even, or with its random word (04 R140; 05 R169). -/
def cvtRnd (x : TileCr) (stoch : Bool) (vb : Nat) : Rnd :=
  if stoch then .stoch (randomWord x.seed x.step ((x.ebase + vb) % 2 ^ 64)) else .rne

/-- What an FP32 result counts beside its inputs: 2 an overflow, a result that is infinite though every input is finite; 3 a NaN
made canonical, a result that is NaN because an input is (05 R177; DESIGN CHOICE, log 102: the spec defines neither word). -/
def f32Count (r : Nat) (ins : List Nat) : Nat :=
  match fdecode fp32 r with
  | .nan => if ins.any fun a => decide (fdecode fp32 a = .nan) then 3 else 0
  | .inf _ => if ins.all fun a => match fdecode fp32 a with
      | .fin .. => true
      | _ => false then 2 else 0
  | .fin .. => 0

/-- What one lane of a floating-point operation counts. The reciprocal of a zero is exact, and no overflow. -/
def arithCount (free i op fn imm a b c : Nat) : Nat :=
  let r := laneFn op fn imm a b c
  match op with
  | 0x01 | 0x02 | 0x03 | 0x05 | 0x06 => f32Count r [a, b]
  | 0x04 => f32Count r [a, b, c]
  | 0x07 | 0x0A | 0x0D => f32Count r [a]
  | 0x0B => f32Count (fexpaLane (Config.fexpa (64 * free + i) a).toNat a) [a]
  | 0x0C => if a % 2 ^ 31 = 0 then 0 else f32Count r [a]
  | 0x0E | 0x0F => f32Count r [a, imm]
  | _ => 0

/-- What lane i of CVTW counts: a NaN made canonical. -/
def widenCount (imm fn : Nat) (va : List Nat) (i : Nat) : Nat :=
  let d := imm % 256
  let v := if d = 5 then fdecode fp32 (va.getD i 0) else dtypeValue d (packedAt (cvtBytes d) va (64 * fn + i))
  if v = .nan then 3 else 0

/-- What the lanes of a vector slot count (05 R177); a floating-point RED counts once, for its result. -/
def veCounts (free : Nat) (cr : TileCr) (o : TileRegs) (w : Nat) : List Nat :=
  let k := o.getM (veMsk w)
  let va := o.getV (veA w)
  let vb := o.getV (veB w)
  let vc := o.getV (veC w)
  if veOp w = 0x18 then (if veFn w < 3 ∧ k ≠ 0 then [f32Count (redFn (veFn w) va) va] else [])
  else va.mapIdx fun i v =>
    if !bit k i then 0
    else match veOp w with
      | 0x1A | 0x1B => cvtCount (veImm w) (cvtRnd cr (veOp w = 0x1B) (vb.getD i 0)) v
      | 0x1C => widenCount (veImm w) (veFn w) va i
      | 0x1D => cvtiCount (veFn w) v
      | op => arithCount free i op (veFn w) (veImm w) v (vb.getD i 0) (vc.getD i 0)

/-- The vector slot's writes, over the registers as they stood at issue (04 R138). -/
def veApply (free : Nat) (cr : TileCr) (o : TileRegs) (w : Nat) (r : TileRegs) : TileRegs :=
  let va := o.getV (veA w)
  let vb := o.getV (veB w)
  let vc := o.getV (veC w)
  let k := o.getM (veMsk w)
  let put (l : List Nat) : TileRegs := r.setVm (veD w) k l
  match veOp w with
  | 0x00 => r
  | 0x08 =>
    let old := o.getM (veD w % 8)
    r.setM (veD w % 8)
      ((List.range 64).foldl (fun m i =>
        setBit m i (if bit k i then f32cmp (veFn w) (va.getD i 0) (vb.getD i 0) else bit old i)) 0)
  | 0x09 => put ((List.range 64).map fun i => if bit (o.getM (veC w % 8)) i then va.getD i 0 else vb.getD i 0)
  | 0x0B => put (va.mapIdx fun i a => fexpaLane (Config.fexpa (64 * free + i) a).toNat a)
  | 0x18 => put (List.replicate 64 (redFn (veFn w) va))
  | 0x19 =>
    put ((List.range 64).map fun i =>
      va.getD (if veFn w = 0 then i ^^^ (veImm w % 64) else (i + veImm w % 64) % 64) 0)
  | 0x1A | 0x1B =>
    let res := va.mapIdx fun i a => cvtLane (veImm w) (cvtRnd cr (veOp w = 0x1B) (vb.getD i 0)) a
    if veImm w % 256 = 5 then put res
    else r.setV (veD w) (packNarrow (cvtBytes (veImm w % 256)) k (o.getV (veD w)) res)
  | 0x1C =>
    let d := veImm w % 256
    let n := cvtBytes d
    put ((List.range 64).map fun i =>
      if d = 5 then cvtLane 5 .rne (va.getD i 0) else frne fp32 (dtypeValue d (packedAt n va (64 * veFn w + i))))
  | 0x1E => put (o.getAc (bits (veImm w) 4 4) (veImm w % 16))
  | 0x1F =>
    let b := bits (veImm w) 4 4
    let row := veImm w % 16
    r.setAc b row ((o.getAc b row).mapIdx fun i p => if bit k i then va.getD i 0 else p)
  | op => put ((List.range 64).map fun i => laneFn op (veFn w) (veImm w) (va.getD i 0) (vb.getD i 0) (vc.getD i 0))

end Sys2Proof.Machine
end

