-- ==== Sys2Proof/Machine/Issue.lean ====
section
/-! DEFINITION. The issue of a bundle (04 R120 to R124, R143 to R146): stalls, faults, and the effects of its slots,
each over the registers as they stood on the issue edge. -/

namespace Sys2Proof.Machine

/-! ### Stalls (04 R122) -/

/-- A store of the bundle overlaps the operands of an MMA. -/
def overMma (x : Tile) (w : Nat) (q : Nat × Nat × Nat × Nat) : Bool :=
  let n := match mvOp w with
    | 2 => mvSize w
    | 4 => 4
    | 11 => 8
    | _ => 0
  let d := mvAddr x.r w
  decide (n ≠ 0) && (overlaps d n q.2.1 (mmaFootA q.1) || overlaps d n q.2.2.1 (mmaFootB q.1) ||
    (mmaMx (arDt q.1) && overlaps d n q.2.2.2 (80 * arKd q.1)))

/-- A store of the bundle overlaps the operands of an MMA that has not finished reading: of the waiting one, or of the
executing one until its occupancy ends (04 R120). -/
def storeBlocked (now : Nat) (x : Tile) (w : Nat) : Bool :=
  x.x.mmaWait.any (overMma x w) || (decide (now < x.x.arrayFree) && x.x.mmaRun.any (overMma x w))

/-- The accumulator bank that a bundle's ACRD, ACWR or ACZERO names. -/
def Slots.bank (b : Slots) : Option Nat :=
  if veOp b.ve = 0x1E ∨ veOp b.ve = 0x1F then some (bits (veImm b.ve) 4 4)
  else if arOp b.ar = 2 then some (arBank b.ar)
  else none

/-- A bank has an MMA outstanding: one that waits, or one that executed and whose result cannot be read yet (04 R136). -/
def bankBusy (now : Nat) (x : Tile) (k : Nat) : Bool :=
  x.x.mmaWait.any (fun q => decide (arBank q.1 = k)) || decide (now < mapGet 0 x.x.banks k)

/-- An operation on an accumulator bank waits behind the MMAs of the bank (04 R136, R138). -/
def bankBlocked (now : Nat) (x : Tile) (b : Slots) : Bool :=
  b.bank.any (bankBusy now x) || (arOp b.ar = 2 && bankBusy now x (arBank b.ar))

/-- The bundle waits for the array or for the accumulators: no tally counts it, and 08 R261 does not list it. -/
def State.arrayStall (s : State) (t : Nat) (b : Slots) : Bool :=
  let x := s.tile t
  (arOp b.ar = 1 && decide (s.clk.now < x.x.arrayFree) && x.x.mmaWait.isSome) || bankBlocked s.clk.now x b ||
    storeBlocked s.clk.now x b.mv

/-- The stall of a bundle: the tally entry it counts under (17 R470; none has no entry) and what it waits for. -/
def State.stall (s : State) (t : Nat) (b : Slots) : Option (Option Nat × Option Blocked) :=
  let x := s.tile t
  if syOp b.sy = 3 ∧ syCtr b.sy < 48 ∧ reached (x.r.getCtr (syCtr b.sy)) (syAmount x.r b.sy) = false then
    some (some 1, some (.wait (syCtr b.sy) (syAmount x.r b.sy % 2 ^ 32)))
  else if (x.c.fences.any fun f => match f.sig with | none => true | some g => g.halt) = true then
    some (some 2, some .fence)
  else if mvOp b.mv = 12 ∧ 16 ≤ x.c.xq.length then some (some 4, some .xferQueue)
  else if syOp b.sy = 1 ∧ bit (syFn b.sy) 1 = true ∧ 1024 ≤ s.syn.queue.length then some (some 5, some .remoteQueue)
  else if s.arrayStall t b then some (none, none)
  else none

/-- A bundle that does not issue on this edge: its stall is counted and remembered. `only` says that nothing but a reason of
08 R261 holds it: since when that has been so without a break is kept, whichever of them it is (08 R261; 17 R470). -/
def State.holdIssue (s : State) (t : Nat) (entry : Option Nat) (why : Option Blocked) (only : Bool) : State :=
  let s := match entry with
    | some e => s.tileBump t e 1
    | none => s
  let s := if entry = some 1 then s.tileBump t 28 1 else s
  s.modTile t fun x =>
    { x with
      x :=
        { x.x with
          blocked := why, since := if x.x.blocked = why then x.x.since else s.clk.now,
          stuckAt := if only then some (x.x.stuckAt.getD s.clk.now) else none } }

/-! ### Slot effects, over the old tile o -/

/-- A control register (04 R116); FTC_LO latches FTC_HI. -/
def State.readCr (s : State) (t : Nat) (c : TileCr) (n : Nat) : Nat :=
  match n with
  | 0x00 => t
  | 0x01 => c.part
  | 0x02 => c.cls
  | 0x03 => c.setpos
  | 0x04 => c.setsize
  | 0x05 => c.step % 2 ^ 32
  | 0x06 => (c.step >>> 32) % 2 ^ 32
  | 0x07 => c.seed % 2 ^ 32
  | 0x08 => (c.seed >>> 32) % 2 ^ 32
  | 0x09 => s.clk.ftc % 2 ^ 32
  | 0x0A => c.ftcHi
  | 0x0B => c.status
  | 0x0C => c.poisonOfs
  | 0x0D => s.epoch (t / 32)
  | 0x10 => c.ebase % 2 ^ 32
  | 0x11 => (c.ebase >>> 32) % 2 ^ 32
  | _ => 0

/-- What RDCTR reads: the counter after the SUB of its own bundle (08 R246). -/
def rdctr (o : TileRegs) (sy c : Nat) : Nat :=
  if syOp sy = 2 ∧ syCtr sy = c then o.getCtr c - syAmount o sy else o.getCtr c

/-- The registers after the move slot (04 R126), in a bundle with sync slot `sy`. -/
def State.mvRegs (s : State) (t : Nat) (o : Tile) (w sy : Nat) (r : TileRegs) : TileRegs :=
  let a := mvAddr o.r w
  match mvOp w with
  | 1 =>
    let d := bytesLanes (fitBytes 256 (o.r.getDm a (mvSize w)))
    r.setV (mvD w) d
  | 2 => r.setDm a ((laneBytes (o.r.getV (mvS2 w))).take (mvSize w))
  | 3 => r.setG (mvD w) (beNat (o.r.getDm a 4))
  | 4 => r.setDm a (beBytes 4 (o.r.getG (mvS2 w)))
  | 5 => r.setG (mvD w) (mvImm w)
  | 6 => r.setG (mvD w) (aluFn (mvFn w) (o.r.getG (mvS1 w)) (o.r.getG (mvS2 w)))
  | 7 => r.setG (mvD w) (aluFn (mvFn w) (o.r.getG (mvS1 w)) (mvImm w))
  | 8 => r.setV (mvD w) (List.replicate 64 (o.r.getG (mvS1 w)))
  | 9 => r.setG (mvD w) ((o.r.getV (mvS1 w)).getD (mvImm w % 64) 0)
  | 10 => r.setM (mvD w) (beNat (o.r.getDm a 8))
  | 11 => r.setDm a (beBytes 8 (o.r.getM (mvS2 w)))
  | 13 => r.setG (mvD w) (rdctr o.r sy (mvImm w % 64))
  | 14 => r.setG (mvD w) (s.readCr t o.cr (mvImm w % 256))
  | 15 => r.setL (mvD w) (wrap32 (o.r.getG (mvS1 w) + mvImm w))
  | _ => r

/-- The control registers after the move slot: WRCR, and the latch of a read of FTC_LO (04 R116, R126). -/
def State.mvCr (s : State) (o : Tile) (w : Nat) (c : TileCr) : TileCr :=
  let v := o.r.getG (mvS1 w)
  match mvOp w with
  | 14 => if mvImm w % 256 = 9 then { c with ftcHi := (s.clk.ftc >>> 32) % 2 ^ 32 } else c
  | 16 =>
    if mvImm w % 256 = 0x10 then { c with ebase := c.ebase / 2 ^ 32 * 2 ^ 32 + v }
    else { c with ebase := c.ebase % 2 ^ 32 + v * 2 ^ 32 }
  | _ => c

/-- The tile's control after the move slot: a store sets the dirty flag; XFER queues the descriptor it reads, and sets
the flag where it moves data out (04 R126, R144). -/
def mvCtl (o : Tile) (w : Nat) (c : TileCtl) : TileCtl :=
  match mvOp w with
  | 2 | 4 | 11 => { c with dirty := true }
  | 12 =>
    let d := beNat (o.r.getDm (mvAddr o.r w) 32)
    { c with xq := c.xq ++ [d], dirty := c.dirty || xdOut d }
  | _ => c

/-- The registers after the array slot's address increments (04 R131). -/
def arRegs (o : TileRegs) (w : Nat) (r : TileRegs) : TileRegs :=
  if arOp w ≠ 1 then r
  else
    let r := if arAinc w then r.setG (arGa w) (wrap32 (o.getG (arGa w) + mmaFootA w)) else r
    if arBinc w then r.setG (arGb w) (wrap32 (o.getG (arGb w) + mmaFootB w)) else r

/-- The array slot: an MMA occupies the array from the edge after its issue, or waits behind the one executing; MMAs start in
the order of their issue; ACZERO clears its bank in 2 TCLK (04 R135, R136). -/
def State.arEffect (s : State) (t : Nat) (o : TileRegs) (w : Nat) : State :=
  match arOp w with
  | 1 =>
    let a := o.getG (arGa w)
    let b := o.getG (arGb w)
    let c := o.getG (arGs w)
    let s := s.mmaTurn t
    if (s.tile t).x.arrayFree ≤ s.clk.now then s.mmaBegin t w a b c (s.clk.now + tclkR 1)
    else s.modTile t fun x => { x with x := { x.x with mmaWait := some (w, a, b, c) } }
  | 2 => s.modTile t fun x =>
      { x with
        r := acZero x.r (arBank w),
        x := { x.x with banks := mapPut x.x.banks (arBank w) (s.clk.now + tclkR 2) } }
  | _ => s

/-- The registers after the sync slot: SUB and LOOP (04 R143). -/
def syRegs (o : TileRegs) (w : Nat) (r : TileRegs) : TileRegs :=
  match syOp w with
  | 2 => r.setCtr (syCtr w) (r.getCtr (syCtr w) - syAmount o w)
  | 7 => r.setL (syFn w % 4) (i32sub (o.getL (syFn w % 4)) 1)
  | _ => r

/-- BRZ branches: on zero, or with FN[0] on a value that is not zero (04 R143). -/
def brTaken (o : TileRegs) (w : Nat) : Bool := xor (bit (syFn w) 0) (decide (o.getG (syGr w) = 0))

/-- The index of the next bundle (04 R124, R143). -/
def nextPc (o : TileRegs) (w : Nat) : Nat :=
  match syOp w with
  | 5 => syTgt w
  | 6 => if brTaken o w then syTgt w else o.pc + 1
  | 7 => if i32sub (o.getL (syFn w % 4)) 1 ≠ 0 then syTgt w else o.pc + 1
  | _ => o.pc + 1

/-- The bundle costs the TCLK after it: a branch that is taken, or a LOOP that falls through (04 R124). -/
def costsTclk (o : TileRegs) (w : Nat) : Bool :=
  match syOp w with
  | 5 => true
  | 6 => brTaken o w
  | 7 => decide (i32sub (o.getL (syFn w % 4)) 1 = 0)
  | _ => false

/-- Sends the signal of a SIG or a HALT from a tile (04 R143). -/
def State.sendSlot (s : State) (t fn ctr amount : Nat) (halt : Bool) : State :=
  if !halt && bit fn 1 then s.sendRemote t (ctr % 4096) amount
  else
    s.sendSig
      { addr := ctr, amount := amount, part := (s.tile t).cr.part, path := sigPath t ctr, tile := some t }

/-- Outbound transfers that a fence waits for (08 R251). -/
def outbound (c : TileCtl) : Nat :=
  (match c.xrun with
    | some d => b2n (xdOut d)
    | none => 0) + (c.xq.filter xdOut).length

/-- A fence completes: the dirty flag is cleared, and the signal that waited is sent; a HALT's tile halts (04 R143,
R144). -/
def State.endFence (s : State) (t : Nat) (g : Option FencedSig) : State :=
  let s := s.modTile t fun x => { x with c := { x.c with dirty := false } }
  match g with
  | none => s
  | some g =>
    let s := s.sendSlot t g.fn g.ctr g.amount g.halt
    if g.halt && decide ((s.tile t).c.state = 3) then s.modTile t fun x => { x with c := { x.c with state := 4 } } else s

/-- A fence begins, with the signal that follows it; with nothing outstanding it completes at once (04 R144). -/
def State.fence (s : State) (t : Nat) (g : Option FencedSig) : State :=
  let n := outbound (s.tile t).c
  if n = 0 then s.endFence t g
  else s.modTile t fun x => { x with c := { x.c with fences := x.c.fences ++ [{ left := n, sig := g }] } }

/-- The sync slot's signals, fences and halt (04 R143, R144). `was` is the dirty flag as the bundle found it: a SIG with F = 0
is judged by it, and so does not see a store of its own bundle (DESIGN CHOICE, log 100: R144 says nothing of that case). -/
def State.syEffect (s : State) (t : Nat) (o : TileRegs) (was : Bool) (w : Nat) : State :=
  let n := syAmount o w
  match syOp w with
  | 1 =>
    if bit (syFn w) 0 then s.fence t (some ⟨syFn w, syCtr w, n, false⟩)
    else
      let s :=
        if was then
          (s.modTile t fun x => { x with cr := { x.cr with status := setBit x.cr.status 2 true } }).tileBump t 10 1
        else s
      s.sendSlot t (syFn w) (syCtr w) n false
  | 4 => s.fence t none
  | 8 =>
    if bit (syFn w) 0 then s.fence t (some ⟨0, syCtr w, n, true⟩)
    else s.modTile t fun x => { x with c := { x.c with state := 4 } }
  | _ => s

/-- Tallies and samples of an issue (17 R470, R475). -/
def State.issueCounts (s : State) (t : Nat) (o : Tile) (b : Slots) : State :=
  let free := s.free
  let s := s.tileBump t 0 1
  let a := mvAddr o.r b.mv
  let s := match mvOp b.mv with
    | 1 => s.loadEvent t a 4
    | 3 | 10 => s.loadEvent t a 3
    | _ => s
  let s := if veOp b.ve = 0x0B then s.spend.tileBump t 34 1 else s
  let s := s.tileCounts t (veCounts free o.cr o.r b.ve)
  if syOp b.sy = 3 then
    match o.x.blocked with
    | some (.wait c _) =>
      let d := (s.clk.now - o.x.since) / 8
      (s.skilletMag t 2 d).sample t 3 o.r.pc 3 c d 0
    | _ => s
  else s

/-- The effects of a bundle that issues (04 R122, R124): every slot reads the state before, vector writes precede the
array, signals and fences come last. -/
def State.issueEffects (s : State) (t : Nat) (b : Slots) : State :=
  let o := s.tile t
  let free := s.free
  let s := s.issueCounts t o b
  let r := s.mvRegs t o b.mv b.sy o.r
  let r := arRegs o.r b.ar r
  let r := veApply free o.cr o.r b.ve r
  let r := syRegs o.r b.sy r
  let c := mvCtl o b.mv o.c
  let s := s.setTile t
    { r := { r with pc := nextPc o.r b.sy },
      cr := s.mvCr o b.mv o.cr,
      c := c,
      x :=
        { (if syOp b.sy = 2 then o.x.noteNet s.clk.now (syCtr b.sy) (2 ^ 32 - syAmount o.r b.sy % 2 ^ 32) else o.x) with
          blocked := none, stuckAt := none, asleep := false, moved := s.clk.now, hold := costsTclk o.r b.sy,
          passBp := false,
          xinfo :=
            if mvOp b.mv = 12 then o.x.xinfo ++ [(s.clk.now, o.r.pc, mvAddr o.r b.mv)] else o.x.xinfo } }
  let s := s.arEffect t o.r b.ar
  s.syEffect t o.r o.c.dirty b.sy

/-- A breakpoint stops the bundle at PC (17 R483). -/
def State.breaks (s : State) (t : Nat) : Bool :=
  let x := s.tile t
  match s.obs.unlock with
  | none => false
  | some u =>
    !x.x.passBp && (u.scope = 64 || decide (u.scope = x.c.owner)) &&
      (List.range 4).any fun e =>
        let k := mapGet {} s.obs.brks (4 * (t / 32) + e)
        k.on && bit k.mask (t % 32) && decide (k.idx = x.r.pc)

/-- A tile that issues: RUNNING, neither stopped nor failing, not on its way out of P1, in a Skillet at P0 (04 R145, R146,
R151; 14 R411). -/
def State.issues (s : State) (t : Nat) : Bool :=
  let c := (s.tile t).c
  decide (c.state = 3) && !c.frozen && c.failing.isNone && s.awake (t / 32) &&
    decide ((s.tile t).x.wakeAt ≤ s.clk.now)

/-- One edge of a tile's issue with a bundle (04 R122 to R124, R146): it faults, or stalls, or issues whole. An illegal bundle
faults on its first edge, whatever it waits for, while its addresses and counters are judged as it would issue; a PC_RANGE
fault records slot 3, where the next bundle is chosen (DESIGN CHOICE, log 100: the spec gives neither). -/
def State.issue (s : State) (t : Nat) (b : Slots) : State :=
  if s.issues t = false then s
  else if (s.tile t).c.nbundle ≤ (s.tile t).r.pc then s.tileFault t fPcRange 3
  else match b.illegal with
    | some slot => s.tileFault t fIllegal slot
    | none => match s.stall t b with
      | some (e, why) => s.holdIssue t e why (why.isSome && !s.arrayStall t b)
      | none =>
        if s.breaks t then s.tileFault t fDebugStop 0
        else match s.bundleFault t b with
          | some (c, slot) =>
            let s := if c = fUnderflow then s.tileBump t 30 1
              else if c = fSigRefused then s.bump (t / 32) 27 1 else s
            s.tileFault t c slot
          | none => s.issueEffects t b

/-- The bundle at PC. -/
def State.bundleAt (s : State) (t : Nat) : Slots := Slots.ofBundle (mapGet 0 (s.tile t).r.is (s.tile t).r.pc)

/-- One edge of a tile's issue from its instruction store. -/
def State.issueNext (s : State) (t : Nat) : State := s.issue t (s.bundleAt t)

/-- The order of the tiles that issue on one edge: signals first, then SUB, then the others, so that every update of the edge
is judged and seen as 08 R246 orders it. -/
def State.issueOrder (s : State) (t : Nat) : Nat :=
  match syOp (s.bundleAt t).sy with
  | 1 | 8 => 0
  | 2 => 1
  | _ => 2

/-- A RDCTR in a bundle that signals has read its counter before the updates that other tiles made on the edge: it reads what
the edge has left (08 R246). -/
def State.rereadCtr (s : State) (p : Nat × Nat) : State :=
  if (s.tile p.1).x.moved = s.clk.now ∧ mvOp p.2 = 13 then
    s.modTile p.1 fun x => { x with r := x.r.setG (mvD p.2) (x.r.getCtr (mvImm p.2 % 64)) }
  else s

/-- Those of a list of tiles that issue, and hold a program of their own, issue their next bundles on one TCLK edge. -/
def State.issueTiles (s : State) (l : List Nat) : State :=
  let go := l.filter fun t => decide ((s.tile t).c.lib = 0) && s.issues t
  let early := (go.filter fun t => decide (s.issueOrder t = 0)).map fun t => (t, (s.bundleAt t).mv)
  early.foldl State.rereadCtr ((sortBy s.issueOrder go).foldl State.issueNext s)

/-- The entry bundles of tiles that have just started issue, where this is a TCLK edge (04 R150). -/
def State.issueEntry (s : State) (l : List Nat) : State := if s.clk.now % 8 = 0 then s.issueTiles l else s

end Sys2Proof.Machine
end

