-- ==== Sys2Proof/Machine/Regions.lean ====
section
/-! DEFINITION. Access to regions: the address checks (01 R27, R28), the layouts of PARAM, LOG and KV regions (07 R210 to
R217; 06 R178 to R181), and reads and writes of region ranges through the page map, the mirror and the digest leaves
(07 R212 to R214; 01 R26; 09 R294). -/

namespace Sys2Proof.Machine

/-! ### Kinds and checks -/

/-- R27: an opcode is permitted on a kind. -/
def kindPermits (op kind : Nat) : Bool :=
  match op with
  | 0x01 => decide (kind ≤ 5)
  | 0x02 => kind = 0 || kind = 1 || kind = 5
  | 0x10 | 0x11 | 0x12 => kind = 0 || kind = 3
  | 0x18 => kind = 0 || kind = 1 || kind = 4
  | 0x20 | 0x21 => kind = 2
  | 0x28 => kind = 1
  | 0x38 => kind = 5
  | _ => false

/-- The opcode writes its region, so that RDONLY forbids it (01 R25, R28). -/
def opWrites (op : Nat) : Bool := [0x02, 0x10, 0x11, 0x12, 0x20, 0x28].contains op

/-- Checks 3 to 6 of R28, in order; the code and the number of the first that fails. -/
def State.addrCheck (s : State) (part cls handle ofs len : Nat) (permits : Desc → Bool) (writes : Bool) :
    Option (Nat × Nat) :=
  let d := s.descOf (hdDesc handle)
  if hdPart handle ≠ part then some (cPartition, 3)
  else if hdRsv handle ≠ 0 ∨ d.state ≠ 1 ∨ d.owner ≠ part then some (cRegion, 4)
  else if !bit d.classMask cls || !permits d || (writes && d.rdonly) then some (cRegion, 5)
  else if d.capacity < ofs + len then some (cRegion, 6)
  else none

/-- The descriptor that a handle names, where it names an active region of its partition. -/
def State.activeDesc (s : State) (handle : Nat) : Option Desc :=
  let d := s.descOf (hdDesc handle)
  if hdRsv handle = 0 ∧ d.state = 1 ∧ d.owner = hdPart handle then some d else none

/-- Repairs the granules of a backing range that have failed in their first copy from a good second copy. -/
def State.healRaw (s : State) (d : Desc) (ofs len : Nat) : State :=
  let lo := (d.bpa0 + ofs) / 64
  let hi := (d.bpa0 + ofs + len + 63) / 64
  let shift := d.mbpa0 / 64
  (s.mem.poison.filter fun p => decide (lo ≤ p.1) && decide (p.1 < hi)).foldl (fun s p =>
    let m := p.1 - d.bpa0 / 64 + shift
    if s.failing m then s else s.store (64 * p.1) (s.mread (64 * m) 64)) s

/-- Repairs the header, the stripe map and the page-map entries that resolve a range of a PARAM region (07 R241). -/
def State.healMap (s : State) (d : Desc) (ofs len : Nat) : State :=
  if d.kind = kParam then
    let h := s.prmHdr d
    let pb := prmPageBytes h
    let s := s.healRaw d 0 (64 + 16 * prmExtents h)
    if pb = 0 then s else s.healRaw d (0x10000 + 8 * (ofs / pb)) (8 * ((ofs + len) / pb - ofs / pb + 1))
  else s

/-- A mirrored region repairs what has failed in its first copy of a range, and of the tables that resolve it, from a good
second copy (07 R241). -/
def State.rheal (s : State) (d : Desc) (ofs len : Nat) : State :=
  if d.mirror then (s.pieces d ofs len false).foldl (fun s q => s.healRaw d q.1 q.2) (s.healMap d ofs len) else s

/-- The failing granule of the header, the stripe map or the page-map entries that resolve a range of a PARAM region, where no
good copy has repaired it (12 R365). -/
def State.tablesFail (s : State) (d : Desc) (ofs len : Nat) : Option Nat :=
  if d.kind = kParam ∧ s.mem.poison ≠ [] then
    let h := s.prmHdr d
    let pb := prmPageBytes h
    (s.poisonIn d.bpa0 (64 + 16 * prmExtents h)).orElse fun _ =>
      if pb = 0 then none
      else s.poisonIn (d.bpa0 + 0x10000 + 8 * (ofs / pb)) (8 * ((ofs + len - 1) / pb - ofs / pb + 1))
  else none

/-- The granules of the header and the page map that an access to a range of a PARAM region reads (10 R312). -/
def State.tableGranules (s : State) (d : Desc) (ofs len : Nat) : Nat :=
  if d.kind = kParam then
    let pb := prmPageBytes (s.prmHdr d)
    1 + (if pb = 0 then 0 else granulesIn (8 * (ofs / pb)) (8 * ((ofs + len - 1) / pb - ofs / pb + 1)))
  else 0

/-- Bytes of a region range, failing granules as zeros (02 R56). -/
def State.rread (s : State) (d : Desc) (ofs len : Nat) : List Byte :=
  ((s.pieces d ofs len false).map fun q => s.loadZ (d.bpa0 + q.1) q.2).flatten

/-- Bytes of a region range as they come to an operation. -/
def State.rreadFor (s : State) (o : OpRec) (d : Desc) (ofs len : Nat) : List Byte :=
  if s.mem.fails.isEmpty && s.mem.misreads.isEmpty then s.rread d ofs len
  else ((s.pieces d ofs len false).map fun q => s.loadFor o (d.bpa0 + q.1) q.2).flatten

/-- The lowest-addressed failing granule of a read of a range: its code and its index in the operation. -/
def State.rreadFail (s : State) (o : OpRec) (d : Desc) (ofs len : Nat) : Option (Nat × Nat) :=
  let step (acc : Nat × Option (Nat × Nat)) (q : Nat × Nat) : Nat × Option (Nat × Nat) :=
    match acc.2 with
    | some _ => acc
    | none =>
      (acc.1 + q.2, (s.readFail o (d.bpa0 + q.1) q.2).map fun r => (r.1, r.2 + (acc.1 + ofs % 64) / 64))
  ((s.pieces d ofs len false).foldl step (0, none)).2

/-- The first failing granule of a range as a region granule number, for units that hold no operation. -/
def State.rpoison (s : State) (d : Desc) (ofs len : Nat) : Option Nat :=
  let step (acc : Nat × Option Nat) (q : Nat × Nat) : Nat × Option Nat :=
    match acc.2 with
    | some _ => acc
    | none => (acc.1 + q.2, (s.poisonIn (d.bpa0 + q.1) q.2).map fun g =>
        ofs / 64 * 64 + (acc.1 + ofs % 64) / 64 * 64 + 64 * (g - (d.bpa0 + q.1) / 64))
  ((s.pieces d ofs len false).foldl step (0, none)).2

/-- Digest leaves of 1 MiB that a write makes dirty, with its place in the order of admissions; the earliest write counts. The
ROOT of a PARAM region changes by folds alone (09 R294). -/
def State.dirtyFrom (s : State) (desc : Nat) (d : Desc) (ord ofs len : Nat) : State :=
  if d.digest && decide (d.kind ≠ kParam) && decide (0 < len) then
    s.modRgn fun r =>
      { r with
        dirty := (List.range ((ofs + len - 1) / 1048576 - ofs / 1048576 + 1)).foldl
          (fun m i =>
            let k := desc * 2 ^ 20 + ofs / 1048576 + i
            mapPut m k (min ord ((mapFind m k).getD ord))) r.dirty }
  else s

/-- The leaves of a write that is made now. -/
def State.dirtyLeaves (s : State) (handle : Nat) (d : Desc) (ofs len : Nat) : State :=
  s.dirtyFrom (hdDesc handle) d s.frm.order ofs len

/-- Writes a range of a region: every piece, and its copy in a mirrored region (07 R214). -/
def State.rwrite (s : State) (handle ofs : Nat) (b : List Byte) (shadow : Bool) : State :=
  let d := s.descOf (hdDesc handle)
  let step (acc : State × Nat) (q : Nat × Nat) : State × Nat :=
    let x := (b.drop acc.2).take q.2
    let t := acc.1.store (d.bpa0 + q.1) x
    let t := if d.mirror then t.store (d.mbpa0 + q.1) x else t
    (t, acc.2 + q.2)
  let t := ((s.pieces d ofs b.length shadow).foldl step (s, 0)).1
  if shadow then t else t.dirtyLeaves handle d ofs b.length

/-- The granule that a write of a range covers in part and that is poisoned, in every copy that there is, as its BPA granule
number; the lowest (12 R365; 07 R241). -/
def State.rwriteFail (s : State) (d : Desc) (ofs len : Nat) : Option Nat :=
  let bad (a n : Nat) : List Nat := if n = 0 then [] else (partialGranules a n).filter s.poisoned ++ s.lostIn a n
  let l := ((s.pieces d ofs len false).map fun q => bad (d.bpa0 + q.1) q.2).flatten
  (if d.mirror then l.filter fun g => s.failing (g - d.bpa0 / 64 + d.mbpa0 / 64) else l).min?

/-- The index within the operation of a granule of a range of a region (02 R56; 12 R365). -/
def State.failIndex (s : State) (d : Desc) (ofs len g : Nat) : Nat :=
  ((s.pieces d ofs len false).foldl (fun (a : Nat × Option Nat) q =>
    match a.2 with
    | some _ => a
    | none =>
      let lo := (d.bpa0 + q.1) / 64
      if lo ≤ g ∧ g ≤ (d.bpa0 + q.1 + q.2 - 1) / 64 then (a.1, some (g - lo + (a.1 + ofs % 64) / 64))
      else (a.1 + q.2, none)) (0, none)).2.getD 0

/-- Sets W of every page that a shadow write touches (07 R214). -/
def State.setShadow (s : State) (d : Desc) (ofs len : Nat) : State :=
  let h := s.prmHdr d
  let pb := prmPageBytes h
  if pb = 0 then s
  else (splitRange pb (len / pb + 2) ofs len).foldl (fun s q =>
    let e := s.pageEntry d (q.1 / pb)
    s.rawWrite d (0x10000 + 8 * (q.1 / pb)) (beBytes 8 (setBit e 14 true))) s

/-- The extent that covers a local page, and its G0 and FIRST_PAGE (07 R207). -/
def State.extentOf (s : State) (d : Desc) (p : Nat) : Option (Nat × Nat × Nat) :=
  let h := s.prmHdr d
  ((List.range (prmExtents h)).map fun i => s.rawNat d (0x40 + 16 * i) 16).findSome? fun w =>
    let f := bits w 63 50
    if f ≤ p ∧ p < f + bits w 49 35 then some (bits w 127 64, f, bits w 49 35) else none

/-- G of element e of a PARAM region, where an extent covers its page (07 R208). -/
def State.globalIndex (s : State) (d : Desc) (e : Nat) : Option Nat :=
  (s.extentOf d (e / 16384)).map fun x => x.1 + (e / 16384 - x.2.1) * 16384 + e % 16384

/-! ### LOG regions (07 R216, R217) -/

def State.logHdr (s : State) (d : Desc) : Nat := s.rawNat d 0 64
def lgRole (h : Nat) : Nat := bits h 511 510
def lgDtype (h : Nat) : Nat := bits h 509 502
def lgEntries (h : Nat) : Nat := bits h 501 498
def lgParam (h : Nat) : Nat := bits h 497 474
def lgPeerEp (h : Nat) : Nat := bits h 473 454
def lgPeer (h : Nat) : Nat := bits h 453 430
def lgPages (h : Nat) : Nat := bits h 429 415
def lgEntryBytes (h : Nat) : Nat := bits h 414 383
def lgCkpt (h : Nat) : Nat := bits h 382 319
/-- Bytes per gradient element. -/
def lgWidth (h : Nat) : Nat := if lgDtype h = 3 then 2 else 4
def State.setLogHdr (s : State) (d : Desc) (h : Nat) : State := s.rawWrite d 0 (beBytes 64 h)
/-- The region offset of the entry that a step uses. -/
def lgEntryOfs (h step : Nat) : Nat := 0x10000 + (if lgEntries h = 0 then 0 else step % lgEntries h) * lgEntryBytes h

def State.entStep (s : State) (d : Desc) (e : Nat) : Nat := s.rawNat d e 8
/-- STATE of an entry: 0 empty, 1 filling, 2 sealed, 3 void. -/
def State.entState (s : State) (d : Desc) (e : Nat) : Nat := s.rawNat d (e + 8) 1
def State.entNupd (s : State) (d : Desc) (e : Nat) : Nat := s.rawNat d (e + 9) 1
/-- Bit p of a bitmap of an entry header: page 0 is the most significant bit of byte 0. -/
def State.mapBit (s : State) (d : Desc) (o p : Nat) : Bool := bit (s.rawNat d (o + p / 8) 1) (7 - p % 8)
def State.setMapBit (s : State) (d : Desc) (o p : Nat) (v : Bool) : State :=
  s.rawWrite d (o + p / 8) (beBytes 1 (setBit (s.rawNat d (o + p / 8) 1) (7 - p % 8) v))
def State.written (s : State) (d : Desc) (e p : Nat) : Bool := s.mapBit d (e + 0x1000) p
def State.claimed (s : State) (d : Desc) (e p : Nat) : Bool := s.mapBit d (e + 0x1800) p

/-! ### KV regions (06 R178 to R181) -/

def State.kvHdr (s : State) (d : Desc) : Nat := s.rawNat d 0 64
def kvDtype (h : Nat) : Nat := bits h 511 504
def kvDim (h : Nat) : Nat := bits h 503 488
def kvLayers (h : Nat) : Nat := bits h 487 472
def kvHeads (h : Nat) : Nat := bits h 471 456
def kvPages (h : Nat) : Nat := bits h 455 440
def kvContexts (h : Nat) : Nat := bits h 439 408
def kvSlots (h : Nat) : Nat := bits h 407 376
def kvFree (h : Nat) : Nat := bits h 375 344
def kvPt (h : Nat) : Nat := bits h 319 280
def kvBm (h : Nat) : Nat := bits h 279 240
def kvBase (h : Nat) : Nat := bits h 239 200
def kvPageBytes (h : Nat) : Nat := bits h 199 168
def kvWidth (h : Nat) : Nat := if kvDtype h ≤ 2 then 1 else 2
def State.setKvHdr (s : State) (d : Desc) (h : Nat) : State := s.rawWrite d 0 (beBytes 64 h)

/-- A context-table entry (06 R180). -/
def State.kvCtx (s : State) (d : Desc) (c : Nat) : Nat := s.rawNat d (64 + 16 * c) 16
def State.setKvCtx (s : State) (d : Desc) (c w : Nat) : State := s.rawWrite d (64 + 16 * c) (beBytes 16 w)
/-- ROLE: 0 free, 1 home, 2 spill, 3 releasing. -/
def kcRole (w : Nat) : Nat := bits w 127 126
def kcFirst (w : Nat) : Nat := bits w 125 116
def kcLog2n (w : Nat) : Nat := bits w 115 112
def kcHome (w : Nat) : Nat := bits w 111 92
def kcGen (w : Nat) : Nat := bits w 31 0

/-- The offset of the page-table entry of local page p of a stream (06 R181). -/
def kvPtOfs (h c layer head p : Nat) : Nat :=
  kvPt h + 8 * (((c * kvLayers h + layer) * kvHeads h + head) * kvPages h + p)
def kpValid (e : Nat) : Bool := bit e 63
def kpFill (e : Nat) : Nat := bits e 62 50
def kpSlot (e : Nat) : Nat := bits e 31 0

/-- The local page that holds global page g of a context, where it is held here (06 R183). -/
def kvLocal (h w g : Nat) : Option Nat :=
  match kcRole w with
  | 1 => if g < kvPages h then some g else none
  | 2 => if kcFirst w ≤ g ∧ g < kcFirst w + 2 ^ kcLog2n w then some (g - kcFirst w) else none
  | _ => none

end Sys2Proof.Machine
end

