-- ==== Sys2Proof/Machine/Image.lean ====
section
/-! DEFINITION. Microprogram images: their layout, BODY_HASH, and what a load checks and writes (04 R147 to R149). -/

namespace Sys2Proof.Machine

/-- The 64 header bytes of an image at an offset of a region. -/
def State.imgHdr (s : State) (d : Desc) (ofs : Nat) : List Byte := s.rread d ofs 64
def igMagic (h : List Byte) : Nat := natAt h 0 4
def igVersion (h : List Byte) : Nat := natAt h 4 1
def igFlags (h : List Byte) : Nat := natAt h 5 1
def igBundles (h : List Byte) : Nat := natAt h 6 2
def igEntry (h : List Byte) : Nat := natAt h 8 2
def igSegs (h : List Byte) : Nat := natAt h 10 2
def igMask (h : List Byte) : Nat := natAt h 16 8
/-- BODY_HASH, and the program digest: its first 16 bytes. -/
def igHash (h : List Byte) : List Byte := sliceBytes h 32 32
def igDigest (h : List Byte) : Nat := natAt h 32 16

/-- The offset of bundle 0 in the image. -/
def igBundleOfs (h : List Byte) : Nat := roundUp (64 + 16 * igSegs h) 32

/-- The segments: DM_ADDR, LENGTH, IMG_OFS. -/
def State.imgSegs (s : State) (d : Desc) (ofs : Nat) (h : List Byte) : List (Nat × Nat × Nat) :=
  (List.range (igSegs h)).map fun i =>
    let b := s.rread d (ofs + 64 + 16 * i) 16
    (natAt b 0 4, natAt b 4 4, natAt b 8 8)

/-- The end of the image: past its bundles and past every segment's data. -/
def State.imgSize (s : State) (d : Desc) (ofs : Nat) (h : List Byte) : Nat :=
  (s.imgSegs d ofs h).foldl (fun m g => max m (g.2.2 + g.2.1)) (igBundleOfs h + 32 * igBundles h)

/-- Ladel's check of BODY_HASH: the image lies within the region, no granule of it fails, and the hash matches. What it finds
wrong, by the number that the event names it with: 1 the hash, 2 the image leaves the region, 3 a failing granule (04
R148; the numbers are the model's, DESIGN CHOICE, log 79). -/
def State.imgFault (s : State) (d : Desc) (ofs : Nat) : Option Nat :=
  let h := s.imgHdr d ofs
  if d.capacity < ofs + 64 ∨ d.capacity < ofs + igBundleOfs h ∨ d.capacity < ofs + s.imgSize d ofs h then some 2
  else
    let n := s.imgSize d ofs h
    if (s.rpoison d ofs n).isSome then some 3
    else if sha256 (s.rread d (ofs + 64) (n - 64)) ≠ igHash h then some 1
    else none

/-- The recorded checks of a region. -/
def State.hashOf (s : State) (desc ofs : Nat) : Option Bool :=
  if s.rgn.hash.any (fun r => r.desc = desc && !r.good) then some false
  else (s.rgn.hash.find? fun r => r.desc = desc && r.ofs = ofs).map fun r => r.good

/-- The bundles of an image. -/
def State.imgBundles (s : State) (d : Desc) (ofs : Nat) (h : List Byte) : List Nat :=
  (List.range (igBundles h)).map fun i => beNat (s.rread d (ofs + igBundleOfs h + 32 * i) 32)

/-- No two segments overlap. -/
def segsApart (l : List (Nat × Nat × Nat)) : Bool :=
  match l with
  | [] => true
  | g :: r => r.all (fun k => !overlaps g.1 g.2.1 k.1 k.2.1) && segsApart r

/-- Check 2 of a load: header, segment bounds, bundle validity, and APPROX under DET_STRICT (04 R147, R149). -/
def State.imgValid (s : State) (d : Desc) (ofs : Nat) : Bool :=
  let h := s.imgHdr d ofs
  let g := s.imgSegs d ofs h
  decide (ofs + 64 ≤ d.capacity) && igMagic h = 0x4B574D50 && igVersion h = 0x31 && decide (igFlags h < 4) &&
    decide (1 ≤ igBundles h ∧ igBundles h ≤ 1024 ∧ igEntry h < igBundles h ∧ igSegs h ≤ 64) &&
    natAt h 12 4 = 0 && natAt h 24 8 = 0 && decide (igMask h < 2 ^ 48) &&
    g.all (fun x => decide (x.1 + x.2.1 ≤ dmSize)) && segsApart g &&
    decide (ofs + s.imgSize d ofs h ≤ d.capacity) &&
    (s.imgBundles d ofs h).all (fun b => (Slots.ofBundle b).valid) && !(s.strict && bit (igFlags h) 0)

/-- The shipped image at a place in a CODE region, 0 for none (15 R445). -/
def State.libAt (s : State) (desc ofs : Nat) : Nat :=
  match s.rgn.libs.find? fun x => decide (x.1 = desc) && decide (x.2.1 = ofs) with
  | some x => x.2.2
  | none => 0

/-- A tile that a load has filled: data memory, registers and banks zero, counters 0, bundles and segments written (04
R149). -/
def State.loadedTile (s : State) (d : Desc) (handle ofs part : Nat) : Tile :=
  let h := s.imgHdr d ofs
  let r : TileRegs := { is := mapPutList 0 [] 0 (s.imgBundles d ofs h) }
  let r := (s.imgSegs d ofs h).foldl (fun r g => r.setDm g.1 (s.rread d (ofs + g.2.2) g.2.1)) r
  { r := r,
    c :=
      { state := 2, nbundle := igBundles h, entry := igEntry h, ctrMask := igMask h, image := handle, imageOfs := ofs,
        digest := igDigest h, lib := s.libAt (hdDesc handle) ofs, owner := part } }

/-- A tile that takes a load: EMPTY, LOADED, HALTED or FAULTED (04 R149 check 1); one that a fault has stopped takes none
before it is FAULTED (04 R146). A HALTED tile takes one while transfers or fences of its are still under way, and the load
drops them (DESIGN CHOICE, log 100: R149 does not say what becomes of them). -/
def State.takesLoad (s : State) (t : Nat) : Bool :=
  [0, 2, 4, 5].contains (s.tile t).c.state && (s.tile t).c.failing.isNone

/-- What a load, a save or a discard leaves in a tile's control registers: the last fault record, and FTC_HI, which is live
(04 R115, R155). A reset of the Skillet and a warm start clear the record with the tile (DESIGN CHOICE, log 100). -/
def TileCr.live (r : TileCr) : TileCr := { fault := r.fault, ftcHi := r.ftcHi }

/-- A tile with the registers and the control that a load or an emptying gives it. -/
def State.fillTile (s : State) (t : Nat) (r : TileRegs) (c : TileCtl) : State :=
  s.modTile t fun x => { r := r, cr := x.cr.live, c := c, x := { moved := x.x.moved } }

/-- The tiles of a run. -/
def tileRun (first count : Nat) : List Nat := (List.range count).map (first + ·)

/-- The region from which a partition may load images: active, CODE, RDONLY (04 R148). -/
def State.imgRegion (s : State) (handle part : Nat) : Option Desc :=
  match s.activeDesc handle with
  | some d => if d.kind = kCode ∧ d.rdonly = true ∧ d.owner = part then some d else none
  | none => none

/-- Keeps the outcome of a check of BODY_HASH: what was wrong with the image, if anything. -/
def State.keepCheck (s : State) (handle ofs : Nat) (g : Option Nat) : State :=
  let s := s.modRgn fun r => { r with hash := r.hash ++ [⟨hdDesc handle, ofs, g.isNone⟩] }
  match g with
  | none => s
  | some cause => s.noteCause (s.srcDuty 2) 148 cause handle

/-- The check of BODY_HASH that precedes the first load of an image: its outcome is kept, and a failure raises an event
that names the cause and the region (04 R148). -/
def State.imgCheck (s : State) (handle ofs : Nat) (d : Desc) : State :=
  match s.hashOf (hdDesc handle) ofs with
  | some _ => s
  | none => s.keepCheck handle ofs (s.imgFault d ofs)

/-- Loads an image into tiles: the whole load, or nothing (04 R149). -/
def State.loadImage (s : State) (tiles : List Nat) (handle ofs part : Nat) : State × Bool :=
  match s.imgRegion handle part with
  | none => (s, false)
  | some d =>
    let s := s.imgCheck handle ofs d
    if s.hashOf (hdDesc handle) ofs = some true ∧ tiles.all s.takesLoad = true ∧ s.imgValid d ofs = true then
      let x := s.loadedTile d handle ofs part
      (tiles.foldl (fun s t => s.fillTile t x.r x.c) s, true)
    else (s, false)

/-- Loads a shipped optimizer image, which Ladel keeps in its tables (15 R445; 07 R225). -/
def State.loadLib (s : State) (tiles : List Nat) (number part : Nat) : State × Bool :=
  if tiles.all s.takesLoad then
    let img := Config.libImage number
    let h := sliceBytes img 0 64
    let r : TileRegs :=
      { is := mapPutList 0 [] 0 ((List.range (igBundles h)).map fun i => natAt img (igBundleOfs h + 32 * i) 32) }
    let x : Tile :=
      { r := r,
        c :=
          { state := 2, nbundle := igBundles h, entry := igEntry h, ctrMask := igMask h, digest := igDigest h,
            lib := number, owner := part } }
    (tiles.foldl (fun s t => s.fillTile t x.r x.c) s, true)
  else (s, false)

/-- The program digest of a shipped image. -/
def libDigest (number : Nat) : Nat := igDigest (sliceBytes (Config.libImage number) 0 64)

/-- A start is given to a tile: it waits until the tile can take it and its start FTC has come; a second that waits is
refused to the starter. It is late where its start FTC has passed as it arrives (04 R150). -/
def State.giveStart (s : State) (t : Nat) (g : StartRec) : State × Bool :=
  let x := s.tile t
  if x.c.start.isSome = true ∨ [0, 1, 5, 6].contains x.c.state = true then (s, false)
  else
    ((s.setTile t { x with c := { x.c with start := some { g with late := decide (g.ftc < s.clk.ftc) } } }).wakeDom (t / 32),
     true)

/-- A tile starts: it takes the values of its CLASS and the seed of its partition as they stand on this edge (04 R150; 05
R170; 10 R300). -/
def State.beginTile (s : State) (t : Nat) (g : StartRec) : State :=
  let s := s.modTile t fun x =>
    { r := { (x.r.setDm 0x2FF00 (fitBytes 256 g.args)) with g := [], m := [], l := [], pc := x.c.entry },
      cr :=
        { x.cr with
          part := g.part, cls := g.cls, prio := s.classParam g.cls 4, level := s.classParam g.cls 3,
          eq := s.egressQ g.cls, setpos := g.setpos, setsize := g.setsize, step := g.step,
          seed := s.partSeed g.part, sched := g.sched, status := 0, poisonOfs := 0, poisonSet := false },
      c := { x.c with state := 3, start := none, frozen := false, byHand := false, stopped := false },
      x :=
        { x.x with
          blocked := none, stuckAt := none, asleep := false, hold := false, passBp := false } }
  if g.late then s.bump tallyBlock tbLate 1 else s

/-- Ladel's start of a FAULTED tile, for debugging (04 R150, R151): the start that waits, or else one with the values that the
tile was last started with (DESIGN CHOICE, log 100: the row names no others). -/
def State.restartTile (s : State) (t : Nat) : State :=
  let x := s.tile t
  s.beginTile t
    (x.c.start.getD
      { args := x.r.getDm 0x2FF00 256, part := x.cr.part, cls := x.cr.cls, setpos := x.cr.setpos, setsize := x.cr.setsize,
        step := x.cr.step, sched := x.cr.sched, ftc := s.clk.ftc })

/-- A stopped tile goes on at its PC (04 R152; 17 R482). -/
def State.resumeTile (s : State) (t : Nat) : State :=
  s.modTile t fun y =>
    { y with
      c := { y.c with state := 3, frozen := false, byHand := false, stopped := false },
      x := { y.x with blocked := none, stuckAt := none, asleep := false, passBp := true } }

/-- A tile whose in-flight work has run out is FAULTED where a fault has stopped it, and HALTED where it was stopped (04
R146, R151). -/
def State.settle (s : State) (t : Nat) : State :=
  let x := s.tile t
  if x.drained = false then s
  else match x.c.failing with
    | some f => s.enterFault t f
    | none =>
      if x.c.frozen = true ∧ x.c.state = 3 then
        s.setTile t
          { x with
            c := { x.c with state := 4, frozen := false, stopped := true },
            x := { x.x with blocked := none, stuckAt := none, asleep := false } }
      else s

/-- Stops a tile (04 R151). -/
def State.stopTile (s : State) (t : Nat) : State :=
  if (s.tile t).c.state = 3 then
    (s.modTile t fun x => { x with c := { x.c with frozen := true }, x := { x.x with stuckAt := none } }).settle t
  else s

end Sys2Proof.Machine
end

