-- ==== Sys2Proof/Machine/Whisk.lean ====
section
/-! DEFINITION. The Whisk (03 R76 to R104): inputs, the checks of step 9, opening, accumulation with escape to wide form,
the windowed exact form, closing and rounding. Closing into a LOG region is completed in Param.lean. -/

namespace Sys2Proof.Machine

/-! ### Inputs (03 R77, R78, R82) -/

/-- The exact values of the elements of a payload. -/
def accumValues (dtype : Nat) (b : List Byte) : List FVal :=
  match mxFmt dtype with
  | some f =>
    let n := dtypeBits dtype
    let u := 1 + 4 * n
    ((List.range (b.length / u)).map fun i =>
      let w := natAt b (u * i + 1) (4 * n)
      (List.range 32).map fun k => mxValue f (natAt b (u * i) 1) (packedElem n 32 w k)).flatten
  | none =>
    let w := dtypeBits dtype / 8
    if w = 0 then [] else (List.range (b.length / w)).map fun i => dtypeValue dtype (natAt b (w * i) w)

/-- The integer x × 2^149 with the special state that a value contributes; a magnitude of 2^128 or more is an infinity of
its sign (03 R77). -/
def accOf (v : FVal) : Acc :=
  match v with
  | .nan => ⟨0, 3⟩
  | .inf neg => ⟨0, if neg then 2 else 1⟩
  | .fin neg m e =>
    let a : Nat := if -149 ≤ e then m <<< (e + 149).toNat else m >>> (-149 - e).toNat
    if 2 ^ 277 ≤ a then ⟨0, if neg then 2 else 1⟩ else ⟨if neg then -(a : Int) else a, 0⟩

/-- An input that overflowed into an infinity (03 R77). -/
def accOverflows (v : FVal) : Bool :=
  match v with
  | .fin _ _ _ => decide ((accOf v).sp ≠ 0)
  | _ => false

/-- The join of two special states (03 R78). -/
def joinSp (a b : Nat) : Nat := if a = 0 then b else if b = 0 then a else if a = b then a else 3

/-- Adds a contribution to an accumulator of 320 bits (03 R76, R78). -/
def Acc.plus (a b : Acc) : Acc := ⟨sInt 320 (uNat 320 (a.acc + b.acc)), joinSp a.sp b.sp⟩

/-- Adds contributions to consecutive elements. -/
def addAccs (m : Map Acc) (j : Nat) (l : List Acc) : Map Acc :=
  match l with
  | [] => m
  | a :: r => addAccs (mapSet {} m j ((mapGet {} m j).plus a)) (j + 1) r

/-! ### Blocks (03 R92, R101) -/

/-- Trailing zero bits of a number that is not 0. -/
def trailing (n fuel : Nat) : Nat :=
  match fuel with
  | 0 => 0
  | k + 1 => if n % 2 = 1 then 0 else 1 + trailing (n / 2) k

/-- The fewest trailing zero bits among the non-zero values, 0 where every value is 0. -/
def blockExp (l : List Int) : Nat :=
  match (l.filter (· ≠ 0)).map fun i => trailing i.natAbs 320 with
  | [] => 0
  | x :: r => r.foldl min x

/-- A value fits a two's-complement field of n bits. -/
def fitsInt (n : Nat) (i : Int) : Bool := decide (-(2 ^ (n - 1) : Nat) ≤ i) && decide (i < (2 ^ (n - 1) : Nat))

/-- Every value, divided by 2^E, fits n bits. -/
def blockFits (n : Nat) (l : List Int) : Bool :=
  let e := blockExp l
  l.all fun i => fitsInt n (i / (2 ^ e : Nat))

/-- The accumulators of a block. -/
def Slot.blockAccs (x : Slot) (b : Nat) : List Acc := mapGetList {} x.acc (64 * b) (min 64 (x.n - 64 * b))

/-- The blocks that leave compact form after an addition, each with the place that the operation's room holds for it
(03 R92, R93). -/
def Slot.escapes (x : Slot) (room : Map Nat) (bs : List Nat) : Map Nat :=
  bs.filterMap fun b =>
    if (mapFind x.wide b).isSome || blockFits 64 ((x.blockAccs b).map (·.acc)) then none
    else some (b, mapGet 4 room b)

/-- Elements of a range that a quadrant serves (03 R83). -/
def Slot.share (x : Slot) (j0 n q : Nat) : Nat :=
  ((List.range ((j0 + n) / 4096 + 1 - j0 / 4096)).map fun i =>
    let k := j0 / 4096 + i
    if (x.q0 + k) % 4 = q then min (j0 + n) (4096 * (k + 1)) - max j0 (4096 * k) else 0).foldl (· + ·) 0

/-- Tally of a Whisk quadrant. -/
def State.whiskBump (s : State) (q entry n : Nat) (part : Nat) : State :=
  if n = 0 then s else s.bumpP (80 + q) entry n (some part)

/-- Counts what happened to elements in the quadrant that serves each (03 R83; 05 R177). -/
def State.whiskSpread (s : State) (x : Slot) (entry : Nat) (js : List Nat) : State :=
  (List.range 4).foldl (fun s q =>
    s.whiskBump q entry (js.filter fun j => decide (slotQuadrant x.q0 j = q)).length x.part) s

/-- A block that lies outside slot SRAM (03 R92). -/
def Slot.outside (x : Slot) (b : Nat) : Bool :=
  match mapFind x.wide b with
  | some p => decide (p = 4)
  | none => !x.inSram b

/-- The granules of a block in the form it has. -/
def Slot.blockGrans (x : Slot) (b : Nat) : Nat := if (mapFind x.wide b).isSome then wideBytes / 64 else compactBytes / 64

/-- A granule of the spill area (01 R22). -/
def State.inSpill (s : State) (g : Nat) : Bool :=
  let lo := (s.build.sysBase + 150994944 * s.build.S) / 64
  decide (lo ≤ g) && decide (g < lo + 5242880 * s.build.S)

/-- A read of blocks outside slot SRAM for operations: the code of its failure. A granule that one of them read as
uncorrectable fails it; where other granules of the spill area are poisoned, whether one of the blocks lies there belongs
to the Whisk and is a free value (01 R22; 03 R94; DESIGN CHOICE, log 86). -/
def State.spillRead (s : State) (ks : List Nat) (any_ : Bool) : State × Option Nat :=
  if !any_ then (s, none)
  else if s.mem.fails.any fun f => ks.contains (opKey f.req f.seq) && s.inSpill f.gran then (s, some cUncorrectable)
  else if s.mem.poison.any fun p => s.inSpill p.1 then
    (s.spend, if (Config.freeValue 14 s.free).toNat % 2 = 1 then some cPoison else none)
  else (s, none)

/-- Applies contributions to a slot's elements j0 onwards: blocks that no longer fit escape into the operation's room, and
the rest of the room returns (03 R88, R92, R93). -/
def State.accumulate (s : State) (k : Nat) (x : Slot) (j0 : Nat) (l : List Acc) : State :=
  let bs := touched j0 l.length
  let x := { x with acc := addAccs x.acc j0 l }
  let room := match mapFind s.wsk.rooms k with
    | some r => r.blocks
    | none => []
  let esc := x.escapes room bs
  let s := s.dropRoom k esc
  let back := (List.range 4).map fun q => (esc.filter fun p => x.quadOf p.1 = q && x.inSram p.1).length
  let s := s.modWsk fun w =>
    { w with
      sram := subParts w.sram back compactBytes,
      spill := w.spill - (esc.filter fun p => !x.inSram p.1).length }
  let spilled := bs.filter x.outside
  let y := { x with
    wide := esc.foldl (fun m p => mapPut m p.1 p.2) x.wide, cApp := x.cApp + l.length, openOps := x.openOps.erase k }
  let s := (List.range 4).foldl (fun s q =>
    let n := x.share j0 l.length q
    (s.whiskBump q 0 (ceilDiv n 1536) x.part).whiskBump q 1 n x.part) (s.setSlotRec y)
  let s := (s.whiskSpread x 4 (esc.map fun p => 64 * p.1)).whiskSpread x 5 (spilled.map (64 * ·))
  s.chargeOp k (spilled.map fun b => 2 * x.blockGrans b).sum

/-! ### Step 9 (03 R85, R87, R89) -/

/-- R81: a slot's output format accepts a DTYPE. -/
def acceptsDtype (od dtype : Nat) : Bool :=
  if od = 0x0C then [0x0B, 0x0C, 0x20].contains dtype
  else (1 ≤ dtype && dtype ≤ 0x0C) || dtype = 0x20 || dtype = 0x21

/-- The element count of an ACCUM as step 9 uses it: 1 for the windowed form. -/
def accumN (h : List Byte) : Nat := if hArg h 36 1 = 0x20 then 1 else (accumCount (hArg h 36 1) (hLen h)).getD 0

/-- The slot that a frame's operands name. -/
def State.frameSlot (s : State) (h : List Byte) : Option Slot := s.slotAt (slotKey (hPart h) (hArg h 40 4))

/-- The bytes that check 6 of R28 counts for an ACCUM (02 R49). -/
def State.accumSpan (s : State) (h : List Byte) : Nat :=
  match s.frameSlot h with
  | some x => accumN h * odBytes x.od
  | none => accumN h

/-- R87, check by check. -/
def State.checkAccum (s : State) (h : List Byte) : Option Nat :=
  match s.frameSlot h with
  | none => some cState
  | some x =>
    let dt := hArg h 36 1
    let n := accumN h
    let w := odBytes x.od
    let j0 := (hOfs h - x.ofs) / w
    if x.state ≠ 1 ∨ hArg h 44 8 ≠ x.step ∨ hHandle h ≠ x.handle then some cState
    else if !acceptsDtype x.od dt then some cState
    else if s.strict && decide (dt = 0x21) then some cStrict
    else if hOfs h < x.ofs ∨ (hOfs h - x.ofs) % w ≠ 0 ∨ x.n < j0 + n then some cState
    else if x.expect ≠ 0 ∧ dt ≠ 0x20 ∧ x.expect * x.n < x.cAdm + n then some cState
    else if dt ≠ 0x20 ∧ 2 ^ 40 < x.addends + 1 then some cCapacity
    else if dt ≠ 0x20 ∧ (s.findRoom x j0 n).isNone then some cCapacity
    else none

/-- Admission of an ACCUM (03 R88, R93). -/
def State.admitAccum (s : State) (k : Nat) (h : List Byte) : State :=
  match s.frameSlot h with
  | none => s
  | some x =>
    if hArg h 36 1 = 0x20 then s.setSlotRec { x with openOps := x.openOps ++ [k] }
    else
      let n := accumN h
      let s := match s.findRoom x ((hOfs h - x.ofs) / odBytes x.od) n with
        | some r => s.takeRoom k r
        | none => s
      s.setSlotRec { x with openOps := x.openOps ++ [k], cAdm := x.cAdm + n, addends := x.addends + 1 }

/-- What a RED_OPEN asks for, as the slot it would open. -/
def redOpenSlot (h : List Byte) (seed : Nat) : Slot :=
  let od := hArg h 36 1
  { part := hPart h, slot := hArg h 40 4, state := 1, q0 := 0, n := hLen h / odBytes od, od := od, rnd := hArg h 37 1,
    step := hArg h 44 8, expect := hArg h 52 4, handle := hHandle h, ofs := hOfs h, length := hLen h, seed := seed }

/-- Two slots agree in every operand and region field (03 R85). -/
def Slot.sameOperands (x y : Slot) : Bool :=
  decide (x.od = y.od ∧ x.rnd = y.rnd ∧ x.step = y.step ∧ x.expect = y.expect ∧ x.handle = y.handle ∧ x.ofs = y.ofs ∧
    x.length = y.length)

/-- Slot descriptors in use, those that armed contexts reserve included. -/
def State.slotsUsed (s : State) : Nat := s.wsk.slots.length + s.wsk.resv.length

/-- The CLOSED or BROKEN slot whose descriptor is taken next: the earliest edge, then the lowest partition and SLOT (03
R84). -/
def State.oldestSlot (s : State) : Option Slot :=
  let step (a : Option Slot) (p : Nat × Slot) : Option Slot :=
    if p.2.state < 3 then a
    else match a with
      | none => some p.2
      | some y => if p.2.ended < y.ended then some p.2 else a
  s.wsk.slots.foldl step none

/-- R85 with R95, as far as the slot itself decides: none where the frame may open it, `some none` where it is answered
DONE and changes nothing. -/
def State.openVerdict (s : State) (y : Slot) : Option (Option Nat) :=
  match s.slotAt y.key with
  | none => none
  | some x =>
    if x.state = 1 ∧ x.sameOperands y = true then some none
    else if x.state < 3 then some (some cState)
    else if x.step < y.step then none
    else if x.state = 4 ∧ x.step = y.step ∧ (s.ctxOf y.part y.step).isNone ∧ x.sameOperands y = true then none
    else some (some cState)

/-- A descriptor and a placement can be had (03 R85, R92). -/
def State.slotRoom (s : State) (y : Slot) : Bool :=
  ((s.slotAt y.key).isSome || decide (s.slotsUsed < 4096) || s.oldestSlot.isSome) &&
    (s.placeBlocks s.wsk.q0 y.n).isSome

/-- Opens a slot: a descriptor, the next quadrant in rotation, and its blocks placed with zeros (03 R83 to R85, R92). -/
def State.openSlot (s : State) (y : Slot) : State :=
  let s := if (s.slotAt y.key).isNone && decide (4096 ≤ s.slotsUsed) then
      match s.oldestSlot with
      | some v => s.modWsk fun w => { w with slots := mapDel w.slots v.key }
      | none => s
    else s
  match s.placeBlocks s.wsk.q0 y.n with
  | none => s
  | some (sram, spill) =>
    let y := { y with q0 := s.wsk.q0, sram := sram, spill := spill }
    (s.modWsk fun w =>
      { w with
        q0 := (w.q0 + 1) % 4, sram := addParts w.sram sram compactBytes, spill := w.spill + spill }).setSlotRec y

/-- KiB of slot SRAM that a slot's compact blocks were placed in (03 R85). -/
def Slot.kib (x : Slot) : Nat := ceilDiv (x.sram.foldl (· + ·) 0 * compactBytes) 1024

/-- R89 and R94 for a RED_CLOSE. -/
def State.checkRedClose (s : State) (h : List Byte) : Option Nat :=
  match s.frameSlot h with
  | some x =>
    if (x.state = 1 ∨ x.state = 2 ∨ x.state = 3) ∧ x.step = hArg h 44 8 ∧ x.handle = hHandle h then none else some cState
  | none => some cState

/-! ### Closing (03 R89 to R91) -/

/-- An OPEN slot starts to close. -/
def State.beginClose (s : State) (x : Slot) : State := s.setSlotRec { x with state := 2, pendAt := none }

/-- Admission of a RED_CLOSE: the close starts where EXPECT is 0; otherwise it waits (03 R89 to R91). -/
def State.admitRedClose (s : State) (k : Nat) (h : List Byte) : State :=
  match s.frameSlot h with
  | none => s
  | some x =>
    if x.state = 3 then s
    else
      let x := { x with closers := x.closers ++ [k] }
      if x.state = 1 ∧ x.expect = 0 then s.beginClose x
      else if x.state = 1 then s.setSlotRec { x with pendAt := some (x.pendAt.getD s.clk.now) }
      else s.setSlotRec x

/-- A close has finished: the slot is CLOSED and every waiting RED_CLOSE is answered (03 R84, R89). -/
def State.endClose (s : State) (x : Slot) (code aux : Nat) : State :=
  (s.dropStorage { x with state := 3, partials := 0, closers := [], ended := s.clk.now }).doneAll x.closers code aux

/-- A slot whose applied count has reached EXPECT × N starts to close (03 R89). -/
def State.closeIfFull (s : State) (key : Nat) : State :=
  match s.slotAt key with
  | some x => if x.state = 1 ∧ x.expect ≠ 0 ∧ x.cApp = x.expect * x.n then s.beginClose x else s
  | none => s

/-- A slot becomes BROKEN: its OPEN ACCUMs and waiting RED_CLOSEs end, its storage goes, its step is marked (03 R91,
R94). -/
def State.breakSlot (s : State) (x : Slot) (f : Final) (rule : Nat) : State :=
  let s := (x.openOps ++ x.closers).foldl (fun s k => s.finish k f) s
  let x := (s.slotAt x.key).getD x
  let s := s.dropStorage { x with state := 4, ended := s.clk.now, openOps := [], closers := [], pendAt := none }
  (s.whiskBump x.q0 9 1 x.part).mark x.part x.step rule

/-- A failed read of a slot's storage breaks it (03 R84, R94). The granule lies in no operation's range: AUX is that of
data that the block keeps for itself (12 R365; DESIGN CHOICE, log 86). -/
def State.storageFails (s : State) (x : Slot) (code : Nat) : State := s.breakSlot x { code := code, aux := 2 ^ 32 - 1 } 94

/-- A short close (03 R91). -/
def State.shortClose (s : State) (x : Slot) : State :=
  (s.whiskBump x.q0 6 1 x.part).breakSlot x { code := cReplay, aux := x.step % 2 ^ 32 } 91

/-- A CLOSING slot whose admitted ACCUMs have their outcomes is short of contributions (03 R91). -/
def Slot.isShort (x : Slot) : Bool :=
  decide (x.state = 2) && x.openOps.isEmpty && decide (x.expect ≠ 0) && decide (x.cApp < x.expect * x.n)

/-- A slot starts to close on a deadline, and ends at once if it is short and no ACCUM is open. -/
def State.closeDue (s : State) (x : Slot) : State :=
  let s := s.beginClose x
  match s.slotAt x.key with
  | some y => if y.isShort then s.shortClose y else s
  | none => s

/-! ### Rounding (03 R96 to R98) -/

/-- The exact value of an accumulator. -/
def Acc.value (a : Acc) : FVal :=
  match a.sp with
  | 0 => fofDyadic false a.acc (-149)
  | 1 => .inf false
  | 2 => .inf true
  | _ => .nan

/-- The result of an element at close; G is its global element index. -/
def Slot.result (x : Slot) (a : Acc) (g : Nat) : Nat :=
  dtypeRound x.od (if x.rnd = 1 then .stoch (randomWord x.seed x.step g) else .rne) false a.value

/-- An INT32 result that saturates (03 R98). -/
def Slot.saturates (x : Slot) (a : Acc) : Bool := x.od = 0x0C && !fitsInt 32 (a.acc / (2 ^ 149 : Nat))

/-- Element e of a LOG region's gradient that a region offset holds (07 R216). -/
def logElement (h ofs : Nat) : Option Nat :=
  let r := (ofs - 0x10000) % (if lgEntryBytes h = 0 then 1 else lgEntryBytes h)
  if ofs < 0x10000 ∨ r < 0x2000 then none else some ((r - 0x2000) / lgWidth h)

/-- The global element index of slot element j (03 R97; 07 R208). Where no stripe map covers the destination and OFFSET is no
multiple of w, OFFSET ÷ w is rounded down (DESIGN CHOICE, log 99). -/
def State.slotIndex (s : State) (x : Slot) (j : Nat) : Nat :=
  let w := odBytes x.od
  let d := s.descOf (hdDesc x.handle)
  let plain := x.ofs / w + j
  if d.kind = kLog then
    let h := s.logHdr d
    match logElement h (x.ofs + j * w), s.activeDesc (lgParam h) with
    | some e, some p => (s.globalIndex p e).getD plain
    | _, _ => plain
  else plain

/-- The bytes that an owner slot writes at close (03 R89). -/
def State.slotBytes (s : State) (x : Slot) : List Byte :=
  ((List.range x.n).map fun j => beBytes (odBytes x.od) (x.result (mapGet {} x.acc j) (s.slotIndex x j))).flatten

/-! ### The windowed exact form (03 R99 to R102) -/

/-- The bytes of a window block padded to a multiple of 8. -/
def padTo8 (b : List Byte) : List Byte := b ++ List.replicate (roundUp b.length 8 - b.length) 0

/-- A window block, encoded canonically (03 R100, R101). -/
def windowBlock (l : List Acc) : List Byte :=
  let vs := l.map fun a => if a.sp = 0 then a.acc else 0
  let spec := l.any fun a => a.sp ≠ 0
  let e := blockExp vs
  let zero := vs.all (· = 0)
  let width := if blockFits 24 vs then 0 else if blockFits 32 vs then 1 else if blockFits 48 vs then 2 else 3
  let wide := !blockFits 64 vs
  let enc := if zero then 2 else if wide then 1 else 0
  let hdr := (if enc = 0 then e else 0) * 2 ^ 48 + enc * 2 ^ 46 + (if enc = 0 then width else 0) * 2 ^ 44 +
    (l.length - 1) * 2 ^ 38 + (if spec then 2 ^ 37 else 0)
  let map := if spec then beBytes 16 ((l.mapIdx fun k a => a.sp * 4 ^ k).foldl (· + ·) 0) else []
  let nb := [3, 4, 6, 8].getD width 8
  let vals :=
    if zero then []
    else if wide then (vs.map fun v => beBytes 40 (uNat 320 v)).flatten
    else (vs.map fun v => beBytes nb (uNat (8 * nb) (v / (2 ^ e : Nat)))).flatten
  padTo8 (beBytes 8 hdr ++ map ++ vals)

/-- One decoded window block: its elements, and the bytes it took; none where R102 rejects it. -/
def readBlock (b : List Byte) : Option (List Acc × Nat) :=
  if b.length < 8 then none
  else
    let h := natAt b 0 8
    let e := bits h 63 48
    let enc := bits h 47 46
    let width := bits h 45 44
    let nel := bits h 43 38 + 1
    let spec := bit h 37
    let m := if spec then 16 else 0
    let nb := if enc = 0 then [3, 4, 6, 8].getD width 8 else if enc = 1 then 40 else 0
    let used := 8 + m + nel * nb
    let size := roundUp used 8
    let map := if spec then natAt b 8 16 else 0
    if enc = 3 ∨ bits h 36 0 ≠ 0 ∨ 318 < e ∨ (enc ≠ 0 ∧ (e ≠ 0 ∨ width ≠ 0)) ∨ b.length < size ∨ map / 4 ^ nel ≠ 0 ∨
        natAt b used (size - used) ≠ 0 then none
    else
      some ((List.range nel).map fun k =>
        { acc := if enc = 2 then 0 else sInt (8 * nb) (natAt b (8 + m + k * nb) nb) * (2 ^ e : Nat),
          sp := bits map (2 * k + 1) (2 * k) }, size)

/-- The elements of `n` window blocks; every block but the last holds 64. -/
def readBlocks (n : Nat) (b : List Byte) : Option (List Acc) :=
  match n with
  | 0 => if b.isEmpty then some [] else none
  | k + 1 =>
    match readBlock b with
    | none => none
    | some (l, m) =>
      if k ≠ 0 ∧ l.length ≠ 64 then none
      else match readBlocks k (b.drop m) with
        | none => none
        | some r => some (l ++ r)

/-- A windowed payload that passes R102 for a slot and a first element: its elements and its ADDENDS. -/
def readWindowed (x : Slot) (j0 : Nat) (b : List Byte) : Option (List Acc × Nat) :=
  if b.length < 16 ∨ natAt b 0 8 ≠ fprint ∨ natAt b 14 2 = 0 then none
  else match readBlocks (natAt b 14 2) (b.drop 16) with
    | none => none
    | some l =>
      if x.n < j0 + l.length then none
      else if x.od = 0x0C ∧ l.any (fun a => a.sp ≠ 0 || decide (a.acc % (2 ^ 149 : Nat) ≠ 0)) then none
      else if x.expect ≠ 0 ∧ x.expect * x.n < x.cAdm + l.length then none
      else if 2 ^ 40 < x.addends + natAt b 8 6 then none
      else some (l, natAt b 8 6)

/-! ### Feeder partials (03 R103, R104) -/

/-- What a feeder sends: 0x20, or 0x21 where PARTIAL_FORM holds it and DET_STRICT is 0. -/
def State.partialForm (s : State) : Nat := if s.strict then 0x20 else s.param 0x7000 7

/-- Whole blocks packed into payloads of at most `lim` bytes, in element order: the blocks' bytes with the first block of
each payload. -/
def packBlocks (lim : Nat) (bs : List (List Byte)) : List (Nat × List (List Byte)) :=
  let step (a : List (Nat × Nat × List (List Byte)) × Nat) (b : List Byte) :
      List (Nat × Nat × List (List Byte)) × Nat :=
    match a.1 with
    | [] => ([(a.2, b.length, [b])], a.2 + 1)
    | (f, n, l) :: r =>
      if n + b.length ≤ lim then ((f, n + b.length, b :: l) :: r, a.2 + 1)
      else ((a.2, b.length, [b]) :: (f, n, l) :: r, a.2 + 1)
  ((bs.foldl step ([], 0)).1.reverse).map fun p => (p.1, p.2.2.reverse)

/-- The payloads of a feeder's frames with their first elements. -/
def State.partialPayloads (s : State) (x : Slot) : List (Nat × List Byte) :=
  let blocks := (List.range x.blocks).map x.blockAccs
  if s.partialForm = 0x20 then
    (packBlocks (524288 - 16) (blocks.map windowBlock)).map fun p =>
      (64 * p.1, beBytes 8 fprint ++ beBytes 6 x.addends ++ beBytes 2 p.2.length ++ p.2.flatten)
  else
    (packBlocks 524288 (blocks.map fun l => (l.map fun a => beBytes 4 (frne fp32 a.value)).flatten)).map fun p =>
      (64 * p.1, p.2.flatten)

/-- Sends a feeder's partials to the owner; one that cannot be sent breaks the slot as a frame that failed at ATTEMPT 15
(02 R52; 03 R103). -/
def State.sendPartials (s : State) (x : Slot) (d : Decl) : State :=
  let ps := s.partialPayloads x
  let n := s.wsk.closes + 1
  let s := s.modWsk fun w => { w with closes := n }
  let x := { x with partials := ps.length, close := n }
  let step (a : State × Bool) (p : Nat × List Byte) : State × Bool :=
    if !a.2 then a
    else
      let o : OrigFrame :=
        { ep := d.ownerEp, seq := 0, part := x.part, cls := a.1.sysClass, op := opAccum,
          body := mkBody p.2.length d.ownerHandle (d.ownerOfs + p.1 * odBytes d.ownerOd) 0
            (beBytes 1 a.1.partialForm ++ beBytes 3 0 ++ beBytes 4 x.slot ++ beBytes 8 x.step),
          payload := p.2, purpose := .partialSum x.key n }
      match a.1.originate o with
      | some t => (t, true)
      | none => (a.1.noPeer d.ownerEp, false)
  let r := ps.foldl step (s.setSlotRec x, true)
  if r.2 then r.1 else r.1.breakSlot x { code := cReplay, aux := x.step % 2 ^ 32 } 103

/-! ### Commands -/

/-- The slot that an admitted frame executes on. -/
def State.opSlotAt (s : State) (o : OpRec) : Option Slot := s.frameSlot o.hdr

/-- ACCUM of a DTYPE other than the windowed form (03 R88). -/
def execAccum (req seq : Nat) (s : State) : Host.Outcome State Fault Refusal :=
  s.runLive (decide (req < 2 ^ 20) && decide (seq < 2 ^ 32))
    (match s.ready req seq opAccum with
     | none => s.wakeFor req seq opAccum
     | some o =>
       match s.opSlotAt o with
       | none => s.done o.key cReplay (hArg o.hdr 44 8 % 2 ^ 32)
       | some x =>
         if hArg o.hdr 36 1 = 0x20 then s
         else
           let vs := accumValues (hArg o.hdr 36 1) (s.opPayload o)
           let j0 := (hOfs o.hdr - x.ofs) / odBytes x.od
           match s.spillRead [o.key] ((touched j0 vs.length).any x.outside) with
           | (s, some code) => s.storageFails x code
           | (s, none) =>
             let s := s.whiskSpread x 2 ((vs.zipIdx.filter fun p => accOverflows p.1).map fun p => j0 + p.2)
             let s := s.accumulate o.key x j0 (vs.map accOf)
             (s.done o.key cDone vs.length).closeIfFull x.key)

/-- WINDOWED_PARTIAL_APPLY (03 R102, R93). -/
def execWindowedPartialApply (req seq : Nat) (s : State) : Host.Outcome State Fault Refusal :=
  s.runLive (decide (req < 2 ^ 20) && decide (seq < 2 ^ 32))
    (match s.ready req seq opAccum with
     | none => s.wakeFor req seq opAccum
     | some o =>
       match s.opSlotAt o with
       | none => s.done o.key cReplay (hArg o.hdr 44 8 % 2 ^ 32)
       | some x =>
         if hArg o.hdr 36 1 ≠ 0x20 then s
         else
           let j0 := (hOfs o.hdr - x.ofs) / odBytes x.od
           match readWindowed x j0 (s.opPayload o) with
           | none =>
             let s := s.done o.key cReplay (x.step % 2 ^ 32)
             (s.whiskBump (x.quadOf (j0 / 64)) 10 1 x.part).mark x.part x.step 102
           | some (l, addends) =>
             match s.findRoom x j0 l.length with
             | none => s.done o.key cCapacity 0
             | some r =>
               match s.spillRead [o.key] ((touched j0 l.length).any x.outside) with
               | (s, some code) => s.storageFails x code
               | (s, none) =>
                 let x := { x with cAdm := x.cAdm + l.length, addends := x.addends + addends }
                 let s := ((s.setSlotRec x).takeRoom o.key r).accumulate o.key x j0 l
                 (s.done o.key cDone l.length).closeIfFull x.key)

/-- RED_OPEN (03 R85): admission has opened the slot; its accumulators are zero and placed. -/
def execRedOpen (req seq : Nat) (s : State) : Host.Outcome State Fault Refusal :=
  s.runLive (decide (req < 2 ^ 20) && decide (seq < 2 ^ 32))
    (match s.ready req seq opRedOpen with
     | none => s.wakeFor req seq opRedOpen
     | some o =>
       match s.opSlotAt o with
       | some x =>
         if x.state ≠ 4 ∧ x.step = hArg o.hdr 44 8 then s.done o.key cDone x.kib
         else s.done o.key cReplay (hArg o.hdr 44 8 % 2 ^ 32)
       | none => s.done o.key cReplay (hArg o.hdr 44 8 % 2 ^ 32))

/-- RED_CLOSE (03 R89, R91): one that waits is answered with its close; a slot already CLOSED answers at once. -/
def execRedClose (req seq : Nat) (s : State) : Host.Outcome State Fault Refusal :=
  s.runLive (decide (req < 2 ^ 20) && decide (seq < 2 ^ 32))
    (match s.ready req seq opRedClose with
     | none => s.wakeFor req seq opRedClose
     | some o =>
       match s.opSlotAt o with
       | some x =>
         if x.closers.contains o.key then s.begin o
         else if x.state = 3 ∧ x.step = hArg o.hdr 44 8 then s.done o.key cDone x.n
         else s.done o.key cState 0
       | none => s.done o.key cState 0)

/-- SLOT_WAIT_EXPIRY (03 R91). -/
def execSlotWaitExpiry (part slot : Nat) (s : State) : Host.Outcome State Fault Refusal :=
  s.runLive (decide (part < 64) && decide (slot < 2 ^ 32))
    (match s.slotAt (slotKey part slot) with
     | none => s
     | some x =>
       match x.state, x.pendAt with
       | 1, some t => if s.since t (usR (s.param 0x7000 6)) then s.closeDue x else s
       | _, _ => s)

/-- SLOT_CLOSE_FTC (03 R89, R91; 09 R275). -/
def execSlotCloseFtc (part slot : Nat) (s : State) : Host.Outcome State Fault Refusal :=
  s.runLive (decide (part < 64) && decide (slot < 2 ^ 32))
    (match s.slotAt (slotKey part slot) with
     | none => s
     | some x =>
       match x.state, x.decl with
       | 1, some d => if d.closeFtc = s.clk.ftc then s.closeDue x else s
       | _, _ => s)

/-- A partial of a feeder slot's close has failed: the closing slot breaks (03 R103). A slot that has closed anew, after a
replay of its step, does not hear of the frames of its earlier close. -/
def State.partialGone (s : State) (key close : Nat) : State :=
  match s.slotAt key with
  | none => s
  | some x => if x.state = 2 ∧ x.close = close then s.breakSlot x { code := cReplay, aux := x.step % 2 ^ 32 } 103 else s

/-- PARTIAL_ANSWER (03 R103). -/
def execPartialAnswer (ep seq code orig : Nat) (s : State) : Host.Outcome State Fault Refusal :=
  s.runLive (decide (ep < 2 ^ 20) && decide (seq < 2 ^ 32) && decide (code < 256) && decide (orig < 256))
    (match s.awaited ep seq with
     | none => s.lateAnswer ep seq code
     | some o =>
       match o.purpose with
       | .partialSum key n =>
         match verdict code orig o.att false with
         | .waiting => s
         | .resend => s.resendOrig ep seq
         | .done =>
           let s := s.endOrig ep seq
           match s.slotAt key with
           | none => s
           | some x =>
             if x.state ≠ 2 ∨ x.close ≠ n then s
             else if x.partials = 1 then s.endClose x cDone x.n
             else s.setSlotRec { x with partials := x.partials - 1 }
         | .failed => (s.endOrig ep seq).partialGone key n
       | _ => s)

end Sys2Proof.Machine
end

