-- ==== Sys2Proof/Machine/Mcast.lean ====
section
/-! DEFINITION. Multicast (03 R105 to R111). -/

namespace Sys2Proof.Machine

/-! ### Groups (03 R105, R112) -/

def State.groupPart (s : State) (g : Nat) : Nat := s.param (0x7400 + g) 1
def State.groupRetain (s : State) (g : Nat) : Nat := s.param (0x7400 + g) 2 % 2 ^ 24
/-- Member record i of a group. -/
def State.member (s : State) (g i : Nat) : Nat := beNat (s.blob (0x7400 + g) 3 (8 * i) 8)
def mbEp (w : Nat) : Nat := bits w 63 44
def mbPort (w : Nat) : Nat := bits w 43 38
def mbAlt (w : Nat) : Option Nat := if bit w 31 then some (bits w 37 32) else none

/-- GROUP_COUNT: records up to the last one that is not all zeros. -/
def State.groupCount (s : State) (g : Nat) : Nat :=
  let lo := bkey (0x7400 + g) 3 0
  (s.dict.blob.filter fun p => decide (lo ≤ p.1) && decide (p.1 < lo + 32768)).foldl
    (fun m p => max m ((p.1 - lo) / 8 + 1)) 0

/-! ### Step 9 (03 R106; 07 R214) -/

/-- A region receives the cast of a PARAM region whose cast values do not stand, active or draining (07 R214). -/
def State.castUnsettled (s : State) (handle : Nat) : Bool :=
  s.rgn.desc.any fun p =>
    (p.2.state = 1 || p.2.state = 2) && decide (p.2.kind = kParam) &&
      (let h := s.prmHdr p.2
       decide (prmCast h = handle) && (prmState h = 1 || prmState h = 3 || prmStale h))

/-- Step 9 of an MCAST (03 R106; 07 R214). A group whose GROUP_RETAIN names no active region has a buffer in which no range
fits (DESIGN CHOICE, log 80: the spec gives no answer). -/
def State.checkMcast (s : State) (h : List Byte) : Option Nat :=
  let g := hArg h 40 4
  let d := s.descOf (hdDesc (hHandle h))
  if s.groupCount g = 0 ∨ s.groupPart g ≠ hPart h ∨
      s.mc.list.any (fun x => x.owed && decide (x.group = g) && decide (x.step < hArg h 44 8)) then some cState
  else if d.kind = kParam ∧ prmPages (s.prmHdr d) * prmPageBytes (s.prmHdr d) < hOfs h + hLen h then some cState
  else if s.castUnsettled (hHandle h) then some cState
  else match s.activeDesc (s.groupRetain g) with
    | some r => if r.capacity < hOfs h + hLen h then some cCapacity else none
    | none => some cCapacity

/-! ### The owed list (03 R108 to R110) -/

def State.setDelivs (s : State) (l : List Deliv) : State := s.modMc fun m => { m with list := l }

/-- The MCAST is answered once every frame of every member has left the block or is owed: AUX counts the members of which no
frame is owed or has been dropped (03 R111). -/
def State.mcAnswer (s : State) (k : Nat) : State :=
  match mapFind s.mc.ops k with
  | none => s
  | some o =>
    let mine := s.mc.list.filter fun d => decide (d.op = k)
    if mine.any fun d => !d.owed then s
    else
      (s.modMc fun m => { m with copied := m.copied.erase k }).done k cDone
        (o.members - (o.short ++ mine.map (·.member)).eraseDups.length)

/-- A delivery that leaves the owed list undelivered, whose member is short of it from then on. -/
def State.dropDeliv (s : State) (d : Deliv) : State :=
  s.modMc fun m =>
    { m with
      list := m.list.erase d,
      ops := mapMod m.ops d.op fun o => if o.short.contains d.member then o else { o with short := o.short ++ [d.member] } }

/-- A frame that has not been owed waits for no earlier one of its member (03 R107). -/
def State.isNext (s : State) (d : Deliv) : Bool :=
  !s.mc.list.any fun x => decide (x.op = d.op) && decide (x.member = d.member) && !x.owed && decide (x.ofs < d.ofs)

/-- The frame of a member that follows one just delivered or owed becomes ready (03 R107, R108; DESIGN CHOICE, log 87). -/
def State.readyNext (s : State) (d : Deliv) : State :=
  match s.mc.list.find? fun x => decide (x.op = d.op) && decide (x.member = d.member) && !x.owed with
  | some x => s.setDelivs (s.mc.list.replace x { x with at_ := s.clk.now })
  | none => s

/-- The deadline of a delivery in fabric time, and whether a schedule gives it; none while the step's context has not read its
schedule (03 R110; 09 R272). -/
def State.judgedAt (s : State) (d : Deliv) : Option (Nat × Bool) :=
  if !d.arming then some (d.deadline, d.sched)
  else match s.ctxOf d.part d.step with
    | none => some (d.deadline, false)
    | some i =>
      let c := s.ctx i
      if c.span ≠ 0 then some (c.launch + (if c.mcastDl = 0 then c.span else c.mcastDl), true)
      else if c.arm.isSome then none
      else some (d.deadline, false)

/-- The deadline has come: on its own edge, or on a later one where it was not known before (09 R265). -/
def State.dueNow (s : State) (d : Deliv) : Bool :=
  match s.judgedAt d with
  | none => false
  | some (t, _) => decide (t = s.clk.ftc) || (d.arming && decide (t < s.clk.ftc))

/-- The deadline's edge has been. -/
def State.past (s : State) (d : Deliv) : Bool :=
  match s.judgedAt d with
  | none => false
  | some (t, _) => decide (t ≤ s.clk.ftc)

/-- A schedule judges the delivery: its drop marks the step (03 R110). -/
def State.schedules (s : State) (d : Deliv) : Bool :=
  match s.judgedAt d with
  | some (_, b) => b
  | none => false

/-- The consequence of an entry dropped at its deadline: its step is marked where it is scheduled, and otherwise an event names
its endpoint and offset (03 R110). -/
def State.noteLate (s : State) (d : Deliv) : State :=
  if s.schedules d then s.mark d.part d.step 110 else s.note (s.srcDuty 4) 110 (d.ep * 2 ^ 40 + d.ofs)

/-- A frame goes on the owed list, which holds 65,536 entries; where it is full, the step is marked at once (03 R108). A
retry that comes back stays the entry it was. One that is owed only after the deadline is dropped at once (03 R110). -/
def State.enterOwed (s : State) (d : Deliv) : State :=
  if s.past d then (let t := s.dropDeliv d; if d.owed then t else t.readyNext d).noteLate d
  else if d.owed then s.setDelivs (s.mc.list.replace d { d with staged := none })
  else if (s.mc.list.filter (·.owed)).length < 65536 then
    ((s.setDelivs (s.mc.list.replace d { d with owed := true, staged := none, at_ := s.clk.now })).whiskBump 0 7 1
      d.part).readyNext d
  else ((s.dropDeliv d).readyNext d).mark d.part d.step 108

/-- R108's condition on a port that is looked at when a frame is offered to it: it is up. The credit is judged as the header
cell leaves, or OWE_WAIT passes first. -/
def State.portTakes (s : State) (p : Nat) : Bool := (s.port p).up

/-- The 16-byte preamble and the data of a delivery frame, from the retention buffer (03 R106, R107). -/
def State.delivPayload (s : State) (d : Deliv) : List Byte :=
  beBytes 8 d.step ++ beBytes 5 d.ofs ++ beBytes 3 d.handle ++
    s.rread (s.descOf (hdDesc (s.groupRetain d.group))) d.ofs d.len

/-- Offers a delivery frame to a port: it enters the queue of its class (10 R308), and its granules are charged (10 R312). The
first frame of a wait counts OWE_WAIT from the edge on which it was ready, a retry from its own edge. -/
def State.sendDeliv (s : State) (d : Deliv) (p : Nat) (alt : Bool) : State :=
  let x := { d with staged := some s.mc.marks, since := if d.owed then s.clk.now else d.at_, alt := alt }
  let r : Resp :=
    { req := d.ep, seq := 0, op := 0x98, code := 0, aux := d.group, payload := s.delivPayload d, cls := d.cls,
      eq := d.eq, kind := 5, ftc := s.clk.ftc, deliv := some x }
  let s := (s.chargeClass d.cls (64 * granulesIn d.ofs d.len)).modMc fun m =>
    { m with list := m.list.replace d x, marks := m.marks + 1 }
  s.stage p r

/-- A staged delivery leaves the egress queues unsent; a queue whose first frame it was wakes for the next (10 R310). -/
def State.unstage (s : State) (d : Deliv) : State :=
  let mine (f : EgFrame) : Bool := match f.resp.deliv with
    | some x => decide (x.staged = d.staged) && decide (f.sent = 0)
    | none => false
  let drop (q : List EgFrame) : List EgFrame :=
    match q with
    | [] => []
    | f :: l =>
      if mine f then (match l with
        | [] => []
        | g :: r => { g with wake := g.wake || f.wake } :: r)
      else f :: l.filter fun g => !mine g
  match d.staged with
  | none => s
  | some _ => s.modFrm fun f =>
      { f with
        ports := f.ports.map fun p => (p.1, { p.2 with queues := p.2.queues.map drop }) }

/-- The delivery that a staged frame carries. -/
def State.delivOf (s : State) (r : Resp) : Option Deliv :=
  match r.deliv with
  | some x => s.mc.list.find? fun d => d.staged.isSome && decide (d.staged = x.staged)
  | none => none

/-- The header cell of a delivery leaves the block: the frame is delivered, and it has taken its destination's next delivery
number (02 R53; 03 R108, R109). -/
def State.delivered (s : State) (r : Resp) : State :=
  let s := s.modFrm fun f =>
    { f with delivery := mapPut f.delivery r.req ((mapGet 0 f.delivery r.req + 1) % 2 ^ 32) }
  match s.delivOf r with
  | none => s
  | some d =>
    let t := s.setDelivs (s.mc.list.erase d)
    (if d.owed then t.whiskBump 0 8 1 d.part else t.readyNext d).mcAnswer d.op

/-- A delivery that a port gives up, wholly or in part unsent, becomes owed (10 R302). -/
def State.undelivered (s : State) (r : Resp) : State :=
  match s.delivOf r, r.deliv with
  | some d, _ => (s.enterOwed d).mcAnswer d.op
  | none, some d =>
    let d := { d with owed := false, staged := none }
    ((s.setDelivs (s.mc.list ++ [d])).enterOwed d).mcAnswer d.op
  | none, none => s

/-- The delivery that a command names. -/
def State.findDeliv (s : State) (group step member ofs : Nat) : Option Deliv :=
  s.mc.list.find? fun d =>
    decide (d.group = group) && decide (d.step = step) && decide (d.member = member) && decide (d.ofs = ofs)

/-! ### Commands -/

/-- The multicast deadline of a step in fabric time (03 R110; 09 R272), as far as it is known. -/
def State.mcDeadline (s : State) (part step adm : Nat) : Nat × Bool :=
  match s.ctxOf part step with
  | some i =>
    let c := s.ctx i
    if c.span = 0 then (adm + 1200 * s.param 0x7000 0x0A, false)
    else (c.launch + (if c.mcastDl = 0 then c.span else c.mcastDl), true)
  | none => (adm + 1200 * s.param 0x7000 0x0A, false)

/-- The step's context has not read its schedule yet. -/
def State.mcArming (s : State) (part step : Nat) : Bool :=
  match s.ctxOf part step with
  | some i => decide ((s.ctx i).span = 0)
  | none => false

/-- The delivery frames of an admitted MCAST, member by member in order of offset (03 R107). -/
def State.mcDelivs (s : State) (o : OpRec) : List Deliv :=
  let h := o.hdr
  let g := hArg h 40 4
  let dl := s.mcDeadline o.part (hArg h 44 8) o.admFtc
  ((List.range (s.groupCount g)).map fun i =>
    (splitRange 524272 (hLen h / 524272 + 1) 0 (hLen h)).map fun q =>
      { group := g, step := hArg h 44 8, part := o.part, member := i, ep := mbEp (s.member g i), ofs := hOfs h + q.1,
        len := q.2, handle := hHandle h, op := o.key, cls := o.cls, eq := o.eq, deadline := dl.1, sched := dl.2,
        arming := s.mcArming o.part (hArg h 44 8), at_ := s.clk.now : Deliv }).flatten

/-- A member's primary port is up. -/
def State.memberUp (s : State) (d : Deliv) : Bool := (s.port (mbPort (s.member d.group d.member))).up

/-- MCAST (03 R106, R107, R111; 12 R365): the range is copied into the retention buffer, and every member's frames become
ready in turn; those of a member whose port is not up are owed at once. A resend does not repeat a copy that has
finished. Where a table that resolves the source fails, AUX is 0xFFFFFFFF (DESIGN CHOICE, log 107). -/
def execMcast (req seq : Nat) (s : State) : Host.Outcome State Fault Refusal :=
  s.runLive (decide (req < 2 ^ 20) && decide (seq < 2 ^ 32))
    (match s.ready req seq opMcast with
     | none => s.wakeFor req seq opMcast
     | some o =>
       let h := o.hdr
       let d := s.descOf (hdDesc (hHandle h))
       let s := s.rheal d (hOfs h) (hLen h)
       match s.tablesFail d (hOfs h) (hLen h), s.rreadFail o d (hOfs h) (hLen h) with
       | some g, _ => s.done o.key (s.failAt o g) (2 ^ 32 - 1)
       | none, some (code, i) => s.done o.key code i
       | none, none =>
         let keep := s.groupRetain (hArg h 40 4)
         let r := s.descOf (hdDesc keep)
         let copies := decide (keep ≠ hHandle h) && (decide (o.att = 0) || !s.mc.copied.contains o.key)
         let bad := if copies then s.rwriteFail r (hOfs h) (hLen h) else none
         let t := if copies then
             (s.rwrite keep (hOfs h) (s.rreadFor o d (hOfs h) (hLen h)) false).chargeOp o.key
               (granulesIn (hOfs h) (hLen h) + s.tableGranules d (hOfs h) (hLen h) +
                 (if r.mirror then 2 else 1) * writtenIn (hOfs h) (hLen h))
           else s
         match bad with
         | some g => t.done o.key (s.failAt o g) (s.failIndex r (hOfs h) (hLen h) g)
         | none =>
           let l := t.mcDelivs o
           let t := (t.begin o).modMc fun m =>
             { m with
               ops := mapPut m.ops o.key { members := t.groupCount (hArg h 40 4) }, list := m.list ++ l,
               copied := o.key :: m.copied.erase o.key }
           let t := (l.filter fun x => !t.memberUp x).foldl (fun s x => s.enterOwed x) t
           t.mcAnswer o.key)

/-- MCAST_DELIVERY (03 R107, R108): the next frame of a member is offered to PORT. -/
def execMcastDelivery (group step member ofs : Nat) (s : State) : Host.Outcome State Fault Refusal :=
  s.runLive (decide (group < 1024) && decide (step < 2 ^ 64) && decide (member < 4096) && decide (ofs < 2 ^ 40))
    (match s.findDeliv group step member ofs with
     | none => s
     | some d =>
       let p := mbPort (s.member group member)
       if d.owed = false ∧ d.staged = none ∧ s.isNext d = true ∧ s.portTakes p = true ∧
           s.since d.at_ (usR (s.param 0x7000 8)) = false then s.sendDeliv d p false
       else s)

/-- A retry whose port gave no credit within OWE_WAIT: after PORT, ALT_PORT is tried where it is valid and up; otherwise the
entry waits for its next retry (03 R109). -/
def State.retryFailed (s : State) (d : Deliv) : State :=
  let s := s.unstage d
  let x := { d with staged := none }
  let s := s.setDelivs (s.mc.list.replace d x)
  match d.alt, mbAlt (s.member d.group d.member) with
  | false, some p => if s.portTakes p then s.sendDeliv x p true else s
  | _, _ => s

/-- No egress credit came within OWE_WAIT of a frame becoming ready, or of its retry (03 R108, R109). -/
def State.oweExpire (s : State) (d : Deliv) : State :=
  let w := usR (s.param 0x7000 8)
  if d.owed then (if d.staged.isSome && s.since d.since w then s.retryFailed d else s)
  else if s.isNext d = true ∧ ((d.staged = none ∧ s.memberUp d = false) ∨ s.since d.at_ w = true) then
    ((s.unstage d).enterOwed d).mcAnswer d.op
  else s

/-- OWE_WAIT_EXPIRY (03 R108, R109). -/
def execOweWaitExpiry (group step member ofs : Nat) (s : State) : Host.Outcome State Fault Refusal :=
  s.runLive (decide (group < 1024) && decide (step < 2 ^ 64) && decide (member < 4096) && decide (ofs < 2 ^ 40))
    (match s.findDeliv group step member ofs with
     | none => s
     | some d => s.oweExpire d)

/-- A credit that comes to a port after OWE_WAIT serves no delivery that has waited for one: such deliveries are owed, or tried
elsewhere, before the port sends (03 R108, R109). -/
def State.oweStale (s : State) (p : Nat) : State :=
  let w := usR (s.param 0x7000 8)
  let late (f : EgFrame) : Option Deliv :=
    if f.sent = 0 then (s.delivOf f.resp).filter fun d => s.since d.since w else none
  ((s.port p).queues.flatten.filterMap late).foldl State.oweExpire s

/-- OWE_RETRY (03 R109): every OWE_RETRY from its entry an owed frame is offered to PORT, or to ALT_PORT where PORT is not
up. -/
def execOweRetry (group step member ofs : Nat) (s : State) : Host.Outcome State Fault Refusal :=
  s.runLive (decide (group < 1024) && decide (step < 2 ^ 64) && decide (member < 4096) && decide (ofs < 2 ^ 40))
    (match s.findDeliv group step member ofs with
     | none => s
     | some d =>
       let r := usR (s.param 0x7000 9)
       if d.owed = true ∧ d.staged = none ∧ s.since d.at_ r = true then
         let w := s.member group member
         let x := { d with at_ := d.at_ + (s.clk.now - d.at_) / r * r }
         let t := s.setDelivs (s.mc.list.replace d x)
         if s.portTakes (mbPort w) then t.sendDeliv x (mbPort w) false
         else match (mbAlt w).toList.find? s.portTakes with
           | some p => t.sendDeliv x p true
           | none => t
       else s)

/-- An entry that is still owed after the deadline is dropped; one of an unscheduled step is logged with its endpoint and
offset (03 R110). -/
def State.dropLate (s : State) (d : Deliv) : State :=
  let t := (s.unstage d).dropDeliv d
  if s.schedules d then t else t.note (t.srcDuty 4) 110 (d.ep * 2 ^ 40 + d.ofs)

/-- MCAST_DEADLINE (03 R110; 09 R265): on the deadline's edge, after the header cells that leave on it, the entries still owed
are dropped; a scheduled step is marked. -/
def execMcastDeadline (part step : Nat) (s : State) : Host.Outcome State Fault Refusal :=
  s.runLive (decide (part < 64) && decide (step < 2 ^ 64))
    (let late := s.mc.list.filter fun d => d.owed && decide (d.part = part) && decide (d.step = step) && s.dueNow d
     let t := late.foldl State.dropLate s
     if late.any s.schedules then t.mark part step 110 else t)

end Sys2Proof.Machine
end

