-- ==== Sys2Proof/Machine/Log.lean ====
section
/-! DEFINITION. The input log and its mirroring, and the close of a slot (07 R216 to R221; 03 R89). -/

namespace Sys2Proof.Machine

/-! ### Entries (07 R216, R217) -/

/-- The number of the entry that a step uses. -/
def lgEntryIx (h step : Nat) : Nat := if lgEntries h = 0 then 0 else step % lgEntries h
/-- The region offset of an entry by number. -/
def lgEntryAt (h ix : Nat) : Nat := 0x10000 + ix * lgEntryBytes h
/-- The region offset of element 0 of an entry's gradient. -/
def lgData (h step : Nat) : Nat := lgEntryOfs h step + 0x2000
/-- Bytes of one page of gradient. -/
def lgPageBytes (h : Nat) : Nat := 16384 * lgWidth h
/-- The key of an entry of a LOG region. -/
def entKey (desc ix : Nat) : Nat := desc * 16 + ix

/-- A region is a primary LOG region. -/
def State.isPrimaryLog (s : State) (d : Desc) : Bool := decide (d.kind = kLog) && decide (lgRole (s.logHdr d) = 1)

/-- The active primary LOG regions of a partition, by DESC. -/
def State.primaryLogs (s : State) (part : Nat) : List Nat :=
  (s.rgn.desc.filter fun p => decide (p.2.state = 1) && decide (p.2.owner = part) && s.isPrimaryLog p.2).map Prod.fst

/-- The first page and the pages of a slot's range in a primary LOG region. -/
def Slot.logRange (x : Slot) (h : Nat) : Nat × Nat := ((x.ofs - lgData h x.step) / lgPageBytes h, x.length / lgPageBytes h)

/-- R218: the number and the code of the first check that a slot fails at opening. -/
def State.checkLogOpen (s : State) (y : Slot) : Option (Nat × Nat) :=
  let d := s.descOf (hdDesc y.handle)
  if !s.isPrimaryLog d then none
  else
    let h := s.logHdr d
    let data := lgData h y.step
    let pb := lgPageBytes h
    let e := lgEntryOfs h y.step
    let held := s.entStep d e
    let st := s.entState d e
    let r := y.logRange h
    let done := match s.activeDesc (lgParam h) with
      | some p => decide (held ≤ prmCommitted (s.prmHdr p))
      | none => false
    if y.od ≠ lgDtype h ∨ y.ofs < data ∨ (y.ofs - data) % pb ≠ 0 ∨ y.length % pb ≠ 0 ∨
        data + lgPages h * pb < y.ofs + y.length then some (1, cState)
    else if (st = 1 ∧ held ≠ y.step) ∨ (st = 2 ∧ held < y.step ∧ done = false) then some (2, cState)
    else if (st = 1 ∨ st = 2) ∧ held < y.step ∧ lgCkpt h < held then some (3, cCapacity)
    else if (st = 1 ∨ st = 2) ∧ held = y.step ∧ (List.range r.2).any (fun i => s.claimed d e (r.1 + i)) = true then
      some (4, cState)
    else none

/-- Claims the pages of a slot that opens; the first claim of an entry for a step resets it (07 R218). -/
def State.claimPages (s : State) (y : Slot) : State :=
  let desc := hdDesc y.handle
  let d := s.descOf desc
  if !s.isPrimaryLog d then s
  else
    let h := s.logHdr d
    let e := lgEntryOfs h y.step
    let ix := lgEntryIx h y.step
    let keep := decide (s.entStep d e = y.step) && (s.entState d e = 1 || s.entState d e = 2)
    let s :=
      if keep then s
      else
        let root := match s.activeDesc (lgParam h) with
          | some p => if p.digest then p.root else 0
          | none => 0
        let s := s.rawWrite d e (beBytes 8 y.step ++ [1, 0] ++ beBytes 6 0 ++ beBytes 16 root)
        let s := s.rawWrite d (e + 0x1000) (List.replicate 4096 0)
        s.modPar fun p =>
          { p with
            mirrored := mapClear p.mirrored (entKey desc ix * 16384) 16384, sealed := mapDel p.sealed (entKey desc ix) }
    let r := y.logRange h
    (List.range r.2).foldl (fun s i => s.setMapBit d (e + 0x1800) (r.1 + i) true) s

/-- RED_OPEN at step 9 (03 R85; 07 R218). -/
def State.checkRedOpen (s : State) (h : List Byte) : Option Nat :=
  let y := redOpenSlot h 0
  match s.openVerdict y with
  | some r => r
  | none =>
    match s.checkLogOpen y with
    | some (_, code) => some code
    | none => if s.slotRoom y then none else some cCapacity

/-- Admission of a RED_OPEN opens its slot (03 R84). -/
def State.admitRedOpen (s : State) (h : List Byte) : State :=
  let y := redOpenSlot h (s.partSeed (hPart h))
  match s.openVerdict y with
  | some _ => s
  | none => (s.openSlot y).claimPages y

/-! ### Mirroring (07 R219, R221) -/

/-- Pages of an entry are mirrored, or its sealed header is. -/
def State.setMirrored (s : State) (desc ix step : Nat) (pages : Option (Nat × Nat)) : State :=
  s.modPar fun p =>
    match pages with
    | some (f, n) =>
      { p with mirrored := (List.range n).foldl (fun m i => mapPut m (entKey desc ix * 16384 + f + i) 1) p.mirrored }
    | none => { p with sealed := mapPut p.sealed (entKey desc ix) (step + 1) }

/-- Sends one WRITE frame of a mirror copy; false where it cannot be sent. -/
def State.mirrorFrame (s : State) (d : Desc) (id part step ofs len : Nat) : State × Bool :=
  let h := s.logHdr d
  let b := s.rread d ofs len
  let o : OrigFrame :=
    { ep := lgPeerEp h, seq := 0, part := part, cls := s.sysClass, op := opWrite,
      body := mkBody len (lgPeer h) ofs 0 [], payload := b, purpose := .mirror id }
  match s.originate o with
  | some t => (t, true)
  | none => ((s.noPeer (lgPeerEp h)).mark part step 219, false)

/-- Copies a range of an entry to the buddy; with no buddy the pages count as mirrored at once (07 R219). -/
def State.startMirror (s : State) (desc ix part step ofs len : Nat) (pages : Option (Nat × Nat)) : State :=
  let d := s.descOf desc
  if lgPeerEp (s.logHdr d) = 0 then s.setMirrored desc ix step pages
  else
    let id := mapFresh s.par.mirrors 0 (s.par.mirrors.length + 1)
    let ps := splitRange 524288 (len / 524288 + 2) ofs len
    let m : Mirror :=
      { part := part, step := step, desc := desc, entry := ix, pages := pages, left := ps.length, since := s.clk.now }
    let s := s.modPar fun p => { p with mirrors := mapPut p.mirrors id m }
    let r := ps.foldl (fun (a : State × Bool) q => if a.2 then a.1.mirrorFrame d id part step q.1 q.2 else a) (s, true)
    if r.2 then r.1 else r.1.modPar fun p => { p with mirrors := mapMod p.mirrors id fun m => { m with failed := true } }

/-- The 8 KiB header of an entry is copied to the buddy (07 R221, R234). -/
def State.mirrorHeader (s : State) (desc ix part step : Nat) : State :=
  s.startMirror desc ix part step (lgEntryAt (s.logHdr (s.descOf desc)) ix) 8192 none

/-- At the close of a slot into a primary LOG region its pages are set WRITTEN and copied to the buddy (07 R219). -/
def State.logClosed (s : State) (x : Slot) : State :=
  let desc := hdDesc x.handle
  let d := s.descOf desc
  if !s.isPrimaryLog d then s
  else
    let h := s.logHdr d
    let e := lgEntryOfs h x.step
    let r := x.logRange h
    let s := (List.range r.2).foldl (fun s i => s.setMapBit d (e + 0x1000) (r.1 + i) true) s
    s.startMirror desc (lgEntryIx h x.step) x.part x.step x.ofs x.length (some r)

/-! ### The close of a slot (03 R89; 12 R365) -/

/-- An owner slot writes its result. A destination granule that is poisoned and covered in part fails its own bytes
only; the waiting RED_CLOSEs carry the error, and a declared slot with none marks its step. -/
def State.closeOwner (s : State) (x : Slot) : State :=
  let d := s.descOf (hdDesc x.handle)
  let s := s.whiskSpread x 3 ((List.range x.n).filter fun j => x.saturates (mapGet {} x.acc j))
  if d.handle ≠ x.handle ∨ (d.state ≠ 1 ∧ d.state ≠ 2) then s.endClose x cDone x.n
  else
    let bad := s.rwriteFail d x.ofs x.length
    let t := (s.rwrite x.handle x.ofs (s.slotBytes x) false).logClosed x
    let t := match x.closers with
      | k :: _ => t.chargeOp k ((if d.mirror then 2 else 1) * writtenIn x.ofs x.length)
      | [] => t
    match bad with
    | none => t.endClose x cDone x.n
    | some g =>
      let t1 := t.endClose x (s.failCode g) (g - (d.bpa0 + x.ofs) / 64)
      if x.closers.isEmpty && x.decl.isSome then t1.mark x.part x.step 365 else t1

/-- SLOT_CLOSE (03 R89, R91, R103): a CLOSING slot whose admitted ACCUMs all have outcomes. -/
def execSlotClose (part slot : Nat) (s : State) : Host.Outcome State Fault Refusal :=
  s.runLive (decide (part < 64) && decide (slot < 2 ^ 32))
    (match s.slotAt (slotKey part slot) with
     | none => s
     | some x =>
       if x.state ≠ 2 ∨ x.openOps ≠ [] ∨ x.partials ≠ 0 then s
       else if x.isShort then s.shortClose x
       else match s.spillRead x.closers (decide (x.spill ≠ 0) || x.wide.any fun w => decide (w.2 = 4)) with
         | (s, some code) => s.storageFails x code
         | (s, none) =>
           match x.decl with
           | some d => if d.feeder then s.sendPartials x d else s.closeOwner x
           | none => s.closeOwner x)

end Sys2Proof.Machine
end

