-- ==== Sys2Proof/Machine/Transfer.lean ====
section
/-! DEFINITION. The transfer engine, and the commands of the load engine and of tile control (04 R127 to R130, R136,
R144, R145, R148 to R154). -/

namespace Sys2Proof.Machine

/-! ### Attention and update sets, as far as transfers ask for them (06 R191; 07 R214, R225) -/

def State.updPart (s : State) (u : Nat) : Nat := s.param (0x6910 + u) 1
def State.updFirst (s : State) (u : Nat) : Nat := s.param (0x6910 + u) 2
def State.updTiles (s : State) (u : Nat) : Nat := s.param (0x6910 + u) 3

def State.attPart (s : State) (i : Nat) : Nat := s.param (0x6810 + i) 1
def State.attFirst (s : State) (i : Nat) : Nat := s.param (0x6810 + i) 2
def State.attTiles (s : State) (i : Nat) : Nat := s.param (0x6810 + i) 3

/-- The attention set whose program a tile has last run: transfers that it has left behind are that program's too. A tile that a
schedule has started is not of the set (06 R188, R191). -/
def State.attOf (s : State) (t : Nat) : Option Nat :=
  if (s.tile t).cr.sched then none
  else (List.range 64).find? fun i => decide (s.attFirst i ≤ t) && decide (t < s.attFirst i + s.attTiles i)

/-- A tile may send data to another: an attention program only within its set (06 R191). -/
def State.inSet (s : State) (t k : Nat) : Bool :=
  match s.attOf t with
  | none => true
  | some i => decide (s.attFirst i ≤ k) && decide (k < s.attFirst i + s.attTiles i)

/-- The OPT_STEP that a tile of a busy update set runs for. -/
def State.optOf (s : State) (t : Nat) : Option OpRec :=
  match s.par.sets.find? fun p =>
      p.2.running.isSome && decide (s.updFirst p.1 ≤ t) && decide (t < s.updFirst p.1 + s.updTiles p.1) with
  | none => none
  | some p => p.2.running.bind s.op

/-- The width of a cast element. -/
def castWidth (dt : Nat) : Nat := if dt ≤ 2 then 1 else 2

/-- How a tile's write of a region range is taken (04 R128; 07 R214). -/
inductive WriteMode where
  | plain | shadow | cast | refused
  deriving DecidableEq, Repr

/-- The grant of a microprogram that OPT_STEP started: shadow frames of its range, and its range's part of the cast
region; otherwise R27, and a PARAM region only while IDLE (07 R214). -/
def State.writeMode (s : State) (t : Nat) (d : Desc) (handle ofs len : Nat) : WriteMode :=
  let plain := kindPermits opWrite d.kind
  let idle := d.kind ≠ kParam || prmState (s.prmHdr d) = 0
  match s.optOf t with
  | none => if plain && idle then .plain else .refused
  | some o =>
    let p := s.descOf (hdDesc (hHandle o.hdr))
    let h := s.prmHdr p
    let w := castWidth (prmCastDtype h)
    let lo := prmCastOfs h + hOfs o.hdr / prmPageBytes h * 16384 * w
    if handle = hHandle o.hdr then
      if hOfs o.hdr ≤ ofs ∧ ofs + len ≤ hOfs o.hdr + hLen o.hdr then .shadow else .refused
    else if prmCast h ≠ 0 ∧ handle = prmCast h then
      if lo ≤ ofs ∧ ofs + len ≤ lo + hLen o.hdr / prmPageBytes h * 16384 * w then .cast else .refused
    else if plain && idle then .plain
    else .refused

/-! ### Checks (04 R127, R128) -/

/-- The fields of a descriptor are in their ranges. A descriptor that is not so is refused where the engine takes it, with
XFER_REFUSED (DESIGN CHOICE, log 72: R127 and R146 do not say what a reserved KIND, a reserved bit or a field out of range
causes). -/
def xdOk (d : Nat) : Bool :=
  let k := xdKind d
  decide (1 ≤ k ∧ k ≤ 4) && xdRsv d = 0 && decide (64 ≤ xdLen d ∧ xdLen d ≤ 196608 ∧ xdLen d % 64 = 0) &&
    decide (xdOfs d % 64 = 0 ∧ xdDm d % 64 = 0 ∧ xdRdm d % 64 = 0) &&
    (k = 4 || decide (xdDm d + xdLen d ≤ dmSize)) && (k ≠ 3 && k ≠ 4 || decide (xdRdm d + xdLen d ≤ dmSize))

/-- A target tile that refuses a transfer of a partition: running another partition's program, or EMPTY, LOADING or
SAVED. -/
def State.xferDenied (s : State) (part t : Nat) : Bool :=
  !decide (t < s.build.tiles) || [0, 1, 6].contains (s.tile t).c.state ||
    (decide ((s.tile t).c.state = 3) && decide ((s.tile t).c.owner ≠ part))

/-- The target tiles of a KIND 0x4 transfer. -/
def xferTargets (t d : Nat) : List Nat := (setBits 32 (xdTmask d)).map (t / 32 * 32 + ·)

/-- A range of a PARAM region stays below its pages (07 R212). -/
def State.prmInRange (s : State) (d : Desc) (ofs len : Nat) : Bool :=
  d.kind ≠ kParam || decide (ofs + len ≤ prmPages (s.prmHdr d) * prmPageBytes (s.prmHdr d))

/-- The region side of a transfer passes checks 3 to 6 of R28 and its kind's rules. -/
def State.xferRegion (s : State) (t d : Nat) (write : Bool) : Bool :=
  let x := s.tile t
  let g := s.descOf (hdDesc (xdHandle d))
  (s.addrCheck x.cr.part x.cr.cls (xdHandle d) (xdOfs d) (xdLen d) (fun _ => true) write).isNone &&
    s.prmInRange g (xdOfs d) (xdLen d) &&
    (!write || decide (s.writeMode t g (xdHandle d) (xdOfs d) (xdLen d) ≠ .refused))

/-- A transfer passes R127 and R128; an attention program writes nothing outside its set (06 R191). -/
def State.xferOk (s : State) (t d : Nat) : Bool :=
  let part := (s.tile t).cr.part
  xdOk d &&
    match xdKind d with
    | 1 => s.xferRegion t d false
    | 2 => (s.attOf t).isNone && s.xferRegion t d true
    | 3 => s.inSet t (xdRtile d) && !s.xferDenied part (xdRtile d)
    | _ => s.xferRegion t d false && (xferTargets t d).all fun k => s.inSet t k && !s.xferDenied part k

/-- An outbound transfer leaves the fences that wait for it (08 R251). -/
def lowerFences (d : Nat) (l : List FenceRec) : List FenceRec :=
  if xdOut d then l.map fun f => { f with left := f.left - 1 } else l

/-- The oldest descriptor of a tile's queue was pushed on an earlier edge: there is no bypass (08 R255). -/
def Tile.xferSeen (x : Tile) (now : Nat) : Bool :=
  match x.x.xinfo with
  | (a, _, _) :: _ => decide (a / 8 < now / 8)
  | [] => true

/-- The OPT_STEP whose grant a KIND 0x2 transfer of a tile needs: it writes shadow frames or the cast region (07 R214). -/
def State.optGrant (s : State) (t d : Nat) : Option Nat :=
  let g := s.descOf (hdDesc (xdHandle d))
  let m := s.writeMode t g (xdHandle d) (xdOfs d) (xdLen d)
  if xdKind d = 2 ∧ (m = .shadow ∨ m = .cast) then (s.optOf t).map OpRec.key else none

/-- The engine takes the oldest descriptor of a tile's queue and checks it; a refused transfer writes nothing, signals
nothing and faults its tile (04 R128). -/
def State.xferStart (s : State) (t : Nat) : State :=
  let x := s.tile t
  match x.c.xq, x.c.xrun with
  | d :: q, none =>
    if !x.xferSeen s.clk.now then s
    else if s.xferOk t d then
      let g := s.optGrant t d
      s.modTile t fun x => { x with c := { x.c with xq := q, xrun := some d, xopt := g } }
    else
      let s := s.modTile t fun x =>
        { x with
          c := { x.c with xq := q, fences := lowerFences d x.c.fences },
          x := { x.x with xinfo := x.x.xinfo.drop 1 } }
      ((s.tileBump t 9 1).asyncFault t fXferRefused 0).settle t
  | _, _ => s

/-! ### Completion (04 R129) -/

/-- The failing granules of a range of a region, as BPA granule numbers. -/
def State.badGranules (s : State) (g : Desc) (ofs len : Nat) : List Nat :=
  ((s.pieces g ofs len false).map fun q =>
    ((s.mem.poison.map Prod.fst).filter fun p =>
      decide ((g.bpa0 + q.1) / 64 ≤ p) && decide (p < (g.bpa0 + q.1 + q.2 + 63) / 64)) ++
        s.lostIn (g.bpa0 + q.1) q.2).flatten

/-- STATUS and POISON_OFS of a tile whose transfer read failing granules: XFER_UNCORR, bit 1, for those that its own reads found
uncorrectable, XFER_POISON, bit 0, for those that were poisoned (04 R116, R129). -/
def State.xferPoison (s : State) (t : Nat) (g : Desc) (d : Nat) : State :=
  match s.rpoison g (xdOfs d) (xdLen d) with
  | none => s
  | some o =>
    let bad := s.badGranules g (xdOfs d) (xdLen d)
    let mine (p : ReadFail) : Bool := decide (p.req = 2 ^ 20 + t) && bad.contains p.gran
    let fresh := (s.mem.fails.filter mine).map (·.gran) ++ bad.filter s.lost
    let s := s.modMem fun m => { m with fails := m.fails.filter fun p => !mine p }
    s.modTile t fun x =>
      let st := if fresh.isEmpty then x.cr.status else setBit x.cr.status 1 true
      { x with
        cr :=
          { x.cr with
            status := if bad.all fresh.contains then st else setBit st 0 true,
            poisonOfs := if x.cr.poisonSet then x.cr.poisonOfs else o % 2 ^ 32,
            poisonSet := true } }

/-- The granules that a transfer reads or writes in stacked memory are charged to the tile's class, but for those that were
charged as a Stockpot accepted them (10 R312). -/
def State.chargeXfer (s : State) (t d : Nat) : State :=
  let x := s.tile t
  let g := s.descOf (hdDesc (xdHandle d))
  let n := if xdKind d = 3 then 0 else if xdKind d = 2 && g.mirror then xdLen d / 32 else xdLen d / 64
  if n = 0 then s
  else (s.chargeClass x.cr.cls (64 * (n - x.x.paid))).modTile t fun x => { x with x := { x.x with paid := 0 } }

/-- Writes a tile's data memory from outside. -/
def State.dmWrite (s : State) (t a : Nat) (b : List Byte) : State :=
  s.modTile t fun x => { x with r := x.r.setDm a b }

/-- Moves a transfer's data to its destination. A write that was accepted under the grant of an OPT_STEP writes nothing once
that operation has ended (07 R214, R226). -/
def State.xferMove (s : State) (t d : Nat) : State :=
  let g := s.descOf (hdDesc (xdHandle d))
  let out := (s.tile t).r.getDm (xdDm d) (xdLen d)
  match xdKind d with
  | 1 =>
    let s := s.rheal g (xdOfs d) (xdLen d)
    let s := s.xferPoison t g d
    s.dmWrite t (xdDm d) (s.rread g (xdOfs d) (xdLen d))
  | 2 =>
    match (s.tile t).c.xopt with
    | none => s.rwrite (xdHandle d) (xdOfs d) out false
    | some k =>
      if s.optGrant t d ≠ some k then s
      else match s.writeMode t g (xdHandle d) (xdOfs d) (xdLen d) with
        | .shadow =>
          ((s.rwrite (xdHandle d) (xdOfs d) out true).setShadow g (xdOfs d) (xdLen d)).bump tallyBlock tbShadow 1
        | .cast =>
          let s := (s.rwrite (xdHandle d) (xdOfs d) out false).bump tallyBlock tbCast 1
          match s.optOf t with
          | some o => s.modPar fun p => { p with casts := mapPut p.casts (hdDesc (hHandle o.hdr)) 1 }
          | none => s
        | _ => s
  | 3 => s.dmWrite (xdRtile d) (xdRdm d) out
  | _ =>
    let s := s.rheal g (xdOfs d) (xdLen d)
    let s := s.xferPoison t g d
    let b := s.rread g (xdOfs d) (xdLen d)
    (xferTargets t d).foldl (fun s k => s.dmWrite k (xdRdm d) b) s

/-- The completion signal, which is always fenced (04 R129). One to a counter that does not exist, or that its target
refuses, is not sent, and the tile faults as for a SIG, on the edge of the completion (DESIGN CHOICE, log 72: R129 does
not say so). -/
def State.xferSignal (s : State) (t d : Nat) : State :=
  if xdSigAmt d = 0 then s
  else if !s.ctrOk (xdSigCtr d) then s.asyncFault t fCtrAddr 0
  else
    let part := (s.tile t).cr.part
    let a := xdSigCtr d
    if s.awake (a / 64 / 32) && !s.sigAccepts a part then (s.bump (t / 32) 27 1).asyncFault t fSigRefused 0
    else s.sendSig { addr := a, amount := xdSigAmt d, part := part, path := sigPath t a, tile := some t }

/-- Tallies, magnitude and sample of a transfer that ends (17 R469, R470, R475). -/
def State.xferCounts (s : State) (t d : Nat) : State :=
  let s := (s.tileBump t 7 1).tileBump t 8 (xdLen d)
  match (s.tile t).x.xinfo with
  | [] => s
  | (a, b, m) :: r =>
    let lat := (s.clk.now - a) / 8
    let s := (s.skilletMag t 1 lat).sample t 2 b 0 m lat (if xdKind d = 3 then 0 else xdOfs d % 2 ^ 32)
    s.modTile t fun x => { x with x := { x.x with xinfo := r, landed := s.clk.now } }

/-- A transfer completes: its data are visible, then its signal is sent (04 R129). -/
def State.xferEnd (s : State) (t : Nat) : State :=
  match (s.tile t).c.xrun with
  | none => s
  | some d =>
    let s := ((s.xferMove t d).chargeXfer t d).modTile t fun x =>
      { x with c := { x.c with xrun := none, fences := lowerFences d x.c.fences } }
    ((s.xferCounts t d).xferSignal t d).settle t

/-- A fence that a remote signal follows waits while the remote queue is full (08 R249). -/
def State.fenceWaits (s : State) (f : FenceRec) : Bool :=
  match f.sig with
  | some g => !g.halt && bit g.fn 1 && decide (1024 ≤ s.syn.queue.length)
  | none => false

/-- The oldest fence with nothing left completes (08 R251). -/
def State.fenceEnd (s : State) (t : Nat) : State :=
  match (s.tile t).c.fences with
  | f :: r =>
    if f.left = 0 && !s.fenceWaits f then
      ((s.modTile t fun x => { x with c := { x.c with fences := r } }).endFence t f.sig).settle t
    else s
  | [] => s

/-- The waiting MMA starts once the array is free (04 R136). -/
def State.mmaNext (s : State) (t : Nat) : State := (s.mmaTurn t).settle t

/-! ### Commands -/

def State.tileOk (s : State) (t : Nat) : Bool := decide (t < s.build.tiles)

/-- A tile whose XFER has found its queue full issues it on the edge on which the engine takes the head (08 R255). -/
def State.xferFreed (s : State) (t : Nat) : State :=
  let x := s.tile t
  if x.x.blocked = some .xferQueue ∧ x.c.xq.length < 16 ∧ mvOp (s.bundleAt t).mv = 12 then s.issueTiles [t] else s

/-- TRANSFER_START (04 R128). -/
def execTransferStart (tile : Nat) (s : State) : Host.Outcome State Fault Refusal :=
  s.runLive (s.tileOk tile) ((s.xferStart tile).xferFreed tile)

/-- TRANSFER_COMPLETE (04 R129). -/
def execTransferComplete (tile : Nat) (s : State) : Host.Outcome State Fault Refusal :=
  s.runLive (s.tileOk tile) (s.xferEnd tile)

/-- MMA_START (04 R136). -/
def execMmaStart (tile : Nat) (s : State) : Host.Outcome State Fault Refusal :=
  s.runLive (s.tileOk tile) (s.mmaNext tile)

/-- FENCE_COMPLETE (08 R251). -/
def execFenceComplete (tile : Nat) (s : State) : Host.Outcome State Fault Refusal :=
  s.runLive (s.tileOk tile) (s.fenceEnd tile)

/-- The Skillets of a run of tiles accept requests; those that are gated are woken (14 R415). -/
def State.wakeRun (s : State) (tiles : List Nat) : State × Bool :=
  let asleep := ((tiles.map (· / 32)).eraseDups).filter fun n => !s.awake n
  (asleep.foldl (fun s n => s.wakeDom n) s, asleep.isEmpty)

/-- The attention sets that a load of this run and image concerns take its outcome: ready after a load; a set that is
loading is faulted by a refused load (06 R188). -/
def State.setsLoaded (s : State) (first count handle ofs : Nat) (good : Bool) : State :=
  (List.range 64).foldl (fun s i =>
    let x := mapGet {} s.att.sets i
    if s.param (0x6810 + i) 2 = first ∧ s.param (0x6810 + i) 3 = count ∧ s.param (0x6810 + i) 4 % 2 ^ 24 = handle ∧
        s.param (0x6810 + i) 5 = ofs ∧ (x.state = 1 ∨ x.state = 4) then
      s.modAtt fun a => { a with sets := mapSet {} a.sets i { x with state := if good then 2 else 4 } }
    else s) s

/-- TILE_LOAD (04 R149). -/
def execTileLoad (first count handle ofs part : Nat) (s : State) : Host.Outcome State Fault Refusal :=
  s.runLive (decide (0 < count) && decide (first + count ≤ s.build.tiles) && decide (handle < 2 ^ 24) && decide (part < 64) &&
      decide (ofs < 2 ^ 64))
    (let w := s.wakeRun (tileRun first count)
     if w.2 then
       let l := w.1.loadImage (tileRun first count) handle ofs part
       l.1.setsLoaded first count handle ofs l.2
     else w.1)

/-- IMAGE_HASH_CHECK (04 R148). -/
def execImageHashCheck (desc ofs : Nat) (s : State) : Host.Outcome State Fault Refusal :=
  s.runDuty 2 (decide (desc < 16384) && decide (ofs < 2 ^ 40))
    (let d := s.descOf desc
     if d.state = 1 ∧ d.kind = kCode ∧ d.rdonly = true then s.imgCheck d.handle ofs d else s)

/-- The tiles of attention and update sets, which only the query dispatcher starts (06 R188; 07 R225). -/
def State.setTiles (s : State) : List Nat :=
  ((List.range 64).map (fun i => tileRun (s.attFirst i) (s.attTiles i)) ++
    (List.range 16).map fun u => tileRun (s.updFirst u) (s.updTiles u)).flatten

/-- A start of a schedule that has waited while its tile was taken into a set is refused, as one that finds the tile there (06
R188; 09 R274). -/
def State.refuseStart (s : State) (t : Nat) : State :=
  (s.modTile t fun x => { x with c := { x.c with start := none } }).note srcHub 150 t

/-- TILE_START (04 R150): the start that waits, on its edge or late. With none waiting it is Ladel's resume: a tile that a
stop has HALTED goes on at its PC (04 R152; DESIGN CHOICE, log 73: the spec gives the resume no command). Of a FAULTED tile it
is Ladel's start (04 R151). -/
def execTileStart (tile : Nat) (s : State) : Host.Outcome State Fault Refusal :=
  s.runLive (s.tileOk tile)
    (let c := (s.tile tile).c
     if s.awake (tile / 32) = false ∨ c.failing.isSome = true then s
     else if c.state = 5 then (s.restartTile tile).issueEntry [tile]
     else match c.start with
       | none => if c.state = 4 ∧ c.stopped = true ∧ c.byHand = false then s.resumeTile tile else s
       | some g =>
         if s.clk.ftc < g.ftc ∨ [2, 4].contains c.state = false then s
         else if s.setTiles.contains tile then s.refuseStart tile
         else (s.beginTile tile g).issueEntry [tile])

/-- TILE_STOP (04 R151). -/
def execTileStop (tile : Nat) (s : State) : Host.Outcome State Fault Refusal :=
  s.runLive (s.tileOk tile) (s.stopTile tile)

/-- Saves a HALTED tile whose work has drained, and empties it (04 R152). -/
def State.saveTile (s : State) (t : Nat) (p4 : Bool) : State :=
  let x := s.tile t
  if x.c.state = 4 ∧ (mapFind s.tl.saves t).isNone = true ∧ x.drained = true ∧ x.c.failing = none then
    let s := s.modTl fun l =>
      { l with saves := mapPut l.saves t { r := x.r, cr := { x.cr with ftcHi := 0 }, c := x.c, forP4 := p4 } }
    s.fillTile t {} { state := 6, owner := x.c.owner, ctrMask := x.c.ctrMask }
  else s

/-- TILE_SAVE (04 R152). -/
def execTileSave (tile : Nat) (s : State) : Host.Outcome State Fault Refusal :=
  s.runLive (s.tileOk tile) (s.saveTile tile false)

/-- The ledger entries of a tile added to its counters, and the ledger cleared (04 R153). -/
def State.addLedger (s : State) (t : Nat) (r : TileRegs) : TileRegs :=
  (List.range 48).foldl (fun r i =>
    let n := mapGet 0 s.tl.ledger (64 * t + i)
    if n = 0 then r else r.setCtr i (r.getCtr i + n)) r

/-- Restores a saved context, FTC_HI apart, which is live (04 R115); one that is stale is refused and its step is marked
(04 R152, R153). -/
def State.restoreTile (s : State) (t : Nat) : State :=
  match mapFind s.tl.saves t with
  | none => s
  | some v =>
    if v.stale then s.markStep v.cr.part v.cr.step 153
    else if (s.tile t).c.state ≠ 6 then s
    else
      let r := s.addLedger t v.r
      let s := s.modTl fun l => { l with saves := mapDel l.saves t, ledger := mapClear l.ledger (64 * t) 64 }
      s.modTile t fun x =>
        { r := r, cr := { v.cr with ftcHi := x.cr.ftcHi }, c := { v.c with state := 4 }, x := { moved := x.x.moved } }

/-- TILE_RESTORE (04 R152, R153). -/
def execTileRestore (tile : Nat) (s : State) : Host.Outcome State Fault Refusal :=
  s.runLive (s.tileOk tile) (s.restoreTile tile)

/-- TILE_DISCARD (04 R151, R153): a saved context and its ledger, or a faulted program. -/
def execTileDiscard (tile : Nat) (s : State) : Host.Outcome State Fault Refusal :=
  s.runLive (s.tileOk tile)
    (if (mapFind s.tl.saves tile).isSome then
       let t := s.modTl fun l =>
         { l with saves := mapDel l.saves tile, ledger := mapClear l.ledger (64 * tile) 64 }
       if (s.tile tile).c.state = 6 then t.fillTile tile {} {} else t
     else if (s.tile tile).c.state = 5 then s.fillTile tile {} {}
     else s)

/-- A waiting tile that has waited for SLEEP_AFTER and drops to P1 (04 R145; 08 R253). -/
def State.sleepDue (s : State) (t : Nat) : Bool :=
  let x := s.tile t
  decide (x.c.state = 3) && !x.x.asleep && s.since x.x.since (tclkR (s.param 0x6000 5)) &&
    match x.x.blocked with
    | some (.wait c n) => !reached (x.r.getCtr c) n
    | _ => false

/-- TILE_SLEEP (04 R145). -/
def execTileSleep (tile : Nat) (s : State) : Host.Outcome State Fault Refusal :=
  s.runLive (s.tileOk tile)
    (if s.sleepDue tile then
       (s.tileBump tile 29 1).modTile tile fun x => { x with x := { x.x with asleep := true } }
     else s)

end Sys2Proof.Machine
end

