-- ==== Sys2Proof/Machine/Param.lean ====
section
/-! DEFINITION. OPT_STEP, update sets and the shipped optimizers (07 R222 to R229), and the answers to log mirroring (07
R219). -/

namespace Sys2Proof.Machine

/-! ### Optimizers (07 R227, R228, R225) -/

/-- The CODE handle bound to a custom OPT, its offset and planes. -/
def State.optHandle (s : State) (opt : Nat) : Nat := s.param (0x6920 + (opt - 0x80)) 1 % 2 ^ 24
def State.optOfs (s : State) (opt : Nat) : Nat := s.param (0x6920 + (opt - 0x80)) 2

/-- The number of the shipped image of an OPT, 0 for a custom one. -/
def optLib (opt : Nat) : Nat := if 1 ≤ opt ∧ opt ≤ 3 then 0x10 + opt else 0

/-- The planes an OPT needs; none where the code is not defined or bound. -/
def State.optPlanes (s : State) (opt : Nat) : Option Nat :=
  match opt with
  | 1 => some 2
  | 2 => some 3
  | 3 => some 2
  | _ => if 0x80 ≤ opt ∧ opt ≤ 0x8F ∧ s.optHandle opt ≠ 0 then some (s.param (0x6920 + (opt - 0x80)) 3) else none

/-- The program digest of the image bound to an OPT. -/
def State.optDigest (s : State) (opt : Nat) : Nat :=
  if optLib opt ≠ 0 then libDigest (optLib opt)
  else igDigest (s.imgHdr (s.descOf (hdDesc (s.optHandle opt))) (s.optOfs opt))

/-- The bytes of a hyperparameter set in force. -/
def State.hset (s : State) (n : Nat) : List Byte := s.blob (0x6A00 + n) 1 0 64

/-! ### Update sets (07 R225, R242) -/

def State.updSet (s : State) (u : Nat) : UpdSet := mapGet {} s.par.sets u
def State.setUpd (s : State) (u : Nat) (x : UpdSet) : State :=
  s.modPar fun p => { p with sets := mapSet {} p.sets u x }
def State.updRun (s : State) (u : Nat) : List Nat := tileRun (s.updFirst u) (s.updTiles u)

/-- The update sets of a partition in a state that a test accepts, with fewer than 4 operations queued: the one with the
fewest queued, then the lowest number. -/
def State.updPick (s : State) (part : Nat) (ok : Nat → Bool) : Option Nat :=
  ((sortBy (fun u => (s.updSet u).queue.length) ((List.range 16).filter fun u =>
    decide (0 < s.updTiles u) && decide (s.updPart u = part) && ok (s.updSet u).state &&
      decide ((s.updSet u).queue.length < 4)))).head?

/-- The update set that check 7 asks for, and to which an admitted operation is queued: one that is ready, or busy with room in
its queue, or else a faulted one, which is reloaded before it starts (07 R223, R225, R226; DESIGN CHOICE, log 23). -/
def State.updReady (s : State) (part : Nat) : Option Nat :=
  (s.updPick part fun x => x = 2 || x = 3).orElse fun _ => s.updPick part fun x => x = 4

/-! ### Step 9 (07 R223) -/

/-- A range of pages lies within one extent, or within padding only. -/
def State.oneExtent (s : State) (d : Desc) (first npg : Nat) : Bool :=
  let e := s.extentOf d first
  (List.range npg).all fun i => decide (s.extentOf d (first + i) = e)

/-- The step of a partition has been aborted here, and has not been launched again since. -/
def State.isAborted (s : State) (part step : Nat) : Bool := (mapFind s.par.aborted (part * 2 ^ 64 + step)).isSome

/-- Claims of a region for a step. -/
def State.claimsOf (s : State) (desc step : Nat) : List Claim :=
  s.par.claims.filter fun c => decide (c.desc = desc) && decide (c.step = step)

/-- The pages that an OPT_STEP frame covers. -/
def optPages (pb : Nat) (h : List Byte) : Nat × Nat := (hOfs h / pb, hLen h / pb)

/-- Step 9 of an OPT_STEP (07 R223). Check 7 counts the other operations admitted for the step, of which those that execute
are counted in NUPDATE; a resend does not count itself (DESIGN CHOICE, log 83). -/
def State.checkOptStep (s : State) (hd : List Byte) : Option Nat :=
  let desc := hdDesc (hHandle hd)
  let d := s.descOf desc
  let h := s.prmHdr d
  let pb := prmPageBytes h
  let opt := hArg hd 36 1
  let step := hArg hd 44 8
  let pg := optPages pb hd
  let others := (s.claimsOf desc step).filter fun c => !(decide (c.req = hReq hd) && decide (c.seq = hSeq hd))
  if pb = 0 ∨ hOfs hd % pb ≠ 0 ∨ hLen hd % pb ≠ 0 ∨ hLen hd = 0 ∨ prmPages h < pg.1 + pg.2 then some cState
  else if !s.oneExtent d pg.1 pg.2 then some cState
  else match s.optPlanes opt with
    | none => some cState
    | some n =>
      if prmPlanes h < n then some cState
      else if hArg hd 52 3 ≠ prmLog h then some cState
      else if step ≤ prmCommitted h ∨ (prmState h = 1 ∧ step ≠ prmPend h) ∨ s.isAborted (hPart hd) step = true then
        some cState
      else if others.any (fun c => overlaps pg.1 pg.2 c.first c.npg) then some cState
      else if 32 ≤ others.length ∨ (s.updReady (hPart hd)).isNone then some cCapacity
      else none

/-- An IDLE region becomes OPEN for a step: PEND_STEP is the step and NUPDATE is 0 (07 R215). -/
def State.openRegion (s : State) (d : Desc) (step : Nat) : State :=
  let h := s.prmHdr d
  if prmState h = 0 then s.setPrmHdr d (putBits (putBits (putBits h 385 384 1) 383 320 step) 255 250 0) else s

/-- Admission of an OPT_STEP: an IDLE region becomes OPEN (07 R215), and its pages belong to it for the step (07 R223
check 6). -/
def State.admitOptStep (s : State) (hd : List Byte) : State :=
  let desc := hdDesc (hHandle hd)
  let pg := optPages (prmPageBytes (s.prmHdr (s.descOf desc))) hd
  let c : Claim :=
    { part := hPart hd, step := hArg hd 44 8, desc := desc, req := hReq hd, seq := hSeq hd, first := pg.1, npg := pg.2 }
  let mine (x : Claim) : Bool := decide (x.desc = desc ∧ x.step = c.step ∧ x.req = c.req ∧ x.seq = c.seq)
  (s.openRegion (s.descOf desc) c.step).modPar fun p =>
    if p.claims.any mine then p else { p with claims := p.claims ++ [c] }

/-! ### Execution (07 R224) -/

/-- The claim of an operation. -/
def State.claimOf (s : State) (o : OpRec) : Option Claim :=
  s.par.claims.find? fun c => decide (c.req = o.req) && decide (c.seq = o.seq) && decide (c.step = hArg o.hdr 44 8)

def State.modClaim (s : State) (o : OpRec) (f : Claim → Claim) : State :=
  s.modPar fun p =>
    { p with
      claims := p.claims.map fun c =>
        if c.req = o.req ∧ c.seq = o.seq ∧ c.step = hArg o.hdr 44 8 then f c else c }

/-- Step 1: the region becomes OPEN where it is IDLE, and NUPDATE counts the operation once (07 R215, R224). -/
def State.openParam (s : State) (o : OpRec) : State :=
  let d := s.descOf (hdDesc (hHandle o.hdr))
  match s.claimOf o with
  | some c =>
    if c.opened then s
    else
      let s := s.openRegion d (hArg o.hdr 44 8)
      let h := s.prmHdr d
      (s.setPrmHdr d (putBits h 255 250 (bits h 255 250 + 1))).modClaim o fun c => { c with opened := true }
  | none => s

/-- Step 2: every page of the range is WRITTEN in the entry, and the entry holds the step. -/
def State.gradReady (s : State) (o : OpRec) : Bool :=
  let p := s.descOf (hdDesc (hHandle o.hdr))
  let h := s.prmHdr p
  let l := s.descOf (hdDesc (prmLog h))
  let e := lgEntryOfs (s.logHdr l) (hArg o.hdr 44 8)
  let pg := optPages (prmPageBytes h) o.hdr
  decide (s.entStep l e = hArg o.hdr 44 8) && (List.range pg.2).all fun i => s.written l e (pg.1 + i)

/-- The 96 bytes of an update record (07 R217). -/
def updRecord (first npg opt digest : Nat) (hset : List Byte) : List Byte :=
  beBytes 2 first ++ beBytes 2 npg ++ beBytes 1 opt ++ beBytes 3 0 ++ beBytes 16 digest ++ fitBytes 64 hset ++ beBytes 8 0

/-- Step 3: the update record is appended, or rewritten on a resend. -/
def State.recordUpdate (s : State) (o : OpRec) : State :=
  let h := s.prmHdr (s.descOf (hdDesc (hHandle o.hdr)))
  let l := s.descOf (hdDesc (prmLog h))
  let e := lgEntryOfs (s.logHdr l) (hArg o.hdr 44 8)
  let pg := optPages (prmPageBytes h) o.hdr
  let opt := hArg o.hdr 36 1
  let n := match s.claimOf o with
    | some c => c.urec
    | none => none
  let i := n.getD (s.entNupd l e)
  let s := s.rawWrite l (e + 0x40 + 96 * i) (updRecord pg.1 pg.2 opt (s.optDigest opt) (s.hset (hArg o.hdr 40 4 % 256)))
  let s := if n.isNone then s.rawWrite l (e + 9) (beBytes 1 (i + 1)) else s
  s.modClaim o fun c => { c with urec := some i }

/-- OPT_STEP (07 R224): it waits for its region and for the logged gradient, records the update, and is queued to the
partition's update set. A step that a later one has overtaken while it waited is refused as at step 9 (DESIGN CHOICE, log
83). -/
def execOptStep (req seq : Nat) (s : State) : Host.Outcome State Fault Refusal :=
  s.runLive (decide (req < 2 ^ 20) && decide (seq < 2 ^ 32))
    (match s.ready req seq opOptStep with
     | none => s.wakeFor req seq opOptStep
     | some o =>
       let h := s.prmHdr (s.descOf (hdDesc (hHandle o.hdr)))
       let step := hArg o.hdr 44 8
       if prmState h = 2 ∨ prmState h = 3 ∨ (prmState h = 1 ∧ prmPend h ≠ step) then s
       else if step ≤ prmCommitted h then s.done o.key cState 0
       else
         let s := s.openParam o
         if !s.gradReady o then s
         else match s.updReady o.part with
           | none => s
           | some u =>
             let s := ((s.recordUpdate o).begin o).modPar fun p => { p with ops := mapPut p.ops o.key { set := u, at_ := s.clk.now } }
             s.setUpd u { s.updSet u with queue := (s.updSet u).queue ++ [o.key] })

/-! ### The argument block (07 R225) -/

/-- The update record that an operation has written. -/
def State.urecOf (s : State) (o : OpRec) : List Byte :=
  let h := s.prmHdr (s.descOf (hdDesc (hHandle o.hdr)))
  let l := s.descOf (hdDesc (prmLog h))
  let e := lgEntryOfs (s.logHdr l) (hArg o.hdr 44 8)
  match s.claimOf o with
  | some c => s.rawRead l (e + 0x40 + 96 * c.urec.getD 0) 96
  | none => []

/-- The hyperparameter set as recorded. -/
def urHset (r : List Byte) : List Byte := sliceBytes r 24 64
def urFirst (r : List Byte) : Nat := natAt r 0 2
def urNpg (r : List Byte) : Nat := natAt r 2 2
def urOpt (r : List Byte) : Nat := natAt r 4 1
def urDigest (r : List Byte) : Nat := natAt r 8 16

/-- G of the first element of a page; all ones for padding. -/
def State.pageG (s : State) (d : Desc) (p : Nat) : Nat := (s.globalIndex d (16384 * p)).getD (2 ^ 64 - 1)

def State.updArgs (s : State) (handle step : Nat) (r : List Byte) : List Byte :=
  let d := s.descOf (hdDesc handle)
  let h := s.prmHdr d
  let lh := s.logHdr (s.descOf (hdDesc (prmLog h)))
  beBytes 8 step ++ beBytes 4 handle ++ beBytes 4 (prmLog h) ++ beBytes 2 (urFirst r) ++ beBytes 2 (urNpg r) ++
    beBytes 1 (urOpt r) ++ beBytes 1 (prmPlanes h) ++ beBytes 1 (lgDtype lh) ++ beBytes 1 (prmCastDtype h) ++
    beBytes 8 (lgData lh step) ++ beBytes 4 (prmCast h) ++ beBytes 4 (prmPageBytes h) ++ beBytes 8 (prmCastOfs h) ++
    beBytes 8 (s.pageG d (urFirst r)) ++ beBytes 8 0 ++ urHset r ++ List.replicate 128 0

/-- Every tile of a set holds the image that an OPT names. -/
def State.holdsOpt (s : State) (u opt : Nat) : Bool :=
  (s.updRun u).all fun t =>
    let c := (s.tile t).c
    [2, 4].contains c.state &&
      (if optLib opt ≠ 0 then decide (c.lib = optLib opt)
       else decide (c.lib = 0 ∧ c.image = s.optHandle opt ∧ c.imageOfs = s.optOfs opt ∧ c.digest = s.optDigest opt))

/-- Loads the image of an OPT into a set. -/
def State.loadOpt (s : State) (u opt : Nat) : State × Bool :=
  if s.holdsOpt u opt then (s, true)
  else if optLib opt ≠ 0 then s.loadLib (s.updRun u) (optLib opt) (s.updPart u)
  else s.loadImage (s.updRun u) (s.optHandle opt) (s.optOfs opt) (s.updPart u)

/-- Every tile of a run starts on this edge with one argument block (04 R119, R150). -/
def State.beginRun (s : State) (tiles : List Nat) (args : List Byte) (part cls step : Nat) : State :=
  (tiles.zipIdx).foldl (fun s p =>
    s.beginTile p.1
      { args := args, part := part, cls := cls, setpos := p.2, setsize := tiles.length, step := step,
        ftc := s.clk.ftc }) s

/-- A run starts, and its entry bundles issue (04 R150). -/
def State.startRun (s : State) (tiles : List Nat) (args : List Byte) (part cls step : Nat) : State :=
  (s.beginRun tiles args part cls step).issueEntry tiles

/-- An operation of an update set ends with REFUSED_STATE, its step is marked, and the set stops and is faulted (07 R226). -/
def State.optFails (s : State) (u : Nat) (o : OpRec) : State :=
  let s := ((s.updRun u).foldl State.stopTile s).setUpd u { s.updSet u with running := none, state := 4 }
  (s.done o.key cState 0).markStep o.part (hArg o.hdr 44 8) 226

/-- UPDATE_START (07 R225), for an operation that was queued on an earlier edge (08 R255). -/
def execUpdateStart (set : Nat) (s : State) : Host.Outcome State Fault Refusal :=
  s.runLive (decide (set < 16))
    (let x := s.updSet set
     match decide (x.state = 2 ∨ x.state = 4), x.queue with
     | true, k :: q =>
       match s.op k with
       | none => s.setUpd set { x with queue := q }
       | some o =>
         let w := s.wakeRun (s.updRun set)
         if (mapFind s.par.ops k).any (fun p => decide (s.clk.now / 8 ≤ p.at_ / 8)) then s
         else if !w.2 then w.1
         else
           let r := s.urecOf o
           let l := w.1.loadOpt set (urOpt r)
           let s := l.1.setUpd set { x with queue := q, state := 3, running := some k }
           if l.2 then
             s.startRun (s.updRun set) (s.updArgs (hHandle o.hdr) (hArg o.hdr 44 8) r) o.part o.cls (hArg o.hdr 44 8)
           else s.optFails set o
     | _, _ => s)

/-! ### The shipped optimizers (07 R229) -/

/-- Hyperparameters by offset. -/
def hsF (hset : List Byte) (ofs : Nat) : Nat := natAt hset ofs 4
def f32one : Nat := 0x3F800000

/-- The sign step of LION. -/
def lionSign (c : Nat) : Nat :=
  match fdecode fp32 c with
  | .nan => 0x7FC00000
  | .inf neg => if neg then 0xBF800000 else f32one
  | .fin neg m _ => if m = 0 then 0 else if neg then 0xBF800000 else f32one

/-- The new planes of one element; planes past the optimizer's own are absent. -/
def optElement (opt : Nat) (hs : List Byte) (w m v gq : Nat) : List Nat :=
  let lr := hsF hs 0
  let b1 := hsF hs 4
  let b2 := hsF hs 8
  let g := f32mul gq (hsF hs 20)
  let wd := f32mul (hsF hs 16) w
  match opt with
  | 1 =>
    let g := f32add g wd
    let b := f32fma b1 m g
    let g := if bit (natAt hs 33 1) 0 then f32fma b1 b g else b
    [f32sub w (f32mul lr g), b]
  | 2 =>
    let m := f32fma b1 m (f32mul (f32sub f32one b1) g)
    let v := f32fma b2 v (f32mul (f32mul (f32sub f32one b2) g) g)
    let d := f32add (f32sqrt (f32mul v (hsF hs 28))) (hsF hs 12)
    let u := f32mul (f32mul m (hsF hs 24)) (f32rcp d)
    [f32sub w (f32mul lr (f32add u wd)), m, v]
  | _ =>
    let c := f32fma b1 m (f32mul (f32sub f32one b1) g)
    [f32sub w (f32mul lr (f32add (lionSign c) wd)), f32fma b2 m (f32mul (f32sub f32one b2) g)]

/-- The cast of a new weight: rounded to nearest even, or stochastically with the word of G + 2^63 (07 R229). -/
def castWeight (dt mode seed step w : Nat) (g : Option Nat) : Nat :=
  match g with
  | some g =>
    dtypeRound dt (if mode = 0 then .rne else .stoch (randomWord seed step ((g + 2 ^ 63) % 2 ^ 64))) false (fdecode fp32 w)
  | none => dtypeRound dt .rne false (fdecode fp32 w)

/-- The elements of a page: new planes and the new weight, from the current frame and the logged gradient. -/
def State.optPage (s : State) (d l : Desc) (opt step p : Nat) (hs : List Byte) : List (List Nat) :=
  let h := s.prmHdr d
  let lh := s.logHdr l
  let pb := prmPageBytes h
  let plane (k : Nat) : List Byte := s.rread d (p * pb + 65536 * k) 65536
  let w := lgWidth lh
  let grad := s.rread l (lgData lh step + 16384 * p * w) (16384 * w)
  (List.range 16384).map fun i =>
    optElement opt hs (natAt (plane 0) (4 * i) 4) (natAt (plane 1) (4 * i) 4) (natAt (plane 2) (4 * i) 4)
      (frne fp32 (dtypeValue (lgDtype lh) (natAt grad (w * i) w)))

/-- Writes a page's new planes to its shadow frame, and its cast (07 R214, R229). Planes of the region past the optimizer's
own are not written there (DESIGN CHOICE, log 84). -/
def State.updatePage (s : State) (handle : Nat) (opt step seed p : Nat) (hs : List Byte) : State :=
  let d := s.descOf (hdDesc handle)
  let h := s.prmHdr d
  let pb := prmPageBytes h
  let es := s.optPage d (s.descOf (hdDesc (prmLog h))) opt step p hs
  let n := (es.headD []).length
  let planes := (List.range n).map fun k => (es.map fun e => beBytes 4 (e.getD k 0)).flatten
  let s := ((s.rwrite handle (p * pb) planes.flatten true).setShadow d (p * pb) (65536 * n)).bump tallyBlock tbShadow 1
  if prmCast h = 0 then s
  else
    let dt := prmCastDtype h
    let w := castWidth dt
    let bs := (es.mapIdx fun i e =>
      beBytes w (castWeight dt (natAt hs 32 1) seed step (e.getD 0 0) (s.globalIndex d (16384 * p + i)))).flatten
    ((s.rwrite (prmCast h) (prmCastOfs h + 16384 * p * w) bs false).modPar fun q =>
      { q with casts := mapPut q.casts (hdDesc handle) 1 }).bump tallyBlock tbCast 1

/-- The first failing granule that an update of a range would read, as its BPA granule number and its index in the pages'
frames or gradients. -/
def State.optFail (s : State) (handle opt step first npg : Nat) : Option (Nat × Nat) :=
  let d := s.descOf (hdDesc handle)
  let h := s.prmHdr d
  let pb := prmPageBytes h
  let l := s.descOf (hdDesc (prmLog h))
  let lh := s.logHdr l
  let n := (s.optPlanes opt).getD 0
  let at_ (g : Desc) (ofs len base : Nat) : Option (Nat × Nat) :=
    (s.rpoison g ofs len).map fun x =>
      (((s.pieces g x 1 false).head?.map fun q => (g.bpa0 + q.1) / 64).getD 0, (x - base) / 64)
  (List.range npg).findSome? fun i =>
    match at_ d ((first + i) * pb) (65536 * n) (first * pb) with
    | some r => some r
    | none => at_ l (lgData lh step + (first + i) * lgPageBytes lh) (lgPageBytes lh) (lgData lh step + first * lgPageBytes lh)

/-- Repairs what mirrored regions can of what an update of a range reads (07 R241). -/
def State.optHeal (s : State) (handle step first npg : Nat) : State :=
  let d := s.descOf (hdDesc handle)
  let h := s.prmHdr d
  let l := s.descOf (hdDesc (prmLog h))
  let lh := s.logHdr l
  (s.rheal d (first * prmPageBytes h) (npg * prmPageBytes h)).rheal l (lgData lh step + first * lgPageBytes lh)
    (npg * lgPageBytes lh)

/-- The tiles of a run halt. -/
def State.haltRun (s : State) (tiles : List Nat) : State :=
  tiles.foldl (fun s t =>
    if (s.tile t).c.state = 3 then
      s.modTile t fun x => { x with c := { x.c with state := 4, frozen := false }, x := { x.x with blocked := none } }
    else s) s

/-- An update that has ended: the set takes the next operation. -/
def State.updFree (s : State) (u : Nat) : State :=
  let x := s.updSet u
  s.setUpd u { x with running := none, state := 2 }

/-- An update that is answered DONE (07 R224). -/
def State.updDone (s : State) (u : Nat) (o : OpRec) (aux : Nat) : State :=
  let h := s.prmHdr (s.descOf (hdDesc (hHandle o.hdr)))
  let l := s.descOf (hdDesc (prmLog h))
  let e := lgEntryOfs (s.logHdr l) (hArg o.hdr 44 8)
  let f : Final :=
    { code := cDone, aux := aux, prog := urDigest (s.urecOf o), weights := some (s.rawNat l (e + 0x10) 16),
      tile := s.updFirst u }
  let s := ((s.modClaim o fun c => { c with done := true }).updFree u).bump tallyBlock tbOptStep 1
  (s.bump tallyBlock tbPagesUpdated (aux / 16384)).finish o.key f

/-- A failing read that an update met (07 R226). -/
def State.updPoison (s : State) (u : Nat) (o : OpRec) (code aux : Nat) : State :=
  ((s.updFree u).finish o.key { code := code, aux := aux, tile := s.updFirst u }).markStep o.part (hArg o.hdr 44 8) 226

/-- Granules that a shipped optimizer reads and writes for a page: its planes and the gradient, the new planes in every
copy, and the cast (10 R312). -/
def State.optGranules (s : State) (handle opt : Nat) : Nat :=
  let d := s.descOf (hdDesc handle)
  let h := s.prmHdr d
  let n := (s.optPlanes opt).getD 0
  let copies (g : Desc) : Nat := if g.mirror then 2 else 1
  1024 * n + lgPageBytes (s.logHdr (s.descOf (hdDesc (prmLog h)))) / 64 + 1024 * n * copies d +
    (if prmCast h = 0 then 0 else 256 * castWidth (prmCastDtype h) * copies (s.descOf (hdDesc (prmCast h))))

/-- A shipped optimizer has run (07 R226, R229). -/
def State.updShipped (s : State) (u : Nat) (o : OpRec) : State :=
  let r := s.urecOf o
  let step := hArg o.hdr 44 8
  let hd := hHandle o.hdr
  let s := s.optHeal hd step (urFirst r) (urNpg r)
  let seed := (s.tile (s.updFirst u)).cr.seed
  let s := (s.haltRun (s.updRun u)).chargeOp o.key
    (urNpg r * s.optGranules hd (urOpt r) + s.tableGranules (s.descOf (hdDesc hd)) (hOfs o.hdr) (hLen o.hdr))
  match s.optFail hd (urOpt r) step (urFirst r) (urNpg r) with
  | some g => s.updPoison u o (s.failAt o g.1) g.2
  | none =>
    ((List.range (urNpg r)).foldl (fun s i => s.updatePage hd (urOpt r) step seed (urFirst r + i) (urHset r)) s).updDone u o
      (urNpg r * 16384)

/-- The completion record of a set's first tile (06 R190; 07 R225). -/
def State.completion (s : State) (t : Nat) : List Byte := (s.tile t).r.getDm 0x2FFE0 32

/-- A custom image has run: its completion record decides (07 R225, R226). -/
def State.updCustom (s : State) (u : Nat) (o : OpRec) : State :=
  let b := s.completion (s.updFirst u)
  match natAt b 0 1 with
  | 0x00 => s.updDone u o (natAt b 4 4)
  | 0x20 => s.updPoison u o cUncorrectable (natAt b 4 4)
  | 0x21 => s.updPoison u o cPoison (natAt b 4 4)
  | _ => s.optFails u o

/-- A tile of a set has faulted. -/
def State.runFaulted (s : State) (tiles : List Nat) : Bool := tiles.any fun t => decide ((s.tile t).c.state = 5)

/-- A tile of a set runs, or something that it has issued is still under way. -/
def State.runBusy (s : State) (tiles : List Nat) : Bool :=
  tiles.any fun t => decide ((s.tile t).c.state = 3) || !(s.tile t).drained

/-- A set runs a shipped image. -/
def State.runsLib (s : State) (tiles : List Nat) : Bool := tiles.all fun t => decide ((s.tile t).c.lib ≠ 0)

/-- UPDATE_COMPLETE (07 R224 to R226, R229): a custom image is done once every tile has halted and its writes have been
accepted; a fault of one tile ends the operation at once. -/
def execUpdateComplete (set : Nat) (s : State) : Host.Outcome State Fault Refusal :=
  s.runLive (decide (set < 16))
    (match (s.updSet set).running with
     | none => s
     | some k =>
       let tiles := s.updRun set
       let lib := s.runsLib tiles
       let faulted := s.runFaulted tiles
       if !lib && !faulted && s.runBusy tiles then s
       else match s.op k with
         | none => (s.haltRun tiles).updFree set
         | some o =>
           if lib then s.updShipped set o else if faulted then s.optFails set o else s.updCustom set o)

/-! ### Answers to mirroring (07 R219) -/

/-- A mirror copy has failed: its step is marked. -/
def State.mirrorFails (s : State) (id : Nat) (m : Mirror) : State :=
  (s.modPar fun p => { p with mirrors := mapPut p.mirrors id { m with failed := true } }).mark m.part m.step 219

/-- MIRROR_WAIT_EXPIRY (07 R219). -/
def execMirrorWaitExpiry (id : Nat) (s : State) : Host.Outcome State Fault Refusal :=
  s.runLive (decide (id < 2 ^ 32))
    (match mapFind s.par.mirrors id with
     | none => s
     | some m =>
       if m.failed = false ∧ s.since m.since (usR (s.param 0x6900 5)) = true then s.mirrorFails id m else s)

end Sys2Proof.Machine
end

