-- ==== Sys2Proof/Machine/Attend.lean ====
section
/-! DEFINITION. The attention service's values: streams and pages (06 R181, R183 to R186), page records, the canonical
merge and tree (06 R192 to R197), spill records and argument blocks (06 R189, R198). -/

namespace Sys2Proof.Machine

/-! ### Operations on streams (06 R183, R185, R187) -/

/-- An overlapping operation admitted earlier has not completed (06 R185). -/
def State.kvWaits (s : State) (o : OpRec) : Bool :=
  s.frm.ops.any fun p =>
    (p.2.opcode = opKvAppend || p.2.opcode = opAttnQuery) && decide (p.2.ord < o.ord) && kvOverlap p.2.hdr o.hdr

/-- The context is served here for another block: FIRST of a spill context is never 0 (06 R198). -/
def kcSpill (w : Nat) : Bool := decide (kcFirst w ≠ 0)

/-- Bytes of one token's key. -/
def kvRow (h : Nat) : Nat := kvDim h * kvWidth h

/-- The page-table entry of local page p of an operation's stream. -/
def State.kvEntry (s : State) (d : Desc) (o : List Byte) (p : Nat) : Nat :=
  s.rawNat d (kvPtOfs (s.kvHdr d) (hArg o 40 4) (hArg o 38 2) (hArg o 44 2) p) 8

/-- The code of a failing granule of the directory that an operation reads: the header, its context's entry, or the
page-table entries of `n` local pages from `p` on (12 R365). -/
def State.dirFail (s : State) (o : OpRec) (d : Desc) (p n : Nat) : Option Nat :=
  let h := s.kvHdr d
  let a := o.hdr
  let pt := kvPtOfs h (hArg a 40 4) (hArg a 38 2) (hArg a 44 2) p
  (((s.poisonIn d.bpa0 64).orElse fun _ => (s.poisonIn (d.bpa0 + 64 + 16 * hArg a 40 4) 16).orElse fun _ =>
    s.poisonIn (d.bpa0 + pt) (8 * n))).map (s.failAt o)

/-- Slots that some page-table entry holds. -/
def State.kvUsed (s : State) (d : Desc) : List Nat :=
  let h := s.kvHdr d
  ((List.range (kvContexts h * kvLayers h * kvHeads h * kvPages h)).map fun i => s.rawNat d (kvPt h + 8 * i) 8).filterMap
    fun e => if kpValid e then some (kpSlot e) else none

/-- The lowest-numbered free slot (06 R184). -/
def State.kvFreeSlot (s : State) (d : Desc) : Nat :=
  let used := s.kvUsed d
  ((List.range (used.length + 1)).find? fun i => !used.contains i).getD 0

/-- The offset of a slot. -/
def kvSlotOfs (h slot : Nat) : Nat := kvBase h + slot * kvPageBytes h

/-- FILL of a bitmap: the tokens from the first on that are all written (06 R181). -/
def State.kvFill (s : State) (d : Desc) (slot : Nat) : Nat :=
  ((List.range 4096).takeWhile fun t => s.mapBit d (kvBm (s.kvHdr d) + 512 * slot) t).length

/-- Returns the slots of every stream of a context, and zeroes its bitmaps and page-table entries. -/
def State.returnSlots (s : State) (d : Desc) (ctx : Nat) : State :=
  let h := s.kvHdr d
  let n := kvLayers h * kvHeads h * kvPages h
  (List.range n).foldl (fun s i =>
    let eo := kvPt h + 8 * (ctx * n + i)
    let e := s.rawNat d eo 8
    if kpValid e then
      let s := s.rawWrite d (kvBm h + 512 * kpSlot e) (List.replicate 512 0)
      let s := s.rawWrite d eo (beBytes 8 0)
      let g := s.kvHdr d
      s.setKvHdr d (putBits g 375 344 (kvFree g + 1))
    else s) s

/-! ### Step 9 (06 R183, R187) -/

/-- The geometry and the stream indices of a frame fit the directory. -/
def State.kvFits (s : State) (d : Desc) (o : List Byte) : Bool :=
  let h := s.kvHdr d
  decide (hArg o 46 2 = kvDim h ∧ hArg o 38 2 < kvLayers h ∧ hArg o 44 2 < kvHeads h ∧ hArg o 40 4 < kvContexts h)

/-- The local page of an append; a free context becomes home by it (06 R180, R183). -/
def kvLocalFor (h w g : Nat) : Option Nat :=
  if kcRole w = 0 then (if g < kvPages h then some g else none) else kvLocal h w g

/-- The page of an append: stream and global page. -/
def kvPageKey (o : List Byte) : List Nat := kvStream o ++ [kvPage o]

/-- The page of an append has its slot, in a context that is being released too (06 R183, R186). -/
def State.kvHeld (s : State) (d : Desc) (o : List Byte) : Bool :=
  let w := s.kvCtx d (hArg o 40 4)
  match kvLocalFor (s.kvHdr d) w (kvPage o) with
  | none => kcRole w = 3 && kpValid (s.kvEntry d o (kvPage o - kcFirst w))
  | some p => kcRole w ≠ 0 && kpValid (s.kvEntry d o p)

/-- Pages of a region for which admitted appends hold a slot in reserve: those that have not got it yet. -/
def State.kvReserved (s : State) (desc : Nat) : List (List Nat) :=
  ((s.att.reserved.filter fun p => decide (p.2 = desc)).filterMap fun p =>
    match s.op p.1 with
    | some o => if s.kvHeld (s.descOf desc) o.hdr then none else some (kvPageKey o.hdr)
    | none => none).eraseDups

def State.checkKvAppend (s : State) (o : List Byte) : Option Nat :=
  let desc := hdDesc (hHandle o)
  let d := s.descOf desc
  let h := s.kvHdr d
  let w := s.kvCtx d (hArg o 40 4)
  if hArg o 36 1 ≠ kvDtype h ∨ s.kvFits d o = false then some cState
  else match kvLocalFor h w (kvPage o) with
    | none => some cState
    | some _ =>
      let others := (s.kvReserved desc).filter (· ≠ kvPageKey o)
      if !s.kvHeld d o && decide (kvFree h ≤ others.length) then some cCapacity else none

/-- What an append changes in its region beyond a page's slot: the header, the context's entry, and the page-table entry; and,
where the page has a slot, its bitmap and its tokens (06 R184). -/
def State.kvTouches (s : State) (d : Desc) (o : List Byte) : List (Nat × Nat) :=
  let h := s.kvHdr d
  match kvLocalFor h (s.kvCtx d (hArg o 40 4)) (kvPage o) with
  | none => []
  | some p =>
    let e := s.kvEntry d o p
    let at_ := kvSlotOfs h (kpSlot e) + hArg o 48 4 % 4096 * kvRow h
    [(0, 64), (64 + 16 * hArg o 40 4, 16), (kvPtOfs h (hArg o 40 4) (hArg o 38 2) (hArg o 44 2) p, 8)] ++
      if kpValid e then
        [(kvBm h + 512 * kpSlot e, 512), (at_, hArg o 52 4 * kvRow h), (at_ + 4096 * kvRow h, hArg o 52 4 * kvRow h)]
      else []

/-- Admission of an append: a free context becomes home, and a slot is reserved for a page without one (06 R180,
R183). -/
def State.admitKvAppend (s : State) (k : Nat) (o : List Byte) : State :=
  let desc := hdDesc (hHandle o)
  let d := s.descOf desc
  let w := s.kvCtx d (hArg o 40 4)
  let s := if kcRole w = 0 then s.setKvCtx d (hArg o 40 4) (putBits w 127 126 1) else s
  match kvLocal (s.kvHdr d) (s.kvCtx d (hArg o 40 4)) (kvPage o) with
  | none => s
  | some p =>
    if kpValid (s.kvEntry d o p) then s else s.modAtt fun a => { a with reserved := mapPut a.reserved k desc }

/-! ### Spill records (06 R198) -/

def srN (r : List Byte) : Nat := natAt r 0 32
def srHomeHandle (r : List Byte) : Nat := bits (srN r) 255 232
def srHomeCtx (r : List Byte) : Nat := bits (srN r) 231 200
def srFirst (r : List Byte) : Nat := bits (srN r) 199 190
def srLog2n (r : List Byte) : Nat := bits (srN r) 189 186
def srSpillEp (r : List Byte) : Nat := bits (srN r) 185 166
def srSpillHandle (r : List Byte) : Nat := bits (srN r) 165 142
def srSpillCtx (r : List Byte) : Nat := bits (srN r) 141 110
def srHomeEp (r : List Byte) : Nat := bits (srN r) 109 90

/-- The records in force of a home context, in page order. -/
def State.spillsOf (s : State) (handle ctx : Nat) : List (List Byte) :=
  sortBy srFirst ((s.sch.spills.map (·.bytes)).filter fun r =>
    decide (srHomeHandle r = handle ∧ srHomeCtx r = ctx ∧ srHomeEp r = s.blockEp))

/-- An operation that is admitted names a context. -/
def State.ctxBusy (s : State) (desc ctx : Nat) : Bool :=
  s.frm.ops.any fun p =>
    (p.2.opcode = opKvAppend || p.2.opcode = opAttnQuery) && decide (hdDesc (hHandle p.2.hdr) = desc) &&
      decide (hArg p.2.hdr 40 4 = ctx)

/-- The key of a context among those whose slots have been returned. -/
def ctxKey (handle ctx : Nat) : Nat := hdDesc handle * 65536 + ctx

/-- A released context has no operation left: its slots are returned and GENERATION goes up (06 R186). -/
def State.cleanCtx (s : State) (d : Desc) (ctx : Nat) : State :=
  let w := s.kvCtx d ctx
  (s.returnSlots d ctx).setKvCtx d ctx (putBits w 31 0 ((kcGen w + 1) % 2 ^ 32))

/-- The spill context that a record names takes its role (06 R180, R198). -/
def State.bindSpill (s : State) (d : Desc) (r : List Byte) : State :=
  let ctx := srSpillCtx r
  let s := s.modAtt fun a => { a with cleaned := mapDel a.cleaned (ctxKey (srSpillHandle r) ctx) }
  s.setKvCtx d ctx
    (2 * 2 ^ 126 + srFirst r * 2 ^ 116 + srLog2n r * 2 ^ 112 + srHomeEp r * 2 ^ 92 + kcGen (s.kvCtx d ctx))

/-- The record in force that names a context of this block as its spill context. -/
def State.spillNaming (s : State) (handle ctx : Nat) : Option (List Byte) :=
  (s.sch.spills.map (·.bytes)).find? fun r =>
    decide (srSpillEp r = s.blockEp ∧ srSpillHandle r = handle ∧ srSpillCtx r = ctx)

/-- Drops the records in force that a test holds of (06 R186; 09 R273). -/
def State.dropSpills (s : State) (p : List Byte → Bool) : State :=
  s.modSch fun c => { c with spills := c.spills.filter fun r => !p r.bytes }

/-- Those whose FIRST lies below G. -/
def State.spillsFor (s : State) (o : List Byte) : List (List Byte) :=
  (s.spillsOf (hHandle o) (hArg o 40 4)).filter fun r => decide (srFirst r < kvG o)

/-- Every page below G from the home pages on is covered by a record. -/
def spillsCover (rs : List (List Byte)) (from_ g : Nat) : Bool :=
  (List.range (g - from_)).all fun i =>
    rs.any fun r => decide (srFirst r ≤ from_ + i ∧ from_ + i < srFirst r + 2 ^ srLog2n r)

/-! ### Attention sets (06 R188, R205) -/

def State.attRun (s : State) (i : Nat) : List Nat := tileRun (s.attFirst i) (s.attTiles i)
def State.attSet (s : State) (i : Nat) : AttSet := mapGet {} s.att.sets i
def State.setAttSet (s : State) (i : Nat) (x : AttSet) : State :=
  s.modAtt fun a => { a with sets := mapSet {} a.sets i x }

/-- The set that takes a further query: ready or busy with room in its queue, the fewest queued first, then the lowest
number (06 R188). -/
def State.attFor (s : State) (part : Nat) : Option Nat :=
  ((sortBy (fun i => (s.attSet i).queue.length) ((List.range 64).filter fun i =>
    decide (0 < s.attTiles i) && decide (s.attPart i = part) && [2, 3].contains (s.attSet i).state &&
      decide ((s.attSet i).queue.length < 16)))).head?

/-- The query format that a region accepts (06 R182). -/
def kvQuery (dtype : Nat) : Nat := if dtype = 2 then 1 else dtype

def State.checkAttn (s : State) (o : List Byte) : Option Nat :=
  let d := s.descOf (hdDesc (hHandle o))
  let h := s.kvHdr d
  let w := s.kvCtx d (hArg o 40 4)
  let rs := s.spillsFor o
  let bad :=
    match kcRole w with
    | 1 => !spillsCover rs (kvPages h) (kvG o) || (!rs.isEmpty && decide (s.blockEp = 0))
    | 2 => decide (hReq o ≠ kcHome w) || decide (kvG o ≤ kcFirst w)
    | _ => true
  if !s.kvFits d o || bad || decide (hArg o 36 1 ≠ kvQuery (kvDtype h)) then some cState
  else if (s.attFor (hPart o)).isNone then some cCapacity
  else none

/-- Admission of a query: its number, and its place in a set's queue (06 R188). -/
def State.admitAttn (s : State) (k : Nat) (o : List Byte) : State :=
  match s.attFor (hPart o) with
  | none => s
  | some i =>
    let s := s.setAttSet i { s.attSet i with queue := (s.attSet i).queue ++ [k] }
    (s.modAtt fun a =>
      { a with
        queries := mapPut a.queries k { number := a.next, set := i },
        next := (a.next + 1) % 2 ^ 64 }).bump tallyBlock tbQuery 1

/-! ### Records (06 R192 to R195) -/

/-- What a record holds of one head. -/
structure HeadRec where
  m : Nat := 0
  l : Nat := 0
  o : List Nat := []
  empty : Bool := true
  bad : Bool := false
  deriving DecidableEq, Repr

/-- The merge of one head; a covers lower pages than b (06 R193). -/
def mergeHead (a b : HeadRec) : HeadRec :=
  let bad := a.bad || b.bad
  if a.empty then { b with bad := bad }
  else if b.empty then { a with bad := bad }
  else
    let m := f32max a.m b.m
    let al := f32exp (f32sub a.m m)
    let be := f32exp (f32sub b.m m)
    { m := m, l := f32add (f32mul a.l al) (f32mul b.l be),
      o := List.zipWith (fun x y => f32add (f32mul x al) (f32mul y be)) a.o b.o, empty := false, bad := bad }

def mergeRec (a b : List HeadRec) : List HeadRec := List.zipWith mergeHead a b

/-- Products of an inner dimension, 32 at a time into the accumulator (04 R135). -/
def dotGroups (fuel : Nat) (l : List FVal) (ac : Nat) : Nat :=
  match fuel with
  | 0 => ac
  | k + 1 => if l.isEmpty then ac else dotGroups k (l.drop 32) (accRound ac (groupSum (l.take 32)))

/-- One MMA with ZERO = 1, for one row and one column. -/
def dotMma (a b : List FVal) : Nat := dotGroups 8 (List.zipWith fmul a b) 0

/-- The elements of a row of bytes in a format. -/
def rowValues (dt w n : Nat) (b : List Byte) : List FVal := (List.range n).map fun i => dtypeValue dt (natAt b (w * i) w)

/-- The bits of −∞ in FP32. -/
def f32ninf : Nat := 0xFF800000

/-- The record of one pass for one head, from its query row and the keys and values of the valid tokens (06 R194). -/
def passHead (dt dim scale : Nat) (q : List FVal) (ks vs : List (List FVal)) : HeadRec :=
  let n := ks.length
  let sc := ks.map fun k => f32mul (dotMma q k) scale
  let bad := sc.any fun x => fdecode fp32 x = .nan || fdecode fp32 x = .inf false
  if sc.all fun x => decide (fdecode fp32 x = .inf true) then { bad := bad }
  else
    let m := redTree f32max (sc ++ List.replicate (64 - n) f32ninf)
    let p := kvQuery dt
    let pn := sc.map fun x => dtypeValue p (dtypeRound p .rne false (fdecode fp32 (f32exp (f32sub x m))))
    let l := redTree f32add (pn.map (frne fp32) ++ List.replicate (64 - n) 0)
    let pv := pn ++ List.replicate (64 - n) (.fin false 0 0)
    let o := (List.range dim).map fun c =>
      dotMma pv (vs.map (·.getD c (.fin false 0 0)) ++ List.replicate (64 - n) (.fin false 0 0))
    { m := m, l := l, o := o, empty := false, bad := bad }

/-- Queries of a frame, head by head. -/
def State.queryRows (s : State) (o : OpRec) : List (List FVal) :=
  let dt := hArg o.hdr 36 1
  let w := castWidth dt
  let n := hArg o.hdr 46 2
  (List.range (hArg o.hdr 37 1)).map fun i => rowValues dt w n (sliceBytes (s.opPayload o) (i * n * w) (n * w))

/-- Valid tokens of global page g under a query (06 R194). -/
def validTokens (o : List Byte) (g : Nat) : Nat := min 4096 (hArg o 48 4 - 4096 * g)

/-- The record of a page: its passes folded in order (06 R194). -/
def State.pageRec (s : State) (d : Desc) (o : OpRec) (p g : Nat) : List HeadRec :=
  let h := s.kvHdr d
  let base := kvSlotOfs h (kpSlot (s.kvEntry d o.hdr p))
  let row := kvRow h
  let vals (ofs t : Nat) : List FVal :=
    rowValues (kvDtype h) (kvWidth h) (kvDim h) (s.rread d (base + ofs + t * row) row)
  let n := validTokens o.hdr g
  let qs := s.queryRows o
  let pass (i : Nat) : List HeadRec :=
    let ts := (List.range (min 64 (n - 64 * i))).map (64 * i + ·)
    qs.map fun q => passHead (kvDtype h) (kvDim h) (hArg o.hdr 52 4) q (ts.map (vals 0)) (ts.map (vals (4096 * row)))
  (List.range (ceilDiv n 64 - 1)).foldl (fun r i => mergeRec r (pass (i + 1))) (pass 0)

/-- Node (L, j) of the canonical tree below G (06 R195): `leaf` gives a node that is at hand, a page or a spill
record. -/
def treeNode (leaf : Nat → Nat → Option (List HeadRec)) (g L j : Nat) : List HeadRec :=
  match leaf L j with
  | some r => r
  | none =>
    match L with
    | 0 => []
    | k + 1 =>
      if (2 * j + 1) * 2 ^ k < g then mergeRec (treeNode leaf g k (2 * j)) (treeNode leaf g k (2 * j + 1))
      else treeNode leaf g k (2 * j)

/-- The level of the root. -/
def treeTop (g : Nat) : Nat := if g ≤ 1 then 0 else Nat.log2 (g - 1) + 1

/-- The arrival-order merge (06 R197): each record, with the first page it covers, is folded into the running one as it
becomes ready. Which comes next, and whether it comes on the edge of the one before, is open. -/
def foldArrived (fuel c : Nat) (run : Nat × List HeadRec) (l : List (Nat × List HeadRec)) : List HeadRec :=
  match fuel with
  | 0 => run.2
  | k + 1 =>
    match l with
    | [] => run.2
    | x :: _ =>
      let i := (Config.freeValue 1 c).toNat % l.length
      let y := l.getD i x
      let oneEdge := decide ((Config.freeValue 2 c).toNat % 2 = 1)
      let r := if oneEdge && decide (y.1 < run.1) then mergeRec y.2 run.2 else mergeRec run.2 y.2
      foldArrived k (c + 1) (min run.1 y.1, r) (l.eraseIdx i)

/-- The first record to become ready is the running one. -/
def mixMerge (c : Nat) (l : List (Nat × List HeadRec)) : List HeadRec :=
  match l with
  | [] => []
  | x :: _ =>
    let i := (Config.freeValue 1 c).toNat % l.length
    foldArrived l.length (c + 1) (l.getD i x) (l.eraseIdx i)

/-- Bytes of a record (06 R192). -/
def recSize (nq dim : Nat) : Nat := 32 + nq * (8 + 4 * dim)

/-- A mask of the heads of which a test holds. -/
def headMask (p : HeadRec → Bool) (l : List HeadRec) : Nat :=
  (l.zipIdx.map fun x => if p x.1 then 2 ^ x.2 else 0).foldl (· + ·) 0

/-- The bytes of a record; the values of an empty head are open (06 R192, R193). -/
def recBytes (level index dim pages c : Nat) (l : List HeadRec) : List Byte :=
  beBytes 1 level ++ beBytes 1 l.length ++ beBytes 2 index ++ beBytes 2 dim ++ beBytes 2 (headMask (·.bad) l) ++
    beBytes 2 (headMask (·.empty) l) ++ beBytes 2 pages ++ beBytes 4 0 ++ beBytes 8 fprint ++ beBytes 8 0 ++
    (l.zipIdx.map fun x =>
      if x.1.empty then
        ((List.range (2 + dim)).map fun i => beBytes 4 (Config.freeValue 3 (c + x.2 * 512 + i)).toNat).flatten
      else beBytes 4 x.1.m ++ beBytes 4 x.1.l ++ (x.1.o.map (beBytes 4)).flatten).flatten

/-- The heads of a record. -/
def recHeads (b : List Byte) (nq dim : Nat) : List HeadRec :=
  (List.range nq).map fun i =>
    let a := 32 + i * (8 + 4 * dim)
    { m := natAt b a 4, l := natAt b (a + 4) 4, o := (List.range dim).map fun c => natAt b (a + 8 + 4 * c) 4,
      empty := bit (natAt b 8 2) i, bad := bit (natAt b 6 2) i }

/-- The output row of one head (06 R195). -/
def headOut (qd dim : Nat) (r : HeadRec) : List Byte :=
  let w := castWidth qd
  ((List.range dim).map fun c =>
    if r.bad || r.empty then beBytes w (dtypeRound qd .rne false .nan)
    else beBytes w (dtypeRound qd .rne false (fdecode fp32 (f32mul (r.o.getD c 0) (f32rcp r.l))))).flatten

/-! ### The argument block (06 R189) -/

/-- MODE: arrival order where MERGE_MODE selects it and DET_STRICT is 0 (06 R197). -/
def State.mergeMode (s : State) : Nat := if s.strict then 0 else s.param 0x6800 3

/-- NLOCAL. -/
def kvLocals (h w g : Nat) : Nat := if kcSpill w then min (2 ^ kcLog2n w) (g - kcFirst w) else min g (kvPages h)

def State.attArgs (s : State) (o : List Byte) (number ra : Nat) (spills : List (List Byte)) : List Byte :=
  let d := s.descOf (hdDesc (hHandle o))
  let h := s.kvHdr d
  let w := s.kvCtx d (hArg o 40 4)
  let g := kvG o
  let slot (i : Nat) : List Byte :=
    match spills[i]? with
    | some r => beBytes 2 (srFirst r) ++ beBytes 1 (srLog2n r) ++ beBytes 1 1 ++ beBytes 4 0
    | none => beBytes 8 0
  fitBytes 256
    (beBytes 8 number ++ beBytes 4 (hHandle o) ++ beBytes 4 (hArg o 40 4) ++ beBytes 2 (hArg o 38 2) ++
      beBytes 2 (hArg o 44 2) ++ beBytes 2 (kvDim h) ++ beBytes 1 (hArg o 37 1) ++ beBytes 1 (hArg o 36 1) ++
      beBytes 1 (kvDtype h) ++ beBytes 1 s.mergeMode ++ beBytes 1 (if kcSpill w then 2 else 1) ++
      beBytes 1 spills.length ++ beBytes 4 (hArg o 48 4) ++ beBytes 4 (hArg o 52 4) ++ beBytes 2 g ++
      beBytes 2 (kcFirst w) ++ beBytes 2 (kvLocals h w g) ++ beBytes 2 ra ++ beBytes 4 0 ++
      beBytes 8 (kvPtOfs h (hArg o 40 4) (hArg o 38 2) (hArg o 44 2) 0) ++ beBytes 8 (kvBase h) ++
      beBytes 4 (kvPageBytes h) ++ beBytes 4 0 ++ slot 0 ++ slot 1 ++ slot 2 ++ slot 3)

end Sys2Proof.Machine
end

