-- ==== Sys2Proof/Machine/Attention.lean ====
section
/-! DEFINITION. The commands of the attention service (06 R184 to R202). -/

namespace Sys2Proof.Machine

/-! ### Appends (06 R184) -/

/-- The page-table entry of the page of an append, and whether it has no slot yet. -/
def State.appendEntry (s : State) (o : OpRec) (d : Desc) (p : Nat) : Nat × Bool :=
  let e := s.rawNat d (kvPtOfs (s.kvHdr d) (hArg o.hdr 40 4) (hArg o.hdr 38 2) (hArg o.hdr 44 2) p) 8
  (e, !kpValid e)

/-- The slot of the page of an append: its own, or the lowest-numbered free one (06 R184 step 1). -/
def State.appendSlot (s : State) (o : OpRec) (d : Desc) (p : Nat) : Nat :=
  let e := s.appendEntry o d p
  if e.2 then s.kvFreeSlot d else kpSlot e.1

/-- Region offset of the first key byte of an append. -/
def State.appendAt (s : State) (o : OpRec) (d : Desc) (p : Nat) : Nat :=
  let h := s.kvHdr d
  kvSlotOfs h (s.appendSlot o d p) + hArg o.hdr 48 4 % 4096 * kvRow h

/-- Steps 1 to 3 of an append into local page p. Tokens whose bitmap granule fails are not marked (12 R365). -/
def State.appendPage (s : State) (o : OpRec) (d : Desc) (p : Nat) : State :=
  let h := s.kvHdr d
  let eo := kvPtOfs h (hArg o.hdr 40 4) (hArg o.hdr 38 2) (hArg o.hdr 44 2) p
  let slot := s.appendSlot o d p
  let at_ := s.appendAt o d p
  let s := if (s.appendEntry o d p).2 then
      (s.setKvHdr d (putBits h 375 344 (kvFree h - 1))).rawWrite d eo (beBytes 8 (2 ^ 63 + slot))
    else s
  let row := kvRow h
  let t0 := hArg o.hdr 48 4 % 4096
  let n := hArg o.hdr 52 4
  let b := s.opPayload o
  let bm := kvBm h + 512 * slot
  let s := s.rwrite (hHandle o.hdr) at_ (b.take (n * row)) false
  let s := s.rwrite (hHandle o.hdr) (at_ + 4096 * row) (b.drop (n * row)) false
  let s := (List.range n).foldl (fun s i =>
    if (s.poisonIn (d.bpa0 + bm + (t0 + i) / 8) 1).isSome then s else s.setMapBit d bm (t0 + i) true) s
  if (s.poisonIn (d.bpa0 + bm) 512).isSome then s
  else s.rawWrite d eo (beBytes 8 (2 ^ 63 + s.kvFill d slot * 2 ^ 50 + slot))

/-- Granules that an append moves: the header and the context's entry read, the tokens written in K and V, and the bitmap, the
page-table entry and, for a new page, the header written (10 R312). -/
def State.appendGranules (s : State) (o : OpRec) (d : Desc) (p : Nat) : Nat :=
  let at_ := s.appendAt o d p
  let row := kvRow (s.kvHdr d)
  let n := hArg o.hdr 52 4
  let t0 := hArg o.hdr 48 4 % 4096
  2 + writtenIn at_ (n * row) + writtenIn (at_ + 4096 * row) (n * row) +
    writtenIn (t0 / 8) (if n = 0 then 0 else (t0 + n - 1) / 8 - t0 / 8 + 1) + 2 + b2n (s.appendEntry o d p).2

/-- KV_APPEND (06 R184): it waits for overlapping operations admitted before it (06 R185); a failing granule of the
directory or of the slot's bitmap ends it (12 R365). -/
def execKvAppend (req seq : Nat) (s : State) : Host.Outcome State Fault Refusal :=
  s.runLive (decide (req < 2 ^ 20) && decide (seq < 2 ^ 32))
    (match s.ready req seq opKvAppend with
     | none => s.wakeFor req seq opKvAppend
     | some o =>
       let d := s.descOf (hdDesc (hHandle o.hdr))
       let p := kvPage o.hdr - kcFirst (s.kvCtx d (hArg o.hdr 40 4))
       if s.kvWaits o then s
       else match s.dirFail o d p 1 with
         | some code => s.finish o.key { code := code, aux := 2 ^ 32 - 1 }
         | none =>
           let bm := d.bpa0 + kvBm (s.kvHdr d) + 512 * s.appendSlot o d p
           let at_ := s.appendAt o d p
           let t := s.appendPage o d p
           let t := (t.kvTouches d o.hdr).foldl
             (fun t q => t.dirtyFrom (hdDesc (hHandle o.hdr)) d t.frm.order q.1 q.2) t
           let t := t.chargeOp o.key (s.appendGranules o d p)
           match s.poisonIn bm 512 with
           | some g => t.finish o.key { code := s.failAt o g, aux := 2 ^ 32 - 1, first := some at_ }
           | none => t.finish o.key { code := cDone, aux := hArg o.hdr 52 4, first := some at_ })

/-! ### Forwards (06 R200) -/

/-- The frame that forwards a query to a spill block. -/
def spillFrame (o : OpRec) (payload r : List Byte) (i : Nat) : OrigFrame :=
  { ep := srSpillEp r, seq := 0, part := o.part, cls := o.cls, eq := some o.eq, op := opAttnQuery,
    body := mkBody (hLen o.hdr) (srSpillHandle r) 0 0 (splice (sliceBytes o.hdr 36 24) 4 (beBytes 4 (srSpillCtx r))),
    payload := payload, purpose := .spill o.key i }

/-- The dispatcher ends a query early: its set stops (06 R200). -/
def State.endQuery (s : State) (k code aux : Nat) : State :=
  match mapFind s.att.queries k with
  | none => s
  | some q =>
    let x := s.attSet q.set
    let s := if x.running = some k then
        ((s.attRun q.set).foldl State.stopTile s).setAttSet q.set { x with running := none, state := 2 }
      else s
    s.finish k { code := code, aux := aux, tile := s.attFirst q.set }

/-- A query whose forward has failed (06 R200). -/
def State.spillFails (s : State) (k ep : Nat) : State :=
  ((s.note srcHub 200 ep).bump tallyBlock tbSpillFailed 1).endQuery k cState 0

def State.setQuery (s : State) (k : Nat) (q : Query) : State :=
  s.modAtt fun a => { a with queries := mapPut a.queries k q }

/-- Sends one forward; a frame that cannot be sent fails the query. -/
def State.forward (s : State) (o : OpRec) (r : List Byte) (i : Nat) : State :=
  match s.originate (spillFrame o (s.opPayload o) r i) with
  | some t => t.bump tallyBlock tbSpillSent 1
  | none => (s.noPeer (srSpillEp r)).spillFails o.key (srSpillEp r)

/-- Sends the forwards of a query that is not yet forwarded. -/
def State.forwardAll (s : State) (o : OpRec) : State :=
  match mapFind s.att.queries o.key with
  | none => s
  | some q =>
    if q.forwarded then s
    else
      let d := s.descOf (hdDesc (hHandle o.hdr))
      let rs := if kcSpill (s.kvCtx d (hArg o.hdr 40 4)) then [] else s.spillsFor o.hdr
      let s := s.setQuery o.key
        { q with forwarded := true, spills := rs.map fun r => { srec := r } }
      (rs.zipIdx).foldl (fun s p => s.forward o p.1 p.2) s

/-- Every local page that a query covers is allocated and filled (06 R187). -/
def State.pagesThere (s : State) (o : OpRec) : Bool :=
  let d := s.descOf (hdDesc (hHandle o.hdr))
  let w := s.kvCtx d (hArg o.hdr 40 4)
  (List.range (kvLocals (s.kvHdr d) w (kvG o.hdr))).all fun p =>
    let e := s.kvEntry d o.hdr p
    kpValid e && decide (validTokens o.hdr (kcFirst w + p) ≤ kpFill e)

/-- ATTN_QUERY (06 R187, R200): its forwards go at once, and once every overlapping operation admitted before it has
completed its pages are checked. -/
def execAttnQuery (req seq : Nat) (s : State) : Host.Outcome State Fault Refusal :=
  s.runLive (decide (req < 2 ^ 20) && decide (seq < 2 ^ 32))
    (match s.ready req seq opAttnQuery with
     | none => s.wakeFor req seq opAttnQuery
     | some o =>
       let s := s.forwardAll o
       match s.op o.key with
       | none => s
       | some o =>
         let d := s.descOf (hdDesc (hHandle o.hdr))
         let w := s.kvCtx d (hArg o.hdr 40 4)
         if s.kvWaits o then s
         else match s.dirFail o d 0 (kvLocals (s.kvHdr d) w (kvG o.hdr)) with
           | some code => s.endQuery o.key code (2 ^ 32 - 1)
           | none => if s.pagesThere o then s.begin o else s.endQuery o.key cState 0)

/-! ### Starting a query (06 R189, R202) -/

/-- The address of inbox slot i (06 R189). -/
def inboxAt (i : Nat) : Nat := 0x1CB00 + i * 0x4100

/-- Writes a returned record to its inbox slot and signals counter 47 (06 R200). -/
def State.toInbox (s : State) (t part i : Nat) (b : List Byte) : State :=
  (s.modTile t fun x => { x with r := x.r.setDm (inboxAt i) b }).hubSig (64 * t + 47) 1 part

/-- The pieces that count at the start of a query: the leading valid ones, cut before a piece that crosses a step
boundary under DET_STRICT (06 R202). -/
def State.raPieces (s : State) (part : Nat) (q : Query) : Nat :=
  let edge := mapGet 0 s.sch.edges part
  (q.pieces.takeWhile fun p => decide (p.2 = 1) && !(s.strict && decide (p.1 < edge ∧ edge ≤ s.clk.ftc))).length

/-- Writes the query area, the argument block and the records that have come, and starts every tile of the set on this edge;
the entry bundles issue (04 R150). -/
def State.startQuery (s : State) (i : Nat) (o : OpRec) (q : Query) : State :=
  let ra := s.raPieces o.part q
  let tiles := s.attRun i
  let n := hArg o.hdr 46 2 * castWidth (hArg o.hdr 36 1)
  let area := fitBytes (16 * n) (s.opPayload o)
  let s := tiles.foldl (fun s t => s.modTile t fun x => { x with r := x.r.setDm 0x2DF00 area }) s
  let s := s.setQuery o.key { q with mode := s.mergeMode }
  let s := s.beginRun tiles (s.attArgs o.hdr q.number ra (q.spills.map (·.srec))) o.part o.cls 0
  let s := (s.bump tallyBlock tbRunUsed ra).bump tallyBlock tbRunDropped (q.pieces.length - ra)
  let s := (q.spills.zipIdx).foldl (fun s p =>
    match p.1.data with
    | some b => s.toInbox (s.attFirst i) o.part p.2 b
    | none => s) s
  s.issueEntry tiles

/-- QUERY_START (06 R188, R189), for a query that was queued on an earlier edge (08 R255). -/
def execQueryStart (set : Nat) (s : State) : Host.Outcome State Fault Refusal :=
  s.runLive (decide (set < 64))
    (let x := s.attSet set
     match x.state, x.queue with
     | 2, k :: r =>
       match s.op k, mapFind s.att.queries k with
       | some o, some q =>
         if o.phase ≠ 1 ∨ s.clk.now / 8 ≤ o.adm / 8 then s
         else
           let w := s.wakeRun (s.attRun set)
           if w.2 && (s.attRun set).all (fun t => [2, 4].contains (s.tile t).c.state) then
             (w.1.setAttSet set { x with state := 3, queue := r, running := some k }).startQuery set o q
           else w.1
       | _, _ => s.setAttSet set { x with queue := r }
     | _, _ => s)

/-! ### Completing a query (06 R190, R194 to R197, R201) -/

/-- A set takes its next query. -/
def State.attFree (s : State) (i : Nat) : State := s.setAttSet i { s.attSet i with running := none, state := 2 }

/-- A query that its set's program failed: the set stops (06 R190, R200). -/
def State.attFault (s : State) (i : Nat) (o : OpRec) : State :=
  let t := ((s.attRun i).foldl State.stopTile s).setAttSet i { s.attSet i with running := none, state := 4 }
  t.finish o.key { code := cState, tile := s.attFirst i }

/-- The lowest-indexed failing granule of the local pages of a query: its code and its index in the query (06 R201). -/
def State.queryFail (s : State) (o : OpRec) : Option (Nat × Nat) :=
  let d := s.descOf (hdDesc (hHandle o.hdr))
  let h := s.kvHdr d
  let w := s.kvCtx d (hArg o.hdr 40 4)
  (List.range (kvLocals h w (kvG o.hdr))).findSome? fun p =>
    let g := kcFirst w + p
    let base := kvSlotOfs h (kpSlot (s.kvEntry d o.hdr p))
    let n := validTokens o.hdr g * kvRow h
    let at_ (ofs : Nat) : Option (Nat × Nat) :=
      (s.readFail o (d.bpa0 + base + ofs) n).map fun r => (r.1, g * (kvPageBytes h / 64) + ofs / 64 + r.2)
    match at_ 0 with
    | some r => some r
    | none => at_ (4096 * kvRow h)

/-- Repairs what a mirrored KV region can of the pages of a query (07 R241). -/
def State.queryHeal (s : State) (o : OpRec) : State :=
  let d := s.descOf (hdDesc (hHandle o.hdr))
  let h := s.kvHdr d
  let w := s.kvCtx d (hArg o.hdr 40 4)
  (List.range (kvLocals h w (kvG o.hdr))).foldl (fun s p =>
    s.rheal d (kvSlotOfs h (kpSlot (s.kvEntry d o.hdr p))) (kvPageBytes h)) s

/-- The heads that a shipped image computes (06 R194 to R197), and the node's level and index. In arrival order it folds the
records of single pages and of spill blocks, and no larger nodes (DESIGN CHOICE, log 28: R197 leaves the nodes open). -/
def State.queryHeads (s : State) (o : OpRec) (q : Query) : List HeadRec :=
  let d := s.descOf (hdDesc (hHandle o.hdr))
  let h := s.kvHdr d
  let w := s.kvCtx d (hArg o.hdr 40 4)
  let g := kvG o.hdr
  let first := kcFirst w
  let n := kvLocals h w g
  let returned (L j : Nat) : Option (List HeadRec) :=
    q.spills.findSome? fun x =>
      if srLog2n x.srec = L ∧ srFirst x.srec / 2 ^ L = j then
        x.data.map fun b => recHeads b (hArg o.hdr 37 1) (kvDim h)
      else none
  let leaf (L j : Nat) : Option (List HeadRec) :=
    if L = 0 ∧ first ≤ j ∧ j < first + n then some (s.pageRec d o (j - first) j) else returned L j
  if kcSpill w then treeNode leaf g (kcLog2n w) (first / 2 ^ kcLog2n w)
  else if q.mode = 0 then treeNode leaf g (treeTop g) 0
  else
    mixMerge (s.free * 4096)
      ((List.range n).map (fun p => (p, s.pageRec d o p p)) ++
        q.spills.filterMap fun x => x.data.map fun b => (srFirst x.srec, recHeads b (hArg o.hdr 37 1) (kvDim h)))

/-- The payload of a query's answer. -/
def State.queryAnswer (s : State) (o : OpRec) (hs : List HeadRec) : List Byte :=
  let d := s.descOf (hdDesc (hHandle o.hdr))
  let h := s.kvHdr d
  let w := s.kvCtx d (hArg o.hdr 40 4)
  if kcSpill w then
    recBytes (kcLog2n w) (kcFirst w / 2 ^ kcLog2n w) (kvDim h) (kvLocals h w (kvG o.hdr)) (s.free * 8192) hs
  else (hs.map (headOut (hArg o.hdr 36 1) (kvDim h))).flatten

/-- The head dimension of a shipped attention image (15 R445). -/
def libDim (lib : Nat) : Nat :=
  match lib with
  | 1 => 64
  | 2 => 128
  | 3 => 256
  | _ => 0

/-- Every tile of a set has halted: the completion record decides (06 R190). A RES_ADDR that is no multiple of 64, and a result
that reaches past data memory, fail the set as a bad RES_LEN does (DESIGN CHOICE, log 103). -/
def State.queryCustom (s : State) (i : Nat) (o : OpRec) : State :=
  let t := s.attFirst i
  let b := s.completion t
  let d := s.descOf (hdDesc (hHandle o.hdr))
  let w := s.kvCtx d (hArg o.hdr 40 4)
  let nq := hArg o.hdr 37 1
  let want := if kcSpill w then recSize nq (hArg o.hdr 46 2) else nq * hArg o.hdr 46 2 * castWidth (hArg o.hdr 36 1)
  let addr := natAt b 8 4
  match natAt b 0 1 with
  | 0x00 =>
    if natAt b 12 4 = want ∧ addr % 64 = 0 ∧ addr + want ≤ dmSize then
      ((s.attFree i).bump tallyBlock tbPages (kvLocals (s.kvHdr d) w (kvG o.hdr))).finish o.key
        { code := cDone, aux := natAt b 4 4, payload := (s.tile t).r.getDm addr want, prog := (s.tile t).c.digest,
          tile := t }
    else s.attFault i o
  | 0x20 => (s.attFree i).finish o.key { code := cUncorrectable, aux := natAt b 4 4, tile := t }
  | 0x21 => (s.attFree i).finish o.key { code := cPoison, aux := natAt b 4 4, tile := t }
  | _ => s.attFault i o

/-- The completion record (06 R190). -/
def completionRecord (status aux addr len : Nat) : List Byte :=
  beBytes 1 status ++ beBytes 3 0 ++ beBytes 4 aux ++ beBytes 4 addr ++ beBytes 4 len ++ beBytes 16 0

/-- The program leaves its completion record on a tile (06 R190). -/
def State.putCompletion (s : State) (t status aux addr len : Nat) : State :=
  s.modTile t fun x => { x with r := x.r.setDm 0x2FFE0 (completionRecord status aux addr len) }

/-- The multiple of 64 at which a shipped image puts a result of n bytes: nothing fixes where among its own bytes (DESIGN
CHOICE, log 90). -/
def State.resultAt (s : State) (n : Nat) : Nat := 64 * ((Config.freeValue 15 s.free).toNat % ((0x1CB00 - n) / 64 + 1))

/-- Granules that a query takes to read: the header and its context's entry, its page-table entries, and its pages (10
R312). -/
def State.queryGranules (s : State) (o : OpRec) : Nat :=
  let d := s.descOf (hdDesc (hHandle o.hdr))
  let h := s.kvHdr d
  let w := s.kvCtx d (hArg o.hdr 40 4)
  let n := kvLocals h w (kvG o.hdr)
  2 + granulesIn (kvPtOfs h (hArg o.hdr 40 4) (hArg o.hdr 38 2) (hArg o.hdr 44 2) 0) (8 * n) +
    ((List.range n).map fun p => 2 * ceilDiv (validTokens o.hdr (kcFirst w + p) * kvRow h) 64).sum

/-- A shipped image has run: it leaves its record, and its result where it has one, and the dispatcher reads them (06 R190,
R194 to R197, R201). -/
def State.queryShipped (s : State) (i : Nat) (o : OpRec) (q : Query) : State :=
  let t := s.attFirst i
  let d := s.descOf (hdDesc (hHandle o.hdr))
  let s := ((s.queryHeal o).haltRun (s.attRun i)).chargeOp o.key (s.queryGranules o)
  let s := s.modTile t fun x => { x with r := x.r.setCtr 47 (x.r.getCtr 47 + 2 ^ 32 - q.spills.length) }
  if libDim (s.tile t).c.lib ≠ kvDim (s.kvHdr d) then s.attFault i o
  else match s.queryFail o with
    | some r =>
      let c := (Config.freeValue 15 s.free).toNat
      ((s.putCompletion t (if r.1 = cUncorrectable then 0x20 else 0x21) r.2 c (c / 2 ^ 32)).spend).queryCustom i o
    | none =>
      let hs := s.queryHeads o q
      let pl := s.queryAnswer o hs
      let a := s.resultAt pl.length
      let s := (s.bump tallyBlock tbBadHead (hs.filter (·.bad)).length).bump tallyBlock tbEmptyHead
        (hs.filter (·.empty)).length
      let s := s.modTile t fun x => { x with r := x.r.setDm a pl }
      ((s.putCompletion t 0 (kvG o.hdr) a pl.length).spend).queryCustom i o

/-- QUERY_COMPLETE (06 R190). -/
def execQueryComplete (set : Nat) (s : State) : Host.Outcome State Fault Refusal :=
  s.runLive (decide (set < 64))
    (match (s.attSet set).running with
     | none => s
     | some k =>
       let tiles := s.attRun set
       let lib := s.runsLib tiles
       match s.op k, mapFind s.att.queries k with
       | some o, some q =>
         if tiles.any fun t => decide ((s.tile t).c.state = 5) then s.attFault set o
         else if lib then (if q.spills.all fun x => x.data.isSome then s.queryShipped set o q else s)
         else if tiles.any fun t => decide ((s.tile t).c.state = 3) then s
         else s.queryCustom set o
       | _, _ => (if lib then s.haltRun tiles else tiles.foldl State.stopTile s).attFree set)

/-! ### Answers of spill blocks (06 R200) -/

/-- A returned record fits its spill record and its query. -/
def recFits (o : List Byte) (r b : List Byte) : Bool :=
  decide (b.length = recSize (hArg o 37 1) (hArg o 46 2) ∧ natAt b 16 8 = fprint ∧ natAt b 0 1 = srLog2n r ∧
    natAt b 2 2 = srFirst r / 2 ^ srLog2n r ∧ natAt b 1 1 = hArg o 37 1 ∧ natAt b 4 2 = hArg o 46 2)

/-- A record has come: it is kept, and written to the inbox where the query runs. -/
def State.spillCame (s : State) (k i : Nat) (q : Query) (b : List Byte) : State :=
  match s.op k, q.spills[i]? with
  | some o, some x =>
    if recFits o.hdr x.srec b then
      let s := (s.setQuery k { q with spills := q.spills.set i { x with data := some b } }).bump tallyBlock tbSpillDone 1
      if (s.attSet q.set).running = some k then s.toInbox (s.attFirst q.set) o.part i b else s
    else s.spillFails k (srSpillEp x.srec)
  | _, _ => s

/-- Reissues a forward under a new number. -/
def State.reissue (s : State) (k i : Nat) (q : Query) : State :=
  match s.op k, q.spills[i]? with
  | some o, some x => (s.forward o x.srec i).bump tallyBlock tbSpillResent 1
  | _, _ => s

/-- The code and AUX of the lowest-indexed failing granule over the home pages and a spill block's answer (06 R201). A query
ends on the first failing answer; another spill block's is not waited for (DEDUCED, log 89). -/
def State.lowestFail (s : State) (k code aux : Nat) : Nat × Nat :=
  match s.op k with
  | none => (code, aux)
  | some o =>
    if s.pagesThere o = false then (code, aux)
    else match s.queryFail o with
      | some r => if r.2 ≤ aux then r else (code, aux)
      | none => (code, aux)

/-- SPILL_ANSWER (06 R200). -/
def execSpillAnswer (ep seq code orig aux : Nat) (notHeld : Bool) (payload : List Byte) (s : State) :
    Host.Outcome State Fault Refusal :=
  s.runLive (decide (ep < 2 ^ 20 ∧ seq < 2 ^ 32 ∧ code < 256 ∧ orig < 256 ∧ aux < 2 ^ 32 ∧ payload.length < 2 ^ 24))
    (match s.awaited ep seq with
     | none => s.lateAnswer ep seq code
     | some f =>
       match f.purpose with
       | .spill k i =>
         match mapFind s.att.queries k with
         | none => if code = cDupInProgress then s else s.endOrig ep seq
         | some q =>
           if code = cDupInProgress then s
           else if code = cDone ∨ code = cDoneLate ∨
               (code = cDupAnswered ∧ notHeld = false ∧ (orig = cDone ∨ orig = cDoneLate)) then
             (s.endOrig ep seq).spillCame k i q payload
           else if code = cDupAnswered ∧ notHeld = true then (s.endOrig ep seq).reissue k i q
           else if (code = cRed ∨ code = cCapacity ∨ code = cEpoch ∨ code = cIncomplete) ∧ f.att < 15 then
             (s.resendOrig ep seq).bump tallyBlock tbSpillResent 1
           else if code = cUncorrectable ∨ code = cPoison then
             let f := s.lowestFail k code aux
             ((s.endOrig ep seq).bump tallyBlock tbSpillFailed 1).endQuery k f.1 f.2
           else (s.endOrig ep seq).spillFails k ep
       | _ => s)

/-- SPILL_WAIT_EXPIRY (06 R200), counted from the first send: a forward that its destination's window still holds has none. -/
def execSpillWaitExpiry (req seq n : Nat) (s : State) : Host.Outcome State Fault Refusal :=
  s.runLive (decide (req < 2 ^ 20) && decide (seq < 2 ^ 32) && decide (n < 4))
    (match mapFind s.att.queries (opKey req seq) with
     | none => s
     | some q =>
       match q.spills[n]? with
       | none => s
       | some x =>
         if x.data.isNone ∧ (x.sent.any fun t => s.since t (usR (s.param 0x6800 5))) = true then
           (s.bump tallyBlock tbSpillFailed 1).endQuery (opKey req seq) cCapacity 0
         else s)

/-! ### Run-ahead (06 R202) -/

/-- The tokens of its page that piece j of a page holds: the first and how many. -/
def pieceTokens (h j : Nat) : Nat × Nat :=
  let half := 4096 * kvRow h / 65536
  (j % half * (65536 / kvRow h), 65536 / kvRow h)

/-- Reads piece i of a query into the tile with SETPOS i + 1. -/
def State.fetchPiece (s : State) (set i : Nat) (o : OpRec) : State :=
  match mapFind s.att.queries o.key with
  | none => s
  | some q =>
    let d := s.descOf (hdDesc (hHandle o.hdr))
    let h := s.kvHdr d
    let per := kvPageBytes h / 65536
    let p := i / per
    let e := s.kvEntry d o.hdr p
    if kvLocals h (s.kvCtx d (hArg o.hdr 40 4)) (kvG o.hdr) ≤ p ∨ kpValid e = false ∨ q.pieces.length ≠ i then s
    else
      let tk := pieceTokens h (i % per)
      let waits := s.frm.ops.any fun x =>
        decide (x.2.opcode = opKvAppend) && decide (x.2.ord < o.ord) && decide (kvStream x.2.hdr = kvStream o.hdr) &&
          overlaps (4096 * p + tk.1) tk.2 (kvTokens x.2.hdr).1 (kvTokens x.2.hdr).2
      let b := s.rread d (kvSlotOfs h (kpSlot e) + 65536 * (i % per)) 65536
      let s := s.modTile (s.attFirst set + i + 1) fun x => { x with r := x.r.setDm 0x1CB00 b }
      (s.setQuery o.key { q with pieces := q.pieces ++ [(s.clk.ftc, b2n !waits)] }).bump tallyBlock tbRunIssued 1

/-- RUNAHEAD_FETCH (06 R202): the first home pages of the query at the head of a busy set's queue. -/
def execRunaheadFetch (set pieces : Nat) (s : State) : Host.Outcome State Fault Refusal :=
  s.runLive (decide (set < 64) && decide (pieces < 256))
    (let x := s.attSet set
     match x.state, x.queue with
     | 3, k :: _ =>
       match s.op k with
       | none => s
       | some o =>
         if kcSpill (s.kvCtx (s.descOf (hdDesc (hHandle o.hdr))) (hArg o.hdr 40 4)) then s
         else (List.range (min pieces (min (s.param 0x6800 4) (s.attTiles set - 1)))).foldl
           (fun s i => s.fetchPiece set i o) s
     | _, _ => s)

/-! ### Releasing contexts (06 R186) -/

/-- A write of CTX_RELEASE; none where there is nothing to release. The record that made a context of this block a spill
context ends with it (DEDUCED, log 88); the records of a home context serve the queries that are admitted and end when the
last has completed. A handle of no KV region, a CTX that the region does not have, and a context that is free or already
releasing, are answered REFUSED_STATE (DESIGN CHOICE, log 103: R186 gives no answer). -/
def State.ctxRelease (s : State) (handle ctx : Nat) : Option State :=
  match s.activeDesc handle with
  | none => none
  | some d =>
    let w := s.kvCtx d ctx
    if d.kind ≠ kKv ∨ kvContexts (s.kvHdr d) ≤ ctx ∨ kcRole w = 0 ∨ kcRole w = 3 then none
    else
      some ((s.setKvCtx d ctx (putBits w 127 126 3)).dropSpills fun r =>
        decide (srSpillEp r = s.blockEp ∧ srHomeEp r ≠ s.blockEp ∧ srSpillHandle r = handle ∧ srSpillCtx r = ctx))

/-- CONTEXT_FREED (06 R186): no admitted operation on a releasing context remains. A spill context stays releasing until a
spill record names it again, one that a launch edge has already loaded included. -/
def execContextFreed (handle ctx : Nat) (s : State) : Host.Outcome State Fault Refusal :=
  s.runLive (decide (handle < 2 ^ 24) && decide (ctx < 2 ^ 32))
    (match s.activeDesc handle with
     | none => s
     | some d =>
       let w := s.kvCtx d ctx
       if d.kind ≠ kKv ∨ kvContexts (s.kvHdr d) ≤ ctx ∨ kcRole w ≠ 3 ∨ s.ctxBusy (hdDesc handle) ctx = true ∨
           (mapFind s.att.cleaned (ctxKey handle ctx)).isSome then s
       else
         let s := s.cleanCtx d ctx
         if kcSpill w then
           match s.spillNaming handle ctx with
           | some r => s.bindSpill d r
           | none => s.modAtt fun a => { a with cleaned := mapPut a.cleaned (ctxKey handle ctx) 1 }
         else
           (s.setKvCtx d ctx (kcGen (s.kvCtx d ctx))).dropSpills fun r =>
             decide (srHomeEp r = s.blockEp ∧ srHomeHandle r = handle ∧ srHomeCtx r = ctx))

end Sys2Proof.Machine
end

