-- ==== Sys2Proof/Machine/Commit.lean ====
section
/-! DEFINITION. Two-phase commit, folds and discards, and restores (07 R215, R230 to R240). -/

namespace Sys2Proof.Machine

/-! ### Commit entries (09 R276) -/

def enKind (e : List Byte) : Nat := natAt e 0 1

/-- The COMMIT entry of a context's schedule. -/
def Ctx.commitEntry (c : Ctx) : Option (List Byte) := c.entries.find? fun e => enKind e = 4
def cmBarrier (e : List Byte) : Nat := natAt e 2 2
def cmC0 (e : List Byte) : Nat := natAt e 4 4
def cmHome (e : List Byte) : Nat := natAt e 8 4 % 2 ^ 20
def cmPart (e : List Byte) : Nat := natAt e 12 2

/-- The participants that the COMMIT_PEER entries list. -/
def Ctx.peers (c : Ctx) : List Nat :=
  ((c.entries.filter fun e => enKind e = 5).map fun e =>
    (List.range (natAt e 1 1)).map fun i => natAt e (8 + 8 * i) 4 % 2 ^ 20).flatten

/-- The OPT_STEP ranges that the COMMIT_UPDATE entries name: PARAM handle, first page, pages. -/
def Ctx.updates (c : Ctx) : List (Nat × Nat × Nat) :=
  ((c.entries.filter fun e => enKind e = 6).map fun e =>
    (List.range (natAt e 1 1)).map fun i =>
      (natAt e (16 + 16 * i) 3, natAt e (20 + 16 * i) 2, natAt e (22 + 16 * i) 2)).flatten

/-- The commit point C_k and its decision edge D_k, in fabric time (07 R230). -/
def State.commitPoint (s : State) (c : Ctx) (k : Nat) : Nat :=
  c.launch + (match c.commitEntry with | some e => cmC0 e | none => 0) + k * s.param 0x6900 2
def State.decisionEdge (s : State) (c : Ctx) (k : Nat) : Nat := s.commitPoint c k - s.param 0x6900 3

/-- This block is the commit home of a context's step. -/
def State.isHome (s : State) (c : Ctx) : Bool :=
  match c.commitEntry with
  | some e => decide (cmHome e = s.blockEp)
  | none => false

/-! ### Readiness (07 R231) -/

/-- The slots of a step whose destination is a primary LOG region have closed. -/
def State.slotsClosed (s : State) (part step : Nat) : Bool :=
  let mine (x : Slot) : Bool :=
    decide (x.part = part) && decide (x.step = step) && s.isPrimaryLog (s.descOf (hdDesc x.handle)) &&
      (match x.decl with | some d => !d.feeder | none => true)
  s.wsk.slots.all (fun p => !mine p.2 || decide (p.2.state = 3)) && s.wsk.resv.all fun p => !mine p.2

/-- Every claimed page of an entry is written and mirrored. -/
def State.entryMirrored (s : State) (desc step : Nat) : Bool :=
  let d := s.descOf desc
  let h := s.logHdr d
  let e := lgEntryOfs h step
  decide (s.entStep d e ≠ step) ||
    (List.range (lgPages h)).all fun p =>
      !s.claimed d e p ||
        (s.written d e p && (mapFind s.par.mirrored (entKey desc (lgEntryIx h step) * 16384 + p)).isSome)

/-- Every OPT_STEP that the commit entry names, or that has been admitted, has been answered DONE. -/
def State.updatesDone (s : State) (c : Ctx) : Bool :=
  let mine := s.par.claims.filter fun x => decide (x.part = c.part) && decide (x.step = c.step)
  mine.all (·.done) && c.updates.all fun u =>
    mine.any fun x => decide (x.desc = hdDesc u.1 ∧ x.first = u.2.1 ∧ x.npg = u.2.2)

/-- A participant is ready for a step. -/
def State.isReady (s : State) (c : Ctx) : Bool :=
  s.slotsClosed c.part c.step && (s.primaryLogs c.part).all (fun d => s.entryMirrored d c.step) && s.updatesDone c &&
    !c.marked && !c.aborted

/-! ### Votes (07 R221, R232) -/

/-- The log entries that hold a step, by DESC. -/
def State.stepLogs (s : State) (part step : Nat) : List Nat :=
  (s.primaryLogs part).filter fun desc =>
    let d := s.descOf desc
    let e := lgEntryOfs (s.logHdr d) step
    decide (s.entStep d e = step) && (s.entState d e = 1 || s.entState d e = 2)

/-- The sealed header of every entry of the step is mirrored. -/
def State.headersMirrored (s : State) (c : Ctx) : Bool :=
  (s.stepLogs c.part c.step).all fun desc =>
    decide (mapFind s.par.sealed (entKey desc (lgEntryIx (s.logHdr (s.descOf desc)) c.step)) = some (c.step + 1))

/-- Seals the entries that are still filling, and copies their headers to the buddy. -/
def State.sealEntries (s : State) (c : Ctx) : State :=
  (s.stepLogs c.part c.step).foldl (fun s desc =>
    let d := s.descOf desc
    let h := s.logHdr d
    let e := lgEntryOfs h c.step
    if s.entState d e = 1 then
      (s.rawWrite d (e + 8) [2]).mirrorHeader desc (lgEntryIx h c.step) c.part c.step
    else s) s

/-- A participant is in doubt: an event is raised and its regions stay OPEN (07 R236). -/
def State.inDoubt (s : State) (i : Nat) : State :=
  (s.modCtx i fun c => { c with inDoubt := true }).raise srcHub 0x0204 (beBytes 8 (s.ctx i).step)

/-- Sends the vote of a ready participant whose headers are mirrored; the home counts its own without a frame. -/
def State.castVote (s : State) (i : Nat) : State :=
  let c := s.ctx i
  match c.commitEntry with
  | none => s
  | some e =>
    if c.voted || !s.isReady c || !s.headersMirrored c then s
    else
      let s := (s.modCtx i fun c => { c with voted := true }).bump tallyBlock tbVote 1
      if s.isHome c then s.modCtx i fun c => { c with own := true }
      else
        let o : OrigFrame :=
          { ep := cmHome e, seq := 0, part := c.part, cls := s.sysClass, op := opBarrier,
            body := mkBody 0 0 0 0
              (beBytes 2 (cmBarrier e) ++ beBytes 2 0 ++ beBytes 4 c.step ++ beBytes 8 c.step ++ beBytes 4 (cmPart e)),
            payload := [], purpose := .vote c.part c.step }
        match s.originate o with
        | some t => t
        | none => (s.noPeer (cmHome e)).inDoubt i

/-- VOTE (07 R221, R232): the entries are sealed, and the vote leaves once their headers are mirrored. -/
def execVote (part step : Nat) (s : State) : Host.Outcome State Fault Refusal :=
  s.runDuty 3 (decide (part < 64) && decide (step < 2 ^ 64))
    (match s.ctxOf part step with
     | none => s
     | some i =>
       let c := s.ctx i
       if c.voted || c.commitEntry.isNone || !s.isReady c then s else (s.sealEntries c).castVote i)

/-- A mirror write has failed (07 R219). -/
def State.mirrorGone (s : State) (id : Nat) : State :=
  match mapFind s.par.mirrors id with
  | none => s
  | some m => if m.failed then s else s.mirrorFails id m

/-- MIRROR_ANSWER (07 R219, R221): the last answer of a copy counts its pages as mirrored; that of a sealed header lets a
waiting vote leave. -/
def execMirrorAnswer (ep seq code orig : Nat) (s : State) : Host.Outcome State Fault Refusal :=
  s.runLive (decide (ep < 2 ^ 20) && decide (seq < 2 ^ 32) && decide (code < 256) && decide (orig < 256))
    (match s.awaited ep seq with
     | none => s.lateAnswer ep seq code
     | some o =>
       match o.purpose with
       | .mirror id =>
         match verdict code orig o.att true with
         | .waiting => s
         | .resend => (s.resendOrig ep seq).bump tallyBlock tbMirrorResent 1
         | .done =>
           let s := s.endOrig ep seq
           match mapFind s.par.mirrors id with
           | none => s
           | some m =>
             if 1 < m.left ∨ m.failed = true then
               s.modPar fun p => { p with mirrors := mapPut p.mirrors id { m with left := m.left - 1 } }
             else
               let s := (s.modPar fun p => { p with mirrors := mapDel p.mirrors id }).setMirrored m.desc m.entry m.step m.pages
               match m.pages, s.ctxOf m.part m.step with
               | none, some i => s.castVote i
               | _, _ => s
         | .failed => (s.endOrig ep seq).mirrorGone id
       | _ => s)

/-! ### Commit and abort (07 R215, R234) -/

/-- The PARAM regions of a partition that are OPEN for a step, by DESC. -/
def State.openRegions (s : State) (part step : Nat) : List Nat :=
  (s.rgn.desc.filter fun p =>
    (p.2.state = 1 || p.2.state = 2) && decide (p.2.owner = part) && decide (p.2.kind = kParam) &&
      (let h := s.prmHdr p.2
       decide (prmState h = 1) && decide (prmPend h = step))).map Prod.fst

def State.dropClaims (s : State) (part step : Nat) : State :=
  s.modPar fun p => { p with claims := p.claims.filter fun c => !(decide (c.part = part) && decide (c.step = step)) }

/-- LAST_DECISION (07 R236, R242). -/
def State.decided (s : State) (step action k : Nat) : State :=
  s.modPar fun p => { p with lastStep := step, lastAction := action, lastK := k }

/-- A region that is OPEN for a step commits it: it is FOLDING, COMMITTED_STEP is the step, and CSTALE is 0 (07 R215). -/
def State.commitRegion (s : State) (desc step : Nat) : State :=
  let d := s.descOf desc
  (s.setPrmHdr d (putBits (putBits (putBits (s.prmHdr d) 385 384 2) 319 256 step) 249 249 0)).modPar fun p =>
    { p with casts := mapDel p.casts desc }

/-- A region that is OPEN for a step discards it: CSTALE is 1 where a cast write was made (07 R215). -/
def State.discardRegion (s : State) (desc : Nat) : State :=
  let d := s.descOf desc
  let h := putBits (s.prmHdr d) 385 384 3
  let h := if (mapFind s.par.casts desc).isSome then putBits h 249 249 1 else h
  (s.setPrmHdr d h).modPar fun p => { p with casts := mapDel p.casts desc }

/-- The commit edge of a participant: its OPEN regions of the step fold, and the step is committed (07 R234). -/
def State.commitStep (s : State) (i k : Nat) : State :=
  let c := s.ctx i
  let s := (s.openRegions c.part c.step).foldl (fun s desc => s.commitRegion desc c.step) s
  let s := (s.modCtx i fun c => { c with committed := true, inDoubt := false }).dropClaims c.part c.step
  let s := s.modPar fun p => { p with committed := mapPut p.committed (c.part * 2 ^ 64 + c.step) 1 }
  let s := if 0 < k then s.bump tallyBlock tbPointLater 1 else s
  s.decided c.step 1 k

/-- A release fixes the commit point; one that arrives after it is acted on at once and logged as COMMIT_LATE (07 R234). -/
def State.releaseAt (s : State) (i k : Nat) : State :=
  let s := s.modCtx i fun c => { c with point := some k, inDoubt := false }
  if s.commitPoint (s.ctx i) k < s.clk.ftc then
    ((s.commitStep i k).bump tallyBlock tbLateCommit 1).raise srcHub 0x0203 (beBytes 8 (s.ctx i).step ++ beBytes 1 k)
  else s

/-- Frees the slots of a partition with a step (07 R234; 03 R84). -/
def State.freeSlots (s : State) (part step : Nat) : State :=
  let gone := s.wsk.slots.filter fun p => decide (p.2.part = part) && decide (p.2.step = step)
  gone.foldl (fun s p =>
    (s.dropStorage p.2).modWsk fun w => { w with slots := mapDel w.slots p.1 }) s

/-- An entry of a step becomes void, here and at the buddy. -/
def State.voidEntries (s : State) (part step : Nat) : State :=
  (s.stepLogs part step).foldl (fun s desc =>
    let d := s.descOf desc
    let h := s.logHdr d
    let ix := lgEntryIx h step
    let s := s.rawWrite d (lgEntryOfs h step + 8) [3]
    let s := s.modPar fun p =>
      { p with
        mirrored := mapClear p.mirrored (entKey desc ix * 16384) 16384, sealed := mapDel p.sealed (entKey desc ix) }
    s.mirrorHeader desc ix part step) s

/-- A participant aborts a step: its regions discard, its log entries become void, its slots are freed, its frames are
answered RETRY_REPLAY (07 R234). -/
def State.abortStep (s : State) (i : Nat) : State :=
  let c := s.ctx i
  let s := (s.openRegions c.part c.step).foldl State.discardRegion s
  let s := s.modPar fun p => { p with aborted := mapPut p.aborted (c.part * 2 ^ 64 + c.step) 1 }
  let s := (s.modCtx i fun c => { c with aborted := true, inDoubt := false }).replayFrames c.part c.step
  let s := ((s.voidEntries c.part c.step).freeSlots c.part c.step).dropClaims c.part c.step
  (s.bump tallyBlock tbAbort 1).decided c.step 2 0

/-- A vote has failed: with RETRY_REPLAY the step is aborted, otherwise it is in doubt (07 R234, R236). -/
def State.voteGone (s : State) (part step : Nat) (replay : Bool) : State :=
  match s.ctxOf part step with
  | none => s
  | some i =>
    if (s.ctx i).committed || (s.ctx i).aborted then s
    else if replay then s.abortStep i
    else s.inDoubt i

/-- VOTE_ANSWER (07 R232 to R236). -/
def execVoteAnswer (ep seq code orig aux : Nat) (s : State) : Host.Outcome State Fault Refusal :=
  s.runLive (decide (ep < 2 ^ 20) && decide (seq < 2 ^ 32) && decide (code < 256) && decide (orig < 256) &&
      decide (aux < 2 ^ 32))
    (match s.awaited ep seq with
     | none => s.lateAnswer ep seq code
     | some o =>
       match o.purpose with
       | .vote part step =>
         let c := if code = cDupAnswered then orig else code
         match verdict code orig o.att false with
         | .waiting => s
         | .resend => s.resendOrig ep seq
         | .done =>
           let s := s.endOrig ep seq
           match s.ctxOf part step with
           | none => s
           | some i =>
             if (s.ctx i).committed || (s.ctx i).aborted then s
             else s.releaseAt i ((aux + 2 ^ 32 - step % 2 ^ 32) % 2 ^ 32)
         | .failed => (s.endOrig ep seq).voteGone part step (decide (c = cReplay))
       | _ => s)

/-- The home releases a step at point k (07 R233). -/
def State.homeRelease (s : State) (i k : Nat) : State :=
  let c := s.ctx i
  let s := s.modCtx i fun c => { c with released := some k, point := some k, votes := [] }
  (s.doneAll c.votes cDone ((c.step + k) % 2 ^ 32)).decided c.step 1 k

/-- The home aborts a step: every waiting vote is answered RETRY_REPLAY, and the step is marked (07 R233). That it was the home's
decision, and on which barrier, is remembered for later votes. -/
def State.homeAbort (s : State) (i : Nat) : State :=
  let c := s.ctx i
  let b := match c.commitEntry with
    | some e => cmBarrier e
    | none => 0
  let s := (s.modCtx i fun c => { c with votes := [] }).doneAll c.votes cReplay (c.step % 2 ^ 32)
  ((s.markCtx i 233).abortStep i).modPar fun p => { p with aborted := mapPut p.aborted (c.part * 2 ^ 64 + c.step) (2 + b) }

/-- The home holds every vote (07 R233). -/
def Ctx.allVotes (c : Ctx) : Bool :=
  match c.commitEntry with
  | some e => c.own && decide (c.votes.length + 1 = cmPart e)
  | none => false

/-- COMMIT_DECISION_EDGE (07 R233): a release on the first decision edge with every vote counted; an abort once the last
has passed. -/
def execCommitDecisionEdge (ctx : Nat) (s : State) : Host.Outcome State Fault Refusal :=
  s.runDuty 3 (decide (ctx < 16))
    (let c := s.ctx ctx
     if c.state ≠ 3 ∨ s.isHome c = false ∨ c.released.isSome = true ∨ c.aborted = true then s
     else
       let n := s.param 0x6900 4
       match (List.range n).find? fun k => decide (s.decisionEdge c k = s.clk.ftc) with
       | some k => if c.allVotes then s.homeRelease ctx k else s
       | none => if s.decisionEdge c (n - 1) < s.clk.ftc then s.homeAbort ctx else s)

/-- COMMIT_EDGE (07 R234): on the one edge of the commit point (09 R265). -/
def execCommitEdge (part step : Nat) (s : State) : Host.Outcome State Fault Refusal :=
  s.runLive (decide (part < 64) && decide (step < 2 ^ 64))
    (match s.ctxOf part step with
     | none => s
     | some i =>
       let c := s.ctx i
       match c.point with
       | some k => if c.committed = false ∧ c.aborted = false ∧ s.commitPoint c k = s.clk.ftc then s.commitStep i k else s
       | none => s)

/-! ### Folds and discards (07 R213, R215) -/

/-- ROOT of a PARAM region over its logical space as committed (09 R292). -/
def State.paramRoot (s : State) (d : Desc) : Nat :=
  let h := s.prmHdr d
  rootOf (prmPages h * prmPageBytes h) fun o n => s.rread d o n

/-- A page-map entry as a fold or a discard leaves it: with W set a fold exchanges its frames, a discard keeps them. -/
def foldedEntry (e : Nat) (fold : Bool) : Nat :=
  if peW e then setBit (if fold then setBit e 15 (!peSel e) else e) 14 false else e

/-- Rewrites every page-map granule that has an entry with W set, whole (12 R361); what lies in the last one beyond the map
keeps its value. -/
def State.foldMap (s : State) (d : Desc) (fold : Bool) : State :=
  let n := prmPages (s.prmHdr d)
  (List.range (ceilDiv n 8)).foldl (fun s g =>
    let ps := (List.range 8).map (8 * g + ·)
    if ps.any fun p => decide (p < n) && peW (s.pageEntry d p) then
      s.rawWrite d (0x10000 + 64 * g)
        ((ps.map fun p => beBytes 8 (if p < n then foldedEntry (s.pageEntry d p) fold else s.pageEntry d p)).flatten)
    else s) s

/-- The leaves of the logical space that the pages with W set touch (07 R215). -/
def State.stepLeaves (s : State) (d : Desc) : List Nat :=
  let pb := prmPageBytes (s.prmHdr d)
  (((List.range (prmPages (s.prmHdr d))).filter fun p => peW (s.pageEntry d p)).map fun p =>
    (List.range (((p + 1) * pb - 1) / 1048576 - p * pb / 1048576 + 1)).map fun i => p * pb / 1048576 + i).flatten.eraseDups

/-- The last entry is rewritten: the region returns to IDLE, and ROOT takes its new value (07 R215). NUPDATE keeps its value
until the region opens again, which sets it to 0 (DESIGN CHOICE, log 82: R215 does not say what it reads while IDLE). -/
def State.foldEnd (s : State) (desc : Nat) (fold : Bool) : State :=
  let d := s.descOf desc
  let s := if d.mirror then s.healMap d 0 (prmPages (s.prmHdr d) * prmPageBytes (s.prmHdr d)) else s
  let n := s.stepLeaves d
  let s := s.foldMap d fold
  let s := s.setPrmHdr d (putBits (s.prmHdr d) 385 384 0)
  if fold && d.digest then
    let s := s.rheal d 0 (prmPages (s.prmHdr d) * prmPageBytes (s.prmHdr d))
    let r := s.paramRoot d
    (s.leavesHashed d n).modRgn fun g => { g with desc := mapMod g.desc desc fun x => { x with root := r } }
  else s

/-- FOLD_COMPLETE (07 R215). -/
def execFoldComplete (desc : Nat) (s : State) : Host.Outcome State Fault Refusal :=
  s.runLive (decide (desc < 16384))
    (let d := s.descOf desc
     if (d.state ≠ 1 ∧ d.state ≠ 2) ∨ d.kind ≠ kParam then s
     else match prmState (s.prmHdr d) with
       | 2 => (s.foldEnd desc true).bump tallyBlock tbFold 1
       | 3 => (s.foldEnd desc false).bump tallyBlock tbDiscard 1
       | _ => s)

/-! ### What the job controller decides (07 R233, R236, R238, R239); the accesses themselves are in DictRows.lean -/

/-- A write of STEP_DECIDE: the home aborts unless it has released; a participant that is in doubt, or that has neither
voted nor finished, takes the decision. None: REFUSED_STATE. -/
def State.stepDecide (s : State) (step action k : Nat) : Option State :=
  let fits (c : Ctx) : Bool :=
    decide (c.state ≠ 0) && decide (c.step = step) && c.commitEntry.isSome && !c.committed && !c.aborted &&
      (if action = 1 then c.inDoubt else if s.isHome c then c.released.isNone else c.point.isNone)
  match s.sch.ctxs.find? fun p => fits p.2 with
  | none => none
  | some p =>
    if action = 1 then some (s.releaseAt p.1 k)
    else if s.isHome p.2 then some (s.homeAbort p.1)
    else some (s.abortStep p.1)

/-- A write of SET_CKPT sets CKPT_STEP of a LOG region (07 R238). -/
def State.setCkpt (s : State) (handle step : Nat) : Option State :=
  match s.activeDesc handle with
  | some d => if d.kind = kLog then some (s.setLogHdr d (putBits (s.logHdr d) 382 319 step)) else none
  | none => none

/-- A write of SET_COMMITTED sets COMMITTED_STEP of an IDLE PARAM region (07 R239). -/
def State.setCommitted (s : State) (handle step : Nat) : Option State :=
  match s.activeDesc handle with
  | some d =>
    if d.kind = kParam ∧ prmState (s.prmHdr d) = 0 then
      some ((s.setPrmHdr d (putBits (s.prmHdr d) 319 256 step)).modPar fun p =>
        { p with
          committed := p.committed.filter fun x =>
            !(decide (x.1 / 2 ^ 64 = d.owner) && decide (step < x.1 % 2 ^ 64)) })
    else none
  | none => none

/-! ### Restores (07 R239, R240) -/

def State.setRestore (s : State) (v : Nat) : State := s.modPar fun p => { p with restore := v }

/-- Why a restore fails (07 R239, R240). The numbers are the model's (DESIGN CHOICE, log 79). -/
inductive RestoreCause where
  | noPeer | entry | digest | read | run | root
  deriving DecidableEq, Repr

def RestoreCause.number (c : RestoreCause) : Nat :=
  match c with
  | .noPeer => 1
  | .entry => 2
  | .digest => 3
  | .read => 4
  | .run => 5
  | .root => 6

/-- A restore that fails: an event names the step and the cause, by number. -/
def State.restoreFails (s : State) (rule step : Nat) (c : RestoreCause) : State :=
  (s.setRestore 4).noteCause (s.srcDuty 4) rule c.number step

/-- The READ frames of a copy are numbered and answered within the step (02 R52). -/
def State.numberReads (s : State) (ep n : Nat) : State :=
  s.modFrm fun f => { f with next := mapPut f.next ep ((mapGet 0 f.next ep + n) % 2 ^ 32) }

/-- Copies the entries of steps to a LOG region from the bytes that the source's READs return: every entry must be sealed
with its step. -/
def State.copyEntries (s : State) (d : Desc) (steps : List Nat) (data : List Byte) : State :=
  let h := s.logHdr d
  let n := lgEntryBytes h
  match steps with
  | [] => (s.setRestore 3).bump tallyBlock tbRestore 1
  | t :: r =>
    let b := sliceBytes data 0 n
    if data.length < n ∨ natAt b 0 8 ≠ t ∨ natAt b 8 1 ≠ 2 then s.restoreFails 239 t .entry
    else (s.rawWrite d (lgEntryOfs h t) b).copyEntries d r (data.drop n)

/-- A write of RESTORE_LOG (07 R239): an ACTIVE LOG region, from the buddy's copy or from this block's own log. -/
def State.restoreLog (s : State) (handle ep srcHandle first last : Nat) (data : List Byte) : Option State :=
  match s.activeDesc handle with
  | none => none
  | some d =>
    if d.kind ≠ kLog then none
    else
      let h := s.logHdr d
      let steps := (List.range (last + 1 - first)).map (first + ·)
      let local_ := decide (ep = s.blockEp)
      let src := s.descOf (hdDesc srcHandle)
      let bytes :=
        if local_ then (steps.map fun t => s.rread src (lgEntryOfs h t) (lgEntryBytes h)).flatten else data
      if local_ = false ∧ (s.blockEp = 0 ∨ (s.findPeer ep).isNone) then some ((s.noPeer ep).restoreFails 239 first .noPeer)
      else
        let s := if local_ then s else s.numberReads ep (steps.length * ceilDiv (lgEntryBytes h) 8388608)
        some (s.copyEntries d steps bytes)

/-- The OPT_STEP header that an update record stands for. -/
def State.recordHdr (s : State) (handle t : Nat) (r : List Byte) : List Byte :=
  let d := s.descOf (hdDesc handle)
  let h := s.prmHdr d
  let pb := prmPageBytes h
  mkHdr (beBytes 1 opOptStep ++ beBytes 2 (s.sysClass * 1024 + d.owner * 16) ++ beBytes 1 0x30 ++ beBytes 8 0 ++
    beBytes 4 (urNpg r * pb) ++ beBytes 8 0 ++ beBytes 3 handle ++ beBytes 5 (urFirst r * pb) ++ beBytes 4 0 ++
    beBytes 1 (urOpt r) ++ beBytes 7 0 ++ beBytes 8 t ++ beBytes 3 (prmLog h))

/-- One turn of the tiles of a set: issue, transfers, array and fences. -/
def State.turn (s : State) (tiles : List Nat) : State :=
  let s := s.modClk fun c => { c with now := c.now + 8, ftc := c.ftc + 1 }
  tiles.foldl (fun s t => (((s.xferStart t).xferEnd t).mmaNext t).fenceEnd t |>.issueNext t) s

/-- Runs the tiles of a set until all have stopped and what they have issued has run out. -/
def State.runTiles (s : State) (tiles : List Nat) (fuel : Nat) : State :=
  match fuel with
  | 0 => s
  | n + 1 => if s.runBusy tiles then (s.turn tiles).runTiles tiles n else s

/-- Runs a custom image over one recorded update, on the partition's update set; says why it fails, where it does. -/
def State.replayCustom (s : State) (handle t u : Nat) (r : List Byte) : State × Option RestoreCause :=
  let l := s.loadOpt u (urOpt r)
  if !l.2 then (l.1, some .run)
  else
    let s := l.1
    let d := s.descOf (hdDesc handle)
    let key := opKey (2 ^ 20) u
    let o : OpRec :=
      { req := 2 ^ 20, seq := u, att := 0, port := 0, r := 0, hdr := s.recordHdr handle t r, yellow := false, ord := 0,
        adm := s.clk.now, admFtc := s.clk.ftc, last := s.clk.now, waits := [], region := none, phase := 1 }
    let x := s.updSet u
    let tiles := s.updRun u
    let s := (s.setOp key o).setUpd u { x with state := 3, running := some key }
    let s := (s.startRun tiles (s.updArgs handle t r) d.owner s.sysClass t).runTiles tiles (2 ^ 40)
    let status := natAt (s.completion (s.updFirst u)) 0 1
    let halted := tiles.all fun k => decide ((s.tile k).c.state = 4)
    let good := halted && decide (status = 0)
    let s := (s.setUpd u { x with state := if good then x.state else 4 }).modFrm fun f => { f with ops := mapDel f.ops key }
    (s, if good then none else if halted && (status = 0x20 || status = 0x21) then some .read else some .run)

/-- One recorded update of a step; says why the record or its run fails, where it does (07 R239). -/
def State.replayRecord (s : State) (handle t : Nat) (r : List Byte) : State × Option RestoreCause :=
  let d := s.descOf (hdDesc handle)
  let first := urFirst r
  if urDigest r ≠ s.optDigest (urOpt r) ∨ (s.optPlanes (urOpt r)).isNone then (s, some .digest)
  else if optLib (urOpt r) ≠ 0 then
    let s := s.optHeal handle t first (urNpg r)
    if (s.optFail handle (urOpt r) t first (urNpg r)).isSome then (s, some .read)
    else
      ((List.range (urNpg r)).foldl
        (fun s i => s.updatePage handle (urOpt r) t (s.partSeed d.owner) (first + i) (urHset r)) s, none)
  else match s.updReady d.owner with
    | some u => s.replayCustom handle t u r
    | none => (s, some .run)

/-- Replays one step: its records in order, then a local commit; says why it fails, where it does (07 R239, R240). -/
def State.replayStep (s : State) (handle t : Nat) : State × Option RestoreCause :=
  let desc := hdDesc handle
  let d := s.descOf desc
  let h := s.prmHdr d
  let l := s.descOf (hdDesc (prmLog h))
  let e := lgEntryOfs (s.logHdr l) t
  if s.entStep l e ≠ t ∨ s.entState l e ≠ 2 then (s, some .entry)
  else
    let s := s.setPrmHdr d (putBits (putBits (putBits h 385 384 1) 383 320 t) 255 250 (s.entNupd l e))
    let run := (List.range (s.entNupd l e)).foldl (fun (a : State × Option RestoreCause) i =>
      if a.2.isNone then a.1.replayRecord handle t (a.1.rawRead l (e + 0x40 + 96 * i) 96) else a) (s, none)
    match run.2 with
    | some c => ((run.1.discardRegion desc).foldEnd desc false, some c)
    | none =>
      let s := (run.1.commitRegion desc t).modPar fun p => { p with committed := mapPut p.committed (d.owner * 2 ^ 64 + t) 1 }
      let s := s.foldEnd desc true
      let e1 := lgEntryOfs (s.logHdr l) (t + 1)
      let held := decide (s.entStep l e1 = t + 1) && (s.entState l e1 = 1 || s.entState l e1 = 2)
      let bad := d.digest && held && decide (s.rawNat l (e1 + 0x10) 16 ≠ (s.descOf desc).root)
      (s, if bad then some .root else none)

/-- Replays steps in order; the first failure ends the restore (07 R240). -/
def State.replaySteps (s : State) (handle : Nat) (steps : List Nat) : State :=
  match steps with
  | [] => (s.setRestore 3).bump tallyBlock tbRestore 1
  | t :: r =>
    let x := s.replayStep handle t
    match x.2 with
    | none => x.1.replaySteps handle r
    | some c => x.1.restoreFails 240 t c

/-- A write of RESTORE_RUN (07 R239): the region is an IDLE PARAM region. -/
def State.restoreRun (s : State) (handle last : Nat) : Option State :=
  match s.activeDesc handle with
  | none => none
  | some d =>
    let h := s.prmHdr d
    if d.kind ≠ kParam ∨ prmState h ≠ 0 then none
    else
      let c := prmCommitted h
      some (s.replaySteps handle ((List.range (last - c)).map (c + 1 + ·)))

end Sys2Proof.Machine
end

