-- ==== Sys2Proof/Machine/Hub.lean ====
section
/-! DEFINITION. The commands of the sync hub, the barrier hub and the Egg timer (08 R248 to R263). -/

namespace Sys2Proof.Machine

/-! ### SYNC (08 R245, R250) -/

/-- Step 9 of a SYNC: an awake target must take the signal; a gated one is asked at its doorkeeper. A counter address that
names no counter is refused as a target that refuses the signal is (DESIGN CHOICE, log 74: 01 R32 gives no code). -/
def State.checkSync (s : State) (h : List Byte) : Option Nat :=
  let a := hArg h 36 3
  if !s.ctrOk a then some cState
  else if s.awake (a / 64 / 32) && !s.sigAccepts a (hPart h) then some cState
  else none

/-- Applies an admitted SYNC and answers it. -/
def State.applySync (s : State) (o : OpRec) : State :=
  let a := hArg o.hdr 36 3
  match s.applySig a (hArg o.hdr 40 4) o.part 4 with
  | some t => t.done o.key cDone (t.ctrValue a)
  | none => (s.refusedSig a).done o.key cState 0

/-- SYNC (08 R250): applied on one edge, or held by the doorkeeper of a gated Skillet, which it wakes (14 R415). -/
def execSync (req seq : Nat) (s : State) : Host.Outcome State Fault Refusal :=
  s.runLive (decide (req < 2 ^ 20) && decide (seq < 2 ^ 32))
    (match s.ready req seq opSync with
     | none => s.wakeFor req seq opSync
     | some o =>
       let a := hArg o.hdr 36 3
       let d := a / 64 / 32
       if s.awake d then (s.reach d).applySync o
       else
         let g : HeldSig := { addr := a, amount := hArg o.hdr 40 4, part := o.part, path := 4, op := some o.key }
         (s.begin o).holdSig d g)

/-! ### BARRIER (08 R258, R259; 07 R232, R233) -/

/-- The context whose commit barrier a frame votes on, at the home (07 R232). -/
def State.voteCtx (s : State) (h : List Byte) : Option Nat :=
  (s.sch.ctxs.find? fun p =>
    decide (p.2.state ≠ 0) && decide (p.2.part = hPart h) && decide (p.2.step = hArg h 44 8) && s.isHome p.2 &&
      (match p.2.commitEntry with
       | some e => decide (cmBarrier e = hArg h 36 2 ∧ cmPart e = hArg h 52 4)
       | none => false)).map Prod.fst

/-- Another frame of the requester for the same barrier and generation is admitted. -/
def State.barTwice (s : State) (h : List Byte) : Bool :=
  s.frm.ops.any fun p =>
    decide (p.2.opcode = opBarrier) && decide (p.2.req = hReq h) && decide (p.2.seq ≠ hSeq h) &&
      decide (hArg p.2.hdr 36 2 = hArg h 36 2) && decide (hArg p.2.hdr 40 4 = hArg h 40 4)

/-- A vote for a step that this block has aborted as its home, on the step's commit barrier, whether its context stands or not
(07 R233). -/
def State.lateVote (s : State) (h : List Byte) : Bool :=
  hOp h = opBarrier && mapFind s.par.aborted (hPart h * 2 ^ 64 + hArg h 44 8) = some (2 + hArg h 36 2)

/-- A frame that is not for its barrier, which is refused before its step is looked at (08 R258). -/
def State.barForeign (s : State) (h : List Byte) : Bool :=
  let b := hArg h 36 2
  !s.commitBarrier b && !s.lateVote h &&
    decide (1024 ≤ b ∨ hPart h ≠ s.barPart b ∨ s.barHome b ≠ 0 ∨ hArg h 52 4 ≠ s.barRemote b + 1)

/-- Step 9 of a BARRIER frame, marked steps apart. -/
def State.checkBarrier (s : State) (h : List Byte) : Option Nat :=
  let b := hArg h 36 2
  if s.commitBarrier b then
    match s.voteCtx h with
    | none => some cState
    | some i =>
      let c := s.ctx i
      if hArg h 40 4 ≠ c.step % 2 ^ 32 ∨ c.peers.contains (hReq h) = false ∨ s.barTwice h = true then some cState
      else none
  else if s.barForeign h then some cState
  else
    let g := (s.bar b).gen
    if later 32 g (hArg h 40 4) then none
    else if g ≠ hArg h 40 4 ∨ s.barTwice h = true then some cState
    else none

/-- Counts a vote at the home, or answers one that comes after the decision (07 R233). -/
def State.countVote (s : State) (o : OpRec) : State :=
  match s.voteCtx o.hdr with
  | none => s.done o.key cState 0
  | some i =>
    let c := s.ctx i
    match c.released with
    | some k => s.done o.key cDone ((hArg o.hdr 40 4 + k) % 2 ^ 32)
    | none =>
      if c.aborted then s.done o.key cReplay (hArg o.hdr 44 8 % 2 ^ 32)
      else (s.begin o).modCtx i fun c => { c with votes := c.votes ++ [o.key] }

/-- Counts a frame of an ordinary barrier. -/
def State.countBar (s : State) (o : OpRec) : State :=
  let b := hArg o.hdr 36 2
  let x := s.bar b
  if later 32 x.gen (hArg o.hdr 40 4) then s.done o.key cDone (hArg o.hdr 40 4)
  else if x.gen ≠ hArg o.hdr 40 4 then s.done o.key cState 0
  else ((s.begin o).setBar b { x with frames := x.frames ++ [o.key] }).barAdvance b

/-- BARRIER (08 R258). -/
def execBarrier (req seq : Nat) (s : State) : Host.Outcome State Fault Refusal :=
  s.runLive (decide (req < 2 ^ 20) && decide (seq < 2 ^ 32))
    (match s.ready req seq opBarrier with
     | none => s.wakeFor req seq opBarrier
     | some o => if s.commitBarrier (hArg o.hdr 36 2) then s.countVote o else s.countBar o)

/-- BARRIER_ANSWER (08 R257). -/
def execBarrierAnswer (ep seq code orig aux : Nat) (s : State) : Host.Outcome State Fault Refusal :=
  s.runLive (decide (ep < 2 ^ 20 ∧ seq < 2 ^ 32 ∧ code < 256 ∧ orig < 256 ∧ aux < 2 ^ 32))
    (match s.awaited ep seq with
     | none => s.lateAnswer ep seq code
     | some f =>
       match f.purpose with
       | .barrier b g =>
         match verdict code orig f.att true with
         | .waiting => s
         | .resend => (s.resendOrig ep seq).bump tallyBlock tbRemoteResent 1
         | .failed => (s.endOrig ep seq).abandonBarrier b f.part (bodyStep f.body)
         | .done =>
           let s := s.endOrig ep seq
           if aux = g then (if (s.bar b).gen = g ∧ (s.bar b).sent = true then s.barReleaseAll b else s)
           else s.abandonBarrier b f.part (bodyStep f.body)
       | _ => s)

/-! ### Remote signals (08 R249) -/

/-- A tile whose remote SIG has found the queue full issues it on the edge on which the hub takes the head, the lowest first (08
R249, R255). -/
def State.remoteFreed (s : State) : State :=
  let waits (p : Nat × Tile) : Bool :=
    decide (p.2.x.blocked = some .remoteQueue) && decide (syOp (s.bundleAt p.1).sy = 1) && decide (p.2.c.lib = 0) && s.issues p.1
  match (s.tl.tiles.filter waits).map Prod.fst with
  | t :: _ => s.issueTiles [t]
  | [] => s

/-- REMOTE_SIGNAL_SEND: the oldest signal, pushed on an earlier edge, leaves as a SYNC once its destination has room for a
frame (02 R52; 08 R255). -/
def execRemoteSignalSend (s : State) : Host.Outcome State Fault Refusal :=
  s.runLive true (match s.syn.queue with
    | [] => s
    | q :: r =>
      let w := s.remoteEntry q.entry
      if s.mayOriginate (reEp w) = false ∨ s.clk.now / 8 ≤ q.at_ / 8 then s
      else
        let t := (s.modSyn fun y => { y with queue := r }).remoteFreed
        let o : OrigFrame :=
          { ep := reEp w, seq := 0, part := q.part, cls := q.cls, op := opSync,
            body := mkBody 0 0 0 0 (beBytes 3 (reCtr w) ++ beBytes 1 0 ++ beBytes 4 q.amount ++ beBytes 8 q.step),
            payload := [], purpose := .signal q.entry q.amount, eq := some q.eq }
        match t.originate o with
        | some u => u.bump tallyBlock tbRemoteSent 1
        | none => (t.noPeer (reEp w)).abandonSignal q.entry q.part q.step)

/-- REMOTE_SIGNAL_ANSWER (08 R249). -/
def execRemoteSignalAnswer (ep seq code orig : Nat) (s : State) : Host.Outcome State Fault Refusal :=
  s.runLive (decide (ep < 2 ^ 20 ∧ seq < 2 ^ 32 ∧ code < 256 ∧ orig < 256))
    (match s.awaited ep seq with
     | none => s.lateAnswer ep seq code
     | some f =>
       match f.purpose with
       | .signal e _ =>
         match verdict code orig f.att true with
         | .waiting => s
         | .resend => (s.resendOrig ep seq).bump tallyBlock tbRemoteResent 1
         | .done => s.endOrig ep seq
         | .failed => (s.endOrig ep seq).abandonSignal e f.part (bodyStep f.body)
       | _ => s)

/-- A write of LADEL_SIGNAL: a fenced signal of a Ladel core, which signals tiles of every partition (08 R245, R264); false
where the target refuses it. -/
def State.ladelSignal (s : State) (addr amount : Nat) : State × Bool :=
  match s.belongs (addr / 64) with
  | some part => if s.ctrOk addr then (s.hubSig addr amount part, true) else (s.refusedSig addr, false)
  | none => (s.refusedSig addr, false)

/-! ### The Egg timer (08 R261 to R263) -/

/-- A participant set: kind, context where it has one, number, partition, tiles, barriers. -/
structure EggSet where
  kind : Nat
  ctx : Nat := 0
  id : Nat
  part : Nat
  tiles : List Nat
  bars : List Nat := []
  deriving DecidableEq, Repr

/-- The tile set of a PROGRAM entry (09 R274). -/
def enTiles (e : List Byte) : List Nat := tileRun (natAt e 8 2) (natAt e 10 2)

/-- The participant sets. The tiles of a barrier's set are those of its range that belong to BAR_PART, which its release signals
(DESIGN CHOICE, log 101: R261 names the set and not its tiles). -/
def State.eggSets (s : State) : List EggSet :=
  let att := (List.range 64).map fun i =>
    let n := s.param (0x6810 + i) 3
    ({ kind := 1, id := i, part := s.param (0x6810 + i) 1, tiles := tileRun (s.param (0x6810 + i) 2) n } : EggSet)
  let upd := (List.range 16).map fun i => ({ kind := 2, id := i, part := s.updPart i, tiles := s.updRun i } : EggSet)
  let prog := (s.sch.ctxs.map fun p =>
    p.2.fired.filterMap fun i => (p.2.entries[i]?).map fun e =>
      ({ kind := 3, ctx := p.1, id := natAt e 2 2, part := p.2.part, tiles := enTiles e } : EggSet)).flatten
  let bars := (s.syn.bars.filter fun p => decide (0 < p.2.arrived)).map fun p =>
    ({ kind := 4, id := p.1, part := s.barPart p.1, bars := [p.1],
       tiles := (tileRun (s.barFirst p.1) (s.barTiles p.1)).filter fun t =>
         decide (s.belongs t = some (s.barPart p.1)) } : EggSet)
  att ++ upd ++ prog ++ bars

/-- A tile of a set that runs. -/
def State.eggRuns (s : State) (g : EggSet) : List Nat := g.tiles.filter fun t => decide ((s.tile t).c.state = 3)

/-- The set is stuck (08 R261): its tiles have been held without a break, by nothing else and by no stop, and its barriers
unreleased since the first arrival. -/
def State.stuck (s : State) (g : EggSet) : Bool :=
  let lim := usR (s.param 0x8000 1)
  !(s.eggRuns g).isEmpty &&
    ((s.eggRuns g).all fun t =>
      !(s.tile t).c.frozen && (match (s.tile t).x.stuckAt with
      | some a => decide (a + lim < s.clk.now)
      | none => false)) &&
    (g.tiles.all fun t => (s.tile t).x.landed = 0 || decide ((s.tile t).x.landed + lim < s.clk.now)) &&
    g.bars.all fun b => decide ((s.bar b).since + lim < s.clk.now)

def EggSet.key (g : EggSet) : Nat := (g.kind * 16 + g.ctx) * 65536 + g.id

/-- Since an edge a member of the set has issued a bundle, or a barrier of it has been released (08 R262). -/
def State.eggMoved (s : State) (g : EggSet) (since : Nat) : Bool :=
  (g.tiles.any fun t => decide (since ≤ (s.tile t).x.moved)) || g.bars.any fun b => decide (since ≤ (s.bar b).freed)

/-- The set has been reported, and nothing of it has moved since. -/
def State.eggKnown (s : State) (g : EggSet) : Bool :=
  (mapFind s.syn.reported g.key).any fun t => !s.eggMoved g t

/-- The reason, counter index, threshold and value of a tile's record. -/
def State.eggReason (s : State) (t : Nat) : Nat × Nat × Nat × Nat :=
  match (s.tile t).x.blocked with
  | some (.wait c n) => (1, c, n, (s.tile t).r.getCtr c)
  | some .fence => (2, 0, 0, 0)
  | some .xferQueue => (3, 0, 0, 0)
  | some .remoteQueue => (4, 0, 0, 0)
  | none => (0, 0, 0, 0)

def State.eggTile (s : State) (t : Nat) : List Byte :=
  let r := s.eggReason t
  beBytes 2 t ++ beBytes 1 r.1 ++ beBytes 1 (b2n (s.tile t).x.asleep) ++ beBytes 2 (s.tile t).r.pc ++ beBytes 1 r.2.1 ++
    beBytes 1 0 ++ beBytes 4 r.2.2.1 ++ beBytes 4 r.2.2.2

def State.eggBar (s : State) (b : Nat) : List Byte :=
  let x := s.bar b
  beBytes 2 0xFFFF ++ beBytes 2 b ++ beBytes 4 x.gen ++ beBytes 2 x.arrived ++ beBytes 2 x.frames.length ++
    beBytes 2 (s.barLocal b) ++ beBytes 2 (s.barRemote b)

/-- The snapshot of a stuck set (08 R263). -/
def State.eggSnap (s : State) (g : EggSet) : List Byte :=
  let ts := g.tiles.take 256
  let bs := g.bars.take 8
  beBytes 8 s.clk.ftc ++ beBytes 1 g.kind ++ beBytes 1 g.part ++ beBytes 2 g.id ++ beBytes 2 (ts.length + bs.length) ++
    beBytes 2 (s.syn.queue.filter fun q => g.tiles.contains q.tile).length ++ List.replicate 48 0 ++
    (ts.map s.eggTile).flatten ++ (bs.map s.eggBar).flatten

/-- Evaluates one set (08 R262). -/
def State.eggSet (s : State) (g : EggSet) : State :=
  if !s.stuck g || s.eggKnown g then s
  else
    let i := s.syn.eggs % 8
    let b := s.eggSnap g
    (s.modSyn fun y =>
      { y with
        eggs := y.eggs + 1, snaps := mapPut y.snaps i ⟨b⟩,
        reported := mapPut y.reported g.key s.clk.now }).raise srcEgg 0x0302
      (beBytes 1 i ++ beBytes 1 g.kind ++ beBytes 2 g.id)

/-- EGG_TIMER_EVALUATE (08 R262). -/
def execEggTimerEvaluate (s : State) : Host.Outcome State Fault Refusal := .next (s.eggSets.foldl State.eggSet s)

end Sys2Proof.Machine
end

