-- ==== Sys2Proof/Machine/Schedule.lean ====
section
/-! DEFINITION. The discipline of the fabric time, step schedules, LAUNCH and contexts, the wheel and digest passes (09
R266 to R284, R294; 03 R86). -/

namespace Sys2Proof.Machine

/-! ### The discipline of the fabric time (09 R266 to R270) -/

def State.modDisc (s : State) (f : Disc → Disc) : State := s.modSch fun h => { h with disc := f h.disc }

/-- A change of FTC_STATE: counted, and an event (09 R268). -/
def State.ftcState (s : State) (st : Nat) : State :=
  let d := s.sch.disc
  if d.state = st then s
  else
    ((s.modDisc fun d => { d with state := st, close := 0 }).bump tallyBlock tbFtcState 1).raise srcHub 0x0201
      (beBytes 1 d.state ++ beBytes 1 st ++ beBytes 4 (uNat 32 d.err))

/-- The limit of the trim: ±100 ppm (09 R269). -/
def trimMax : Int := 109951163

/-- The proportional-integral correction (09 R269). -/
def State.servo (s : State) (e : Int) : State :=
  s.modDisc fun d =>
    let acc := clampI (-(2 ^ 31)) (2 ^ 31 - 1) (d.acc + e)
    { d with
      acc := acc,
      trim := clampI (-trimMax) trimMax (d.trim - (s.param 0xD000 9 : Int) * e - (s.param 0xD000 10 : Int) * acc) }

/-- A load of the FTC: at the end of FREE, or after FTC_RESYNC (09 R268 to R270). -/
def State.ftcLoad (s : State) (v : Nat) : State :=
  ((s.modClk fun c => { c with ftc := (v + 6) % 2 ^ 64 }).modDisc fun d =>
    { d with acc := 0, resync := false, close := 0 }).ftcState 1

/-- An accepted pulse with error e. -/
def State.pulse (s : State) (v : Nat) (e : Int) : State :=
  let d := s.sch.disc
  let n := e.natAbs
  let s := (s.modDisc fun d => { d with last := some s.clk.now, err := clampI (-(2 ^ 31)) (2 ^ 31 - 1) e }).bump
    tallyBlock tbPulseOk 1
  if d.state = 0 ∨ d.resync = true then s.ftcLoad v
  else match d.state with
    | 1 =>
      if s.param 0xD000 6 < n then s.ftcState 4
      else
        let k := if n ≤ 8 then d.close + 1 else 0
        let s := (s.servo e).modDisc fun d => { d with close := k }
        if 4 ≤ k then s.ftcState 2 else s
    | 2 =>
      if s.param 0xD000 6 < n then s.ftcState 4
      else
        let s := s.servo e
        if s.param 0xD000 5 < n then s.note srcHub 268 (uNat 32 e) else s
    | 3 => if n ≤ s.param 0xD000 5 then s.ftcState d.from_ else s.ftcState 4
    | _ => s

/-- FTC_PULSE (09 R267 to R269): value and phase as sampled. A pulse without a value, one less than half the expected
period after the last, or one while the PLL is unlocked is ignored. -/
def execFtcPulse (valid : Bool) (value phase : Nat) (s : State) : Host.Outcome State Fault Refusal :=
  runIf (decide (value < 2 ^ 64) && decide (phase < 8))
    (let early := match s.sch.disc.last with
       | some t => decide (s.clk.now < t + tclkR (s.param 0xD000 7) / 2)
       | none => false
     if !valid || early || !s.clk.locked then s.bump tallyBlock tbPulseIgnored 1
     else s.pulse value (8 * (s.clk.ftc : Int) + phase - 8 * (value : Int)))

/-- ACQUIRE or TRACK becomes HOLDOVER. -/
def State.toHoldover (s : State) : State :=
  let d := s.sch.disc
  if d.state = 1 ∨ d.state = 2 then
    (s.modDisc fun d => { d with from_ := d.state, holdAt := s.clk.now }).ftcState 3
  else s

/-- PULSE_TIMEOUT (09 R268). -/
def execPulseTimeout (s : State) : Host.Outcome State Fault Refusal :=
  .next (match s.sch.disc.last with
    | some t => if s.since t (3 * tclkR (s.param 0xD000 7)) then s.toHoldover else s
    | none => s)

/-- HOLDOVER_MAX_EXPIRY (09 R268). -/
def execHoldoverMaxExpiry (s : State) : Host.Outcome State Fault Refusal :=
  .next (if s.sch.disc.state = 3 ∧ s.since s.sch.disc.holdAt (usR (s.param 0xD000 8)) = true then s.ftcState 4 else s)

/-- A write of FTC_RESYNC, whatever its value (DESIGN CHOICE, log 35); none while a schedule context is in use (09 R270). -/
def State.ftcResync (s : State) : Option State :=
  if s.sch.ctxs.any fun p => decide (p.2.state ≠ 0) then none
  else some (s.modDisc fun d => { d with resync := true })

/-! ### The wheel (09 R282 to R284) -/

/-- A waiting table takes effect on an edge. -/
def Wheel.due (w : Wheel) (ftc : Nat) : Bool := w.next.any fun p => decide (p.2 = ftc)

/-- The table of an edge comes into force, and those that wait for later edges go on waiting. -/
def Wheel.take (w : Wheel) (ftc : Nat) : Wheel :=
  match w.next.find? fun p => decide (p.2 = ftc) with
  | some p => { table := some p.1, next := w.next.filter fun q => decide (ftc < q.2) }
  | none => w

/-- WHEEL_TABLE_EFFECT (09 R284): 1 WHEEL_SKILLET, 2 WHEEL_WHISK, 3 WHEEL_STOCKPOT, on the one edge on which the waiting
table takes effect. -/
def execWheelTableEffect (table : Nat) (s : State) : Host.Outcome State Fault Refusal :=
  s.runLive (decide (1 ≤ table ∧ table ≤ 3))
    (let w := if table = 1 then s.sch.skillet else if table = 2 then s.sch.whisk else s.sch.stockpot
     if !w.due s.clk.ftc then s
     else s.modSch fun h =>
       { h with
         skillet := if table = 1 then h.skillet.take s.clk.ftc else h.skillet,
         whisk := if table = 2 then h.whisk.take s.clk.ftc else h.whisk,
         stockpot := if table = 3 then h.stockpot.take s.clk.ftc else h.stockpot,
         wheelFtc := s.clk.ftc })

/-- An accepted write of a wheel table: it takes effect on the first position-0 edge at least 1,200 TCLK later. Of two that
take effect on one edge the later one counts. -/
def State.wheelWrite (s : State) (w : Wheel) (l : List Nat) : Wheel :=
  let e := roundUp (s.clk.ftc + 1200) 1200
  { w with next := (w.next.filter fun p => decide (p.2 < e)) ++ [(l, e)] }

/-! ### Schedule images (09 R272 to R276) -/

def shMagic (b : List Byte) : Nat := natAt b 0 4
def shCount (b : List Byte) : Nat := natAt b 12 4
def shSpan (b : List Byte) : Nat := natAt b 24 4
def shEntries (b : List Byte) : List (List Byte) := (List.range (shCount b)).map fun i => sliceBytes b (64 + 64 * i) 64

/-- REL of a PROGRAM entry, and where its argument block lies. -/
def pgClass (e : List Byte) : Nat := natAt e 12 1 % 64
def pgRel (e : List Byte) : Nat := natAt e 4 4
def pgArgs (e : List Byte) : Nat := natAt e 24 4
def pgImage (e : List Byte) : Nat := natAt e 13 3
def pgOfs (e : List Byte) : Nat := natAt e 16 8

/-- The end of an image: past its entries and past every argument block. -/
def schedEnd (b : List Byte) : Nat :=
  (shEntries b).foldl (fun m e => if enKind e = 1 ∧ pgArgs e ≠ 0 then max m (pgArgs e + 256) else m) (64 + 64 * shCount b)

/-- Bytes that a check of an image may reach: 2,048 entries and as many argument blocks. -/
def schedMax : Nat := 64 + 2048 * 320

/-- Ladel's check of BODY_HASH (09 R272; 04 R148). -/
def State.schedHashGood (s : State) (d : Desc) (ofs : Nat) : Bool :=
  if d.capacity < ofs + 64 then false
  else
    let b := s.rread d ofs (min schedMax (d.capacity - ofs))
    let n := schedEnd b
    decide (shCount b ≤ 2048) && decide (ofs + n ≤ d.capacity) && (s.rpoison d ofs n).isNone &&
      decide (sha256 (sliceBytes b 64 (n - 64)) = sliceBytes b 32 32)

/-- The recorded checks of a region; a mismatch lasts until RDONLY is set again. -/
def State.schedOf (s : State) (desc ofs : Nat) : Option Bool :=
  if s.rgn.sched.any (fun r => r.desc = desc && !r.good) then some false
  else (s.rgn.sched.find? fun r => r.desc = desc && r.ofs = ofs).map fun r => r.good

/-- The check that precedes the first LAUNCH from a region. -/
def State.schedCheck (s : State) (handle ofs : Nat) (d : Desc) : State :=
  match s.schedOf (hdDesc handle) ofs with
  | some _ => s
  | none =>
    let g := s.schedHashGood d ofs
    let s := s.modRgn fun r => { r with sched := r.sched ++ [⟨hdDesc handle, ofs, g⟩] }
    if g then s else s.note (s.srcDuty 2) 272 handle

/-- A write of SCHED_VERIFY; none where the handle names no RDONLY CODE region (09 R272). -/
def State.schedVerify (s : State) (handle : Nat) : Option State :=
  match s.imgRegion handle (hdPart handle) with
  | some d => some (s.schedCheck handle 0 d)
  | none => none

/-! ### Step 9 and admission of a LAUNCH (09 R277) -/

/-- The context that a LAUNCH may use: one that holds its step marked or aborted, else the lowest free one. -/
def State.launchCtx (s : State) (part step : Nat) : Option Nat :=
  match s.ctxOf part step with
  | some i => some i
  | none => (List.range 16).find? fun i => decide ((s.ctx i).state = 0)

/-- The frame resends a LAUNCH that a reset of the schedule hub has ended (09 R281): its last copy was answered
RETRY_EPOCH. -/
def State.resetLaunch (s : State) (h : List Byte) : Bool :=
  match s.findReq (hReq h) with
  | none => false
  | some r =>
    let e := s.doneView r (hSeq h % 64)
    decide (e.seq = hSeq h ∧ e.opcode = opLaunch ∧ e.code = cEpoch)

/-- Step 9 of a LAUNCH (09 R277). A resend after RETRY_EPOCH is answered RETRY_REPLAY once LAUNCH_FTC has passed, and until
then needs no lead (09 R281). -/
def State.checkLaunch (s : State) (h : List Byte) : Option Nat :=
  let part := hPart h
  let step := hArg h 44 8
  let st := s.sch.disc.state
  let held := s.ctxOf part step
  let again := match held with
    | some i => (s.ctx i).marked || (s.ctx i).aborted
    | none => false
  let resend := s.resetLaunch h
  if resend ∧ hArg h 52 8 ≤ s.clk.ftc then some cReplay
  else if st ≠ 2 ∧ st ≠ 3 then some cState
  else if resend = false ∧ hArg h 52 8 ≤ s.clk.ftc + s.param 0xD000 12 then some cState
  else if (mapFind s.par.committed (part * 2 ^ 64 + step)).isSome ∨ (held.isSome ∧ again = false) then some cState
  else if again then none
  else if (s.launchCtx part step).isNone ∨
      4 ≤ (s.sch.ctxs.filter fun p => decide (p.2.state ≠ 0) && decide (p.2.part = part)).length then some cCapacity
  else none

/-- Returns the storage of reserved slots whose key a test accepts. -/
def State.dropResv (s : State) (p : Nat → Bool) : State :=
  (s.wsk.resv.filter fun x => p x.1).foldl (fun s x =>
    s.modWsk fun w =>
      { w with
        resv := mapDel w.resv x.1, sram := subParts w.sram x.2.sram compactBytes, spill := w.spill - x.2.spill }) s

/-- Admission of a LAUNCH: its context is arming. A run of the step that was armed and has not been launched is given up, and
the LAUNCH of one that is still arming is answered RETRY_REPLAY, as that of an abandoned one (DESIGN CHOICE, log 30). -/
def State.admitLaunch (s : State) (k : Nat) (h : List Byte) : State :=
  match s.launchCtx (hPart h) (hArg h 44 8) with
  | none => s
  | some i =>
    let s := s.dropResv fun x => decide (x / 2048 = 2 * i + 1)
    let s := match (s.ctx i).arm with
      | some a => s.doneAll (a.op.toList.filter (· ≠ k)) cReplay (hArg h 44 8 % 2 ^ 32)
      | none => s
    let c := s.ctx i
    let a : Arm :=
      { op := some k, launch := hArg h 52 8, sched := hArg h 40 4, handle := hHandle h, ofs := hOfs h, length := hLen h }
    if c.state = 3 then s.setCtx i { c with arm := some a }
    else
      s.setCtx i
        { state := 1, marked := c.marked, aborted := c.aborted, part := hPart h, step := hArg h 44 8, launch := a.launch,
          sched := a.sched, run := c.run, arm := some a }

/-- LAUNCH (09 R277, R278): the context arms; ARMING_COMPLETE answers. -/
def execLaunch (req seq : Nat) (s : State) : Host.Outcome State Fault Refusal :=
  s.runLive (decide (req < 2 ^ 20) && decide (seq < 2 ^ 32))
    (match s.ready req seq opLaunch with
     | none => s.wakeFor req seq opLaunch
     | some o => s.begin o)

/-! ### Arming (09 R278) -/

/-- The slot that a SLOT entry declares (09 R275; 03 R86). -/
def declSlot (i part step launch seed : Nat) (e : List Byte) : Slot :=
  let od := natAt e 2 1
  { part := part, slot := natAt e 12 4, state := 1, q0 := 0, n := natAt e 24 4 / odBytes od, od := od, rnd := natAt e 3 1,
    step := step, expect := natAt e 28 4, handle := natAt e 16 3, ofs := natAt e 19 5, length := natAt e 24 4, seed := seed,
    decl := some
      { ctx := i, openFtc := launch + natAt e 4 4, closeFtc := launch + natAt e 8 4, feeder := decide (natAt e 1 1 = 2),
        ownerEp := natAt e 32 4 % 2 ^ 20, ownerHandle := natAt e 36 3, ownerOfs := natAt e 39 5, ownerOd := natAt e 44 1 } }

/-- OUT_DTYPE codes of a slot (03 R83). -/
def odOk (od : Nat) : Bool := [1, 2, 3, 4, 5, 0x0C].contains od

/-- A SLOT entry obeys R275 and would pass R85 and R28 at its region. -/
def State.slotEntryOk (s : State) (span : Nat) (y : Slot) (e : List Byte) : Bool :=
  let d := s.descOf (hdDesc y.handle)
  let w := odBytes y.od
  decide (natAt e 1 1 = 1 ∨ natAt e 1 1 = 2) && odOk y.od && decide (y.rnd < 2) && (y.od ≠ 0x0C || y.rnd = 0) &&
    decide (natAt e 4 4 < natAt e 8 4) && decide (natAt e 8 4 < span) && decide (0 < y.length) &&
    decide (y.length % w = 0) && decide (y.n ≤ 2 ^ 28) && decide (hdPart y.handle = y.part) && decide (hdRsv y.handle = 0) &&
    decide (d.state = 1) && decide (d.owner = y.part) && kindPermits opRedOpen d.kind && !d.rdonly &&
    decide (y.ofs + y.length ≤ d.capacity) && (natAt e 1 1 = 1 || odOk (natAt e 44 1))

/-- Tiles that PROGRAM sets of a schedule may not use (09 R278). -/
def State.takenTiles (s : State) (part : Nat) : List Nat :=
  let ctx := (s.sch.ctxs.filter fun p => decide (p.2.state ≠ 0) && decide (p.2.part ≠ part)).map fun p =>
    ((p.2.entries ++ (match p.2.arm with | some a => a.entries | none => [])).filter fun e => enKind e = 1).map enTiles
  s.setTiles ++ ctx.flatten.flatten

/-- A PROGRAM entry obeys R274 and R278. -/
def State.progEntryOk (s : State) (part span len : Nat) (taken : List Nat) (e : List Byte) : Bool :=
  let n := natAt e 10 2
  decide (pgRel e < span) && bit (s.param (0x5200 + pgClass e) 1) part && decide (1 ≤ n) && decide (natAt e 8 2 + n ≤ s.build.tiles) &&
    decide (pgArgs e = 0 ∨ pgArgs e + 256 ≤ len) && (enTiles e).all (fun t => !taken.contains t) &&
    (match s.imgRegion (pgImage e) part with
     | some d => s.imgValid d (pgOfs e)
     | none => false)

/-- What R198 asks of every record, whichever blocks it names: HOME_PAGES is 1 or more, so FIRST is not 0. -/
def spillForm (r : List Byte) : Bool :=
  decide (srLog2n r ≤ 9) && decide (srFirst r % 2 ^ srLog2n r = 0) && decide (0 < srFirst r)

/-- Two records are of one home context. -/
def sameHome (a b : List Byte) : Bool :=
  decide (srHomeHandle a = srHomeHandle b ∧ srHomeCtx a = srHomeCtx b ∧ srHomeEp a = srHomeEp b)

/-- Entry k of a schedule, a record r, beside its other records: at most 4 of one home context, no overlap, and no spill
context that two of them name (06 R198). -/
def spillsApart (es : List (List Byte)) (k : Nat) (r : List Byte) : Bool :=
  let rs := (es.zipIdx.filter fun p => decide (natAt p.1 0 1 = 3) && decide (p.2 ≠ k)).map fun p => sliceBytes p.1 32 32
  decide ((rs.filter (sameHome r)).length < 4) &&
    rs.all fun q =>
      !(sameHome r q && overlaps (srFirst q) (2 ^ srLog2n q) (srFirst r) (2 ^ srLog2n r)) &&
        !decide (srSpillEp q = srSpillEp r ∧ srSpillHandle q = srSpillHandle r ∧ srSpillCtx q = srSpillCtx r)

/-- A spill record obeys R198 as far as this block can tell, being its home or its spill block: HOME_HANDLE is of the
schedule's partition (06 R199). -/
def State.spillOk (s : State) (part : Nat) (r : List Byte) : Bool :=
  let home := decide (srHomeEp r = s.blockEp)
  let here := decide (srSpillEp r = s.blockEp)
  let geo (handle : Nat) : Option Nat :=
    match s.activeDesc handle with
    | some d => if d.kind = kKv ∧ d.owner = part then some (s.kvHdr d) else none
    | none => none
  decide (hdPart (srHomeHandle r) = part) &&
    (!home || (match geo (srHomeHandle r) with
      | some h => decide (srHomeCtx r < kvContexts h) && decide (kvPages h ≤ srFirst r)
      | none => false)) &&
    (!here || (match geo (srSpillHandle r) with
      | some h => decide (srSpillCtx r < kvContexts h) && decide (2 ^ srLog2n r ≤ kvPages h) &&
          [0, 3].contains (kcRole (s.kvCtx (s.descOf (hdDesc (srSpillHandle r))) (srSpillCtx r)))
      | none => false)) &&
    (!(home && here) || (match geo (srHomeHandle r), geo (srSpillHandle r) with
      | some a, some b =>
        decide (kvDtype a = kvDtype b ∧ kvDim a = kvDim b ∧ kvLayers a = kvLayers b ∧ kvHeads a = kvHeads b)
      | _, _ => false))

/-- The record that an entry carries. -/
def enSpill (e : List Byte) : List Byte := sliceBytes e 32 32
/-- The block loads a record in which it is home or spill block. -/
def State.spillMine (s : State) (r : List Byte) : Bool := decide (srHomeEp r = s.blockEp) || decide (srSpillEp r = s.blockEp)
/-- Two records name the same home context and FIRST: the later replaces the earlier (09 R273). -/
def sameSpill (a b : List Byte) : Bool :=
  decide (srHomeHandle a = srHomeHandle b ∧ srHomeCtx a = srHomeCtx b ∧ srFirst a = srFirst b)

/-- The records in force once those of a schedule are loaded. -/
def State.withSpills (s : State) (rs : List (List Byte)) : List (List Byte) :=
  (rs.filter s.spillMine).foldl (fun l r =>
    if l.any (sameSpill r) then l.map fun q => if sameSpill r q then r else q else l ++ [r]) (s.sch.spills.map (·.bytes))

/-- At most 4 records for the context of a record, with no overlap, and 4,096 in all (06 R198; 09 R273). -/
def spillSetOk (l : List (List Byte)) (r : List Byte) : Bool :=
  let c := l.filter (sameHome r)
  decide (c.length ≤ 4) && decide (l.length ≤ 4096) &&
    c.all fun q => decide (srFirst q = srFirst r) || !overlaps (srFirst q) (2 ^ srLog2n q) (srFirst r) (2 ^ srLog2n r)

/-- A COMMIT_UPDATE range lies in an active PARAM region of the partition. -/
def State.updateOk (s : State) (part : Nat) (u : Nat × Nat × Nat) : Bool :=
  match s.activeDesc u.1 with
  | some d => decide (d.kind = kParam) && decide (d.owner = part) && decide (u.2.1 + u.2.2 ≤ prmPages (s.prmHdr d))
  | none => false

/-- The commit entries of a schedule obey R276. -/
def State.commitOk (s : State) (part : Nat) (es : List (List Byte)) : Bool :=
  let c : Ctx := { entries := es }
  match es.filter fun e => enKind e = 4 with
  | [] => es.all fun e => enKind e ≠ 5 && enKind e ≠ 6
  | [e] =>
    decide (1 ≤ cmPart e ∧ cmPart e ≤ 1024) && decide (cmBarrier e < 1024) && decide (c.peers.length = cmPart e) &&
      allDistinct c.peers && c.peers.contains s.blockEp && c.peers.contains (cmHome e) &&
      (es.all fun e => (enKind e ≠ 5 || (1 ≤ natAt e 1 1 && natAt e 1 1 ≤ 7)) &&
        (enKind e ≠ 6 || (1 ≤ natAt e 1 1 && natAt e 1 1 ≤ 3))) && c.updates.all (s.updateOk part)
  | _ => false

/-- The header of an image obeys R272 for a LAUNCH. -/
def State.schedHdrOk (s : State) (part : Nat) (a : Arm) (b : List Byte) : Bool :=
  shMagic b = 0x4B575343 && natAt b 4 1 = 0x31 && natAt b 6 1 % 64 = part && natAt b 8 4 = a.sched &&
    decide (1 ≤ shCount b ∧ shCount b ≤ 2048) && decide (schedEnd b ≤ a.length) && natAt b 16 8 = fprint &&
    decide (1 ≤ shSpan b) && (!bit (natAt b 5 1) 0 || s.strict)

/-- The reservation of the slots of an arming run (09 R275): its keys. -/
def resvKey (i e : Nat) : Nat := i * 4096 + 2048 + e

/-- Reserves the descriptor and the placement of one declaration; none where RED_OPEN would be refused. -/
def State.reserveSlot (s : State) (i e : Nat) (y : Slot) (fresh : State) : Option State :=
  let twice := s.wsk.resv.any fun p => decide (i * 4096 + 2048 ≤ p.1) && decide (p.1 < i * 4096 + 4096) &&
    decide (p.2.slot = y.slot)
  let s := if 4096 ≤ s.slotsUsed then
      match s.oldestSlot with
      | some v => s.modWsk fun w => { w with slots := mapDel w.slots v.key }
      | none => s
    else s
  if twice ∨ (fresh.openVerdict y).isSome ∨ 4096 ≤ s.slotsUsed then none
  else match s.placeBlocks s.wsk.q0 y.n with
    | none => none
    | some (sram, spill) =>
      let y := { y with q0 := s.wsk.q0, sram := sram, spill := spill }
      some (s.modWsk fun w =>
        { w with
          q0 := (w.q0 + 1) % 4, sram := addParts w.sram sram compactBytes, spill := w.spill + spill,
          resv := mapPut w.resv (resvKey i e) y })

/-- The image of a PROGRAM entry is loaded into the tiles that do not hold it; false where the load is refused. -/
def State.loadProg (s : State) (part : Nat) (e : List Byte) : State × Bool :=
  match s.imgRegion (pgImage e) part with
  | none => (s, false)
  | some d =>
    let dg := igDigest (s.imgHdr d (pgOfs e))
    let todo := (enTiles e).filter fun t =>
      let c := (s.tile t).c
      !([2, 3, 4, 5].contains c.state && decide (c.image = pgImage e ∧ c.imageOfs = pgOfs e ∧ c.digest = dg) &&
        decide (c.lib = s.libAt (hdDesc (pgImage e)) (pgOfs e)))
    if todo = [] then (s, true) else s.loadImage todo (pgImage e) (pgOfs e) part

/-- One entry of an arming run: the state with what it loads and reserves, or none where it fails. -/
def State.armEntry (s : State) (i : Nat) (c : Ctx) (a : Arm) (es : List (List Byte)) (taken : List Nat) (fresh : State)
    (e : List Byte) (k : Nat) : Option State :=
  match enKind e with
  | 1 =>
    if s.progEntryOk c.part (a.span) a.length taken e then
      let l := s.loadProg c.part e
      if l.2 then some l.1 else none
    else none
  | 2 =>
    let y := declSlot i c.part c.step a.launch (s.partSeed c.part) e
    if s.slotEntryOk a.span y e then s.reserveSlot i k y fresh else none
  | 3 =>
    let rs := (es.filter fun e => enKind e = 3).map enSpill
    let r := enSpill e
    if spillForm r && spillsApart es k r &&
        (!s.spillMine r || (s.spillOk c.part r && spillSetOk (s.withSpills rs) r)) then some s
    else none
  | 4 | 5 | 6 => if s.commitOk c.part es then some s else none
  | _ => none

/-- Entries in order: the state after the last, or the index of the first that fails. -/
def State.armEntries (s : State) (i : Nat) (c : Ctx) (a : Arm) (taken : List Nat) (fresh : State)
    (l : List (List Byte)) (k : Nat) : State ⊕ Nat :=
  match l with
  | [] => .inl s
  | e :: r =>
    match s.armEntry i c a a.entries taken fresh e k with
    | some t => t.armEntries i c a taken fresh r (k + 1)
    | none => .inr k

/-- The LAUNCH is answered REFUSED_STATE: nothing stays reserved, and an event names the failing entry. -/
def State.armFails (s : State) (i : Nat) (entry : Nat) : State :=
  let c := s.ctx i
  let s := (s.bump tallyBlock tbLaunchRefused 1).note (s.srcDuty 2) 278 entry
  let s := match c.arm with
    | some a => (match a.op with | some k => s.done k cState 0 | none => s)
    | none => s
  s.setCtx i (if c.state = 1 ∧ c.marked = false ∧ c.aborted = false then {} else { s.ctx i with arm := none })

/-- A context that is not armed by LAUNCH_FTC − 1 is abandoned: its step is marked for replay, which answers its LAUNCH
RETRY_REPLAY, and the context holds the mark (09 R278, R280). -/
def State.abandonArm (s : State) (i : Nat) : State :=
  ((s.dropResv fun x => decide (x / 2048 = 2 * i + 1)).modCtx i fun c => { c with arm := none }).markCtx i 278 |>.bump
    tallyBlock tbLaunchAbandoned 1

/-- The context is armed, and the LAUNCH is answered DONE. -/
def State.armed (s : State) (i : Nat) (a : Arm) : State :=
  let c := s.ctx i
  let a1 := { a with ready := true, op := none }
  let s := s.setCtx i
    (if c.state = 1 then
      { c with state := 2, arm := some a1, span := a.span, mcastDl := a.mcastDl, digest := a.digest, entries := a.entries,
               args := a.args }
     else { c with arm := some a1 })
  match a.op with
  | some k => (s.bump tallyBlock tbLaunchDone 1).finish k { code := cDone, prog := a.digest }
  | none => s

/-- ARMING_COMPLETE (09 R278): Ladel has read and checked the image, loaded the programs and reserved the slots. -/
def execArmingComplete (ctx : Nat) (s : State) : Host.Outcome State Fault Refusal :=
  s.runDuty 3 (decide (ctx < 16))
    (let c := s.ctx ctx
     match c.arm with
     | none => s
     | some a =>
       let begun := match a.op with
         | some k => (match s.op k with | some o => decide (o.phase = 1) | none => false)
         | none => false
       if a.ready ∨ begun = false then s
       else if a.launch ≤ s.clk.ftc then s.abandonArm ctx
       else match s.imgRegion a.handle c.part with
         | none => s.armFails ctx 0
         | some d =>
           let s := (s.schedCheck a.handle a.ofs d).chargeOp (a.op.getD 0) (granulesIn a.ofs a.length)
           let b := s.rread d a.ofs a.length
           if s.schedOf (hdDesc a.handle) a.ofs ≠ some true ∨ s.schedHdrOk c.part a b = false then s.armFails ctx 0
           else
             let es := shEntries b
             let arg (e : List Byte) : List Byte :=
               if enKind e = 1 ∧ pgArgs e ≠ 0 then sliceBytes b (pgArgs e) 256 else List.replicate 256 0
             let a := { a with span := shSpan b, mcastDl := natAt b 28 4, digest := natAt b 32 16, entries := es,
                               args := es.map arg }
             let progs := es.filter fun e => enKind e = 1
             let w := s.wakeRun (progs.map enTiles).flatten
             if !w.2 then w.1
             else
               let s := progs.foldl (fun s e =>
                 match s.imgRegion (pgImage e) c.part with
                 | some g => s.imgCheck (pgImage e) (pgOfs e) g
                 | none => s) s
               let fresh := if c.state = 1 then s else s.freeSlots c.part c.step
               match s.armEntries ctx c a (s.takenTiles c.part) fresh es 0 with
               | .inl t => t.armed ctx a
               | .inr k => s.armFails ctx k)

/-- ARMING_DEADLINE (09 R265, R278): on the one edge FTC = LAUNCH_FTC − 1. -/
def execArmingDeadline (ctx : Nat) (s : State) : Host.Outcome State Fault Refusal :=
  s.runLive (decide (ctx < 16))
    (match (s.ctx ctx).arm with
     | none => s
     | some a => if a.ready ∨ s.clk.ftc + 1 ≠ a.launch then s else s.abandonArm ctx)

/-! ### The launch edge (09 R279, R280) -/

/-- Loads one spill record on the launch edge; at the spill block its context takes the role (06 R180; 09 R279), a releasing
one once no admitted operation on it remains (06 R186). -/
def State.loadSpill (s : State) (r : List Byte) : State :=
  let s := s.modSch fun h => { h with spills := (s.withSpills [r]).map SpillRec.mk }
  if srSpillEp r = s.blockEp then
    match s.activeDesc (srSpillHandle r) with
    | none => s
    | some d =>
      let ctx := srSpillCtx r
      let old := decide (kcRole (s.kvCtx d ctx) = 3) && (mapFind s.att.cleaned (ctxKey (srSpillHandle r) ctx)).isNone
      if old && s.ctxBusy (hdDesc (srSpillHandle r)) ctx then s
      else (if old then s.cleanCtx d ctx else s).bindSpill d r
  else s

/-- The reservations of the arming run become those of the run. -/
def State.takeResv (s : State) (i : Nat) : State :=
  s.modWsk fun w =>
    { w with
      resv := (w.resv.filter fun p => decide (p.1 / 2048 = 2 * i + 1)).foldl
        (fun m p => mapPut (mapDel m p.1) (p.1 - 2048) p.2) w.resv }

/-- Clears the old run of a step on the launch edge of a new one (09 R280). -/
def State.clearRun (s : State) (i : Nat) : State :=
  let c := s.ctx i
  let tiles := ((c.entries.filter fun e => enKind e = 1).map enTiles).flatten
  (((tiles.foldl State.stopTile s).freeSlots c.part c.step).dropResv fun k => decide (k / 2048 = 2 * i))

/-- LAUNCH_EDGE (09 R279). -/
def execLaunchEdge (ctx : Nat) (s : State) : Host.Outcome State Fault Refusal :=
  s.runLive (decide (ctx < 16))
    (let c := s.ctx ctx
     match c.arm with
     | none => s
     | some a =>
       if a.ready = false ∨ s.clk.ftc ≠ a.launch then s
       else
         let s := if c.state = 3 then s.clearRun ctx else s
         let s := s.modPar fun p => { p with aborted := mapDel p.aborted (c.part * 2 ^ 64 + c.step) }
         let s := (s.takeResv ctx).modSch fun h => { h with edges := mapPut h.edges c.part a.launch }
         let s := ((a.entries.filter fun e => enKind e = 3).map enSpill).foldl
           (fun s r => if s.spillMine r then s.loadSpill r else s) s
         s.setCtx ctx
           { state := 3, part := c.part, step := c.step, launch := a.launch, sched := a.sched, run := (c.run + 1) % 256,
             span := a.span, mcastDl := a.mcastDl, digest := a.digest, entries := a.entries, args := a.args })

/-- No entry before this one in the image has yet to fire on this edge: entries of one edge fire in the order of their
position (09 R279). -/
def State.inTurn (s : State) (ctx entry : Nat) : Bool :=
  let c := s.ctx ctx
  ((c.entries.take entry).zipIdx).all fun p =>
    match enKind p.1 with
    | 1 => decide (c.launch + pgRel p.1 ≠ s.clk.ftc) || c.fired.contains p.2
    | 2 =>
      (match mapFind s.wsk.resv (ctx * 4096 + p.2) with
       | none => true
       | some y => decide (y.decl.map (·.openFtc) ≠ some s.clk.ftc))
    | _ => true

/-- PROGRAM_ENTRY_FIRE (09 R274, R279), on the one edge of its REL. A tile that an attention or update set has taken
since the schedule was armed is started only by the query dispatcher (06 R188). -/
def execProgramEntryFire (ctx entry : Nat) (s : State) : Host.Outcome State Fault Refusal :=
  s.runLive (decide (ctx < 16) && decide (entry < 2048))
    (let c := s.ctx ctx
     match c.entries[entry]? with
     | none => s
     | some e =>
       let t := c.launch + pgRel e
       if c.state ≠ 3 ∨ enKind e ≠ 1 ∨ c.fired.contains entry = true ∨ s.clk.ftc ≠ t ∨ s.inTurn ctx entry = false then s
       else
         let kept := s.setTiles
         let s := s.modCtx ctx fun c => { c with fired := c.fired ++ [entry] }
         ((enTiles e).zipIdx).foldl (fun s p =>
           if kept.contains p.1 then s.note srcHub 150 p.1
           else
             let g := s.giveStart p.1
               { args := c.args.getD entry [], part := c.part, cls := natAt e 12 1 % 64, setpos := p.2,
                 setsize := natAt e 10 2, step := c.step, sched := true, ftc := t }
             if g.2 then g.1 else g.1.note srcHub 150 p.1) s)

/-- SLOT_OPEN_FTC (03 R86; 07 R218), on the one edge of its OPEN_REL: one that fails a check does not open, and its step
is marked. -/
def execSlotOpenFtc (ctx entry : Nat) (s : State) : Host.Outcome State Fault Refusal :=
  s.runLive (decide (ctx < 16) && decide (entry < 2048))
    (let key := ctx * 4096 + entry
     match mapFind s.wsk.resv key with
     | none => s
     | some y =>
       let d := (y.decl.map (·.openFtc)).getD 0
       let feeder := (y.decl.map (·.feeder)).getD false
       if s.clk.ftc ≠ d ∨ s.inTurn ctx entry = false then s
       else
         let fails := match s.openVerdict y with
           | some _ => some (86, 0)
           | none => if feeder then none else (s.checkLogOpen y).map fun c => (218, c.1)
         match fails with
         | some (rule, check) =>
           ((s.dropResv fun k => k = key).note (0x0100 + y.q0) rule check).mark y.part y.step rule
         | none =>
           let s := (s.modWsk fun w => { w with resv := mapDel w.resv key }).setSlotRec { y with seed := s.partSeed y.part }
           if feeder then s else s.claimPages y)

/-- CONTEXT_END (09 R279). -/
def execContextEnd (ctx : Nat) (s : State) : Host.Outcome State Fault Refusal :=
  s.runLive (decide (ctx < 16))
    (let c := s.ctx ctx
     let progs := c.entries.filter fun e => enKind e = 1
     let idle := progs.all fun e => (enTiles e).all fun t =>
       decide ((s.tile t).c.state ≠ 3) && (s.tile t).c.start.isNone
     let slots := s.wsk.slots.all fun p =>
       match p.2.decl with
       | some d => decide (d.ctx ≠ ctx) || decide (p.2.step ≠ c.step) || decide (3 ≤ p.2.state)
       | none => true
     let resv := s.wsk.resv.all fun p => decide (p.1 / 4096 ≠ ctx)
     if c.state = 3 ∧ c.arm.isNone ∧ c.launch + c.span ≤ s.clk.ftc ∧ c.fired.length = progs.length ∧ idle = true ∧
         slots = true ∧ resv = true ∧ (c.commitEntry.isNone ∨ c.committed ∨ c.aborted) then s.setCtx ctx {}
     else s)

/-! ### Digest passes (09 R294) -/

/-- The ranges of its region that an admitted write touches, as far as its admission shows. -/
def State.touches (s : State) (h : List Byte) : List (Nat × Nat) :=
  let d := s.descOf (hdDesc (hHandle h))
  match hOp h with
  | 0x02 => [(hOfs h, hLen h)]
  | 0x12 =>
    (match s.slotAt (slotKey (hPart h) (hArg h 40 4)) with
     | none => []
     | some x =>
       (x.ofs, x.length) :: if d.kind = kLog then [(lgEntryOfs (s.logHdr d) x.step, 0x2000)] else [])
  | 0x20 => s.kvTouches d h
  | _ => []

/-- An admitted write marks the leaves that it touches as dirty. -/
def State.markTouched (s : State) (ord : Nat) (h : List Byte) : State :=
  let desc := hdDesc (hHandle h)
  if (s.descOf desc).kind = kParam then s
  else (s.touches h).foldl (fun s q => s.dirtyFrom desc (s.descOf desc) ord q.1 q.2) s

/-- Outcomes whose digests no longer wait are answered. -/
def State.digestsReady (s : State) : State :=
  s.frm.ops.foldl (fun s p =>
    match p.2.wait with
    | some f => s.finish p.1 f
    | none => s) s

/-- REHASH_PASS (09 R293, R294): the digest engines have read and hashed every dirty leaf. A leaf that an admitted write
has yet to change stays dirty; ROOT is replaced where none is left. PARAM regions rehash at a fold. The engines' reads
are background work, at the lowest stack priority: they reach the pools as granule requests of that origin. -/
def execRehashPass (desc : Nat) (s : State) : Host.Outcome State Fault Refusal :=
  s.runLive (decide (desc < 16384))
    (let d := s.descOf desc
     if d.digest = false ∨ d.kind = kParam ∨ (d.state ≠ 1 ∧ d.state ≠ 2) ∨ s.dirtyCount desc = 0 then s
     else
       let leaves := (s.rgn.dirty.filter fun p => decide (p.1 / 2 ^ 20 = desc)).map fun p => p.1 % 2 ^ 20
       let s := (s.leavesHashed d leaves).modRgn fun g =>
         { g with dirty := g.dirty.filter fun p => decide (p.1 / 2 ^ 20 ≠ desc) }
       let s := (s.frm.ops.filter fun p => decide (p.2.region = some desc)).foldl
         (fun s p => s.markTouched p.2.ord p.2.hdr) s
       let r := s.rangeRoot d
       let s := if s.dirtyCount desc = 0 then
           s.modRgn fun g => { g with desc := mapMod g.desc desc fun x => { x with root := r } }
         else s
       s.digestsReady)

end Sys2Proof.Machine
end

