-- ==== Sys2Proof/Machine/Ingress.lean ====
section
/-! DEFINITION. Ingress (02 R38, R58 to R65): cells, steps 1 to 10 of a header cell, reassembly and its timeouts, the done
table's acceptance, and the READ and WRITE operations. -/

namespace Sys2Proof.Machine

/-! ### Step 1: the cell (02 R40, R59) -/

/-- The prefix of a cell is invalid. -/
def pfxBad (c : List Byte) : Bool :=
  let k := pfxKind c
  k = 0 || decide (6 < k) || decide (pfxRsv c ≠ 0) || (decide (k % 2 = 1) && decide (pfxIndex c ≠ 0)) ||
    (decide (k % 2 = 0) && decide (pfxIndex c = 0)) || decide (pfxCount c = 0) || decide (pfxCount c ≤ pfxIndex c)

/-- The cell's CCRC fails. -/
def ccrcBad (c : List Byte) : Bool := decide (crc32c (c.take 252) ≠ natAt c 252 4)

/-- The header of a header cell, and its HCRC. -/
def cellHdr (c : List Byte) : List Byte := sliceBytes c 12 64
def hcrcBad (h : List Byte) : Bool := decide (crc32c (h.take 60) ≠ natAt h 60 4)

/-! ### Step 5: the sequence (02 R60) -/

/-- How step 5 classifies a sequence number. -/
inductive SeqClass where
  | out | violation | takeover | fresh | progress | dup | attempt
  deriving DecidableEq, Repr

/-- The numbers after HIGH up to n. -/
def newNumbers (high n : Nat) : List Nat :=
  (List.range ((n + 2 ^ 32 - high) % 2 ^ 32)).map fun i => (high + 1 + i) % 2 ^ 32

def State.classify (s : State) (r n att : Nat) : SeqClass :=
  let x := s.summary r
  if later 32 n ((x.high + 64) % 2 ^ 32) || !later 32 n ((x.high + 2 ^ 32 - 64) % 2 ^ 32) then .out
  else if later 32 n x.high then
    if (newNumbers x.high n).any fun m => decide (x.slots.getD (m % 64) 0 = 1) then .violation else .takeover
  else match x.slots.getD (n % 64) 0 with
    | 0 => .fresh
    | 1 => .progress
    | 2 => .dup
    | _ => if (s.doneView r (n % 64)).attempt < att then .attempt else .dup

/-- HIGH becomes n, and the slots taken over become FREE (02 R60). -/
def State.takeOver (s : State) (r n : Nat) : State :=
  let x := s.summary r
  s.setSummary r { high := n, slots := (newNumbers x.high n).foldl (fun l m => l.set (m % 64) 0) x.slots }

/-! ### Step 6: the format (02 R44, R48, R59) -/

/-- The operand bytes that an opcode does not use (02 R48). -/
def unusedBytes (op : Nat) : List Nat :=
  let span (a b : Nat) := (List.range (b + 1 - a)).map (a + ·)
  match op with
  | 0x10 => span 37 39 ++ span 52 59
  | 0x11 => span 38 39 ++ span 56 59
  | 0x12 => span 36 39 ++ span 52 59
  | 0x18 => span 36 39 ++ span 52 59
  | 0x20 => span 37 37 ++ span 56 59
  | 0x21 => span 56 59
  | 0x28 => span 37 39 ++ span 55 59
  | 0x30 => span 39 39 ++ span 52 59
  | 0x31 => span 38 39 ++ span 56 59
  | 0x38 => span 36 39
  | 0x3F => span 44 59
  | _ => span 36 59

/-- The opcodes of this version (02 R48). -/
def opKnown (op : Nat) : Bool :=
  [0x01, 0x02, 0x10, 0x11, 0x12, 0x18, 0x20, 0x21, 0x28, 0x30, 0x31, 0x38, 0x3F].contains op

/-- DTYPE codes of 02 R47. -/
def dtypeKnown (d : Nat) : Bool := (1 ≤ d && d ≤ 0x0C) || d = 0x20 || d = 0x21

/-- HEADDIM of the attention opcodes (06 R183). -/
def headDimOk (d : Nat) : Bool := d = 64 || d = 128 || d = 256
def kvW (dtype : Nat) : Nat := if dtype ≤ 2 then 1 else 2

/-- The faults of an opcode's operands: whether each is present, and the AUX that it counts at. -/
def opFaults (h : List Byte) : List (Bool × Nat) :=
  let len := hLen h
  let dt := hArg h 36 1
  match hOp h with
  | 0x01 => [(len < 4 || 8388608 < len || len % 4 ≠ 0, 12), (hOfs h % 4 ≠ 0, 27)]
  | 0x02 => [(len < 4 || 524288 < len || len % 4 ≠ 0, 12), (hOfs h % 4 ≠ 0, 27)]
  | 0x10 =>
    [(len < 4 || 524288 < len || (dtypeKnown dt && dt ≠ 0x20 && (accumCount dt len).isNone), 12), (!dtypeKnown dt, 36)]
  | 0x11 =>
    [(len = 0 || (odOk dt && (len % odBytes dt ≠ 0 || 2 ^ 28 < len / odBytes dt)), 12), (!odOk dt, 36),
     (1 < hArg h 37 1 || (dt = 0x0C && hArg h 37 1 ≠ 0), 37)]
  | 0x12 => [(len ≠ 0, 12), (hOfs h ≠ 0, 27)]
  | 0x18 => [(1023 < hArg h 40 4, 40)]
  | 0x20 =>
    let ok := 1 ≤ dt && dt ≤ 4
    let tok := hArg h 48 4
    let n := hArg h 52 4
    [(524288 < len || (ok && len ≠ n * 2 * hArg h 46 2 * kvW dt), 12), (hOfs h ≠ 0, 27),
     (!ok, 36), (!headDimOk (hArg h 46 2), 46), (4096 < tok % 4096 + n || 4194304 < tok + n, 48), (n = 0, 52)]
  | 0x21 =>
    let ok := dt = 1 || dt = 3 || dt = 4
    let nq := hArg h 37 1
    let tok := hArg h 48 4
    [(ok && len ≠ nq * hArg h 46 2 * kvW dt, 12), (hOfs h ≠ 0, 27),
     (!ok, 36), (nq = 0 || 16 < nq, 37), (!headDimOk (hArg h 46 2), 46), (tok = 0 || 4194304 < tok, 48),
     (bits (hArg h 52 4) 30 23 = 255, 52)]
  | 0x28 => [(hArg h 40 4 / 256 ≠ 0, 40)]
  | 0x30 =>
    [(len ≠ 0, 12), (hArg h 36 3 / 2 ^ 17 ≠ 0, 36), (hArg h 40 4 = 0 || 2 ^ 31 ≤ hArg h 40 4, 40)]
  | 0x31 => [(len ≠ 0, 12)]
  | 0x38 => [(len < 128 || len % 64 ≠ 0, 12), (hOfs h % 64 ≠ 0, 27)]
  | 0x3F => [(65536 < len, 12), (dt = 0 || 4 < dt, 36)]
  | _ => []

/-- Step 6: the lowest offset among the faults, where there is one. -/
def State.formatFault (s : State) (h : List Byte) (req seq att count : Nat) : Option Nat :=
  let known := opKnown (hOp h)
  let s0 := s.egressQ (hClass h) = 0 && decide (s.param 0x5000 5 < max count (respCells h))
  let faults : List (Bool × Nat) :=
    [(!known, 0), (hAtt h ≠ att, 1), (hVer h ≠ 3 || natAt h 3 1 % 16 ≠ 0, 3),
     (hReq h ≠ req || natAt h 4 4 % 4096 ≠ 0, 4), (hSeq h ≠ seq, 8),
     (known && count ≠ cellCount (hPayload h), 12), (s0, 12), (hFlags h / 4 ≠ 0, 32)] ++
    (if known then (unusedBytes (hOp h)).map (fun i => (decide (natAt h i 1 ≠ 0), i)) else []) ++ opFaults h
  ((faults.filter (·.1)).map Prod.snd).min?

/-! ### Steps 8 and 9 -/

/-- R27 for a region, the role of a LOG region included: a mirror takes READ from anyone and WRITE from its peer alone
(07 R219). -/
def State.permits (s : State) (op req : Nat) (d : Desc) : Bool :=
  if d.kind = kLog then
    let h := s.logHdr d
    if lgRole h = 2 then op = opRead || (op = opWrite && decide (lgPeerEp h = req)) else kindPermits op d.kind
  else kindPermits op d.kind

/-- Checks 2 to 7 of 01 R28. -/
def State.checkAddress (s : State) (h : List Byte) (req : Nat) : Option (Nat × Nat) :=
  let op := hOp h
  if !bit (s.classParam (hClass h) 1) (hPart h) then some (cPartition, 2)
  else if op = opMgmt then (if s.isMgmtEp req then none else some (cPartition, 7))
  else if op = opSync ∨ op = opBarrier then none
  else
    let span :=
      if op = opAccum then (hOfs h, s.accumSpan h)
      else if op = opRedClose ∨ op = opKvAppend ∨ op = opAttnQuery then (0, 0)
      else (hOfs h, hLen h)
    s.addrCheck (hPart h) (hClass h) (hHandle h) span.1 span.2 (s.permits op req) (opWrites op)

/-- READ and WRITE of a PARAM region stay within its pages, and WRITE finds it IDLE (07 R212, R214). -/
def State.checkPages (s : State) (h : List Byte) : Option Nat :=
  let d := s.descOf (hdDesc (hHandle h))
  if d.kind = kParam then
    let p := s.prmHdr d
    if prmPages p * prmPageBytes p < hOfs h + hLen h ∨ (hOp h = opWrite ∧ prmState p ≠ 0) then some cState else none
  else none

/-- Admitted MGMT frames (15 R433). -/
def State.mgmtQueued (s : State) : Nat := (s.frm.ops.filter fun p => decide (p.2.opcode = opMgmt)).length

/-- Step 9: the code and AUX with which the opcode's chapter refuses the frame. -/
def State.checkState (s : State) (h : List Byte) : Option (Nat × Nat) :=
  let foreign := decide (hOp h = opBarrier) && s.barForeign h
  let marked := match hStep? h with
    | some st => decide (hOp h ≠ opLaunch) && (s.isMarked (hPart h) st || s.lateVote h)
    | none => false
  if foreign then some (cState, 0)
  else if marked then some (cReplay, (hStep? h).getD 0 % 2 ^ 32)
  else
    (match hOp h with
     | 0x01 | 0x02 => s.checkPages h
     | 0x10 => s.checkAccum h
     | 0x11 => s.checkRedOpen h
     | 0x12 => s.checkRedClose h
     | 0x18 => s.checkMcast h
     | 0x20 => s.checkKvAppend h
     | 0x21 => s.checkAttn h
     | 0x28 => s.checkOptStep h
     | 0x30 => s.checkSync h
     | 0x31 => s.checkBarrier h
     | 0x38 => s.checkLaunch h
     | _ => if 64 ≤ s.mgmtQueued then some cCapacity else none).map
      fun c => (c, if c = cReplay then (hStep? h).getD 0 % 2 ^ 32 else 0)

/-- What a refusal at step 9 leaves: a SYNC that its target refuses is counted there, or logged where its address names no
counter (01 R32; 08 R264); a resent LAUNCH whose edge has passed marks its step (09 R281). -/
def State.noteRefused (s : State) (h : List Byte) (code : Nat) : State :=
  if hOp h = opSync ∧ code = cState then s.refusedSig (hArg h 36 3)
  else if hOp h = opLaunch ∧ code = cReplay then s.mark (hPart h) ((hStep? h).getD 0) 281
  else s

/-! ### Decisions other than admission (02 R61, R66, R70) -/

/-- The answer that a decision at steps 3 to 9 sends on the port of the header cell (02 R504). -/
def State.portResp (s : State) (p req seq att : Nat) (h : List Byte) (code orig aux : Nat) : Resp :=
  { req := req, seq := seq, att := att, op := hOp h % 128 + 128, code := code, orig := orig, aux := aux % 2 ^ 32,
    epoch := s.epoch 86, source := 0x0200 + p, cls := hClass h, eq := s.egressQ (hClass h), ftc := s.clk.ftc }

/-- Frees what is parked under a key and drops its later cells for the reassembly timeout; the key of a frame that is
admitted and not completed keeps its cells (02 R61). -/
def State.closeKey (s : State) (req seq att : Nat) : State :=
  let k := raKey req seq att
  let live := match s.op (opKey req seq) with
    | some o => decide (o.att = att)
    | none => false
  if live then s
  else (s.freeKey k).modFrm fun f => { f with late := mapPut f.late k s.clk.now }

/-- A decision that records nothing. -/
def State.answer (s : State) (p req seq att : Nat) (h : List Byte) (code orig aux : Nat) : State :=
  (s.stage p (s.portResp p req seq att h code orig aux)).closeKey req seq att

/-- A refusal at steps 6 to 9: the slot becomes REFUSED and the answer waits for its entry (02 R66, R67, R71). -/
def State.refuse (s : State) (p r req seq att : Nat) (h : List Byte) (code aux : Nat) : State :=
  let x := s.portResp p req seq att h code 0 aux
  let e : DoneEntry := { seq := seq, state := 3, attempt := att, code := code, opcode := hOp h, aux := aux % 2 ^ 32 }
  ((s.setSlot r seq 3).issueDone r (seq % 64) (hClass h) e (some ({ x with home := some (r, seq % 64) }, p))).closeKey req seq att

/-- The original response of a recorded operation had a payload or a digest (02 R68, R70). -/
def hadMore (h : List Byte) (e : DoneEntry) : Bool :=
  (hDigest h && e.code = 0) ||
    (match e.opcode with
     | 0x01 => e.code = 0 || e.code = cUncorrectable || e.code = cPoison
     | 0x21 => e.code = 0
     | 0x3F => e.code = 0 && (hArg h 36 1 = 1 || hArg h 36 1 = 3) && decide (e.aux ≠ 0)
     | _ => false)

/-- DUP_ANSWERED (02 R70). -/
def State.dupAnswer (s : State) (p r req seq att : Nat) (h : List Byte) : State :=
  let e := s.doneView r (seq % 64)
  let held := if e.held then s.frm.holds.find? fun x => decide (x.resp.req = req) && decide (x.resp.seq = seq) else none
  let x := s.portResp p req seq att h cDupAnswered e.code e.aux
  let x := match held with
    | some g => { x with digest := g.resp.digest, payload := g.resp.payload }
    | none => { x with notHeld := hadMore h e }
  let s := s.chargeClass (hClass h) (64 + match held with
    | some g => 256 * g.cells
    | none => 0)
  ((s.stage p x).portBump p 5 1 none).closeKey req seq att

/-! ### Step 10: admission -/

/-- The region that OUTSTANDING counts an operation on. -/
def opRegion (h : List Byte) : Option Nat :=
  if hOp h = opSync ∨ hOp h = opBarrier ∨ hOp h = opMgmt then none else some (hdDesc (hHandle h))

/-- The lower numbers of a requester that are OPEN (02 R45). -/
def State.openBelow (s : State) (r seq : Nat) : List Nat :=
  let x := s.summary r
  ((List.range 64).map fun i => (seq + 2 ^ 32 - 1 - i) % 2 ^ 32).filter fun m =>
    later 32 m ((x.high + 2 ^ 32 - 64) % 2 ^ 32) && decide (x.slots.getD (m % 64) 0 = 1) && !later 32 m x.high

/-- What admission does in the unit of the opcode. -/
def State.admitUnit (s : State) (k : Nat) (h : List Byte) : State :=
  match hOp h with
  | 0x10 => s.admitAccum k h
  | 0x11 => s.admitRedOpen h
  | 0x12 => s.admitRedClose k h
  | 0x20 => s.admitKvAppend k h
  | 0x21 => s.admitAttn k h
  | 0x28 => s.admitOptStep h
  | 0x38 => s.admitLaunch k h
  | _ => s

/-- Parks a cell under a key (02 R38). -/
def State.park (s : State) (p k : Nat) (c : List Byte) : State :=
  let x := mapGet { first := s.clk.now } s.frm.reasm k
  let s := s.modFrm fun f =>
    { f with
      reasm := mapPut f.reasm k { x with cells := mapPut x.cells (pfxIndex c) ⟨p, c, f.order⟩ }, order := f.order + 1 }
  s.modPort p fun y => { y with held := y.held + 1 }

/-- Step 10: the slot becomes OPEN, its entry is written, OUTSTANDING goes up, and the operation stands admitted with
what its class gives it (02 R59; 10 R300). -/
def State.admitAt (s : State) (p r req seq att : Nat) (h c : List Byte) (yellow : Bool) : State :=
  let k := opKey req seq
  let below := if hOrdered h then s.openBelow r seq else []
  let s := (s.park p (raKey req seq att) c).setSlot r seq 1
  let s := s.issueDone r (seq % 64) (hClass h) { seq := seq, state := 1, attempt := att, opcode := hOp h } none
  let cls := hClass h
  let o : OpRec :=
    { req := req, seq := seq, att := att, port := p, r := r, hdr := h, yellow := yellow, ord := s.frm.order,
      adm := s.clk.now, admFtc := s.clk.ftc, last := s.clk.now,
      waits := if below.isEmpty then [] else below ++ [seq], region := opRegion h, eq := s.egressQ cls,
      level := s.classParam cls 3, prio := s.classParam cls 4, target := s.classParam cls 10 }
  let s := s.modFrm fun f =>
    { f with
      ops := mapPut f.ops k o, order := f.order + 1,
      reasm := mapMod f.reasm (raKey req seq att) fun x => { x with admitted := true, admOrder := f.order } }
  let s := match opRegion h with
    | some d => s.modRgn fun g =>
        { g with desc := mapMod g.desc d fun (x : Desc) => { x with outstanding := x.outstanding + 1 } }
    | none => s
  let s := (s.admitUnit k h).markTouched o.ord h
  s.modFrm fun f => { f with ops := mapMod f.ops k fun (x : OpRec) => { x with quad := s.quadOf h } }

/-! ### Steps 3 to 10 of a header cell -/

/-- Steps 6 to 10 for a fresh number or a new attempt. -/
def State.judge (s : State) (p r req seq att : Nat) (h c : List Byte) (colour : Nat) : State :=
  match s.formatFault h req seq att (pfxCount c) with
  | some aux => s.refuse p r req seq att h cFormat aux
  | none =>
    if colour = 2 then s.refuse p r req seq att h cRed 0
    else match s.checkAddress h req with
      | some (code, aux) => s.refuse p r req seq att h code aux
      | none =>
        match s.checkState h with
        | some (code, aux) => (s.noteRefused h code).refuse p r req seq att h code aux
        | none => s.admitAt p r req seq att h c (colour = 1)

/-- Check 1 of 01 R28: REQ_TABLE binds the requester to the partition, or as a peer; a query of a spill block's home comes
under the partition of HOME_HANDLE (06 R199). -/
def State.bindsPart (s : State) (r req : Nat) (h : List Byte) : Bool :=
  let home := if hOp h = opAttnQuery then
      (s.sch.spills.map (·.bytes)).find? fun x =>
        decide (srSpillEp x = s.blockEp ∧ srHomeEp x = req ∧ srSpillHandle x = hHandle h)
    else none
  match home with
  | some x => decide (hdPart (srHomeHandle x) = hPart h)
  | none => rqPeer (s.reqEntry r) || decide (rqPart (s.reqEntry r) = hPart h)

/-- Steps 4 to 10 of a header cell whose colour is known: the requester, the sequence, and what follows (02 R59). -/
def State.decideHeader (s : State) (p : Nat) (c : List Byte) (colour : Nat) : State :=
  let h := cellHdr c
  let req := pfxReq c
  let seq := pfxSeq c
  let att := pfxAtt c
  match s.findReq req with
  | none => s.answer p req seq att h cPartition 0 1
  | some r =>
    if !s.bindsPart r req h then s.answer p req seq att h cPartition 0 1
    else match s.classify r seq att with
      | .out | .violation => (s.answer p req seq att h cSequence 0 (s.summary r).high).portBump p 6 1 none
      | .progress => (s.answer p req seq att h cDupInProgress 0 0).portBump p 4 1 none
      | .dup => s.dupAnswer p r req seq att h
      | .takeover => (s.takeOver r seq).judge p r req seq att h c colour
      | .fresh | .attempt => s.judge p r req seq att h c colour

/-- Steps 3 to 10 of 02 R59 for a header cell that passed steps 1 and 2. -/
def State.headerCell (s : State) (p : Nat) (c : List Byte) : State :=
  let w := (s.portBump p 0 1 none).paint p (hClass (cellHdr c)) (chargeBytes (cellHdr c) (pfxCount c))
  w.1.decideHeader p c w.2

/-! ### Reassembly (02 R38, R64) -/

/-- Every cell of a frame whose header is admitted is present. -/
def Reasm.whole (x : Reasm) : Bool :=
  match mapFind x.cells 0 with
  | some c => x.holds (cellCount (hPayload (cellHdr c.cell)))
  | none => false

/-- Cells that a key holds on a port. -/
def Reasm.onPort (x : Reasm) (p : Nat) : Nat := (x.cells.filter fun c => decide (c.2.port = p)).length

/-- Ends an incomplete frame: RETRY_INCOMPLETE with the cells received where its header was admitted, a silent free
otherwise (02 R64). -/
def State.giveUp (s : State) (k : Nat) (x : Reasm) : State :=
  match s.op (k / 16) with
  | some o =>
    if o.att = k % 16 ∧ x.admitted = true then
      s.finish o.key { code := cIncomplete, aux := x.cells.length, reset := some (0x0200 + o.port, 86) }
    else s.freeKey k
  | none => s.freeKey k

/-- The place in the order of arrivals of the first cell that a key holds on a port. -/
def Reasm.firstOn (x : Reasm) (p : Nat) : Nat :=
  (((x.cells.filter fun c => decide (c.2.port = p)).map fun c => c.2.ord).min?).getD 0

/-- The incomplete frame that a full port discards: the one whose header was admitted last, else the one whose first
cell arrived last on the port (02 R64). -/
def State.victim (s : State) (p : Nat) : Option (Nat × Reasm) :=
  let l := s.frm.reasm.filter fun x => !x.2.whole && decide (0 < x.2.onPort p)
  match (sortBy (fun x => x.2.admOrder) (l.filter fun x => x.2.admitted)).getLast? with
  | some x => some x
  | none => (sortBy (fun x => x.2.firstOn p) l).getLast?

/-- A port all of whose credits are held by cells of incomplete frames discards one (02 R64). -/
def State.relieve (s : State) (p : Nat) : State :=
  let n := ((s.frm.reasm.filter fun x => !x.2.whole).map fun x => x.2.onPort p).foldl (· + ·) 0
  if n < 3072 then s
  else match s.victim p with
    | some (k, x) => (s.giveUp k x).portBump p 8 1 none
    | none => s

/-- A payload cell that passed step 1 (02 R38). -/
def State.payloadCell (s : State) (p : Nat) (c : List Byte) : State :=
  let k := raKey (pfxReq c) (pfxSeq c) (pfxAtt c)
  let dup := match mapFind s.frm.reasm k with
    | some x => (mapFind x.cells (pfxIndex c)).isSome
    | none => false
  if dup then s.portBump p 4 1 none
  else
    let s := s.park p k c
    let s := match s.op (opKey (pfxReq c) (pfxSeq c)) with
      | some o => if o.att = pfxAtt c ∧ pfxIndex c < cellCount (hPayload o.hdr) then s.setOp o.key { o with last := s.clk.now } else s
      | none => s
    s.relieve p

/-- Later cells of a decided key are dropped (02 R61). -/
def State.isLate (s : State) (k : Nat) : Bool :=
  match mapFind s.frm.late k with
  | some t => !s.since t (usR (s.param 0x5100 2))
  | none => false

/-- INGRESS_CELL (02 R37, R38, R59): a cell without credit, with a failing CCRC or an invalid prefix is dropped and
counted; answers to frames of the block (KIND 3 to 6) are taken by their own commands. -/
def execIngressCell (port : Nat) (cell : List Byte) (s : State) : Host.Outcome State Fault Refusal :=
  s.runLive (decide (port < s.build.A) && decide (cell.length = 256))
    (if s.credits port = 0 then s.portBump port 2 1 none
     else
       let s := (s.wakeDom (72 + port / 4)).wakeDom 86
       if ccrcBad cell then s.portBump port 1 1 none
       else if pfxBad cell then s.portBump port 3 1 none
       else if 3 ≤ pfxKind cell ∨ s.isLate (raKey (pfxReq cell) (pfxSeq cell) (pfxAtt cell)) = true then s
       else if pfxKind cell = 2 then s.payloadCell port cell
       else if hcrcBad (cellHdr cell) then s.portBump port 1 1 none
       else (s.headerCell port cell).relieve port)

/-- REASSEMBLY_TIMEOUT (02 R64). -/
def execReassemblyTimeout (req seq att : Nat) (s : State) : Host.Outcome State Fault Refusal :=
  s.runLive (decide (req < 2 ^ 20) && decide (seq < 2 ^ 32) && decide (att < 16))
    (match mapFind s.frm.reasm (raKey req seq att) with
     | none => s
     | some x =>
       if x.whole || !s.since x.first (usR (s.param 0x5100 2)) then s
       else
         let p := match x.cells with | c :: _ => c.2.port | [] => 0
         (s.giveUp (raKey req seq att) x).portBump p 7 1 none)

/-- LATE_CELL_WINDOW_END (02 R61). -/
def execLateCellWindowEnd (req seq att : Nat) (s : State) : Host.Outcome State Fault Refusal :=
  s.runLive (decide (req < 2 ^ 20) && decide (seq < 2 ^ 32) && decide (att < 16))
    (let k := raKey req seq att
     match mapFind s.frm.late k with
     | none => s
     | some t =>
       if s.since t (usR (s.param 0x5100 2)) then s.modFrm fun f => { f with late := mapDel f.late k } else s)

/-- ORDERED_RELEASE (02 R45): every lower number that was OPEN at admission has left OPEN, and execution begins. -/
def execOrderedRelease (req seq : Nat) (s : State) : Host.Outcome State Fault Refusal :=
  s.runLive (decide (req < 2 ^ 20) && decide (seq < 2 ^ 32))
    (match s.op (opKey req seq) with
     | none => s
     | some o =>
       if o.waits = [seq] then
         s.setOp o.key { o with waits := [], sub := if s.opWhole o then s.clk.now - o.last else o.sub }
       else s)

/-- HOLD_TIME_END (02 R69): the cells of the held response are free and HELD returns to 0. -/
def execHoldTimeEnd (req seq : Nat) (s : State) : Host.Outcome State Fault Refusal :=
  s.runLive (decide (req < 2 ^ 20) && decide (seq < 2 ^ 32))
    (match s.frm.holds.find? fun g => decide (g.resp.req = req) && decide (g.resp.seq = seq) with
     | none => s
     | some g =>
       match g.left with
       | none => s
       | some t =>
         if s.since t (usR (s.param 0x5100 1)) then
           let s := s.modFrm fun f => { f with holds := f.holds.erase g }
           let e := s.doneView g.r g.slot
           if e.seq = seq ∧ e.held = true then
             s.issueDone g.r g.slot g.resp.cls { e with held := false, hold := 0 } none
           else s
         else s)

/-! ### READ and WRITE (02 R48, R56) -/

/-- READ (02 R48, R56): the range, failing granules as zeros, with the code and index of the lowest-addressed one; where a
table that resolves the range fails, that failure and zeros (12 R365), with AUX 0xFFFFFFFF, which no granule of the
range has as its index (DESIGN CHOICE, log 107). -/
def execRead (req seq : Nat) (s : State) : Host.Outcome State Fault Refusal :=
  s.runLive (decide (req < 2 ^ 20) && decide (seq < 2 ^ 32))
    (match s.ready req seq opRead with
     | none => s.wakeFor req seq opRead
     | some o =>
       let h := o.hdr
       let d := s.descOf (hdDesc (hHandle h))
       let s := s.rheal d (hOfs h) (hLen h)
       let s := s.chargeOp o.key (granulesIn (hOfs h) (hLen h) + s.tableGranules d (hOfs h) (hLen h))
       let b := s.rreadFor o d (hOfs h) (hLen h)
       match s.tablesFail d (hOfs h) (hLen h), s.rreadFail o d (hOfs h) (hLen h) with
       | some g, _ => s.finish o.key { code := s.failAt o g, aux := 2 ^ 32 - 1, payload := List.replicate (hLen h) 0 }
       | none, some (code, i) => s.finish o.key { code := code, aux := i, payload := b }
       | none, none => s.finish o.key { code := cDone, payload := b })

/-- Images that a write of a CODE region changes are no longer what LIB_INSTALL or a hash check found there. -/
def State.forgetImages (s : State) (desc ofs len : Nat) : State :=
  s.modRgn fun r =>
    { r with libs := r.libs.filter fun l => !(decide (l.1 = desc) && overlaps ofs len l.2.1 (Config.libImage l.2.2).length) }

/-- WRITE (02 R48; 07 R214; 12 R365): the payload into the range, both copies of a mirrored region; nothing where a table
that resolves the range fails, with AUX 0xFFFFFFFF (DESIGN CHOICE, log 107). -/
def execWrite (req seq : Nat) (s : State) : Host.Outcome State Fault Refusal :=
  s.runLive (decide (req < 2 ^ 20) && decide (seq < 2 ^ 32))
    (match s.ready req seq opWrite with
     | none => s.wakeFor req seq opWrite
     | some o =>
       let h := o.hdr
       let desc := hdDesc (hHandle h)
       let d := s.descOf desc
       let s := if d.mirror then s.healMap d (hOfs h) (hLen h) else s
       let bad := s.rwriteFail d (hOfs h) (hLen h)
       let p := s.opPayload o
       let t := (s.rwrite (hHandle h) (hOfs h) p false)
       let t := if d.kind = kCode then t.forgetImages desc (hOfs h) (hLen h) else t
       let t := t.chargeOp o.key ((if d.mirror then 2 else 1) * writtenIn (hOfs h) (hLen h) + s.tableGranules d (hOfs h) (hLen h))
       match s.tablesFail d (hOfs h) (hLen h), bad with
       | some g, _ => s.done o.key (s.failAt o g) (2 ^ 32 - 1)
       | none, some g => t.done o.key (s.failAt o g) (s.failIndex d (hOfs h) (hLen h) g)
       | none, none => t.done o.key cDone 0)

end Sys2Proof.Machine
end

