-- ==== Sys2Proof/Machine/Values.lean ====
section
/-! DEFINITION. The values that objects may hold: fields of control words, bounds that depend on the build, and reserved
bits (00 R7; 15 R437; 16 R454; 17 R468, R475). -/

namespace Sys2Proof.Machine

/-! ### Control words of counters and sampling -/

/-- Entries of the tally set of a unit (17 R470). -/
def Build.tallyCount (b : Build) (d : Nat) : Nat :=
  if d < 64 then 42 else if d < 72 then 2307 else if d < 80 then 68 else if d < 84 then 16
  else if d = tallyBlock then 61 else 3 * b.A + 4

/-- Level and magnitude events of a unit kind (17 R469). -/
def ctrLevels (d : Nat) : Nat := if d < 64 then 4 else if d < 72 then 7 else if d < 80 then 17 else 2
def ctrMags (d : Nat) : Nat := if d < 64 then 3 else if d < 72 then 1 else if d < 80 then 2 else 1

/-- A control word selects an event that the unit kind has, in a mode that fits it, with no reserved bit (17 R468, R469). -/
def ctrWordOk (b : Build) (d w : Nat) : Bool :=
  let e := bits w 63 50
  let m := bits w 49 48
  let level := decide (0x2000 ≤ e ∧ e < 0x2000 + ctrLevels d)
  let mag := decide (0x3000 ≤ e ∧ e < 0x3000 + ctrMags d)
  decide (bits w 39 32 = 0) && (e = 0 || decide (e ≤ b.tallyCount d) || level || mag) &&
    (m = 0 || (m = 1 && level) || (m = 2 && mag))

/-- A word of SAMPLE_CTL within its ranges. -/
def sampleWordOk (w : Nat) : Bool :=
  decide (bits w 6 0 = 0) && decide (bits w 63 56 ≤ 4) &&
    (!bit w 15 || (decide (1 ≤ bits w 63 56) && decide (1 ≤ bits w 55 32)))

/-! ### Bounds and reserved bits -/

/-- The lock domains (15 R435). -/
def lockDomains : List Nat := [2, 3, 4, 5, 6, 7, 8, 0xC, 0xD]

/-- A word of PATGEN_CTL (13 R382). -/
def patgenOk (w : Nat) : Bool :=
  decide (bits w 63 60 ≤ 6) && decide (bits w 59 58 ≠ 3) && decide (bits w 55 33 ≠ 0) &&
    (decide (bits w 63 60 = 0) || decide (bits w 32 16 ≠ 0))

/-- A word of SWEEP_CTL (13 R383). -/
def sweepOk (w : Nat) : Bool :=
  decide (bits w 61 56 ≤ bits w 55 50) && decide (bits w 49 46 ≠ 0) && decide (bits w 45 30 ≠ 0) && decide (bits w 28 0 = 0)

/-- A word of CMP_CTL (13 R384). -/
def cmpOk (w : Nat) : Bool := decide (bits w 63 62 ≠ 3) && decide (bits w 60 0 = 0)

/-- Bounds of a scalar that the table of objects does not carry: fields of control words, and limits of this build. -/
def State.wordOk (s : State) (o : Obj) (idx v : Nat) : Bool :=
  match o.base, o.sub with
  | 0x4000, 10 => patgenOk v
  | 0x4000, 11 => sweepOk v
  | 0x4000, 12 => cmpOk v
  | 0x2E00, 1 | 0x2E00, 2 | 0x2E00, 3 => lockDomains.contains v
  | 0x3000, 7 => decide (v ≤ (s.pot (idx / 256 % 16)).raaQual)
  | 0x8200, 3 => decide (v ≤ s.build.tiles)
  | 0x9000, 1 => decide (v % 100 = 0)
  | 0x9200, 1 => sampleWordOk v
  | 0x9400, _ => ctrWordOk s.build (idx - 0x9400) v
  | 0xA100, 2 => decide (v ≤ floorDefault (idx - 0xA100))
  | 0xB000, 4 => decide (v ≤ s.evt.newest)
  | _, _ => true

/-- The reserved bits of byte i of a BLOB of entries. -/
def reservedMask (o : Obj) (i : Nat) : Nat :=
  match o.base, o.sub with
  | 0xC000, 5 => if i % 8 = 0 then 0x3C else 0
  | 0xC000, 6 => if i % 4 = 0 then 0x7F else if i % 4 = 1 then 0xF0 else 0
  | 0x5100, 8 => if i % 8 = 0 then 0x7F else if i % 8 = 1 then 0xF0 else 0
  | 0x7400, 3 => if i % 8 = 4 then 0x7F else if 5 ≤ i % 8 then 0xFF else 0
  | 0x8100, 1 => if i % 8 = 6 then 0x01 else if i % 8 = 7 then 0xFF else 0
  | _, _ => 0

/-- The reserved bits of a control word: 1 where the word gives a bit to a field (17 R468, R475). -/
def fieldMask (o : Obj) : Nat :=
  match o.base, o.sub with
  | 0x9400, k => if k ≤ 8 then 0xFFFFFF00FFFFFFFF else 0xFFFFFFFFFFFFFFFF
  | 0x9200, 1 => 0xFFFFFFFFFFFFFF80
  | _, _ => 0xFFFFFFFFFFFFFFFF

/-- A value as it is received where nothing refuses it: its reserved bits are ignored, and read as 0 (00 R7). -/
def Obj.received (o : Obj) (d : List Byte) : List Byte :=
  if o.ty = .blob then d.mapIdx fun i b => b &&& ~~~(BitVec.ofNat 8 (reservedMask o i))
  else beBytes d.length (beNat d &&& fieldMask o)

end Sys2Proof.Machine
end

