-- ==== Sys2Proof/Machine/Boot.lean ====
section
/-! DEFINITION. The image flash: sectors and wear, slots and their signatures, persist records and image commits (15 R437
to R444; 12 R375). -/

namespace Sys2Proof.Machine

/-! ### Flash (15 R439, R440, R444) -/

/-- Bytes of the flash; an erased or absent byte reads 0xFF. -/
def State.flashRead (s : State) (a n : Nat) : List Byte := mapGetList 0xFF s.ldl.flash a n

/-- A range reads 0xFF. -/
def State.flashClear (s : State) (a n : Nat) : State := s.modLdl fun l => { l with flash := mapClear l.flash a n }

/-- Programming clears bits and sets none. -/
def State.flashPut (s : State) (a : Nat) (d : List Byte) : State :=
  s.modLdl fun l => { l with flash := mapPutList 0xFF l.flash a (List.zipWith (· &&& ·) d (mapGetList 0xFF l.flash a d.length)) }

def slotBase (x : Nat) : Nat := x * 0x1000000
def journalBase (x : Nat) : Nat := slotBase x + 0xF00000

/-- The number under which WEAR counts an erase at an address: the journal sectors of A and of B, then the two bodies. -/
def wearIndex (a : Nat) : Nat :=
  let x := a / 0x1000000
  let o := a % 0x1000000
  if 0xF00000 ≤ o then 256 * x + (o - 0xF00000) / 4096 else 512 + x

/-- Counts an erase, with its advisory at 80,000 and at every further 5,000. -/
def State.countErase (s : State) (k : Nat) : State :=
  let n := mapGet 0 s.per.wear k + 1
  let s := (s.modPer fun p => { p with wear := mapSet 0 p.wear k n }).bump tallyBlock tbErase 1
  if 80000 ≤ n ∧ n % 5000 = 0 then s.raise (s.srcDuty 4) 0x0605 (beBytes 2 k ++ beBytes 4 n) else s

/-- What programming at an address verifies as, under the sector's erase count. -/
def State.verifies (s : State) (k : Nat) : Bool := s.ldl.fitted && !Config.flashFails k (mapGet 0 s.per.wear k)

/-! ### Slots (15 R441, R442) -/

def hdrWord (h : List Byte) (o n : Nat) : Nat := natAt h o n

/-- A header with its body is valid. -/
def imageValid (h : List Byte) (body : Nat → List Byte) : Bool :=
  let n := hdrWord h 16 4
  decide (hdrWord h 0 4 = 0x4B57494D) && decide (hdrWord h 4 1 = 0x31) && decide (hdrWord h 6 2 = 0x0301) &&
    decide (bits (hdrWord h 8 4) 23 8 = 0x0301) && decide (n ≤ 0xEFE000) && decide (hdrWord h 5 1 < 4) &&
    decide (beNat (sha384 (sliceBytes h 80 96)) = (Config.fusedKey (hdrWord h 5 1)).toNat) &&
    !Config.fusedRevoked.toNat.testBit (hdrWord h 5 1) && decide (Config.fusedSvn.toNat ≤ hdrWord h 12 2) &&
    ecdsaVerify (sliceBytes h 80 96) (sliceBytes h 176 96) (h.take 176) &&
    decide (sha384 (body n) = sliceBytes h 32 48)

def State.slotHdr (s : State) (x : Nat) : List Byte := s.flashRead (slotBase x + 0x1000) 272
def State.slotValid (s : State) (x : Nat) : Bool :=
  s.ldl.fitted && imageValid (s.slotHdr x) fun n => s.flashRead (slotBase x + 0x2000) n

/-- BOOT_SEQ of a slot; a damaged boot sector counts as 0. -/
def State.bootSeq (s : State) (x : Nat) : Nat :=
  let b := s.flashRead (slotBase x) 8
  if crc32c (b.take 4) = natAt b 4 4 then natAt b 0 4 else 0

/-- A slot that was looked at first and is not valid. -/
def State.rejected (s : State) (x : Nat) : State :=
  (s.raise (s.srcDuty 4) 0x0608 (beBytes 1 x ++ beBytes 1 ((Config.freeValue 6 s.free).toNat % 256))).spend

/-- The slot that a start runs, 2 for ROM; none: BOOT_SELECT named a slot that is not valid. -/
def State.pickSlot (s : State) : State × Option Nat :=
  match s.ldl.bootSel with
  | 1 => (s, if s.slotValid 0 then some 0 else none)
  | 2 => (s, if s.slotValid 1 then some 1 else none)
  | 3 => (s, some 2)
  | _ =>
    let a := if later 32 (s.bootSeq 1) (s.bootSeq 0) then 1 else 0
    if s.slotValid a then (s, some a)
    else if s.slotValid (1 - a) then (s.rejected a, some (1 - a))
    else (s, some 2)

/-- The slot that IMAGE_PROGRAM programs: the one that is not the boot slot, slot A under the ROM (15 R446). -/
def State.otherSlot (s : State) : Nat := if s.ldl.slot = 0 then 1 else 0

/-- The slot whose image runs: on probation the programmed one (15 R448). -/
def State.runSlot (s : State) : Nat := if s.ldl.updState = 3 then s.otherSlot else s.ldl.slot

/-- FW_VERSION, DICT_VERSION and SVN of the running firmware; the ROM holds release 3.1.0. -/
def State.fwVersion (s : State) : Nat := if s.runSlot < 2 then hdrWord (s.slotHdr s.runSlot) 8 4 % 2 ^ 24 else 0x030100
def State.dictVersion (s : State) : Nat :=
  if s.runSlot < 2 then hdrWord (s.slotHdr s.runSlot) 14 2 else Config.romDictVersion.toNat
def State.fwSvn (s : State) : Nat := if s.runSlot < 2 then hdrWord (s.slotHdr s.runSlot) 12 2 else Config.romSvn.toNat

/-! ### Persist records (15 R443; 12 R375) -/

/-- Bytes of a journal from an offset on; the ring closes at 1 MiB. -/
def State.journal (s : State) (x o n : Nat) : List Byte :=
  (List.range n).map fun i => mapGet 0xFF s.ldl.flash (journalBase x + (o + i) % 0x100000)

def recLength (r : List Byte) : Nat := natAt r 8 4
def recPseq (r : List Byte) : Nat := natAt r 4 4
def recCrc (r : List Byte) : Nat := crc32c (r.take 60 ++ r.drop 64)

/-- The record that begins at a sector, if it is intact. -/
def State.recordAt (s : State) (x p : Nat) : Option (List Byte) :=
  let h := s.journal x (4096 * p) 64
  let n := recLength h
  if natAt h 0 4 ≠ 0x4B575052 ∨ n < 2120 ∨ 131072 < n then none
  else
    let r := s.journal x (4096 * p) n
    if recCrc r = natAt r 60 4 then some r else none

/-- The intact record with the highest PSEQ of a slot, and its sector. -/
def State.bestRecord (s : State) (x : Nat) : Option (Nat × List Byte) :=
  (List.range 256).foldl (fun b p =>
    match s.recordAt x p, b with
    | some r, none => some (p, r)
    | some r, some (_, q) => if later 32 (recPseq r) (recPseq q) then some (p, r) else b
    | none, _ => b) none

/-- A record as slot x carries it. -/
def recordFor (x : Nat) (r : List Byte) : List Byte :=
  let t := splice r 14 [BitVec.ofNat 8 x]
  splice t 60 (beBytes 4 (recCrc t))

/-- The first sector of a run of n free ones from a sector on, in ring order, without worn sectors. -/
def State.freeRun (s : State) (x from_ n : Nat) : Option Nat :=
  ((List.range 256).map fun i => (from_ + i) % 256).find? fun p =>
    (List.range n).all fun i => (mapFind s.per.worn (256 * x + (p + i) % 256)).isNone

/-- One sector of a record is erased, programmed and verified; the flag says that it verified. -/
def State.putSector (s : State) (x p : Nat) (d : List Byte) : State × Bool :=
  let k := 256 * x + p
  let a := journalBase x + 4096 * p
  let s := ((s.countErase k).flashClear a 4096).flashPut a d
  if s.verifies k then (s, true)
  else ((s.modPer fun q => { q with worn := mapPut q.worn k 1 }).raise (s.srcDuty 4) 0x0604 (beBytes 4 a), false)

/-- A record goes into the next free sectors of a journal. -/
def State.putRecord (s : State) (x : Nat) (r : List Byte) : State × Bool :=
  let d := recordFor x r
  let n := ceilDiv d.length 4096
  let next := match s.bestRecord x with
    | some (p, q) => (p + ceilDiv q.length 4096) % 256
    | none => 0
  match s.freeRun x next n with
  | none => (s, false)
  | some p =>
    (List.range n).foldl (fun (a : State × Bool) i =>
      if a.2 then a.1.putSector x ((p + i) % 256) ((d.drop (4096 * i)).take 4096) else a) (s, true)

/-- Persisted copies that hold the same: all but SLOT and CRC. -/
def sameRecord (a b : List Byte) : Bool := decide (recordFor 0 a = recordFor 0 b)

/-- The record that a start takes, under R375: the later PSEQ; the copy of the other slot is rewritten from it. Equal PSEQ
and different content leave the factory defaults. -/
def State.pickRecord (s : State) : State × Option (List Byte) :=
  match s.bestRecord 0, s.bestRecord 1 with
  | none, none => (s, none)
  | some (_, a), none => ((s.putRecord 1 a).1, some a)
  | none, some (_, b) => ((s.putRecord 0 b).1, some b)
  | some (_, a), some (_, b) =>
    if recPseq a = recPseq b then (s, if sameRecord a b then some a else none)
    else if later 32 (recPseq a) (recPseq b) then ((s.putRecord 1 a).1, some a)
    else ((s.putRecord 0 b).1, some b)

/-- An entry of a record: index, sub-index, type code, value. -/
structure PersEntry where
  idx : Nat
  sub : Nat
  ty : Nat
  value : List Byte
  deriving DecidableEq, Repr

def PersEntry.bytes (e : PersEntry) : List Byte :=
  beBytes 2 e.idx ++ beBytes 1 e.sub ++ beBytes 1 e.ty ++ beBytes 4 e.value.length ++ e.value ++
    List.replicate (roundUp e.value.length 8 - e.value.length) 0

/-- The entries of a record, in order. -/
def readEntries (fuel : Nat) (b : List Byte) : List PersEntry :=
  match fuel with
  | 0 => []
  | k + 1 =>
    let n := natAt b 4 4
    { idx := natAt b 0 2, sub := natAt b 2 1, ty := natAt b 3 1, value := sliceBytes b 8 n } ::
      readEntries k (b.drop (8 + roundUp n 8))

/-- The RWS scalars whose values differ from the factory default, and MGMT_EPS, by index and sub-index; the two stress
accounts are values of Trivet's. -/
def State.persisted (s : State) (hours boost : Nat) : List PersEntry :=
  let vals := s.dict.vals.filterMap fun p =>
    match findObj s.build (p.1 / 256) (p.1 % 256) with
    | some o => if o.acc = .rws ∧ o.ty ≠ .blob then
        some ({ idx := p.1 / 256, sub := p.1 % 256, ty := o.ty.code, value := beBytes o.ty.bytes p.2 } : PersEntry)
      else none
    | none => none
  let acct (sub v : Nat) : List PersEntry :=
    if v = 0 then [] else [{ idx := 0xA300, sub := sub, ty := 4, value := beBytes 8 v }]
  let eps := s.blob 0xC000 6 0 64
  let l := vals ++ acct 1 hours ++ acct 2 boost ++
    (if eps.all (· = 0) then [] else [{ idx := 0xC000, sub := 6, ty := 10, value := eps }])
  sortBy (fun e => okey e.idx e.sub) l

/-- The record of an image commit, without its slot. -/
def State.formRecord (s : State) (hours boost pseq : Nat) : List Byte :=
  let es := s.persisted hours boost
  let body := ((List.range 514).map fun k => beBytes 4 (mapGet 0 s.per.wear k)).flatten ++ (es.map PersEntry.bytes).flatten
  beBytes 4 0x4B575052 ++ beBytes 4 pseq ++ beBytes 4 (64 + body.length) ++ beBytes 2 es.length ++ [0, 0] ++
    beBytes 8 s.clk.ftc ++ List.replicate 40 0 ++ body

/-- One more than the highest PSEQ found in either slot. -/
def State.nextPseq (s : State) : Nat :=
  match s.bestRecord 0, s.bestRecord 1 with
  | none, none => 1
  | some (_, a), none => (recPseq a + 1) % 2 ^ 32
  | none, some (_, b) => (recPseq b + 1) % 2 ^ 32
  | some (_, a), some (_, b) =>
    ((if later 32 (recPseq a) (recPseq b) then recPseq a else recPseq b) + 1) % 2 ^ 32

/-- An image commit (15 R438, R443, R444): into the journal of the boot slot, or of the other slot where a page does not
verify; where both fail, persistence stops. The ROM has no journal, and no record is written under it. -/
def State.commitImage (s : State) (hours boost : Nat) : State :=
  let x := s.ldl.slot
  if 2 ≤ x ∨ s.ldl.fitted = false ∨ s.per.stopped = true then s.modPer fun p => { p with queued := false }
  else
    let q := s.nextPseq
    let r := s.formRecord hours boost q
    let t := s.putRecord x r
    let t := if t.2 then t else t.1.putRecord (1 - x) r
    if t.2 then
      ((t.1.modPer fun p => { p with pseq := q, last := some s.clk.now, queued := false }).modDict fun d =>
        { d with dirty := [] }).bump tallyBlock tbImgCommit 1
    else
      (t.1.modPer fun p => { p with stopped := true, queued := false }).modLdl fun l => { l with imgState := 5 }

/-- A commit that is asked for: those closer together than COMMIT_MIN_GAP merge (15 R438). -/
def State.askCommit (s : State) (hours boost : Nat) : State :=
  match s.per.last with
  | some t => if s.since t (secR (s.param 0x2F00 9)) then s.commitImage hours boost
      else s.modPer fun p => { p with queued := true }
  | none => s.commitImage hours boost

/-! ### Applying a record at a cold start (15 R437) -/

/-- An entry may be applied: a known RWS object of its type, its value within the stated range. -/
def State.entryOk (s : State) (e : PersEntry) : Bool :=
  match findObj s.build e.idx e.sub with
  | none => false
  | some o =>
    decide (o.acc = .rws) && decide (o.ty.code = e.ty) &&
      (if o.ty = .blob then decide (e.value.length = o.size)
       else
         let v := beNat (o.received e.value)
         decide (e.value.length = o.ty.bytes) && decide (o.lo ≤ v) && decide (v ≤ o.hi) && s.wordOk o e.idx v)

/-- Applies one entry, its reserved bits ignored (00 R7). -/
def State.applyEntry (s : State) (e : PersEntry) : State :=
  let v := match findObj s.build e.idx e.sub with
    | some o => o.received e.value
    | none => e.value
  if !s.entryOk e then s.raise (s.srcDuty 4) 0x0606 (beBytes 2 e.idx ++ beBytes 1 e.sub)
  else if e.idx = 0xA300 ∧ e.sub = 1 then s.modStress fun x => { x with base := beNat v, hours := [] }
  else if e.idx = 0xA300 ∧ e.sub = 2 then s.modStress fun x => { x with boostBase := beNat v, boost := 0 }
  else if e.idx = 0xC000 then s.setBlob e.idx e.sub 0 v
  else s.setParam e.idx e.sub (beNat v)

/-- A record is applied in its order; its erase counts and PSEQ are taken. -/
def State.applyRecord (s : State) (r : List Byte) : State :=
  let s := s.modPer fun p =>
    { p with
      pseq := recPseq r,
      wear := (List.range 514).foldl (fun m k => mapSet 0 m k (max (mapGet 0 m k) (natAt r (64 + 4 * k) 4))) p.wear }
  (readEntries (natAt r 12 2) (r.drop 2120)).foldl State.applyEntry s

end Sys2Proof.Machine
end

