-- ==== Sys2Proof/Machine/Code.lean ====
section
/-! DEFINITION. The granule code (12 R355 to R359): RS(72,64) over GF(2^8), the judgement of a word that was read, and the
poison word. -/

namespace Sys2Proof.Machine

/-! ### GF(2^8) with x^8 + x^4 + x^3 + x^2 + 1 (12 R355) -/

/-- Multiplication by α. -/
def gfDouble (a : Nat) : Nat := if a < 128 then 2 * a else (2 * a) ^^^ 0x11D

def gfMulAux (fuel a b acc : Nat) : Nat :=
  match fuel with
  | 0 => acc
  | n + 1 => gfMulAux n (gfDouble a) (b / 2) (if b % 2 = 1 then acc ^^^ a else acc)

def gfMul (a b : Nat) : Nat := gfMulAux 8 a b 0

def gfPow (a n : Nat) : Nat :=
  match n with
  | 0 => 1
  | k + 1 => gfMul a (gfPow a k)

/-- The inverse of a non-zero element: its 254th power. -/
def gfInv (a : Nat) : Nat :=
  let a2 := gfMul a a
  let a3 := gfMul a2 a
  let a6 := gfMul a3 a3
  let a12 := gfMul a6 a6
  let a15 := gfMul a12 a3
  let a30 := gfMul a15 a15
  let a60 := gfMul a30 a30
  let a120 := gfMul a60 a60
  let a126 := gfMul a120 a6
  let a127 := gfMul a126 a
  gfMul a127 a127

/-- The locator of position j: α^(71 − j). -/
def locator (j : Nat) : Nat := gfPow 2 (71 - j)

/-- A polynomial's value by Horner's rule, the first coefficient being the highest. -/
def gfEval (l : List Nat) (x : Nat) : Nat := l.foldl (fun a c => gfMul a x ^^^ c) 0

/-- The eight syndromes of a word, its value at α^0 to α^7. -/
def syndromes (w : List Nat) : List Nat := (List.range 8).map fun i => gfEval w (gfPow 2 i)

/-- The parity symbols p_0 to p_7 of 64 data symbols: the remainder of M(x) by g(x). -/
def parity (d : List Nat) : List Nat :=
  let g := (List.range 8).foldl (fun (p : List Nat) i =>
    (List.zipWith (· ^^^ ·) (p ++ [0]) (0 :: p.map (gfMul (gfPow 2 i))))) [1]
  d.foldl (fun r c =>
    let f := c ^^^ r.getD 0 0
    List.zipWith (· ^^^ ·) (r.drop 1 ++ [0]) ((g.drop 1).map (gfMul f))) (List.replicate 8 0)

/-- The codeword of 64 data bytes. -/
def encodeGranule (d : List Byte) : List Byte :=
  fitBytes 64 d ++ (parity ((fitBytes 64 d).map (·.toNat))).map (BitVec.ofNat 8)

/-! ### Lanes (12 R356) -/

/-- The logical lane of position j. -/
def laneOf (j : Nat) : Nat := if j < 64 then j % 32 else 32 + j % 4

/-- The two positions of a lane. -/
def lanePositions (l : Nat) : List Nat := if l < 32 then [l, 32 + l] else [64 + (l - 32), 68 + (l - 32)]

/-! ### The judgement of a word (12 R357 to R359) -/

/-- What the decoder makes of a word: the positions it corrected outside an erased lane. -/
inductive Verdict72 where
  | clean
  | corrected (at_ : List Nat)
  | uncorrectable
  | poisoned
  deriving DecidableEq, Repr

/-- Syndromes with the erased positions taken out: of k erasures, 8 − k remain. -/
def forney (s : List Nat) (erased : List Nat) : List Nat :=
  erased.foldl (fun (t : List Nat) j => List.zipWith (fun a b => b ^^^ gfMul (locator j) a) t (t.drop 1)) s

/-- The positions of one or two errors that explain modified syndromes; none where no such errors do. -/
def locate (t : List Nat) (erased : List Nat) : Option (List Nat) :=
  let free := (List.range 72).filter fun j => !erased.contains j
  if t.all (· = 0) then some []
  else
    match free.find? fun j => decide (t.getD 0 0 ≠ 0) &&
        (List.zipWith (fun a b => decide (b = gfMul (locator j) a)) t (t.drop 1)).all id with
    | some j => some [j]
    | none =>
      let t0 := t.getD 0 0
      let t1 := t.getD 1 0
      let t2 := t.getD 2 0
      let t3 := t.getD 3 0
      let det := gfMul t1 t1 ^^^ gfMul t0 t2
      if det = 0 then none
      else
        let i := gfInv det
        let s1 := gfMul i (gfMul t1 t2 ^^^ gfMul t0 t3)
        let s2 := gfMul i (gfMul t2 t2 ^^^ gfMul t1 t3)
        let fits := (List.range (t.length - 2)).all fun k =>
          decide (t.getD (k + 2) 0 = gfMul s1 (t.getD (k + 1) 0) ^^^ gfMul s2 (t.getD k 0))
        let roots := free.filter fun j =>
          let x := locator j
          decide (gfMul x x ^^^ gfMul s1 x ^^^ s2 = 0)
        if fits ∧ roots.length = 2 then some roots else none

/-- The value of the error at position j of those that a decoder corrects, from the syndromes. -/
def errorValue (s : List Nat) (at_ : List Nat) (j : Nat) : Nat :=
  let others := at_.filter (· ≠ j)
  gfMul ((forney s others).getD 0 0) (gfInv (others.foldl (fun a m => gfMul a (locator j ^^^ locator m)) 1))

/-- The word matches the poison word in all but two symbols at most, erased symbols apart (12 R359). -/
def nearPoison (w : List Nat) (erased : List Nat) : Bool :=
  decide (((w.zipIdx.filter fun p =>
    !erased.contains p.2 && decide (p.1 ≠ if p.2 < 64 then 0 else 255)).length) ≤ 2)

/-- The decoder's verdict on a word of 72 bytes with a lane erased or none, and the bursts lost (12 R357 to R359). -/
def judgeWord (word : List Byte) (lane : Option Nat) (lost : Nat) : Verdict72 :=
  let w := (sliceBytes word 0 72).map (·.toNat)
  let erased := match lane with
    | some l => lanePositions l
    | none => []
  if lost % 4 ≠ 0 then .uncorrectable
  else if nearPoison w erased then .poisoned
  else match locate (forney (syndromes w) erased) erased with
    | some [] => .clean
    | some l => .corrected l
    | none => .uncorrectable

/-- The 64 data bytes that the decoder gives for a word in which it corrects some positions, the erased ones apart: those of
the codeword that it found, right or wrong (12 R357, R359). -/
def decodedData (word : List Byte) (lane : Option Nat) (v : Verdict72) : List Byte :=
  let w := (sliceBytes word 0 72).map (·.toNat)
  let erased := match lane with
    | some l => lanePositions l
    | none => []
  let at_ := match v with
    | .corrected l => erased ++ l
    | _ => erased
  let s := syndromes w
  (sliceBytes word 0 64).mapIdx fun j b => if at_.contains j then b ^^^ BitVec.ofNat 8 (errorValue s at_ j) else b

end Sys2Proof.Machine
end

