-- ==== Sys2Proof/Machine/Scramble.lean ====
section
/-! DEFINITION. The scrambler of the PHY's data lanes (13 R380): what the lanes carry, and the stack stores, of a granule's
symbols. It lies below the code, so that everything above it sees unscrambled symbols. -/

namespace Sys2Proof.Machine

/-- The seed of a burst: BANK ‖ ROW ‖ COL ‖ b. -/
def burstSeed (bank row col b : Nat) : Nat := bank % 16 * 2 ^ 19 + row % 2 ^ 14 * 2 ^ 5 + col % 16 * 2 + b % 2

/-- The seed of a lane of a burst. -/
def laneSeed (seed l : Nat) : Nat :=
  let x := seed ^^^ (l * 0x20B5 % 2 ^ 23)
  if x = 0 then 0x400000 else x

/-- The output bit of x^23 + x^18 + 1. -/
def lfsrOut (r : Nat) : Nat := b2n (bit r 22 != bit r 17)

/-- The first n output bits of a register, the first one highest. -/
def lfsrBits (n r acc : Nat) : Nat :=
  match n with
  | 0 => acc
  | k + 1 => lfsrBits k ((2 * r + lfsrOut r) % 2 ^ 23) (2 * acc + lfsrOut r)

/-- What is XORed onto the symbol of a lane in a burst: beat t carries bit 7 − t of the symbol (12 R356). -/
def laneMask (bank row col b l : Nat) : Byte := BitVec.ofNat 8 (lfsrBits 8 (laneSeed (burstSeed bank row col b) l) 0)

/-- The burst that carries position j of a codeword (12 R356). -/
def burstOf (j : Nat) : Nat := if j < 64 then j / 32 else (j - 64) / 4

/-- The symbols of a codeword scrambled, or descrambled, for a place: a seed takes the physical lane of its pseudo-channel, 0
to 37, that carries the symbol's logical lane. -/
def scramble (phys : Nat → Nat) (bank row col : Nat) (word : List Byte) : List Byte :=
  word.mapIdx fun j x => x ^^^ laneMask bank row col (burstOf j) (phys (laneOf j))

/-- The poison word (12 R359): every data symbol is 0, every parity symbol all ones. -/
def poisonWord : List Byte := List.replicate 64 0 ++ List.replicate 8 255

end Sys2Proof.Machine
end

