-- ==== Sys2Proof/Machine/Pot.lean ====
section
/-! DEFINITION. The Stockpot (11 R331 to R353): addresses, request pools, the merge buffer, command choice under the stack
timing, refresh, and power-down. -/

namespace Sys2Proof.Machine

/-! ### Access to the state -/

def State.setPot (s : State) (st : Nat) (x : Pot) : State := s.modStk fun k => { k with pots := mapSet {} k.pots st x }
def State.modPot (s : State) (st : Nat) (f : Pot → Pot) : State := s.setPot st (f (s.pot st))
def Pot.pc (p : Pot) (c : Nat) : Pc := mapGet {} p.pcs c
def Pot.setPc (p : Pot) (c : Nat) (x : Pc) : Pot := { p with pcs := mapSet {} p.pcs c x }
def State.pc (s : State) (st c : Nat) : Pc := (s.pot st).pc c
def State.setPc (s : State) (st c : Nat) (x : Pc) : State := s.modPot st fun p => p.setPc c x
def State.modPc (s : State) (st c : Nat) (f : Pc → Pc) : State := s.setPc st c (f (s.pc st c))
def Pc.bank (x : Pc) (b : Nat) : Bank := mapGet {} x.banks b
def Pc.setBank (x : Pc) (b : Nat) (y : Bank) : Pc := { x with banks := mapSet {} x.banks b y }
def Pc.rank (x : Pc) (r : Nat) : Rank := mapGet {} x.ranks r
def Pc.setRank (x : Pc) (r : Nat) (y : Rank) : Pc := { x with ranks := mapSet {} x.ranks r y }
def Pot.slot (p : Pot) (k : Nat) : SpareSlot := mapGet {} p.slots k
def State.chan (s : State) (st c : Nat) : Chan := (s.pot st).chan c
def State.setChan (s : State) (st c : Nat) (x : Chan) : State :=
  s.modPot st fun p => { p with chans := mapSet {} p.chans c x }
def State.modChan (s : State) (st c : Nat) (f : Chan → Chan) : State := s.setChan st c (f (s.chan st c))

/-- The MCLK edge of now, as a count. -/
def State.mclk (s : State) : Nat := s.clk.now / 4

/-- A timing parameter of 11 R341 in MCLK. -/
def State.tpar (s : State) (sub : Nat) : Nat := s.param 0x3F01 sub

/-- A tally of a physical pseudo-channel (17 R470). -/
def State.pcBump (s : State) (st c entry n : Nat) : State := s.bump (64 + st) (30 * c + entry) n
/-- A tally of a stack, and of a channel of it. -/
def State.stackBump (s : State) (st entry n : Nat) : State := s.bump (64 + st) (1920 + entry) n
def State.chanBump (s : State) (st ch entry n : Nat) : State := s.bump (64 + st) (1923 + 12 * ch + entry) n

/-! ### Routing (12 R370; 13 R399) -/

/-- The remap entry that names a physical row in a state. -/
def Pc.remapOf (x : Pc) (st sid bank row : Nat) : Option (Nat × Remap) :=
  x.remaps.find? fun p => decide (p.2.state = st ∧ p.2.sid = sid ∧ p.2.bank = bank ∧ p.2.row = row)

/-- The stand-in of a physical pseudo-channel, with its partner (13 R399). -/
def Pot.standFor (p : Pot) (c : Nat) : Option (StandIn × Nat) :=
  (p.stands.find? fun x => decide (c / 2 = x.ch)).map fun x => (x, 2 * x.spare + c % 2)

/-- The key of a 16-row group of a channel in the dirty map. -/
def dirtyKey (x : Place) : Nat := ((x.pc % 2 * 4 + x.sid) * 16 + x.bank) * 1024 + x.row / 16

/-- Bytes per pseudo-channel that a stand-in has copied since its phase began (13 R399). -/
def State.copyBytes (s : State) (n : StandIn) : Nat := (s.clk.now - n.since) * n.rate / 9600

/-- FILL_MARK: the rows of each pseudo-channel, over its four SIDs, that a stand-in has filled. -/
def State.fillMark (s : State) (n : StandIn) : Nat := if n.phase = 0 then min 1048576 (s.copyBytes n / 1024) else 1048576

/-- The dirty groups of pseudo-channel j of a stand-in, in the order in which they are copied back. -/
def StandIn.groups (n : StandIn) (j : Nat) : List Nat := (n.dirty.map Prod.fst).filter fun k => decide (k / 65536 = j)

/-- A dirty group has been copied back in RETURN. -/
def State.returned (s : State) (n : StandIn) (k : Nat) : Bool :=
  decide (((n.groups (k / 65536)).filter (· < k)).length < s.copyBytes n / 16384)

/-- The places that serve a request: a remapped row goes to its target, a channel with a stand-in by phase (12 R370; 13
R399). -/
def State.places (s : State) (g : Nat) (write : Bool) : List Place :=
  let x := s.physical (s.visible g)
  match (s.pc x.st x.pc).remapOf 2 x.sid x.bank x.row with
  | some (_, r) => [s.physical (s.visible (16 * r.target + x.col))]
  | none =>
    match (s.pot x.st).standFor x.pc with
    | none => [x]
    | some (n, c) =>
      let y := { x with pc := c }
      let idx := (x.sid * 16 + x.bank) * 16384 + x.row
      match n.phase with
      | 0 => if write && decide (idx < s.fillMark n) then [x, y] else [x]
      | 1 => [y]
      | _ => if write && ((mapFind n.dirty (dirtyKey x)).isNone || s.returned n (dirtyKey x)) then [x, y] else [y]

/-! ### Pools (11 R335, R336, R344; 10 R312) -/

/-- Puts the bytes that a mask names over others. -/
def overlay (base data : List Byte) (mask : Nat) : List Byte :=
  (fitBytes 64 base).mapIdx fun i b => if bit mask i then data.getD i 0 else b

def PotReq.bankIx (r : PotReq) : Nat := 16 * r.sid + r.bank

/-- The stack level of a request on this edge: the lowest among what it serves, each with its colour and with OVER as it
stands (10 R315, R326; 11 R345; 12 R363). -/
def State.reqLevel (s : State) (r : PotReq) : Nat := (r.who.map s.levelOf).foldl min 3

/-- A pool has room for one more request (11 R336, R339). -/
def State.poolRoom (s : State) (x : Pc) (r : PotReq) : Bool :=
  let n0 := (x.pool.filter fun q => decide (q.level = 0)).length
  let n3 := (x.pool.filter fun q => decide (q.level = 3)).length
  let nb := (x.pool.filter fun q => decide (q.level ≠ 0) && decide (q.bankIx = r.bankIx)).length
  if s.reqLevel r = 0 then decide (n0 < 320)
  else
    decide (x.pool.length - n0 < 192) && (s.reqLevel r ≠ 3 || decide (n3 < 64)) &&
      (s.param 0x3F00 2 ≠ 0 || decide (nb < 16))

/-- A request takes a pool entry at its level of this edge: a read of a row that an earlier write names puts the bank in
in-order mode, and that write is its cause (11 R335, R336, R344). -/
def State.enterPool (s : State) (st c : Nat) (r : PotReq) : State :=
  let x := s.pc st c
  let match_ (q : PotReq) : Bool := !r.write && q.write && decide (q.bankIx = r.bankIx) && decide (q.row = r.row)
  let hit := x.pool.any match_
  let b := x.bank r.bankIx
  let s := if hit && !b.inOrder then s.pcBump st c 6 1 else s
  let x := { x with
    pool := (x.pool.map fun q => if match_ q then { q with cause := true } else q) ++
      [{ r with id := x.nextId, at_ := s.mclk, level := s.reqLevel r }],
    nextId := x.nextId + 1 }
  let x := if hit then x.setBank r.bankIx { b with inOrder := true } else x
  s.setPc st c (x.setRank r.sid { x.rank r.sid with idle := if (x.rank r.sid).down then (x.rank r.sid).idle else s.mclk })

/-- A write to a granule has entered: where it covers all of it, reads of it that wait and the Stockpot's own
conditional writes to it know (12 R360, R367, R373). A granule of a row that is being copied to a remap target has to
be copied again (12 R369). -/
def State.markOver (s : State) (st c : Nat) (r : PotReq) : State :=
  let hit (q : PotReq) : PotReq :=
    if r.mask = 2 ^ 64 - 1 && q.gran = r.gran && (!q.write || q.cond) then { q with passed := true } else q
  s.modPc st c fun x =>
    { x with
      pool := x.pool.map hit, fifo := x.fifo.map hit, own := x.own.map hit,
      remaps := x.remaps.map fun p =>
        if p.2.state = 1 ∧ p.2.sid = r.sid ∧ p.2.bank = r.bank ∧ p.2.row = r.row then
          (p.1, { p.2 with copied := p.2.copied.filter (· ≠ r.col) })
        else p }

/-- Granules are counted as moved for the operation or the transfer that asked for them. -/
def State.countMoved (s : State) (o : Origin) (n : Nat) : State :=
  match o with
  | .frame req seq =>
    match s.op (opKey req seq) with
    | some o => s.setOp (opKey req seq) { o with moved := o.moved + n }
    | none => s
  | .tile t => s.modTile t fun y => { y with x := { y.x with paid := y.x.paid + n } }
  | _ => s

/-- A request that a Stockpot accepts for a class is charged to its window: a granule for a whole one, the merge read
and the write-back for a narrow write that opens an entry, nothing for one that joins an entry. The Stockpot's own
copies and background work are not charged (10 R312; DESIGN CHOICE, log 78). -/
def State.chargeReq (s : State) (r : PotReq) (joins : Bool) : State :=
  let n := if r.write && decide (r.mask ≠ 2 ^ 64 - 1) then 2 else 1
  match r.copy || r.merge, r.who with
  | false, [w] =>
    match w.cls with
    | some c => (s.chargeClass c (if joins then 0 else 64 * n)).countMoved r.src n
    | none => s
  | _, _ => s

/-- What a write leaves in memory once it is accepted: every later read returns its bytes (11 R336; 12 R361, R365). -/
def State.maskStore (s : State) (bpa mask : Nat) (d : List Byte) : State :=
  if mask = 2 ^ 64 - 1 then s.store bpa d
  else if s.failing (bpa / 64) then s
  else s.mwrite bpa (overlay (s.mread bpa 64) d mask)

/-- A granule is poisoned: the poison word has entered the pool, and the POISONED event names its place (12 R360). -/
def State.poisonAt (s : State) (y : Place) (g : Nat) : State :=
  ((s.poisonGranule g).modPot y.st fun p => { p with poisoned := p.poisoned + 1 }).raise (srcPc y.st y.pc) 0x0401
    (beBytes 1 y.pc ++ beBytes 1 y.sid ++ beBytes 1 y.bank ++ beBytes 2 y.row ++ beBytes 1 y.col)

/-- A request is accepted: its class is charged, and a write's bytes are what later reads return. A scrub leaves the
bytes that the decoder gave, a poison word poisons its granule (12 R360, R367). -/
def State.accepted (s : State) (st c : Nat) (r : PotReq) (joins : Bool) : State :=
  let s := s.chargeReq r joins
  if !r.write then s
  else
    let s := if r.cond then s else s.markOver st c r
    if r.poison then s.poisonAt ⟨st, c, r.sid, r.bank, r.row, r.col⟩ r.gran
    else if r.cond then s.mwrite (64 * r.gran) r.data
    else if r.copy then s
    else s.maskStore (64 * r.gran) r.mask r.data

def Pc.mergeOf (x : Pc) (g : Nat) : Option MergeEnt := x.merges.find? fun m => decide (m.gran = g)

/-- The merge read of a narrow write, at the write's level (12 R362). -/
def PotReq.mergeRead (r : PotReq) : PotReq := { r with write := false, data := [], mask := 2 ^ 64 - 1, merge := true }

/-- A request leaves its pool: a bank leaves in-order mode with the last write that caused it, and the idle time of
its rank starts anew (11 R344, R352). -/
def State.quitPool (s : State) (st c : Nat) (r : PotReq) : State :=
  s.modPc st c fun x =>
    let pool := x.pool.filter fun q => q.id ≠ r.id
    let still := pool.any fun q => q.cause && decide (q.bankIx = r.bankIx)
    let x := { x with pool := pool }
    let x := if still then x else x.setBank r.bankIx { x.bank r.bankIx with inOrder := false }
    if (x.rank r.sid).down then x else x.setRank r.sid { x.rank r.sid with idle := s.mclk }

/-- The merge read of a granule is cancelled: its entry has all its bytes, or a full write has superseded it (12 R363,
R364). -/
def State.cancelMerge (s : State) (st c g : Nat) : State :=
  match (s.pc st c).pool.find? fun q => q.merge && decide (q.gran = g) with
  | some q => s.quitPool st c q
  | none => s

/-- A narrow write: a hit joins the entry, a miss takes a free one and issues the merge read; `none` where it has to
wait (12 R362). -/
def State.mergeWrite (s : State) (st c : Nat) (r : PotReq) : Option State :=
  let x := s.pc st c
  match x.mergeOf r.gran with
  | some m =>
    let n := { m with
      data := overlay m.data r.data r.mask, mask := m.mask ||| r.mask, last := s.mclk,
      who := m.who ++ r.who.filter (fun w => !m.who.contains w), srcs := m.srcs ++ [r.src] }
    let s := (s.setPc st c { x with merges := x.merges.replace m n }).pcBump st c 18 1
    some ((if n.mask = 2 ^ 64 - 1 then s.cancelMerge st c r.gran else s).accepted st c r true)
  | none =>
    if x.merges.length < 32 && s.poolRoom x r.mergeRead then
      let m : MergeEnt :=
        { gran := r.gran, data := overlay [] r.data r.mask, mask := r.mask, last := s.mclk, who := r.who,
          srcs := [r.src] }
      some ((((s.accepted st c r false).modPc st c fun x => { x with merges := x.merges ++ [m] }).pcBump st c 19 1).enterPool
        st c r.mergeRead)
    else none

/-- The bytes of a merge entry are known. -/
def MergeEnt.known (m : MergeEnt) : Bool := decide (m.mask = 2 ^ 64 - 1) || m.back

/-- A read of a granule with a merge entry is served from it once its bytes are known, and waits for the merge read
till then (12 R364). -/
def State.mergeServe (s : State) (st c : Nat) (r : PotReq) (m : MergeEnt) : State :=
  let s := s.accepted st c r false
  if m.known then s
  else s.modPc st c fun x => { x with merges := x.merges.replace m { m with waits := m.waits ++ [r] } }

/-- What a pseudo-channel does with the next request in its order: a read of a granule with a merge entry is served
from it, a narrow write enters the merge buffer, any other takes a pool entry, a full write in place of the merge
entry; `none` where it has to wait (11 R335, R336; 12 R362, R364). A conditional write that a write of its granule has
overtaken is cancelled, and so is a scrub of a granule that has a merge entry (12 R360, R367). -/
def State.tryEnter (s : State) (st c : Nat) (r : PotReq) : Option State :=
  let x := s.pc st c
  if r.cond && (r.passed || (!r.poison && (x.mergeOf r.gran).isSome)) then some s
  else if r.write && decide (r.mask ≠ 2 ^ 64 - 1) then s.mergeWrite st c r
  else match r.write || r.merge || r.remap.isSome, x.mergeOf r.gran with
  | false, some m => some (s.mergeServe st c r m)
  | _, m =>
    if s.poolRoom x r then
      let s := if r.write && !r.cond && m.isSome then
          (s.setPc st c { x with merges := x.merges.filter fun m => m.gran ≠ r.gran }).cancelMerge st c r.gran
        else s
      some ((s.accepted st c r false).enterPool st c r)
    else none

/-- Requests of the Stockpot's own that wait are taken in order while each can be. -/
def State.pullOwn (s : State) (st c fuel : Nat) : State :=
  match fuel with
  | 0 => s
  | n + 1 =>
    match (s.pc st c).own with
    | [] => s
    | r :: rest =>
      match s.tryEnter st c r with
      | some t => (t.modPc st c fun x => { x with own := rest }).pullOwn st c n
      | none => s

/-- Requests of the staging FIFO are taken in order while each can be (11 R335). -/
def State.pullFifo (s : State) (st c fuel : Nat) : State :=
  match fuel with
  | 0 => s
  | n + 1 =>
    match (s.pc st c).fifo with
    | [] => s
    | r :: rest =>
      match s.tryEnter st c r with
      | some t => (t.modPc st c fun x => { x with fifo := rest }).pullFifo st c n
      | none => s

/-- What waits for a place moves up: the Stockpot's own requests, then the staging FIFO. -/
def State.pullAll (s : State) (st c : Nat) : State := (s.pullOwn st c 64).pullFifo st c 8

/-- A request leaves its pool, and what waits for a place moves up. -/
def State.leavePool (s : State) (st c : Nat) (r : PotReq) : State := (s.quitPool st c r).pullAll st c

/-- A request reaches its pseudo-channel: it is taken in its turn or waits in the staging FIFO of 8; `none` where the
FIFO is full, and the request stays at the crossbar output endpoint (11 R335). -/
def State.offer (s : State) (st c : Nat) (r : PotReq) : Option State :=
  let x := s.pc st c
  let wait := if x.fifo.length < 8 then some (s.setPc st c { x with fifo := x.fifo ++ [r] }) else none
  if x.fifo.isEmpty then
    match s.tryEnter st c r with
    | some t => some t
    | none => wait
  else wait

/-- A request at each of its places: a second place beside a stand-in is the Stockpot's own copy (13 R399). It is
taken at all of them or at none. -/
def State.offerAll (s : State) (r : PotReq) (ps : List Place) : Option State :=
  match ps with
  | [] => some s
  | y :: l =>
    match s.offer y.st y.pc { r with sid := y.sid, bank := y.bank, row := y.row, col := y.col } with
    | some t => t.offerAll { r with copy := true } l
    | none => none

/-- A request of the Stockpot's own to a place: it takes a pool entry, or waits for one ahead of the staging FIFO. -/
def State.selfOffer (s : State) (r : PotReq) (y : Place) : State :=
  let r := { r with sid := y.sid, bank := y.bank, row := y.row, col := y.col, copy := true, at_ := s.mclk }
  match if (s.pc y.st y.pc).own.isEmpty then s.tryEnter y.st y.pc r else none with
  | some t => t
  | none => s.modPc y.st y.pc fun x => { x with own := x.own ++ [r] }

/-- A request of the Stockpot's own, at level 3 unless it takes the place of others. -/
def ownReq (g : Nat) (write : Bool) (data : List Byte) (who : List Standing) : PotReq :=
  { id := 0, write := write, gran := g, data := data, level := 0, who := who, tag := 0, at_ := 0, sid := 0, bank := 0,
    row := 0,
    col := 0 }

/-- A write of the Stockpot's own to a place, under the condition that no write to the granule enters first: a scrub
with the bytes that the decoder gave (12 R360, R367). -/
def State.selfWrite (s : State) (y : Place) (g : Nat) (data : List Byte) (who : List Standing) : State :=
  s.selfOffer { ownReq g true data who with cond := true } y

/-- The poison word for a granule, under the same condition (12 R360). -/
def State.selfPoison (s : State) (y : Place) (g : Nat) (who : List Standing) : State :=
  s.selfOffer { ownReq g true [] who with cond := true, poison := true } y

/-- A write to a channel whose stand-in is STANDING marks its group of rows dirty; a row with an active remap entry
never reaches the channel (13 R399). -/
def State.markStand (s : State) (g : Nat) : State :=
  let x := s.physical (s.visible g)
  if ((s.pc x.st x.pc).remapOf 2 x.sid x.bank x.row).isSome then s
  else s.modPot x.st fun p =>
    { p with
      stands := p.stands.map fun n =>
        if n.phase = 1 ∧ x.pc / 2 = n.ch then { n with dirty := mapPut n.dirty (dirtyKey x) 1 } else n }

/-- The crossbar output endpoint of a stack is frozen and no input holds it: a request that reaches it waits (10
R325). -/
def State.xbarShut (s : State) (st : Nat) : Bool :=
  let a := s.arbAt 0 (0x200 + st)
  decide (a.freeze ≠ 0) && a.holder.isNone

/-- GRANULE_REQUEST_ACCEPT (11 R335, R336; 12 R362, R364; 10 R312, R315): the request is resolved and takes a pool
entry, a merge entry, or a place in the staging FIFO, at the level that its frame, its tile's transfer or background
work has; a read that finds its granule in the merge buffer is served from it. A request that cannot be taken waits at
the crossbar output endpoint: nothing of it happens. Bit i of the mask stands for byte i. -/
def execGranuleRequestAccept (stack : Nat) (write : Bool) (bpa mask : Nat) (data : List Byte) (src : Origin)
    (unit tag : Nat) (s : State) : Host.Outcome State Fault Refusal :=
  if decide (stack < s.build.S) && decide (mask < 2 ^ 64) && decide (data.length = 64) && s.build.hasOrigin src &&
      decide (unit < 65536) && decide (bpa % 64 = 0) then
    if s.inSpace bpa 64 then
      let ps := s.places (bpa / 64) write
      .next
        (match s.standing src with
         | none => s
         | some w =>
           if !s.live || (ps.all fun y => decide (y.st ≠ stack)) || s.lost (bpa / 64) then s
           else
             let s := s.wakeDom (64 + stack)
             let r : PotReq :=
               { id := 0, write := write, gran := bpa / 64, data := if write then data else [],
                 mask := if write then mask else 2 ^ 64 - 1, level := s.levelOf w, src := src, who := [w], unit := unit,
                 tag := tag, at_ := s.mclk, sid := 0, bank := 0, row := 0, col := 0 }
             if s.xbarShut stack then s
             else match s.offerAll r ps with
               | some t => if write then t.markStand (bpa / 64) else t
               | none => s)
    else .fault (.outsideMemory bpa)
  else .refused .illFormed

/-! ### Command timing (11 R341 to R343) -/

/-- The commands that a bus issues for a request. -/
inductive BusCmd where
  | exit | pre | act | col
  deriving DecidableEq, Repr

/-- At least `d` edges have passed since an edge, where there was one. -/
def after (t : Nat) (e : Option Nat) (d : Nat) : Bool :=
  match e with
  | none => true
  | some x => decide (x + d ≤ t)

/-- Two bank indices lie in one bank group of one SID. -/
def sameGroup (a b : Nat) : Bool := decide (a / 4 = b / 4)

/-- The edge from which T_RAS and T_WR let a bank's row be closed, now at the earliest. -/
def State.closeEdge (s : State) (b : Bank) : Nat :=
  max s.mclk (max (match b.act with | some a => a + s.tpar 3 | none => 0) (match b.wrEnd with | some e => e + s.tpar 12 | none => 0))

/-- A bank whose row is closed by a precharge on an edge. -/
def Bank.closed (b : Bank) (e : Nat) : Bank :=
  if b.row.isNone then { b with next := none } else { b with row := none, pre := some e, spec := false, next := none }

/-- Every bank of a pseudo-channel is precharged, each as soon as its timing allows (11 R343; 13 R400). -/
def State.shutBanks (s : State) (x : Pc) : Pc :=
  { x with banks := x.banks.map fun b => (b.1, b.2.closed (s.closeEdge b.2)) }

/-- A bank's row may be closed now. -/
def State.mayClose (s : State) (b : Bank) : Bool :=
  after s.mclk b.act (s.tpar 3) && after s.mclk b.wrEnd (s.tpar 12) && decide (b.ready ≤ s.mclk)

/-- An activate may issue to a bank now, RAA apart. -/
def State.mayOpen (s : State) (x : Pc) (i : Nat) : Bool :=
  let b := x.bank i
  let t := s.mclk
  decide (b.ready ≤ t) && after t b.pre (s.tpar 2) && after t b.act (s.tpar 4) &&
    (x.banks.all fun p => after t p.2.act (if sameGroup p.1 i then s.tpar 10 else s.tpar 9)) &&
    (match x.acts[3]? with
     | some a => decide (a.1 + s.tpar 11 ≤ t)
     | none => true)

/-- A column command may issue to a bank now: the second burst of a granule follows the first by T_CCD_S, and every
bank of the pseudo-channel counts (11 R341). -/
def State.mayColumn (s : State) (x : Pc) (i : Nat) (write : Bool) : Bool :=
  let b := x.bank i
  let t := s.mclk
  decide (b.ready ≤ t) && after t b.act (s.tpar 1) &&
    (x.banks.all fun p => after t p.2.col (s.tpar 7 + if sameGroup p.1 i then s.tpar 8 else s.tpar 7)) &&
    (if write then after t x.lastRd (s.tpar 15)
     else x.banks.all fun p => after t p.2.wrEnd (if sameGroup p.1 i then s.tpar 14 else s.tpar 13))

/-- RAA_MAX of a stack: the object, or the stack's qualified value where that is lower (11 R349). -/
def State.raaMax (s : State) (st : Nat) : Nat := min (s.param (0x3000 + 256 * st) 7) (s.pot st).raaQual

/-- The bus is at a break point: the two bursts of the last granule have had their edges (10 R321; 11 R337). -/
def State.burstOver (s : State) (x : Pc) : Bool := after s.mclk x.lastCol (2 * s.tpar 7)

/-- The command bus of a pseudo-channel is free on this edge: one command takes it on each (11 R337), and none while an
alert is being answered (13 R397). -/
def State.busFree (s : State) (x : Pc) : Bool := !x.bus.contains s.mclk && decide (x.halt ≤ s.mclk)

/-- A command takes the bus on an edge. -/
def Pc.takeBus (x : Pc) (now e : Nat) : Pc := { x with bus := e :: x.bus.filter fun t => decide (now ≤ t) }

/-- A command enters the history of the last 64 MCLK (13 R397). -/
def Pc.record (x : Pc) (k : PastCmd) : Pc := { x with hist := k :: x.hist.filter fun q => decide (k.at_ ≤ q.at_ + 64) }

/-- No alert is being answered. -/
def Pc.calm (x : Pc) : Bool := x.alert.isNone && x.replay.isEmpty

/-- The next command of a request, where it can issue now: the bus is free and at a break point, the debt does not
withhold it, and no window of a split retrain is open (11 R337, R342, R347; 13 R400). -/
def State.nextCmd (s : State) (st : Nat) (x : Pc) (r : PotReq) : Option BusCmd :=
  let b := x.bank r.bankIx
  if r.issued.isSome ∨ 8 ≤ x.debt ∨ s.mclk < x.shut ∨ s.busFree x = false ∨ s.burstOver x = false then none
  else if (x.rank r.sid).down then some .exit
  else match b.row with
    | some row =>
      if row = r.row then
        (if s.mayColumn x r.bankIx r.write && !x.bus.contains (s.mclk + s.tpar 7) then some .col else none)
      else if s.mayClose b then some .pre else none
    | none => if s.mayOpen x r.bankIx && decide (b.raa + 1 < s.raaMax st) then some .act else none

/-! ### The choice of a request (11 R337 to R339, R344) -/

/-- The hazard rules let a request go now: in in-order mode only the oldest of its bank, otherwise no write ahead of an
earlier access to its granule. -/
def hazardFree (x : Pc) (r : PotReq) : Bool :=
  let earlier := x.pool.filter fun q => decide (q.id < r.id) && q.issued.isNone
  if (x.bank r.bankIx).inOrder then !earlier.any fun q => decide (q.bankIx = r.bankIx)
  else !r.write || !earlier.any fun q => decide (q.gran = r.gran)

/-- The level at which a request counts: in in-order mode, the lowest of its bank (11 R344). -/
def State.levelNow (s : State) (x : Pc) (r : PotReq) : Nat :=
  if (x.bank r.bankIx).inOrder then
    ((x.pool.filter fun q => decide (q.bankIx = r.bankIx)).map s.reqLevel).foldl min (s.reqLevel r)
  else s.reqLevel r

/-- Under policy 0 a bank that has served 4 hits while an older miss waited serves, of its requests of levels 1 to 3,
only the oldest (11 R339, R340). -/
def State.mayPass (s : State) (x : Pc) (r : PotReq) : Bool :=
  s.param 0x3F00 2 ≠ 0 || decide ((x.bank r.bankIx).hits < 4) || decide (s.levelNow x r = 0) ||
    !x.pool.any fun q => decide (q.id < r.id) && q.issued.isNone && decide (q.bankIx = r.bankIx) &&
      decide (s.levelNow x q ≠ 0)

/-- The requests that could issue a command now, oldest first, each with its command. -/
def State.issuable (s : State) (st c : Nat) : List (PotReq × BusCmd) :=
  let x := s.pc st c
  x.pool.filterMap fun r =>
    if hazardFree x r && s.mayPass x r then (s.nextCmd st x r).map fun k => (r, k) else none

/-- The wheel position of this edge is reserved for a request (09 R283, R284; 10 R306). -/
def State.reservedFor (s : State) (r : PotReq) : Bool := r.who.any (s.mayReserve s.sch.stockpot)

/-- The first of a list that a test accepts, else the first. -/
def firstOr (l : List (PotReq × BusCmd)) (p : PotReq × BusCmd → Bool) : Option (PotReq × BusCmd) :=
  match l.find? p with
  | some x => some x
  | none => l.head?

/-- The reorder policy's choice within a level (11 R338, R339). -/
def State.policyPick (s : State) (x : Pc) (level : Nat) (l : List (PotReq × BusCmd)) : Option (PotReq × BusCmd) :=
  if level = 0 then l.head?
  else if s.param 0x3F00 2 = 1 then
    match l.find? fun p => p.1.aged with
    | some p => some p
    | none =>
      let pref := l.filter fun p => p.1.write = x.writesFirst
      firstOr (if pref.isEmpty then l else pref) fun p => p.2 = .col
  else
    match (sortBy (fun i => (i + 64 - x.ptr) % 64) ((l.map fun p => p.1.bankIx).eraseDups)).head? with
    | none => none
    | some i => firstOr (l.filter fun p => p.1.bankIx = i) fun p => p.2 = .col

/-- Whether policy 1 serves writes first, from the writes that wait (11 R339). -/
def State.writesNow (s : State) (x : Pc) : Bool :=
  let n := (x.pool.filter fun r => r.write && r.issued.isNone).length
  if s.param 0x3F00 14 ≤ n then true else if n ≤ s.param 0x3F00 14 - 16 then false else x.writesFirst

/-! ### Issue -/

/-- A rank leaves power-down: its banks take commands T_XP later at the earliest, and the edges it spent there are
counted (11 R352). -/
def State.wakeRank (s : State) (st c sid : Nat) : State :=
  let x := s.pc st c
  let x := (List.range 16).foldl (fun x b =>
    let y := x.bank (16 * sid + b)
    x.setBank (16 * sid + b) { y with ready := max y.ready (s.mclk + s.tpar 18) }) x
  (s.setPc st c (x.setRank sid { down := false, idle := s.mclk })).pcBump st c 10 (s.mclk - (x.rank sid).idle)

/-- An activate of a row, speculative or not: the rotating pointer moves past the bank (11 R339, R349, R351). -/
def Pc.activate (x : Pc) (i row t : Nat) : Pc :=
  let b := x.bank i
  { x.setBank i { b with row := some row, act := some t, raa := (b.raa + 1) % 2 ^ 16, spec := false, next := none } with
    acts := ((t, i) :: x.acts).take 4, ptr := (i + 1) % 64 }

/-- The physical lane of a pseudo-channel that carries a logical lane, by the Sieve map in force (13 R377, R378). -/
def State.lanesOf (s : State) (st c l : Nat) : Nat :=
  let w := (s.chan st (c / 2)).set.sieve
  let a := if c % 2 = 0 then bits w 23 18 else bits w 11 6
  let b := if c % 2 = 0 then bits w 17 12 else bits w 5 0
  if a = l then 36 else if b = l then 37 else l

/-- The codeword that a write carries. -/
def PotReq.codeword (r : PotReq) : List Byte := if r.poison then poisonWord else encodeGranule r.data

/-- Issues a command for a request. A write drives its codeword on the lanes, scrambled (12 R355; 13 R380). -/
def State.issueCmd (s : State) (st c : Nat) (r : PotReq) (k : BusCmd) : State :=
  let t := s.mclk
  let i := r.bankIx
  let x := { (s.pc st c).takeBus t t with writesFirst := s.writesNow (s.pc st c) }
  let b := x.bank i
  let x := if (x.rank r.sid).down then x else x.setRank r.sid { x.rank r.sid with idle := t }
  match k with
  | .exit => (s.setPc st c x).wakeRank st c r.sid
  | .pre => s.setPc st c ((x.setBank i (b.closed t)).record { at_ := t, kind := 1, bank := i })
  | .act =>
    (s.setPc st c ((x.activate i r.row t).record { at_ := t, kind := 2, bank := i, row := r.row })).pcBump st c 0 1
  | .col =>
    let hit := decide (after r.at_ b.act 1 = true) || (match b.col, b.act with
      | some a, some e => decide (e ≤ a)
      | _, _ => false)
    let older := x.pool.any fun q =>
      decide (q.id < r.id) && q.issued.isNone && decide (q.bankIx = i) && decide (q.row ≠ r.row) &&
        decide (s.levelNow x q ≠ 0)
    let fin := t + s.tpar 6 + 2 * s.tpar 7
    let b := { b with
      col := some t, hits := if s.levelNow x r = 0 then b.hits else if older then b.hits + 1 else 0,
      wrEnd := if r.write then some fin else b.wrEnd,
      spec := !r.write && decide (r.col = 15) && decide (1 ≤ s.levelNow x r) }
    let x : Pc := { (x.takeBus t (t + s.tpar 7)).setBank i b with
      lastCol := some t, lastRd := if r.write then x.lastRd else some t,
      driven := if r.write then scramble (s.lanesOf st c) r.bank r.row r.col r.codeword else x.driven,
      pool := x.pool.map fun q => if q.id = r.id then { q with issued := some t } else q }
    let x := x.record { at_ := t, kind := 3, bank := i, row := r.row, write := r.write, id := some r.id }
    let s := (s.setPc st c x).pcBump st c (if r.write then 4 else 3) 1
    if hit then s.pcBump st c 5 1 else s

/-- A PC of this build. -/
def Build.hasPc (b : Build) (st c : Nat) : Bool := decide (st < b.S) && decide (c < 64)

/-- The bank can be refreshed now: its row is closed or can be closed, and T_RAS, T_WR and T_RC allow (11 R347). -/
def State.mayRefresh (s : State) (b : Bank) : Bool :=
  decide (b.ready ≤ s.mclk) && (b.row.isNone || s.mayClose b) && after s.mclk b.act (s.tpar 3) &&
    after s.mclk b.act (s.tpar 4)

/-- An activate waits for a bank that would take its count to RAA_MAX: of a request, or a speculative one (11 R349,
R351). -/
def State.rfmDue (s : State) (st : Nat) (x : Pc) (i : Nat) : Bool :=
  let b := x.bank i
  decide (s.raaMax st ≤ b.raa + 1) && !(x.rank (i / 16)).down &&
    (b.next.isSome || x.pool.any fun r => r.issued.isNone && decide (r.bankIx = i) && decide (b.row ≠ some r.row))

/-- The refresh engine takes the bus ahead of every request: a REFpb at a debt of 5 or more, or an RFM before an
activate that would take RAA to RAA_MAX, can issue on this edge (11 R337, R347, R349). -/
def State.refreshFirst (s : State) (st : Nat) (x : Pc) : Bool :=
  (decide (5 ≤ x.debt) && s.mayRefresh (x.bank x.refNext)) ||
    (List.range 64).any fun i => s.rfmDue st x i && s.mayRefresh (x.bank i)

/-- What a level bids with at the command bus: its number, or 1 with an aged request, and then its age (11 R337,
R339). -/
def State.levelBid (s : State) (x : Pc) (l : List (PotReq × BusCmd)) (v : Nat) : Option Bid :=
  let q := l.filter fun p => s.levelNow x p.1 = v
  let old := q.filter fun p => p.1.aged
  match (if old.isEmpty then q else old) with
  | [] => none
  | p :: _ =>
    some
      { idx := v, prio := if old.isEmpty then v else min v 1, eligible := q.any (fun p => s.reservedFor p.1), tie := p.1.at_ }

/-- The holder of a frozen command bus keeps it until its level holds no request that waits (10 R325). -/
def State.busHolder (s : State) (x : Pc) (a : Arb) : Arb :=
  match a.holder with
  | none => a
  | some v => if x.pool.any fun r => r.issued.isNone && decide (s.levelNow x r = v) then a else { a with holder := none }

/-- A bank is closed and takes no command for a time. -/
def Pc.block (x : Pc) (i until_ raa : Nat) : Pc :=
  x.setBank i { x.bank i with row := none, ready := until_, raa := raa, spec := false }

/-! ### The answer to an alert (13 R397) -/

/-- A column command is issued once more, for its request where that still waits in the pool. -/
def State.columnAgain (s : State) (x : Pc) (k : PastCmd) : Pc :=
  let t := s.mclk
  let b := x.bank k.bank
  let x := (x.takeBus t (t + s.tpar 7)).setBank k.bank
    { b with col := some t, wrEnd := if k.write then some (t + s.tpar 6 + 2 * s.tpar 7) else b.wrEnd }
  { x with
    lastCol := some t, lastRd := if k.write then x.lastRd else some t,
    pool := x.pool.map fun q => if k.id = some q.id then { q with issued := some t } else q }

/-- One edge of the replay of a command: what the bus issues, and whether the command is done. A column command whose
activate lies before the replayed span opens its row first. -/
def State.replayCmd (s : State) (x : Pc) (k : PastCmd) : Pc × Bool :=
  let t := s.mclk
  let b := x.bank k.bank
  let y := x.takeBus t t
  let shut (done : Bool) : Pc × Bool := if s.mayClose b then (y.setBank k.bank (b.closed t), done) else (x, false)
  let open_ (done : Bool) : Pc × Bool := if s.mayOpen x k.bank then (y.activate k.bank k.row t, done) else (x, false)
  match k.kind with
  | 1 => if b.row.isNone then (x, true) else shut true
  | 2 => if b.row.isSome then shut false else open_ true
  | 3 =>
    if b.row.isNone then open_ false
    else if b.row ≠ some k.row then shut false
    else if s.mayColumn x k.bank k.write && s.burstOver x then (s.columnAgain y k, true) else (x, false)
  | n =>
    if s.mayRefresh b then (y.block k.bank (t + s.tpar (if n = 4 then 16 else 17)) b.raa, true) else (x, false)

/-- The answer to an alert on one edge: 64 MCLK after it every bank is precharged, then the commands of the 64 MCLK
before it are reissued in order, the data of their reads being discarded; with none left the freeze bit of the bus is
cleared. -/
def State.answerAlert (s : State) (st c : Nat) : State :=
  let x := s.pc st c
  match x.alert, x.replay with
  | some t, _ =>
    if s.mclk < t + 64 then s
    else
      let l := (x.hist.filter fun k => decide (t ≤ k.at_ + 64)).reverse
      let y := s.shutBanks x
      let s := s.setPc st c
        { y with
          alert := none, hist := [], replay := l,
          pool := x.pool.map fun q => if l.any fun k => decide (k.id = some q.id) then { q with issued := none } else q }
      if l.isEmpty then s.freezeArb 3 (64 * st + c) 8 false else s
  | none, k :: rest =>
    if x.bus.contains s.mclk then s
    else
      let r := s.replayCmd x k
      let s := s.setPc st c { r.1 with replay := if r.2 then rest else x.replay }
      if r.2 && rest.isEmpty then s.freezeArb 3 (64 * st + c) 8 false else s
  | none, [] => s

/-- STACK_COMMAND_ISSUE (11 R337 to R345; 10 R325): one round of the PC's command bus over the four levels, and the
next command of the request that the policy picks; a frozen bus serves only the level that holds it, and one that
answers an alert the commands of its replay (13 R397). -/
def execStackCommandIssue (stack pc : Nat) (s : State) : Host.Outcome State Fault Refusal :=
  s.runLive (s.build.hasPc stack pc)
    (let l := s.issuable stack pc
     let x := s.pc stack pc
     let k := 64 * stack + pc
     let a := s.arbAt 3 k
     let y := { x with writesFirst := s.writesNow x }
     let of v := l.filter fun p => s.levelNow x p.1 = v
     if (s.pot stack).state ≠ 2 ∨ s.awake (64 + stack) = false then s
     else if !x.calm then s.answerAlert stack pc
     else if a.freeze ≠ 0 then
       let b := s.busHolder x a
       let t := (s.setArb 3 k b).pcBump stack pc 29 1
       match b.holder with
       | none => t
       | some v =>
         if s.refreshFirst stack x then t
         else match s.policyPick y v (of v) with
           | none => t
           | some (r, c) => t.issueCmd stack pc r c
     else if l.isEmpty || s.refreshFirst stack x then s
     else
       let bids := (List.range 4).filterMap (s.levelBid x l)
       match a.winner 3 (s.waitLimit 3) bids with
       | none => s
       | some (v, rule) =>
         let q := if rule = 1 then (of v).filter fun p => s.reservedFor p.1 else of v
         let pick := s.policyPick y v q
         let s := ((s.setArb 3 k (a.granted bids v)).pcBump stack pc 26 1).reservedCount 3 rule
         let s := if rule = 2 then s.pcBump stack pc 27 1 else if rule = 1 then s.pcBump stack pc 28 1 else s
         match pick with
         | none => s
         | some (r, c) => s.issueCmd stack pc r c)

/-- WRITE_RETIRE (11 R344): the edge after the second burst left the PHY. -/
def execWriteRetire (stack pc id : Nat) (s : State) : Host.Outcome State Fault Refusal :=
  s.runLive (s.build.hasPc stack pc)
    (match (s.pc stack pc).pool.find? fun r => decide (r.id = id) && r.write with
     | none => s
     | some r =>
       match r.issued with
       | none => s
       | some t => if t + s.tpar 6 + 2 * s.tpar 7 ≤ s.mclk then s.leavePool stack pc r else s)

/-- AGE_LIMIT_AGED (11 R339). -/
def execAgeLimitAged (stack pc id : Nat) (s : State) : Host.Outcome State Fault Refusal :=
  s.runLive (s.build.hasPc stack pc)
    (if s.param 0x3F00 2 = 1 then
      s.modPc stack pc fun x =>
        { x with
          pool := x.pool.map fun r =>
            if r.id = id ∧ s.levelNow x r ≠ 0 ∧ r.at_ + s.param 0x3F00 4 < s.mclk then { r with aged := true } else r }
     else s)

/-- A bank's open row has no request that hits it. -/
def Pc.noHit (x : Pc) (i row : Nat) : Bool :=
  !x.pool.any fun r => r.issued.isNone && decide (r.bankIx = i) && decide (r.row = row)

/-- A command that no request asked for: the rank's idle time starts anew (11 R352). -/
def Pc.touch (x : Pc) (sid now : Nat) : Pc :=
  if (x.rank sid).down then x else x.setRank sid { x.rank sid with idle := now }

/-- PAGE_IDLE_PRECHARGE (11 R343, R350, R351): the idle row is closed; after a read of its last column with no request
waiting, the bank opens the next row in its place, as soon as the timing of an activate allows and, where its count
would reach RAA_MAX, after an RFM. A request for the bank that comes first takes the place of the speculation. -/
def execPageIdlePrecharge (stack pc bank : Nat) (s : State) : Host.Outcome State Fault Refusal :=
  s.runLive (s.build.hasPc stack pc && decide (bank < 64))
    (let x := s.pc stack pc
     let b := x.bank bank
     let quiet := !x.pool.any fun r => decide (r.bankIx = bank)
     let last := max (b.col.getD 0) (b.act.getD 0)
     match b.row, b.next with
     | some row, _ =>
       if last + s.param 0x3F00 5 ≤ s.mclk ∧ x.noHit bank row = true ∧ s.mayClose b = true ∧ s.busFree x = true ∧
           x.calm = true ∧ x.debt < 8 then
         let go := b.spec && quiet && decide (s.param 0x3F00 10 = 1) && decide (row + 1 < 16384)
         s.setPc stack pc (((x.takeBus s.mclk s.mclk).setBank bank
           { b.closed s.mclk with next := if go then some (row + 1) else none }).touch (bank / 16) s.mclk |>.record
             { at_ := s.mclk, kind := 1, bank := bank })
       else s
     | none, some row =>
       if !quiet then s.setPc stack pc (x.setBank bank { b with next := none })
       else if s.mayOpen x bank && s.busFree x && x.calm && decide (x.debt < 8) && decide (b.raa + 1 < s.raaMax stack) &&
           !(x.rank (bank / 16)).down then
         ((s.setPc stack pc ((((x.takeBus s.mclk s.mclk).activate bank row s.mclk).touch (bank / 16) s.mclk).record
           { at_ := s.mclk, kind := 2, bank := bank, row := row })).pcBump stack pc 0 1).pcBump stack pc 1 1
       else s
     | none, none => s)

/-! ### Refresh (11 R347 to R349) -/

/-- The refresh engine of a stack runs: in service, and while it trains at a start (11 R347; 13 R381). -/
def Pot.refreshes (p : Pot) : Bool := decide (p.state = 1) || decide (p.state = 2)

/-- REFRESH_DEBT_TICK (11 R347, R348): the debt rises at the end of each interval of T_REFI ÷ 64, half as long at the
doubled rate; the rate that stands as an interval starts is that interval's. Self-refresh suspends it. -/
def execRefreshDebtTick (stack pc : Nat) (s : State) : Host.Outcome State Fault Refusal :=
  s.runLive (s.build.hasPc stack pc)
    (let p := s.pot stack
     let x := p.pc pc
     if p.refreshes = true ∧ x.tick + x.step ≤ 128 * s.mclk then
       let s := s.setPc stack pc
         { x with debt := x.debt + 1, tick := x.tick + x.step, step := 2 * s.tpar 20 / p.rate }
       s.modPot stack fun p => { p with maxDebt := max p.maxDebt (x.debt + 1) }
     else s)

/-- The band of a refresh debt, as its tally (11 R354; 17 R470). -/
def debtBand (d : Nat) : Nat := if d ≤ 4 then 7 else if d ≤ 7 then 8 else 9

/-- A REFpb of the next bank: the debt falls, and the bank's activate count (11 R347, R349). -/
def Pc.refreshed (x : Pc) (dec : Nat) : Pc :=
  let b := x.bank x.refNext
  { x.setBank x.refNext { b with raa := b.raa - dec } with debt := x.debt - 1, refNext := (x.refNext + 1) % 64 }

/-- REFPB (11 R337, R347, R349): up to a debt of 4 the refresh yields to level 0; from 5 on it goes ahead. A rank in
power-down wakes for it and returns to power-down; a Stockpot at P1 is woken (14 R415). -/
def execRefpb (stack pc : Nat) (s : State) : Host.Outcome State Fault Refusal :=
  s.runLive (s.build.hasPc stack pc)
    (let x := s.pc stack pc
     let b := x.bank x.refNext
     let busy := (s.issuable stack pc).any fun p => decide (s.levelNow x p.1 = 0)
     let runs := (s.pot stack).refreshes
     if s.awake (64 + stack) = false then (if x.debt = 0 ∨ runs = false then s else s.wakeDom (64 + stack))
     else if x.debt = 0 ∨ runs = false ∨ s.mayRefresh b = false ∨ s.busFree x = false ∨
         (x.debt ≤ 4 ∧ busy = true) then s
     else
       let wake := if (x.rank (x.refNext / 16)).down then s.tpar 18 else 0
       let y := (x.takeBus s.mclk s.mclk).block x.refNext (s.mclk + wake + s.tpar 16) b.raa
       (s.setPc stack pc ((y.refreshed (s.param (0x3000 + 256 * stack) 8)).record
         { at_ := s.mclk, kind := 4, bank := x.refNext })).pcBump stack pc (debtBand x.debt) 1)

/-- RFM (11 R349): before an activate that would take RAA to RAA_MAX. -/
def execRfm (stack pc bank : Nat) (s : State) : Host.Outcome State Fault Refusal :=
  s.runLive (s.build.hasPc stack pc && decide (bank < 64))
    (let x := s.pc stack pc
     let b := x.bank bank
     if s.rfmDue stack x bank = false ∨ (s.pot stack).state ≠ 2 ∨ s.mayRefresh b = false ∨ s.busFree x = false ∨
         x.calm = false ∨ 8 ≤ x.debt then s
     else
       let y := (x.takeBus s.mclk s.mclk).block bank (s.mclk + s.tpar 17) (b.raa - s.raaMax stack)
       let y := (y.touch (bank / 16) s.mclk).record { at_ := s.mclk, kind := 5, bank := bank }
       (s.setPc stack pc y).pcBump stack pc 2 1)

/-- POWER_DOWN_ENTRY (11 R352): the rank's open rows are precharged first. -/
def execPowerDownEntry (stack pc sid : Nat) (s : State) : Host.Outcome State Fault Refusal :=
  s.runLive (s.build.hasPc stack pc && decide (sid < 4))
    (let x := s.pc stack pc
     let r := x.rank sid
     let held := x.pool.any fun q => decide (q.sid = sid)
     let shut := (List.range 16).all fun b => (x.bank (16 * sid + b)).row.isNone || s.mayClose (x.bank (16 * sid + b))
     if r.down || held || !shut || !s.busFree x || !x.calm || decide (8 ≤ x.debt) || decide (s.mclk < r.idle + s.param 0x3F00 6) then s
     else
       let x := (List.range 16).foldl (fun x b =>
         x.setBank (16 * sid + b) ((x.bank (16 * sid + b)).closed s.mclk)) x
       s.setPc stack pc ((x.takeBus s.mclk s.mclk).setRank sid { down := true, idle := s.mclk }))

/-! ### Write-back of merge entries (12 R363) -/

/-- MERGE_WRITE_BACK (12 R363, R370): the entry goes back as one whole granule once its bytes are known and its hold
has passed, the buffer is under pressure or the bus is frozen; under pressure only the oldest such entry goes. It is
freed as the write-back enters the pool, where its granule is served, and stays while that has no room. -/
def execMergeWriteBack (stack pc gran : Nat) (s : State) : Host.Outcome State Fault Refusal :=
  s.runLive (s.build.hasPc stack pc)
    (let x := s.pc stack pc
     match x.mergeOf gran with
     | none => s
     | some m =>
       let oldest := decide (x.merges.find? MergeEnt.known = some m)
       let press := decide (28 ≤ x.merges.length)
       let frozen := decide ((s.arbAt 3 (64 * stack + pc)).freeze ≠ 0) || decide ((s.arbAt 0 (0x200 + stack)).freeze ≠ 0)
       let ps := s.places gran true
       let y := (ps.find? fun y => decide (y.st = stack ∧ y.pc = pc)).getD (s.physical (s.visible gran))
       let r : PotReq :=
         { ownReq gran true m.data m.who with copy := true, sid := y.sid, bank := y.bank, row := y.row, col := y.col }
       if m.known && (press || frozen || decide (m.last + s.param 0x3F10 7 ≤ s.mclk)) && (!press || oldest) && s.poolRoom x r then
         ((((s.setPc stack pc { x with merges := x.merges.erase m }).accepted stack pc r false).enterPool stack pc r).pcBump
           stack pc 20 1).pullAll stack pc
       else s)

end Sys2Proof.Machine
end

