-- ==== Sys2Proof/Machine/Retrain.lean ====
section
/-! DEFINITION. Spare rank slots and the start of retirements (12 R366, R372 to R374), and the triggers of a retrain (13
R396, R398, R401). -/

namespace Sys2Proof.Machine

/-! ### Spare slots (12 R372) -/

/-- A spare channel (30 or 31) is whole: all its slots are FREE and none is borrowed. -/
def Pot.whole (p : Pot) (ch : Nat) : Bool :=
  (List.range 8).all fun i =>
    let x := p.slot (8 * (ch - 30) + i)
    decide (x.state = 0) && !x.borrowed

/-- A spare channel is borrowed. -/
def Pot.lent (p : Pot) (ch : Nat) : Bool := (List.range 8).any fun i => (p.slot (8 * (ch - 30) + i)).borrowed

def Pot.setSlot (p : Pot) (k : Nat) (x : SpareSlot) : Pot := { p with slots := mapSet {} p.slots k x }

/-- The slot that receives a retired rank: a FREE one of a channel that is not borrowed, of a channel that is not whole
where there is one, else of channel 31, the lowest number first. -/
def Pot.chooseSlot (p : Pot) : Option Nat :=
  let free := (List.range 16).filter fun k => decide ((p.slot k).state = 0) && !p.lent (30 + k / 8)
  match free.find? fun k => !p.whole (30 + k / 8) with
  | some k => some k
  | none => match free.find? fun k => decide (8 ≤ k) with
    | some k => some k
    | none => free.head?

/-- Some slot is FREE, borrowed or not. -/
def Pot.anyFree (p : Pot) : Bool := (List.range 16).any fun k => decide ((p.slot k).state = 0)

/-- The slot entry of SLOT_MAP. -/
def Pot.slotWord (p : Pot) (k : Nat) : Nat :=
  let x := p.slot k
  x.state * 2 ^ 30 + b2n x.borrowed * 2 ^ 29 + (60 + k / 4) * 2 ^ 23 + (k % 4) * 2 ^ 21 + x.srcV * 2 ^ 15 + x.srcSid * 2 ^ 13

/-! ### Retirement (12 R372, R374) -/

/-- The visible rank that a physical rank holds, where it holds one. -/
def Pot.visibleRank (p : Pot) (c sid : Nat) : Option (Nat × Nat) :=
  match p.rankMap.find? fun x => decide (x.2 = 4 * c + sid) with
  | some x => some (x.1 / 4, x.1 % 4)
  | none => if c < 60 ∧ (mapFind p.rankMap (4 * c + sid)).isNone then some (c, sid) else none

/-- A visible rank lies in a dead channel (13 R404). -/
def Pot.deadRank (p : Pot) (r : Nat × Nat) : Bool := decide ((p.chan ((p.rankOf r.1 r.2).1 / 2)).state = 9)

/-! ### Rebuilds (13 R403, R404) -/

/-- A region whose first copy holds a poisoned granule that no good copy covers: REBUILD_NEEDED names it (13 R403). -/
def State.needsRebuild (s : State) (d : Desc) : Bool :=
  (d.kind = kParam || (d.kind = kLog && decide (lgRole (s.logHdr d) ≠ 2))) &&
    s.mem.poison.any fun p =>
      decide (d.bpa0 / 64 ≤ p.1) && decide (64 * p.1 < d.bpa0 + d.capacity) &&
        (!d.mirror || s.failing (p.1 - d.bpa0 / 64 + d.mbpa0 / 64))

/-- REBUILD_NEEDED for a region. -/
def State.askRebuild (s : State) (desc : Nat) : State :=
  s.raise (s.srcDuty 4) 0x0404 (beBytes 3 ((s.descOf desc).owner * 2 ^ 18 + desc))

def State.raiseRebuilds (s : State) : State :=
  ((s.rgn.desc.filter fun p => decide (p.2.state = 1) && s.needsRebuild p.2).map Prod.fst).foldl State.askRebuild s

/-- Nothing of a channel without a working setting is left to move: each of its ranks has been copied, filled, or found no
slot. -/
def Pot.emptied (p : Pot) (ch : Nat) : Bool :=
  decide (7 ≤ (p.chan ch).state) &&
    !((p.queue ++ (p.mig.toList ++ p.fills).map fun m => (m.v, m.sid)).any fun r => decide ((p.rankOf r.1 r.2).1 / 2 = ch))

/-- Once nothing of such a channel is left to move, every region that now holds a granule poisoned on its account is named (13
R403, R404). -/
def State.rebuildAfter (s : State) (st ch : Nat) : State := if (s.pot st).emptied ch then s.raiseRebuilds else s

/-- A rank without a slot stays in service, in limp service where its channel has no working setting, or dead (12 R372; 13
R403, R404). -/
def State.blockRetire (s : State) (st : Nat) (r : Nat × Nat) : State :=
  let p := s.pot st
  let ch := (p.rankOf r.1 r.2).1 / 2
  let p := if (p.chan ch).state = 8 then { p with chans := mapSet {} p.chans ch { p.chan ch with state := 7 } } else p
  (((s.setPot st p).raise (0x0400 + st) 0x0403 (beBytes 1 r.1 ++ beBytes 1 r.2)).stackBump st 1 1).rebuildAfter st ch

/-- The rank of a dead channel takes a slot and is filled beside the others; it waits where the only FREE slots are borrowed
(13 R404). -/
def State.fillRank (s : State) (st : Nat) (r : Nat × Nat) : State :=
  let p := s.pot st
  match p.chooseSlot with
  | some k =>
    let m : Migration := { v := r.1, sid := r.2, slot := k, mark := 0, fill := true }
    s.setPot st ({ p with fills := p.fills ++ [m] }.setSlot k { state := 1, srcV := r.1, srcSid := r.2 })
  | none => if p.anyFree then s.setPot st { p with queue := p.queue ++ [r] } else s.blockRetire st r

/-- Starts the next retirement of a stack where none runs: a rank for which no slot is FREE is blocked, and the next one's turn
comes (12 R372). -/
def State.nextMove (s : State) (st fuel : Nat) : State :=
  match fuel with
  | 0 => s
  | n + 1 =>
    let p := s.pot st
    match p.mig, p.queue.find? fun r => !p.deadRank r with
    | none, some r =>
      let rest := p.queue.erase r
      match p.chooseSlot with
      | some k =>
        s.setPot st ({ p with mig := some { v := r.1, sid := r.2, slot := k, mark := 0 }, queue := rest }.setSlot k
          { state := 1, srcV := r.1, srcSid := r.2 })
      | none => if p.anyFree then s else ((s.setPot st { p with queue := rest }).blockRetire st r).nextMove st n
    | _, _ => s

/-- Starts what is queued on a stack: every fill that a slot is at hand for, and the next retirement where none runs. -/
def State.nextRetire (s : State) (st : Nat) : State :=
  let dead := (s.pot st).queue.filter (s.pot st).deadRank
  let s := dead.foldl (fun s r => s.fillRank st r) (s.modPot st fun p => { p with queue := p.queue.filter fun r => !p.deadRank r })
  s.nextMove st (s.pot st).queue.length

/-- The spare slot that holds a visible rank becomes FAILED as the rank is to move out of it (12 R372). -/
def Pot.failHome (p : Pot) (r : Nat × Nat) : Pot :=
  let src := p.rankOf r.1 r.2
  if 60 ≤ src.1 then p.setSlot (4 * (src.1 - 60) + src.2) { p.slot (4 * (src.1 - 60) + src.2) with state := 3 } else p

/-- Asks for the retirement of a visible rank: one that is moving or queued is not asked for again. -/
def State.askRetire (s : State) (st v sid : Nat) : State :=
  let p := s.pot st
  if (p.mover v sid).isSome || p.queue.contains (v, sid) then s
  else (s.setPot st ({ p with queue := p.queue ++ [(v, sid)] }.failHome (v, sid))).nextRetire st

/-- A trigger of Ladel's own: with RETIRE_AUTO at 0 it reports and waits (12 R366). -/
def State.triggerRetire (s : State) (st c sid : Nat) : State :=
  match (s.pot st).visibleRank c sid with
  | none => s
  | some (v, d) =>
    if s.param 0x3F10 10 = 1 then s.askRetire st v d else s.note (srcPc st c) 366 (4 * v + d)

/-! ### Retraining (13 R396, R398, R401) -/

/-- The event of a channel: channel, trigger, phase (15 R450). -/
def State.chanEvent (s : State) (st ch trigger : Nat) : State :=
  s.raise (srcPc st (2 * ch)) 0x0405 (beBytes 1 ch ++ beBytes 1 trigger ++ beBytes 1 (s.chan st ch).state)

/-- Starts a split retrain: the channel takes its turn in the order of triggers (13 R400). -/
def State.startSplit (s : State) (st ch trigger : Nat) : State :=
  (s.modChan st ch fun c => { c with state := 2, windows := 0, turn := s.mclk, retrains := c.retrains + 1 }).chanEvent st ch
    trigger

/-- Starts a stand-in by a whole spare channel, for a retrain, which is counted, or for TEST (13 R385, R398, R399). -/
def State.startStand (s : State) (st ch spare trigger : Nat) (retrain : Bool) : State :=
  let s := s.modPot st fun p =>
    let p := (List.range 8).foldl (fun p i =>
      let k := 8 * (spare - 30) + i
      p.setSlot k { p.slot k with borrowed := true }) p
    { p with stands := p.stands ++ [{ ch := ch, spare := spare, since := s.clk.now, rate := s.param 0x4F00 18 }] }
  (s.modChan st ch fun c => { c with state := 3, retrains := c.retrains + b2n retrain }).chanEvent st ch trigger

/-- The spare channel that can stand in, channel 30 first. -/
def Pot.standSpare (p : Pot) : Option Nat := if p.whole 30 then some 30 else if p.whole 31 then some 31 else none

/-- A trigger of a retrain: merged where the channel is retraining or in TEST, deferred on a borrowed spare channel,
otherwise by stand-in or split (13 R396 to R401). -/
def State.askRetrain (s : State) (st ch trigger : Nat) : State :=
  let p := s.pot st
  let c := p.chan ch
  if 2 ≤ c.state ∧ c.state ≤ 6 then s.modChan st ch fun c => { c with merged := c.merged + 1 }
  else if c.state ≠ 1 then s
  else if 30 ≤ ch then
    if p.lent ch then
      s.modChan st ch fun c =>
        if c.deferred.isNone then { c with deferred := some trigger } else { c with merged := c.merged + 1 }
    else s.startSplit st ch trigger
  else match p.standSpare with
    | some q => s.startStand st ch q trigger true
    | none => s.startSplit st ch trigger

end Sys2Proof.Machine
end

