-- ==== Sys2Proof/Machine/Integrity.lean ====
section
/-! DEFINITION. Memory integrity (12 R357 to R375): what a read of a granule does, scrubbing, row remap, retirement of
ranks, and the temperature polls of 11 R348. -/

namespace Sys2Proof.Machine

/-! ### Counts and triggers of a read (12 R357, R366) -/

/-- The second that fabric time is in. -/
def State.sec (s : State) : Nat := s.clk.ftc / 1200000000

/-- A rank is moving: its errors trigger nothing further (12 R366). -/
def Pot.moving (p : Pot) (c sid : Nat) : Bool :=
  match p.visibleRank c sid with
  | some (v, d) => (p.mover v d).isSome
  | none => false

/-- Corrected symbols by lane within one second: a lane that reaches the limit is erased and a spare lane asked for; a
second one asks for a retrain (12 R366; 13 R396). Those of a rank that is moving are counted alone. -/
def State.countLane (s : State) (st c sid lane : Nat) : State :=
  let x := s.pc st c
  let m := if x.laneSec = s.sec then x.laneCe else []
  let n := mapGet 0 m lane + 1
  let s := s.setPc st c { x with laneCe := mapPut m lane n, laneSec := s.sec }
  if s.param 0x3F10 3 ≤ n ∧ (s.pot st).moving c sid = false then
    match x.erased with
    | none =>
      let s := s.modPc st c fun x => { x with erased := some lane }
      let w := (s.chan st (c / 2)).set.sieve
      let free := if c % 2 = 0 then decide (bits w 23 18 = 63) || decide (bits w 17 12 = 63)
        else decide (bits w 11 6 = 63) || decide (bits w 5 0 = 63)
      if free then s.askRetrain st (c / 2) 3 else s
    | some l => if l = lane ∨ n ≠ s.param 0x3F10 3 then s else s.askRetrain st (c / 2) 2
  else s

/-- Lost bursts of a channel within one second (13 R396). -/
def State.countLost (s : State) (st c n : Nat) : State :=
  if n = 0 then s
  else
    let x := s.chan st (c / 2)
    let k := (if x.lostSec = s.sec then x.lost else 0) + n
    let s := (s.setChan st (c / 2) { x with lost := k, lostSec := s.sec }).pcBump st c 17 n
    if s.param 0x4F00 13 ≤ k then s.askRetrain st (c / 2) 5 else s

/-- One more corrected granule of a row in the tracker of 64 rows: a row that it does not hold takes the place of the least
recently counted one (12, error accounting). -/
def trackRow (l : List (Nat × Nat)) (k : Nat) : List (Nat × Nat) :=
  let n := ((l.find? fun p => decide (p.1 = k)).map Prod.snd).getD 0
  ((k, n + 1) :: l.filter fun p => p.1 ≠ k).take 64

/-- Corrected granules of a row that the tracker holds. -/
def Pc.rowCount (x : Pc) (k : Nat) : Nat := ((x.rowCe.find? fun p => decide (p.1 = k)).map Prod.snd).getD 0

/-- A corrected granule counts towards its row and rank. -/
def State.countCe (s : State) (st c sid bank row : Nat) : State :=
  let k := (16 * sid + bank) * 16384 + row
  let s := s.modPc st c fun x =>
    { x with
      rowCe := trackRow x.rowCe k, rankCe := mapPut x.rankCe sid (mapGet 0 x.rankCe sid + 1) }
  if mapGet 0 (s.pc st c).rankCe sid = s.param 0x3F10 4 ∧ (s.pot st).moving c sid = false then s.triggerRetire st c sid
  else s

/-- An uncorrectable granule counts towards its row; two such rows of a rank retire it. -/
def State.countUe (s : State) (st c sid bank row : Nat) : State :=
  let k := (16 * sid + bank) * 16384 + row
  let s := s.modPc st c fun x => { x with rowUe := mapPut x.rowUe k (mapGet 0 x.rowUe k + 1) }
  let rows := ((s.pc st c).rowUe.filter fun p => decide (p.1 / 16384 / 16 = sid)).length
  if rows = 2 ∧ (s.pot st).moving c sid = false then s.triggerRetire st c sid else s

/-- The counts of one decoded read (12 R357; 17 R470). -/
def State.countRead (s : State) (y : Place) (v : Verdict72) (lost : Nat) : State :=
  let limp := (s.pc y.st y.pc).erased.isSome
  let s := if limp then s.pcBump y.st y.pc 16 1 else s
  let s := s.countLost y.st y.pc (popCount 2 lost)
  match v with
  | .clean => s.pcBump y.st y.pc 12 1
  | .corrected l =>
    let s := (s.pcBump y.st y.pc 13 1).pcBump y.st y.pc 15 l.length
    (l.foldl (fun s j => s.countLane y.st y.pc y.sid (laneOf j)) s).countCe y.st y.pc y.sid y.bank y.row
  | .uncorrectable =>
    ((s.pcBump y.st y.pc 14 1).modPot y.st fun p => { p with uncorr := p.uncorr + 1 }).countUe y.st y.pc y.sid y.bank y.row
  | .poisoned => s

/-- A write to a granule waits in the pool, or it has a merge entry (12 R367). -/
def Pc.written (x : Pc) (g : Nat) : Bool := (x.pool.any fun q => q.write && decide (q.gran = g)) || (x.mergeOf g).isSome

/-- The bursts lost of a word that a copy or the patrol reads: a burst without its preamble brings none of its 36 symbols (12
R358). -/
def lostOf (word : List Byte) : Nat := if word.length = 72 then 0 else if word.length = 36 then 1 else 3

/-- A word as the lanes bring it: 72 symbols, or fewer where bursts are lost. -/
def wordOk72 (word : List Byte) : Bool := decide (word.length = 72) || decide (word.length = 36) || decide (word.length = 0)

def State.addFail (s : State) (req seq g : Nat) : State :=
  s.modMem fun m => { m with fails := m.fails ++ [⟨req, seq, g⟩] }

def State.addMisread (s : State) (req seq g : Nat) (b : List Byte) : State :=
  s.modMem fun m => { m with misreads := m.misreads ++ [⟨req, seq, g, b⟩] }

/-- A read for what a request serves was uncorrectable (12 R360, R365). -/
def State.failFor (s : State) (o : Origin) (g : Nat) : State :=
  match o with
  | .frame req seq => s.addFail req seq g
  | .tile t => s.addFail (2 ^ 20 + t) 0 g
  | _ => s

/-- A slot whose granules fail under a migration becomes FAILED, and the migration starts again into another (12 R374). -/
def State.failSlot (s : State) (y : Place) : State :=
  let p := s.pot y.st
  match p.mig with
  | some m =>
    if 60 + m.slot / 4 = y.pc ∧ m.slot % 4 = y.sid then
      (s.setPot y.st { p.setSlot m.slot { p.slot m.slot with state := 3 } with
        mig := none, queue := (m.v, m.sid) :: p.queue }).nextRetire y.st
    else s
  | none => s

/-- A read of slot storage for an admitted frame of the Whisk has failed: its slot breaks (03 R84, R94). -/
def State.storageRead (s : State) (req seq gran code : Nat) : State :=
  match s.op (opKey req seq) with
  | some o =>
    if s.inSpill gran && [opAccum, opRedClose].contains o.opcode then
      match s.frameSlot o.hdr with
      | some x => if x.state = 1 ∨ x.state = 2 then s.storageFails x code else s
      | none => s
    else s
  | none => s

/-- A merge read has come back with data: the entry has all its bytes, and the granule holds the merged ones (12 R363). -/
def State.mergeBack (s : State) (st c g : Nat) (data : List Byte) : State :=
  match (s.pc st c).mergeOf g with
  | none => s
  | some m =>
    let b := overlay data m.data m.mask
    ((s.modPc st c fun x =>
      { x with merges := x.merges.replace m { m with back := true, data := b, waits := [] } }).mwrite (64 * g) b)

/-- A merge read has failed: the entry is discarded; where the read was uncorrectable, every write that merged into it and
every read that waited for it fails with it (12 R364, R365). -/
def State.mergeFails (s : State) (st c g : Nat) (uncorr : Bool) : State :=
  match (s.pc st c).mergeOf g with
  | none => s
  | some m =>
    let s := s.modPc st c fun x => { x with merges := x.merges.erase m }
    if uncorr then (m.srcs ++ m.waits.map (·.src)).foldl (fun s o => s.failFor o g) s else s

/-- The places of the 16 granules of a remap target. -/
def State.targetPlaces (s : State) (t : Nat) : List Place :=
  (List.range 16).map fun i => s.physical (s.visible (16 * t + i))

/-- Offers the reads of a row that is being copied, for every column that is neither copied nor being read (12 R369). -/
def State.copyRow (s : State) (st c i : Nat) : State :=
  let x := s.pc st c
  let e : Remap := mapGet {} x.remaps i
  match (s.pot st).visibleRank c e.sid with
  | none => s
  | some (v, d) =>
    ((List.range 16).filter fun k =>
      !e.copied.contains k && !(x.pool ++ x.own).any fun q => decide (q.remap = some i) && decide (q.col = k)).foldl (fun s k =>
        s.selfOffer { ownReq (s.granAt ⟨st, v, d, e.bank, e.row, k⟩) false [] [{}] with remap := some i }
          ⟨st, c, e.sid, e.bank, e.row, k⟩) s

/-- A copy read of a remap has returned: the granule is written to the target as it was read, or as the poison word, unless a
write to it has entered since (12 R360, R369, R373). -/
def State.copyGranule (s : State) (st c i : Nat) (r : PotReq) (data : Option (List Byte)) : State :=
  let e : Remap := mapGet {} (s.pc st c).remaps i
  if e.state ≠ 1 ∨ r.passed = true then s
  else
    let s := s.modPc st c fun x => { x with remaps := mapPut x.remaps i { e with copied := e.copied ++ [r.col] } }
    match (s.targetPlaces e.target)[r.col]?, data with
    | some y, some b => s.selfWrite y r.gran b [{}]
    | some y, none => s.selfPoison y r.gran [{}]
    | none, _ => s

/-- GRANULE_READ_DECODE (12 R357 to R360, R364 to R367; 13 R358, R380): the verdict on the word that a read brought back
over the lanes, once it is descrambled, and the data that the decoder gives. An UNCORRECTABLE read poisons its granule,
unless a write to it has entered since; the reading operation is named, and is answered ERR_UNCORRECTABLE. -/
def execGranuleReadDecode (stack pc id : Nat) (word : List Byte) (lost req seq : Nat) (s : State) :
    Host.Outcome State Fault Refusal :=
  s.runLive (s.build.hasPc stack pc && decide (word.length = 72) && decide (lost < 4) && decide (seq < 2 ^ 32))
    (match (s.pc stack pc).pool.find? fun r => decide (r.id = id) && !r.write && r.issued.isSome with
     | none => s
     | some r =>
       if s.mclk < r.issued.getD 0 + s.tpar 5 then s
       else
         let lane := (s.pc stack pc).erased
         let w := scramble (s.lanesOf stack pc) r.bank r.row r.col word
         let v := judgeWord w lane lost
         let b := decodedData w lane v
         let y : Place := ⟨stack, pc, r.sid, r.bank, r.row, r.col⟩
         let s := (s.quitPool stack pc r).countRead y v lost
         let fixed := match v with
           | .corrected _ => true
           | _ => false
         let s := match v with
           | .clean | .corrected _ =>
             let s := if r.merge then s.mergeBack stack pc r.gran b
               else if r.passed || decide (b = s.mread (64 * r.gran) 64) then s
               else s.addMisread req seq r.gran b
             let s := match r.remap with
               | some i => s.copyGranule stack pc i r (some b)
               | none => s
             if fixed && decide (s.param 0x3F10 9 = 1) && !r.passed && !r.merge && ((s.pc stack pc).mergeOf r.gran).isNone then
               (s.pcBump stack pc 21 1).selfWrite y r.gran b [{}]
             else s
           | .uncorrectable =>
             let s := s.addFail req seq r.gran
             let s := if r.merge then s.mergeFails stack pc r.gran true else s
             let s := match r.remap with
               | some i => s.copyGranule stack pc i r none
               | none => s
             ((if r.passed then s else s.selfPoison y r.gran r.who).failSlot y).storageRead req seq r.gran cUncorrectable
           | .poisoned =>
             let s := if r.merge then s.mergeFails stack pc r.gran false else s
             let s := match r.remap with
               | some i => s.copyGranule stack pc i r none
               | none => s
             s.storageRead req seq r.gran cPoison
         s.pullAll stack pc)

/-! ### Patrol and mirror copies (12 R368, R375) -/

/-- A rank is patrolled: it holds a visible rank, or is a FREE spare slot that is not borrowed. -/
def Pot.patrolled (p : Pot) (c sid : Nat) : Bool :=
  (p.visibleRank c sid).isSome ||
    (decide (60 ≤ c) && decide ((p.slot (4 * (c - 60) + sid)).state = 0) && !(p.slot (4 * (c - 60) + sid)).borrowed)

/-- The place of the patrol pointer, the next patrolled rank of the PC being taken where its own is not. -/
def Pot.patrolPlace (p : Pot) (st c : Nat) : Option Place :=
  let n := (p.pc c).patrol
  let r := n / 2 ^ 22
  match ((List.range 4).map fun i => (r + i) % 4).find? (p.patrolled c) with
  | none => none
  | some q =>
    let k := if q = r then n % 2 ^ 22 else 0
    some ⟨st, c, q, k / 2 ^ 18, k / 16 % 16384, k % 16⟩

/-- The mirrored PARAM region whose first copy holds a granule: DESC, descriptor. -/
def State.mirroredAt (s : State) (g : Nat) : Option (Nat × Desc) :=
  s.rgn.desc.find? fun p =>
    decide (p.2.state = 1 ∧ p.2.kind = kParam) && p.2.mirror && decide (p.2.bpa0 ≤ 64 * g) &&
      decide (64 * g < p.2.bpa0 + p.2.capacity)

/-- Whether an offset of a PARAM region lies in a shadow frame while the region is OPEN. -/
def State.inShadow (s : State) (d : Desc) (ofs : Nat) : Bool :=
  let h := s.prmHdr d
  let pb := prmPageBytes h
  decide (prmState h = 1) && decide (0 < pb) && decide (0x200000 ≤ ofs) &&
    !((List.range (prmPages h)).any fun p => decide (curFrame h (s.pageEntry d p) = (ofs - 0x200000) / pb))

/-- Compares the two copies of a granule of a mirrored region: one that has failed is rewritten from the other; where both
have, the region is to be restored from its log; two good copies that differ are poisoned, or mark PEND_STEP where they
lie in a shadow frame (12 R375). -/
def State.compareMirror (s : State) (y : Place) (g : Nat) : State :=
  match s.mirroredAt g with
  | none => s
  | some (desc, d) =>
    let m := g - d.bpa0 / 64 + d.mbpa0 / 64
    let bad1 := s.failing g
    let bad2 := s.failing m
    if bad1 && bad2 then s.askRebuild desc
    else if bad1 then s.store (64 * g) (s.mread (64 * m) 64)
    else if bad2 then s.store (64 * m) (s.mread (64 * g) 64)
    else if s.mread (64 * g) 64 = s.mread (64 * m) 64 then s
    else
      let s := s.pcBump y.st y.pc 23 1
      if s.inShadow d (64 * g - d.bpa0) then s.mark d.owner (prmPend (s.prmHdr d)) 375
      else
        ((s.poisonAt y g).poisonAt (s.physical (s.visible m)) m).note (srcPc y.st y.pc) 375 (d.owner * 2 ^ 18 + desc)

/-- PATROL_SCRUB (12 R358, R368): the next granule of the PC's patrol is read and judged; a CORRECTED one is rewritten, an
UNCORRECTABLE one poisoned, and the copies of a mirrored PARAM region are compared. Where the rank's granule is served
elsewhere — a row that a migration has passed or that is remapped, a channel with a stand-in — its errors are counted
alone. It wakes its Stockpot (14 R415). -/
def execPatrolScrub (stack pc : Nat) (word : List Byte) (s : State) : Host.Outcome State Fault Refusal :=
  s.runLive (s.build.hasPc stack pc && wordOk72 word)
    (if s.awake (64 + stack) = false then s.wakeDom (64 + stack)
     else match (s.pot stack).patrolPlace stack pc with
     | none => s
     | some y =>
       let lane := (s.pc stack pc).erased
       let w := scramble (s.lanesOf stack pc) y.bank y.row y.col word
       let v := judgeWord w lane (lostOf word)
       let at_ := ((y.sid * 16 + y.bank) * 16384 + y.row) * 16 + y.col
       let s := (s.modPc stack pc fun x => { x with patrol := (at_ + 1) % 2 ^ 24 }).countRead y v (lostOf word)
       match (s.pot stack).visibleRank pc y.sid with
       | none => s
       | some (r, d) =>
         let g := s.granAt ⟨stack, r, d, y.bank, y.row, y.col⟩
         if !(s.places g false).contains y then s
         else
           let held := (s.pc stack pc).written g
           let s := match v with
             | .corrected _ =>
               if held then s else (s.pcBump stack pc 22 1).selfWrite y g (decodedData w lane v) [{}]
             | .uncorrectable => if held then s else s.selfPoison y g [{}]
             | _ => s
           s.compareMirror y g)

/-! ### Row remap (12 R369 to R371) -/

/-- The first 1 KiB unit of the remap area, which Ladel places at the start of its tables (01 R22; 12 R369). -/
def State.remapBase (s : State) : Nat := (s.build.sysBase + 472 * 1048576 * s.build.S + 1048576) / 1024

/-- The remap entries of the block that are not free. -/
def State.remapsUsed (s : State) : List Remap :=
  ((s.stk.pots.map fun p => (p.2.pcs.map fun c => mapVals c.2.remaps).flatten).flatten).filter fun r => decide (r.state ≠ 0)

/-- The target that Ladel chooses: a free one none of whose granules lies on the failing PC (12 R369). -/
def State.chooseTarget (s : State) (st c : Nat) : Option Nat :=
  let used := s.remapsUsed.map (·.target)
  ((List.range (1024 * s.build.S)).map (s.remapBase + ·)).find? fun t =>
    !used.contains t && (s.targetPlaces t).all fun y => decide (y.st ≠ st ∨ y.pc ≠ c)

/-- REMAP_ROW (12 R366, R369): a row that has reached its limit takes a free remap entry, in copying state, and the reads of
its granules enter; with none
free, or where the row holds a remap target, its rank retires. -/
def execRemapRow (stack pc sid bank row : Nat) (s : State) : Host.Outcome State Fault Refusal :=
  s.runDuty (s.stackDuty stack) (s.build.hasPc stack pc && decide (sid < 4) && decide (bank < 16) && decide (row < 16384))
    (let x := s.pc stack pc
     let k := (16 * sid + bank) * 16384 + row
     let due := decide (s.param 0x3F10 2 ≤ x.rowCount k) || decide (0 < mapGet 0 x.rowUe k)
     let named := x.remaps.any fun p => decide (p.2.state ≠ 0 ∧ p.2.sid = sid ∧ p.2.bank = bank ∧ p.2.row = row)
     if !due || named || (s.pot stack).moving pc sid then s
     else
       let holds := s.remapsUsed.any fun r => (s.targetPlaces r.target).any fun y =>
         decide (y.st = stack ∧ y.pc = pc ∧ y.sid = sid ∧ y.bank = bank ∧ y.row = row)
       match (List.range 8).find? (fun i => decide ((mapGet {} x.remaps i : Remap).state = 0)), s.chooseTarget stack pc with
       | some i, some t =>
         if holds then s.triggerRetire stack pc sid
         else
           let bare := ((s.pot stack).visibleRank pc sid).isNone
           (s.setPc stack pc
             { x with
               remaps := mapPut x.remaps i { state := 1, sid := sid, bank := bank, row := row, target := t,
                                                copied := if bare then List.range 16 else [] } }).copyRow stack pc i
       | _, _ => s.triggerRetire stack pc sid)

/-- A write to a row waits in the pool or the merge buffer. -/
def State.rowWrites (s : State) (st c sid bank row : Nat) : Bool :=
  let x := s.pc st c
  (x.pool.any fun q => q.write && decide (q.sid = sid ∧ q.bank = bank ∧ q.row = row)) ||
    x.merges.any fun m =>
      let y := s.physical (s.visible m.gran)
      decide (y.sid = sid ∧ y.bank = bank ∧ y.row = row)

/-- REMAP_ACTIVE (12 R369): every granule is copied and no write to the row waits; a granule that has to be copied again is
read anew. -/
def execRemapActive (stack pc entry : Nat) (s : State) : Host.Outcome State Fault Refusal :=
  s.runDuty (s.stackDuty stack) (s.build.hasPc stack pc && decide (entry < 8))
    (let x := s.pc stack pc
     let r := mapGet {} x.remaps entry
     if r.state ≠ 1 ∨ s.rowWrites stack pc r.sid r.bank r.row = true then s
     else if (List.range 16).all r.copied.contains then
       (s.setPc stack pc { x with remaps := mapPut x.remaps entry { r with state := 2 } }).pcBump stack pc 24 1
     else s.copyRow stack pc entry)

/-- POST_PACKAGE_REPAIR (12 R371): only while the row's rank holds no BPA: before admission where PPR_AT_START is 1, or in
a rank that has been retired. `ok` says that the bank had a repair resource left. -/
def execPostPackageRepair (stack pc entry : Nat) (ok : Bool) (s : State) : Host.Outcome State Fault Refusal :=
  s.runDuty (s.stackDuty stack) (s.build.hasPc stack pc && decide (entry < 8))
    (let x := s.pc stack pc
     let r := mapGet {} x.remaps entry
     let free := (decide (s.ldl.stage ≠ 6) && decide (s.param 0x3F10 12 = 1)) || ((s.pot stack).visibleRank pc r.sid).isNone
     if 2 ≤ r.state ∧ free = true ∧ ok = true then
       (s.setPc stack pc { x with remaps := mapDel x.remaps entry }).pcBump stack pc 25 1
     else s)

/-! ### Migration (12 R373, R374) -/

/-- A migration is paused while the source's or the slot's channel retrains or is in TEST. -/
def Pot.paused (p : Pot) (m : Migration) : Bool :=
  let busy (c : Nat) : Bool := decide (2 ≤ (p.chan (c / 2)).state ∧ (p.chan (c / 2)).state ≤ 6)
  busy (p.rankOf m.v m.sid).1 || busy (60 + m.slot / 4)

/-- MARK has passed the last row: the rank map is rewritten, the slot is IN_USE, the source's remap entries are freed, its
activate counts move with it, and the event reports the retirement (11 R349; 12 R373). -/
def State.endMigration (s : State) (st : Nat) (m : Migration) : State :=
  let p := s.pot st
  let src := p.rankOf m.v m.sid
  let ppc := 60 + m.slot / 4
  let x := p.pc src.1
  let y := (List.range 16).foldl (fun (y : Pc) b =>
    y.setBank (16 * (m.slot % 4) + b) { y.bank (16 * (m.slot % 4) + b) with raa := (x.bank (16 * src.2 + b)).raa })
    (p.pc ppc)
  let p := (p.setPc src.1 { x with remaps := x.remaps.filter fun r => r.2.sid ≠ src.2 }).setPc ppc y
  let p := p.failHome (m.v, m.sid)
  let p := (p.setSlot m.slot { p.slot m.slot with state := 2 })
  let p := { p with
    rankMap := mapPut p.rankMap (4 * m.v + m.sid) (4 * ppc + m.slot % 4),
    mig := if m.fill then p.mig else none, fills := p.fills.filter fun x => !decide (x.v = m.v ∧ x.sid = m.sid) }
  ((((s.setPot st p).raise (srcPc st src.1) 0x0402 (beBytes 1 m.v ++ beBytes 1 m.sid ++ beBytes 1 m.slot)).stackBump st 0
    1).rebuildAfter st (src.1 / 2)).nextRetire st

/-- A request for a rank is in a pseudo-channel. -/
def Pc.serves (x : Pc) (sid : Nat) : Bool :=
  (x.pool ++ x.fifo ++ x.own).any (fun q => decide (q.sid = sid)) || !x.merges.isEmpty

/-- Ladel's freeze of a Stockpot ends, but where a drain of its domain goes on. -/
def State.thawPot (s : State) (st : Nat) : State :=
  if (s.dom (64 + st)).drain.isSome then s else s.freezeInto (64 + st) 1 false

/-- The next row of a rank of a dead channel is filled with poison words in its slot (13 R404). -/
def State.fillRow (s : State) (st : Nat) (m : Migration) : State :=
  let bank := m.mark / 16384
  let row := m.mark % 16384
  let s := (List.range 16).foldl (fun s i =>
    let y : Place := ⟨st, 60 + m.slot / 4, m.slot % 4, bank, row, i⟩
    let g := s.granAt ⟨st, m.v, m.sid, bank, row, i⟩
    s.selfPoison y g [{}]) s
  let n := { m with mark := m.mark + 1 }
  let s := s.modPot st fun p => { p with fills := p.fills.replace m n }
  if n.mark = 262144 then s.endMigration st n else s

/-- MIGRATION_ROW_COPY (12 R358, R373, R374; 13 R404): the next row is copied, a remapped one from its target: its 16 words
are judged where they were read, and each granule is written to the slot as read, or as the poison word. MARK moves past
the row once no write to it waits; before the last row, Ladel freezes the Stockpot until the source holds no request (10
R325); every rank of a dead channel that has a slot has its next row filled. -/
def execMigrationRowCopy (stack : Nat) (words : List (List Byte)) (s : State) : Host.Outcome State Fault Refusal :=
  s.runDuty (s.stackDuty stack) (decide (stack < s.build.S) && decide (words.length = 16) && words.all wordOk72)
    (let s := (s.pot stack).fills.foldl (fun s m => s.fillRow stack m) s
     let p := s.pot stack
     match p.mig with
     | none => s
     | some m =>
       let src := p.rankOf m.v m.sid
       let bank := m.mark / 16384
       let row := m.mark % 16384
       if p.paused m || s.rowWrites stack src.1 src.2 bank row then s
       else if m.mark = 262143 ∧ (p.pc src.1).serves src.2 = true then s.freezeInto (64 + stack) 1 true
       else
         let s := words.zipIdx.foldl (fun s w =>
           let y : Place := ⟨stack, src.1, src.2, bank, row, w.2⟩
           let g := s.granAt ⟨stack, m.v, m.sid, bank, row, w.2⟩
           let f := (s.places g false).headD y
           let lane := (s.pc f.st f.pc).erased
           let d := scramble (s.lanesOf f.st f.pc) f.bank f.row f.col w.1
           let v := judgeWord d lane (lostOf w.1)
           let s := s.countRead f v (lostOf w.1)
           let dst : Place := ⟨stack, 60 + m.slot / 4, m.slot % 4, bank, row, w.2⟩
           match v with
           | .clean | .corrected _ => s.selfWrite dst g (decodedData d lane v) [{}]
           | .uncorrectable | .poisoned => s.selfPoison dst g [{}]) s
         let m := { m with mark := m.mark + 1 }
         let s := s.modPot stack fun p => { p with mig := some m }
         if m.mark = 262144 then (s.endMigration stack m).thawPot stack else s)

/-- ERR_WINDOW_EDGE (12 R366): the counts of rows and ranks start again. -/
def execErrWindowEdge (s : State) : Host.Outcome State Fault Refusal :=
  s.runLive true
    (if s.clk.ftc % (s.param 0x3F10 5 * 1200000000) = 0 ∧ s.stk.errEdge ≠ some s.clk.ftc then
      s.modStk fun k =>
        { k with
          errEdge := some s.clk.ftc,
          pots := k.pots.map fun p =>
            (p.1, { p.2 with pcs := p.2.pcs.map fun c => (c.1, { c.2 with rowCe := [], rowUe := [], rankCe := [] }) }) }
    else s)

end Sys2Proof.Machine
end

