-- ==== Sys2Proof/Machine/Pattern.lean ====
section
/-! DEFINITION. The pattern generator of a channel (13 R382): the bits that a lane carries under PATGEN_CTL. -/

namespace Sys2Proof.Machine

/-- The register length and the inner tap of the PRBS that a MODE selects: x^n + x^k + 1. -/
def prbsOf (mode : Nat) : Nat × Nat :=
  match mode with
  | 1 => (7, 6)
  | 2 => (15, 14)
  | _ => (23, 18)

/-- The output bit of a register. -/
def prbsOut (p : Nat × Nat) (r : Nat) : Nat := b2n (bit r (p.1 - 1) != bit r (p.2 - 1))

/-- The register n bits later. -/
def prbsAfter (p : Nat × Nat) (n r : Nat) : Nat :=
  match n with
  | 0 => r
  | k + 1 => prbsAfter p k ((2 * r + prbsOut p r) % 2 ^ p.1)

/-- The register n bits earlier: the sequence runs back as it runs on. -/
def prbsBefore (p : Nat × Nat) (n r : Nat) : Nat :=
  match n with
  | 0 => r
  | k + 1 => prbsBefore p k (r / 2 + (if bit r 0 != bit r p.2 then 2 ^ (p.1 - 1) else 0))

/-- Bit t of lane l under a word of PATGEN_CTL: a PRBS from SEED, each lane the same sequence delayed by 97 × l bits; PATTERN
from its highest bit; a one that walks across the 38 lanes; the clock pattern 0b0101. -/
def patternBit (w l t : Nat) : Nat :=
  match bits w 63 60 with
  | 0 => 0
  | 4 => b2n (bit w (15 - t % 16))
  | 5 => b2n (decide (t % 38 = l))
  | 6 => t % 2
  | m => prbsOut (prbsOf m) (prbsAfter (prbsOf m) t (prbsBefore (prbsOf m) (97 * l) (bits w 55 33 % 2 ^ (prbsOf m).1)))

/-- The symbol of lane l in burst b of a run: beat 0 is its highest bit (12 R356). -/
def laneSymbol (w l b : Nat) : Byte :=
  BitVec.ofNat 8 ((List.range 8).foldl (fun a t => 2 * a + patternBit w l (8 * b + t)) 0)

end Sys2Proof.Machine
end

