-- ==== Sys2Proof/Machine/Phy.lean ====
section
/-! DEFINITION. The PHY (13 R377 to R404): elements and the Sieve map, training and its results, live centring, temperature
sets, stand-ins and split retrains, and the channel without a working setting. -/

namespace Sys2Proof.Machine

/-! ### Elements (13 R378, R379) -/

def elRd (e : Nat) : Nat := bits e 15 10
def elSm (e : Nat) : Nat := bits e 9 8
def elWr (e : Nat) : Nat := bits e 7 2
def mkEl (rd sm wr : Nat) : Nat := rd * 1024 + sm * 256 + wr * 4
def Settings.lane (x : Settings) (l : Nat) : Nat := mapGet 0x8080 x.lanes l
def Settings.setLane (x : Settings) (l e : Nat) : Settings := { x with lanes := mapSet 0x8080 x.lanes l e }
def Settings.caTap (x : Settings) (l : Nat) : Nat := mapGet 32 x.ca l
def Settings.setCa (x : Settings) (l t : Nat) : Settings := { x with ca := mapSet 32 x.ca l t }

/-- A tap is brought into 16 to 47 by a move of 32 (13 R379). -/
def wrapTap (t : Nat) : Nat := if t < 16 then t + 32 else if 47 < t then t - 32 else t

/-- The beat that a lane's deskew FIFO is moved by as a tap is brought into 16 to 47 (13 R379). -/
def wrapBeat (x : Int) : Int := if x < 16 then -1 else if 47 < x then 1 else 0

def Settings.shift (x : Settings) (k : Nat) (d : Int) : Settings := { x with beats := mapSet 0 x.beats k (mapGet 0 x.beats k + d) }

/-- The circular distance of two taps (13 R390, R394). -/
def tapDist (a b : Nat) : Int := ((a : Int) - b + 16) % 32 - 16

/-- A lane goes to other taps the shorter circular way, and its deskew FIFOs follow each wrap (13 R379, R391). -/
def Settings.moveTo (x : Settings) (l rd sm wr : Nat) : Settings :=
  let e := x.lane l
  let beat (cur v : Nat) : Int := wrapBeat ((cur : Int) + tapDist v cur)
  ((x.shift (2 * l) (beat (elRd e) rd)).shift (2 * l + 1) (beat (elWr e) wr)).setLane l (mkEl rd sm wr)

/-- The logical lane of PC j that spare k carries: 0x3F for none (13 R378). -/
def sieveField (w j k : Nat) : Nat :=
  match j, k with
  | 0, 0 => bits w 23 18
  | 0, _ => bits w 17 12
  | _, 0 => bits w 11 6
  | _, _ => bits w 5 0

def setSieve (w j k lane : Nat) : Nat :=
  match j, k with
  | 0, 0 => putBits w 23 18 lane
  | 0, _ => putBits w 17 12 lane
  | _, 0 => putBits w 11 6 lane
  | _, _ => putBits w 5 0 lane

/-- The physical lane, of 76 in the channel, that carries logical lane l of PC j. -/
def physLane (w j l : Nat) : Nat :=
  38 * j + (if sieveField w j 0 = l then 36 else if sieveField w j 1 = l then 37 else l)

/-- A channel of this build. -/
def Build.hasChan (b : Build) (st ch : Nat) : Bool := decide (st < b.S) && decide (ch < 32)

/-! ### Sweep results (13 R387) -/

/-- Runs of consecutive set bits of an n-bit map: the longest, the first among equals, as start and length. -/
def bestRun (m n : Nat) : Nat × Nat :=
  let step (acc : (Nat × Nat) × Nat) (t : Nat) : (Nat × Nat) × Nat :=
    if bit m t then
      let len := acc.2 + 1
      (if acc.1.2 < len then (t + 1 - len, len) else acc.1, len)
    else (acc.1, 0)
  ((List.range n).foldl step ((0, 0), 0)).1

/-- The middle of a run. -/
def runMid (r : Nat × Nat) : Nat := r.1 + r.2 / 2

/-- A width in taps reaches MIN_EYE, kept in 1/1,000 UI. -/
def State.wideEnough (s : State) (taps : Nat) : Bool := decide (s.param 0x4F00 4 * 32 ≤ taps * 1000)

/-- The read result of a physical lane from its three pass maps: sampler and run, the longest, then the lowest. -/
def readBest (maps : List Nat) (l : Nat) : Nat × (Nat × Nat) :=
  (List.range 3).foldl (fun (b : Nat × (Nat × Nat)) k =>
    let r := bestRun (maps.getD (4 * l + k) 0) 64
    if b.2.2 < r.2 then (k, r) else b) (0, bestRun (maps.getD (4 * l) 0) 64)

def writeBest (maps : List Nat) (l : Nat) : Nat × Nat := bestRun (maps.getD (4 * l + 3) 0) 64
def caBest (maps : List Nat) (i : Nat) : Nat × Nat := bestRun (maps.getD (304 + i) 0) 64

/-- A physical data lane passes both width checks. -/
def State.lanePasses (s : State) (maps : List Nat) (l : Nat) : Bool :=
  s.wideEnough (readBest maps l).2.2 && s.wideEnough (writeBest maps l).2

/-- A physical lane takes what a sweep gives it: the middles of its runs, in the range 16 to 47, and the beats that go with them
(13 R379, R387). -/
def Settings.train (x : Settings) (maps : List Nat) (l : Nat) : Settings :=
  let r := readBest maps l
  let rd := runMid r.2
  let wr := runMid (writeBest maps l)
  ((x.shift (2 * l) (wrapBeat rd)).shift (2 * l + 1) (wrapBeat wr)).setLane l (mkEl (wrapTap rd) r.1 (wrapTap wr))

/-! ### Lane repair (13 R386 step 5, R396) -/

/-- Logical lanes of PC j whose physical lane fails. -/
def State.badLanes (s : State) (maps : List Nat) (w j : Nat) : List Nat :=
  (List.range 36).filter fun l => !s.lanePasses maps (physLane w j l)

/-- Moves a logical lane to the first free spare that passes; the spare that carried it before is free again (13 R378). -/
def State.repairLane (s : State) (maps : List Nat) (w j l : Nat) : Nat :=
  match (List.range 2).find? fun k => decide (sieveField w j k = 63) && s.lanePasses maps (38 * j + 36 + k) with
  | some k =>
    let w := (List.range 2).foldl (fun w i => if sieveField w j i = l then setSieve w j i 63 else w) w
    setSieve w j k l
  | none => w

/-- The Sieve map after repair: every failing lane, and the lane that ERASED_LANE names, are tried on the spares. -/
def State.repairAll (s : State) (st ch : Nat) (maps : List Nat) (w : Nat) : Nat :=
  (List.range 2).foldl (fun w j =>
    let asked := match (s.pc st (2 * ch + j)).erased with
      | some l => if physLane w j l = 38 * j + l then [l] else []
      | none => []
    ((asked ++ s.badLanes maps w j).eraseDups).foldl (fun w l => s.repairLane maps w j l) w) w

/-! ### Calibration sets (13 R393 to R395) -/

def setTemps : List Int := [20, 45, 70, 95, 110]

/-- The point nearest a temperature, the lower among equals. -/
def nearPoint (t : Int) : Nat :=
  (List.range 5).foldl (fun b i =>
    if (setTemps.getD i 0 - t).natAbs < (setTemps.getD b 0 - t).natAbs then i else b) 0

def Chan.point (c : Chan) (i : Nat) : CalPoint := mapGet {} c.points i
def CalPoint.lane (p : CalPoint) (l : Nat) : Nat := mapGet 0x8080 p.lanes l

/-- The 976 bytes of a channel's set. -/
def Chan.calSet (c : Chan) : List Byte :=
  let body := ((List.range 5).map fun i =>
    let p := c.point i
    beBytes 8 p.ftc ++ ((List.range 76).map fun l => beBytes 2 (p.lane l)).flatten ++
      ((List.range 18).map fun l => beBytes 1 (mapGet 32 p.ca l)).flatten ++ beBytes 1 (b2n p.valid) ++ beBytes 13 0).flatten
  let head := beBytes 4 c.epoch ++ beBytes 4 c.calSieve ++ beBytes 4 0
  head ++ beBytes 4 (crc32c (head ++ body)) ++ body

/-- x ÷ y to the nearest integer, ties to even, for y > 0. -/
def roundDiv (x : Int) (y : Nat) : Int :=
  let q := x / (y : Int)
  let r := (x % (y : Int)).toNat
  if y < 2 * r ∨ (2 * r = y ∧ q % 2 = 1) then q + 1 else q

/-- A tap interpolated between points a and b, wrapping in 16 to 47 (13 R394). -/
def lerpTap (va vb : Nat) (t ta tb : Int) : Nat :=
  let x := roundDiv ((va : Int) * (tb - ta) + tapDist vb va * (t - ta)) (tb - ta).toNat
  (if x < 16 then x + 32 else if 47 < x then x - 32 else x).toNat

/-- The points that a temperature lies between, or the one at or beyond which it lies. -/
def Chan.around (c : Chan) (t : Int) : Option (Nat × Nat) :=
  let v := (List.range 5).filter fun i => (c.point i).valid
  match v.head?, v.getLast? with
  | some lo, some hi =>
    if t ≤ setTemps.getD lo 0 then some (lo, lo)
    else if setTemps.getD hi 0 ≤ t then some (hi, hi)
    else
      let a := ((v.filter fun i => decide (setTemps.getD i 0 ≤ t)).getLast?).getD lo
      let b := ((v.filter fun i => decide (t < setTemps.getD i 0)).head?).getD hi
      some (a, b)
  | _, _ => none

/-- The interpolated read and write taps of a lane, where the set has a VALID point. -/
def Chan.lerpLane (c : Chan) (t : Int) (l : Nat) : Option (Nat × Nat) :=
  (c.around t).map fun p =>
    let a := (c.point p.1).lane l
    let b := (c.point p.2).lane l
    if p.1 = p.2 then (elRd a, elWr a)
    else
      let ta := setTemps.getD p.1 0
      let tb := setTemps.getD p.2 0
      (lerpTap (elRd a) (elRd b) t ta tb, lerpTap (elWr a) (elWr b) t ta tb)

/-- The interpolated CA tap, over 0 to 63 without wrapping. -/
def Chan.lerpCa (c : Chan) (t : Int) (l : Nat) : Option Nat :=
  (c.around t).map fun p =>
    let a := mapGet 32 (c.point p.1).ca l
    let b := mapGet 32 (c.point p.2).ca l
    if p.1 = p.2 then a
    else
      let ta := setTemps.getD p.1 0
      let tb := setTemps.getD p.2 0
      (clampI 0 63 (roundDiv ((a : Int) * (tb - ta) + ((b : Int) - a) * (t - ta)) (tb - ta).toNat)).toNat

/-! ### Rebuilds and retirement of a channel (13 R403, R404) -/

/-- The ranks of a channel go to the head of the stack's retirement queue, behind a migration that runs. With RETIRE_AUTO at 0
each is reported, and its channel serves in limp until a write of RETIRE_RANK (12 R366). -/
def State.retireChannel (s : State) (st ch : Nat) : State :=
  let p := s.pot st
  let ranks := ((List.range 8).filterMap fun i => p.visibleRank (2 * ch + i / 4) (i % 4)).filter fun r =>
    !p.queue.contains r && (p.mover r.1 r.2).isNone
  if s.param 0x3F10 10 = 1 then (s.setPot st { p with queue := ranks ++ p.queue }).nextRetire st
  else
    let s := s.modChan st ch fun c => { c with state := if c.state = 8 then 7 else c.state }
    (ranks.foldl (fun s r => s.note (srcPc st (2 * ch)) 366 (4 * r.1 + r.2)) s).rebuildAfter st ch

/-! ### Training (13 R386, R387, R392, R393, R402, R403) -/

/-- The exact value of num ÷ den as FP32 bits, rounded to nearest even. -/
def ratF32 (neg : Bool) (num den : Nat) : Nat :=
  if num = 0 then 0
  else
    let q := num * 2 ^ 64 / den
    let sticky := if num * 2 ^ 64 % den = 0 then 0 else 1
    frne fp32 (.fin neg (2 * q + sticky) (-65))

/-- RESIDUAL of a lane in ps: circular taps × the tap of the bin (13 R379, R402). -/
def residualF32 (centre rd bin : Nat) : Nat :=
  let d := tapDist centre rd
  ratF32 (decide (d < 0)) (d.natAbs * 31250) bin

/-- BER_EST of a lane from the errors that verify counted. -/
def berF32 (errors bursts : Nat) : Nat := ratF32 false (if errors = 0 then 3 else errors) (max 1 (8 * bursts))

/-- The channel's settings after a training: every lane that passes takes its result; a failing lane keeps its old values,
or its widest run where the channel has no working setting. -/
def State.applyMaps (s : State) (x : Settings) (maps : List Nat) (sieve : Nat) (limp : Bool) : Settings :=
  let x := (List.range 76).foldl (fun (x : Settings) l =>
    if s.lanePasses maps l || limp then x.train maps l else x) x
  let x := (List.range 18).foldl (fun (x : Settings) i =>
    if s.wideEnough (caBest maps i).2 || limp then x.setCa i (runMid (caBest maps i)) else x) x
  { x with sieve := sieve }

/-- Results in force: they become the targets and the accepted centres, and pending moves are cancelled (13 R392). -/
def Chan.stepped (c : Chan) (x : Settings) : Chan :=
  { c with
    set := x, target := (List.range 76).map fun l => (l, elRd (x.lane l)), takenAt := [], rejects := [],
    centre := (List.range 76).map fun l => (l, elRd (x.lane l)) }

/-- The results of a training enter the point nearest the stack temperature, which becomes VALID (13 R393). -/
def State.recordTraining (s : State) (st ch : Nat) (x : Settings) : State :=
  s.modChan st ch fun c =>
    { c with
      points := mapPut c.points (nearPoint (s.pot st).temp)
        { ftc := s.clk.ftc, lanes := x.lanes, ca := x.ca, valid := true },
      epoch := (c.epoch + 1) % 2 ^ 32, calSieve := c.set.sieve, calCount := c.calCount + 1, calFtc := s.clk.ftc,
      trained := s.clk.now }

/-- The lane of a PC with the narrowest eye. -/
def worstLane (maps : List Nat) (w j : Nat) : Nat :=
  (List.range 36).foldl (fun b l =>
    let width (l : Nat) := min (readBest maps (physLane w j l)).2.2 (writeBest maps (physLane w j l)).2
    if width l < width b then l else b) 0

/-- Per-lane detail of a start-up, of TEST or of a channel without a working setting (13 R402). -/
def State.publish (s : State) (st ch : Nat) (maps verify : List Nat) : State :=
  let c := s.chan st ch
  s.setChan st ch
    { c with
      eye := ((List.range 76).map fun l => beBytes 1 (readBest maps l).2.2).flatten,
      residual := ((List.range 76).map fun l =>
        beBytes 4 (residualF32 (verify.getD (2 * l + 1) 0) (elRd (c.set.lane l)) (s.param 0x3F00 11))).flatten,
      ber := ((List.range 76).map fun l => beBytes 4 (berF32 (verify.getD (2 * l) 0) (s.param 0x4F00 20))).flatten }

/-- BORROWED is cleared on the eight slots of a spare channel (13 R399). -/
def Pot.giveBack (p : Pot) (spare : Nat) : Pot :=
  (List.range 8).foldl (fun (p : Pot) i =>
    let k := 8 * (spare - 30) + i
    p.setSlot k { p.slot k with borrowed := false }) p

/-- The µs that a stand-in has spent in its phase. -/
def State.phaseUs (s : State) (n : StandIn) : Nat := (s.clk.now - n.since) / 9600

/-- A stand-in that is STANDING goes on to RETURN, with its phase counted (13 R385, R399, R405). -/
def State.startReturn (s : State) (st : Nat) (n : StandIn) : State :=
  (((s.chanBump st n.ch 9 (s.phaseUs n)).modPot st fun p =>
    { p with stands := p.stands.replace n { n with phase := 2, since := s.clk.now, rate := s.param 0x4F00 18 } }).modChan st n.ch
      fun c => { c with state := 5 }).chanEvent st n.ch 0

/-- A stand-in ends: BORROWED is cleared, and the retrain that waited for the spare channel begins (13 R398, R399). -/
def State.endStand (s : State) (st : Nat) (n : StandIn) : State :=
  let s := s.modPot st fun p => { p with stands := p.stands.erase n }.giveBack n.spare
  match (s.chan st n.spare).deferred with
  | some k => (s.modChan st n.spare fun c => { c with deferred := none }).askRetrain st n.spare k
  | none => s

/-- The stand-in of a channel. -/
def Pot.standOf (p : Pot) (ch : Nat) : Option StandIn := p.stands.find? fun n => decide (n.ch = ch)

/-- What follows a training that gave a working setting, by the state it was made in. -/
def State.afterTraining (s : State) (st ch : Nat) : State :=
  match (s.pot st).standOf ch with
  | some n => s.startReturn st n
  | none => ((s.modChan st ch fun c => { c with state := 1 }).chanEvent st ch 0).nextRetire st

/-- The channel has no working setting (13 R403, R404): a stand-in for it is given up, and the event names the logical
lanes 0 to 31 of each pseudo-channel that fail (DESIGN CHOICE, log 95). -/
def State.noSetting (s : State) (st ch : Nat) (maps : List Nat) (sieve : Nat) (dead : Bool) : State :=
  let s := s.modChan st ch fun c => { c.stepped (s.applyMaps c.set maps sieve true) with state := if dead then 9 else 8 }
  let s := (List.range 2).foldl (fun s j =>
    s.modPc st (2 * ch + j) fun x => { x with erased := some (worstLane maps sieve j) }) s
  let map := ((List.range 2).map fun j =>
    (((s.badLanes maps sieve j).filter fun l => decide (l < 32)).map fun l => 2 ^ (32 * j + l)).foldl (· + ·) 0).foldl (· + ·) 0
  let s := match (s.pot st).standOf ch with
    | some n => s.endStand st n
    | none => s
  ((s.raise (srcPc st (2 * ch)) 0x0406 (beBytes 1 ch ++ beBytes 8 map)).retireChannel st ch)

/-- The bin of the slowest stack (01 R17), by QUAL_BINS of each stack. -/
def binOf (bins : List Nat) : Nat :=
  let top (w : Nat) : Nat := if bit w 2 then 9600 else if bit w 1 then 8000 else 6400
  bins.foldl (fun m w => min m (top w)) 9600

/-- A timing parameter in MCLK at a bin: the column spacings scale with the burst, the others keep their time (11 R341). -/
def timingAt (sub dflt bin : Nat) : Nat := if sub = 7 ∨ sub = 8 then ceilDiv (dflt * 9600) bin else dflt

/-- The timing that a cold start sets: the larger of the default and every stack's qualified value (11 R341). -/
def State.setTiming (s : State) (bin : Nat) : State :=
  let b := if bin = 9600 then 2 else if bin = 8000 then 1 else 0
  (List.range 20).foldl (fun s i =>
    let sub := i + 1
    let q := (List.range s.build.S).foldl (fun m st => max m (natAt (Config.qualTiming st) (80 * b + 4 * i) 4)) 0
    s.setParam 0x3F01 sub (max (timingAt sub (objDefault s.build 0x3F01 sub) bin) q)) s

/-- The highest bin below the one in force for which every stack is qualified (13 R403; 11 R354). -/
def State.lowerBin (s : State) : Option Nat :=
  ([(1, 8000), (0, 6400)].find? fun b => decide (b.2 < s.param 0x3F00 11) &&
    (List.range s.build.S).all fun st => bit (s.param (0x3000 + 256 * st) 3) b.1).map Prod.snd

/-- With BIN_FALLBACK, a cold start that meets no working setting trains every stack again at the next lower bin, with its
timing, or fails (11 R341; 13 R403; 18 R496). -/
def State.binFallback (s : State) (st : Nat) : Option State :=
  if s.ldl.stage = 5 ∧ s.pin.start = some .cold ∧ s.param 0x4F00 21 = 1 ∧ s.rgn.desc = [] then
    some (match s.lowerBin with
      | some b => ((s.setParam 0x3F00 11 b).setTiming b).modStk fun k =>
          { k with pots := k.pots.map fun p =>
              (p.1, { p.2 with chans := p.2.chans.map fun c => (c.1, { c.2 with state := 0 }) }) }
      | none => s.failStart (0x30 + st))
  else none

/-- The windows that a split retrain takes (13 R400). -/
def State.splitTotal (s : State) (st ch : Nat) (maps : List Nat) : Nat :=
  let w := (s.chan st ch).set.sieve
  29 + 18 * ((List.range 2).map fun j => (s.badLanes maps w j).length).foldl (· + ·) 0

/-- The exit of the last window that a channel takes runs: its 240 last MCLK (13 R400). -/
def State.inExit (s : State) (st ch : Nat) : Bool :=
  let e := (s.pc st (2 * ch)).shut
  decide (s.mclk ≤ e) && decide (e ≤ s.mclk + 240)

/-- TRAINING (13 R386, R387, R392, R403): `ok` says that the read gate passes; `maps` holds the pass maps of each physical
data lane, three read samplers and one write map, then the CA lanes; `verify` the errors and the histogram centre of each
data lane. It runs at start-up, in STANDING, and in the exit of the last window of a split retrain. -/
def execTraining (stack ch : Nat) (ok : Bool) (maps verify : List Nat) (s : State) : Host.Outcome State Fault Refusal :=
  s.runDuty (s.stackDuty stack) (s.build.hasChan stack ch && decide (maps.length = 322) && maps.all (fun m => decide (m < 2 ^ 64)) &&
      decide (verify.length = 152))
    (let c := s.chan stack ch
     let due := c.state = 0 || c.state = 4 ||
       (c.state = 2 && decide (s.splitTotal stack ch maps ≤ c.windows) && s.inExit stack ch)
     if !due then s
     else
       let sieve := s.repairAll stack ch maps c.set.sieve
       let fails := (List.range 2).map fun j => s.badLanes maps sieve j
       let caBad := (List.range 18).any fun i => !s.wideEnough (caBest maps i).2
       let start := decide (c.state = 0)
       if caBad || !ok || fails.any fun f => decide (2 ≤ f.length) then
         match s.binFallback stack with
         | some t => t
         | none => (s.noSetting stack ch maps sieve caBad).publish stack ch maps verify
       else
         let x := s.applyMaps c.set maps sieve false
         let s := (s.modChan stack ch fun c => c.stepped x).recordTraining stack ch x
         let s := (List.range 2).foldl (fun s j =>
           let pc := 2 * ch + j
           match fails.getD j [] with
           | l :: _ => (s.modPc stack pc fun y => { y with erased := some l }).note (srcPc stack pc) 403 l
           | [] => match (s.pc stack pc).erased with
             | some l =>
               if physLane sieve j l ≠ 38 * j + l then s.modPc stack pc fun y => { y with erased := none } else s
             | none => s) s
         let s := if start then s.publish stack ch maps verify else s
         s.afterTraining stack ch)

/-- The taps that a sweep visits, rising (13 R383). -/
def sweptTaps (w : Nat) : List Nat :=
  (List.range 64).filter fun t =>
    decide (bits w 61 56 ≤ t) && decide (t ≤ bits w 55 50) && decide ((t - bits w 61 56) % max 1 (bits w 49 46) = 0)

/-- The samplers that a sweep visits: three for TARGET 0b01, else one map is used (13 R384). -/
def sweptMaps (w : Nat) : Nat := if bits w 63 62 = 1 then 3 else 1

/-- The run of a generator reaches a record: data lanes of the PCs that PC_MASK selects, CA lanes on the CA path (13 R382,
R384). -/
def exercised (gen i : Nat) : Bool :=
  if i < 76 then decide (bits gen 59 58 ≠ 2) && bit gen (56 + i / 38) else decide (bits gen 59 58 = 2)

/-- A point passes on a lane: no error is counted there, as nothing is with the compare engine off or on a lane that the
generator does not reach (13 R384). -/
def pointPasses (gen mode : Nat) (maps : List Nat) (i k t : Nat) : Bool :=
  decide (mode = 0) || !exercised gen i || bit (maps.getD (3 * i + k) 0) t

/-- A pass map as CMP_RESULT holds it: bit t only for a tap that the sweep visited. -/
def passMap (w gen mode : Nat) (maps : List Nat) (i k : Nat) : Nat :=
  if k < sweptMaps w then ((sweptTaps w).filter (pointPasses gen mode maps i k)).foldl (fun a t => a + 2 ^ t) 0 else 0

/-- The error count of the last point of record i: 0 where the point passes, else a number that the lane decides and the command
does not carry (13 R384). -/
def State.lastErrors (s : State) (w gen mode : Nat) (maps : List Nat) (i : Nat) : Nat :=
  if pointPasses gen mode maps i (sweptMaps w - 1) ((sweptTaps w).getLast?.getD 0) then 0
  else 1 + (Config.freeValue 9 (s.free + i)).toNat % 4294967295

/-- The visited points of a sweep that fail: record, tap, sampler. -/
def failingPoints (w gen mode : Nat) (maps : List Nat) : List (Nat × Nat × Nat) :=
  ((sweptTaps w).map fun t => ((List.range (sweptMaps w)).map fun k =>
    ((List.range 94).filter fun i => !pointPasses gen mode maps i k t).map fun i => (i, t, k)).flatten).flatten

/-- The capture of the first failing bit: one of the points that fail, with an FTC and a beat that are the lane's (13 R384). -/
def State.capture (s : State) (fails : List (Nat × Nat × Nat)) : List Byte :=
  let v := (Config.freeValue 10 s.free).toNat
  match fails[v / 8 % fails.length]? with
  | none => beBytes 16 0
  | some (i, t, k) =>
    beBytes 8 (Config.freeValue 10 (s.free + 1)).toNat ++ beBytes 1 i ++ beBytes 1 t ++ beBytes 1 k ++ beBytes 1 (v % 8) ++
      beBytes 4 0

/-- Per-lane detail of a sweep in TEST (13 R402): the eye widths of a read sweep, the error estimate of its last point, and a
residual whose histogram the command does not carry. -/
def State.publishTest (s : State) (st ch w : Nat) (recs : List (List Nat × Nat)) : State :=
  let c := s.chan st ch
  let eye (m : List Nat) : Nat := (m.map fun x => (bestRun x 64).2).foldl max 0
  let res (l : Nat) : Nat :=
    residualF32 ((Config.freeValue 16 (s.free + l)).toNat % 32 + 16) (elRd (c.set.lane l)) (s.param 0x3F00 11)
  let ber (x : List Nat × Nat) : List Byte := beBytes 4 (berF32 x.2 (bits w 45 30))
  let lanes := recs.take 76
  s.setChan st ch
    { c with
      eye := if bits w 63 62 < 2 then (lanes.map fun x => beBytes 1 (eye x.1)).flatten else c.eye,
      residual := if bits w 63 62 < 2 then ((List.range 76).map fun l => beBytes 4 (res l)).flatten else c.residual,
      ber := if bits w 63 62 < 3 then (lanes.map ber).flatten else c.ber }

/-- SWEEP_COMPLETE (13 R383, R384, R402): the pass maps of 94 records, three to a record, are in CMP_RESULT, GO is 0, and the
per-lane detail is published. -/
def execSweepComplete (stack ch : Nat) (maps : List Nat) (s : State) : Host.Outcome State Fault Refusal :=
  s.runLive (s.build.hasChan stack ch && decide (maps.length = 282) && maps.all fun m => decide (m < 2 ^ 64))
    (let idx := 0x4000 + 256 * stack + ch
     let w := s.param idx 11
     if (s.chan stack ch).state = 6 ∧ bit w 29 = true then
       let s := s.setParam idx 11 (setBit w 29 false)
       let gen := s.param idx 10
       let mode := bits (s.param idx 12) 63 62
       let recs := (List.range 94).map fun i =>
         ((List.range 3).map (passMap w gen mode maps i), s.lastErrors w gen mode maps i)
       let body := (recs.map fun x => (x.1.map (beBytes 8)).flatten ++ beBytes 4 x.2 ++ beBytes 4 0).flatten
       let capt := if mode = 2 then s.capture (failingPoints w gen mode maps) else beBytes 16 0
       ((s.publishTest stack ch w recs).modFree (· + 96)).modChan stack ch fun c => { c with result := body ++ capt }
     else s)

/-! ### The pattern generator (13 R382) -/

/-- A run of the generator outside a sweep: what its first burst drives on the write path, and the errors that the compare engine
counts on the lanes that it reaches, each a free value, with the first failing bit where none was captured before (13
R382, R384; DESIGN CHOICE, log 104). -/
def State.startPattern (s : State) (st ch : Nat) : State :=
  let idx := 0x4000 + 256 * st + ch
  let gen := s.param idx 10
  let mode := bits (s.param idx 12) 63 62
  let c := s.chan st ch
  let old := fitBytes 3024 c.result
  let errs (i : Nat) : Nat :=
    if exercised gen i && decide (bits gen 63 60 ≠ 0) then (Config.freeValue 9 (s.free + i)).toNat % 2 ^ 32 else 0
  let recs := (List.range 94).map fun i =>
    sliceBytes old (32 * i) 24 ++ beBytes 4 (min (2 ^ 32 - 1) (natAt old (32 * i + 24) 4 + errs i)) ++ beBytes 4 0
  let fails := ((List.range 94).filter fun i => decide (errs i ≠ 0)).map fun i => (i, 0, 0)
  let capt := if mode = 2 ∧ natAt old 3008 16 = 0 then s.capture fails else sliceBytes old 3008 16
  let s := s.setChan st ch { c with genAt := s.clk.now }
  let s := if mode = 0 then s
    else (s.modFree (· + 94)).modChan st ch fun c => { c with result := recs.flatten ++ capt }
  if bits gen 59 58 ≠ 1 ∨ bits gen 63 60 = 0 then s
  else (List.range 2).foldl (fun s j =>
    if bit gen (56 + j) then s.modPc st (2 * ch + j) fun x => { x with driven := (List.range 38).map fun l => laneSymbol gen l 0 }
    else s) s

/-! ### TEST (13 R385) -/

/-- A write of TEST_HOLD = 1 is accepted before admission, or while a whole spare channel can stand in. -/
def State.testOk (s : State) (st ch : Nat) : Bool :=
  decide (s.ldl.stage ≠ 6) || (decide (ch < 30) && ((s.pot st).standSpare).isSome && decide ((s.chan st ch).state = 1))

/-- TEST begins: the service settings are kept, and the state that they were in. -/
def Chan.enterTest (c : Chan) (before : Nat) : Chan := { c with state := 6, saved := some c.set, before := before, test := none }

/-- TEST ends (13 R383, R385): a sweep that runs is over, the settings from before are restored in one step, and a stand-in goes
on to RETURN. -/
def State.endTest (s : State) (st ch : Nat) : State :=
  let idx := 0x4000 + 256 * st + ch
  let s := s.setParam idx 11 (setBit (s.param idx 11) 29 false)
  let s := s.modChan st ch fun c => { c.stepped (c.saved.getD c.set) with saved := none, state := c.before }
  match (s.pot st).standOf ch with
  | some n => s.startReturn st n
  | none => s

/-- TEST_HOLD takes effect (13 R385): in service TEST begins once the stand-in is filled; where it is ended before, the
stand-in returns as soon as it is. -/
def State.testHold (s : State) (st ch value : Nat) : State :=
  let c := s.chan st ch
  if value = 1 then
    if c.state = 6 then s
    else if s.ldl.stage ≠ 6 then s.modChan st ch fun c => c.enterTest c.state
    else match (s.pot st).standSpare with
      | some q => (s.startStand st ch q 8 false).modChan st ch fun c => { c with test := some true }
      | none => s
  else if c.state = 6 then s.endTest st ch
  else if c.test = some true then s.modChan st ch fun c => { c with test := some false }
  else s

/-! ### Live traffic (13 R388 to R391) -/

/-- The longest circular run of bins at or below a threshold: start and length. -/
def circularGap (bins : List Nat) (thr : Nat) : Nat × Nat :=
  let low (k : Nat) : Bool := decide (bins.getD (k % 32) 0 ≤ thr)
  let len (k : Nat) : Nat := ((List.range 32).map (k + ·)).takeWhile low |>.length
  (List.range 32).foldl (fun b k => if b.2 < len k then (k, len k) else b) (0, 0)

/-- HISTOGRAM_COMPLETE (13 R388 to R390, R393, R401): a lane's histogram is complete with HIST_EDGES edges, or HIST_MAX_TIME after
it was cleared, and starts again; it is judged in service only. -/
def execHistogramComplete (stack ch lane : Nat) (bins : List Nat) (s : State) : Host.Outcome State Fault Refusal :=
  s.runDuty (s.stackDuty stack) (s.build.hasChan stack ch && decide (lane < 76) && decide (bins.length = 32))
    (let c := s.chan stack ch
     let total := bins.foldl (· + ·) 0
     let full := decide (s.param 0x4F00 6 ≤ total) || s.since (mapGet 0 c.cleared lane) (usR (s.param 0x4F00 8))
     if !full then s
     else
     let c := { c with cleared := mapPut c.cleared lane s.clk.now }
     let s := (s.setChan stack ch c).chanBump stack ch 0 1
     if c.state ≠ 1 ∨ total < s.param 0x4F00 7 then s
     else
       let gap := circularGap bins (total / 2 ^ s.param 0x4F00 9)
       let mid := runMid gap % 32
       let target := if 16 ≤ mid then mid else mid + 32
       let last := mapGet (elRd (c.set.lane lane)) c.centre lane
       if s.wideEnough gap.2 ∧ (tapDist target last).natAbs ≤ s.param 0x4F00 5 then
         let near := (List.range 5).filter fun i =>
           (c.point i).valid && decide ((setTemps.getD i 0 - (s.pot stack).temp).natAbs ≤ s.param 0x4F00 15)
         let c := { c with
           centre := mapPut c.centre lane target, target := mapPut c.target lane target,
           takenAt := mapPut c.takenAt lane s.clk.now, rejects := mapDel c.rejects lane, calCount := c.calCount + 1,
           calFtc := s.clk.ftc }
         let c := near.foldl (fun (c : Chan) i =>
           let p := c.point i
           let e := p.lane lane
           { c with
             points := mapPut c.points i { p with lanes := mapSet 0x8080 p.lanes lane (mkEl target (elSm e) (elWr e)) },
             epoch := (c.epoch + 1) % 2 ^ 32, calSieve := c.set.sieve }) c
         (s.setChan stack ch c).chanBump stack ch 1 1
       else
         let n := mapGet 0 c.rejects lane + 1
         let s := (s.setChan stack ch { c with rejects := mapPut c.rejects lane n }).chanBump stack ch 2 1
         if s.param 0x4F00 12 ≤ n then (s.chanEvent stack ch 4).askRetrain stack ch 4 else s)

/-- One tap towards a target by the shorter circular way (13 R391). -/
def stepTap (cur target : Nat) : Nat :=
  let d := tapDist target cur
  if d = 0 then cur else if 0 < d then wrapTap (cur + 1) else wrapTap (cur - 1)

/-- The read target of a lane: the accepted centre, or the interpolated value where none is fresh (13 R391). -/
def State.readTarget (s : State) (c : Chan) (t : Int) (l : Nat) : Option Nat :=
  match mapFind c.target l, mapFind c.takenAt l with
  | some v, some e => if s.since e (usR (s.param 0x4F00 11)) then (c.lerpLane t l).map Prod.fst else some v
  | v, _ => ((c.lerpLane t l).map Prod.fst).or v

/-- TAP_MOVE (13 R379, R391): once per millisecond a setting moves one tap towards its target, and a wrap moves the lane's deskew
FIFO by a beat; lanes 76 to 93 are the CA lanes. -/
def execTapMove (stack ch lane : Nat) (s : State) : Host.Outcome State Fault Refusal :=
  s.runDuty (s.stackDuty stack) (s.build.hasChan stack ch && decide (lane < 94))
    (let c := s.chan stack ch
     let t := (s.pot stack).temp
     if s.clk.ftc % 1200000 ≠ 0 ∨ c.state ≠ 1 ∨ mapFind c.moved lane = some s.clk.ftc then s
     else
       let c := { c with moved := mapPut c.moved lane s.clk.ftc }
       if lane < 76 then
         let e := c.set.lane lane
         let rd := match s.readTarget c t lane with | some v => stepTap (elRd e) v | none => elRd e
         let wr := match c.lerpLane t lane with | some v => stepTap (elWr e) v.2 | none => elWr e
         let moves := b2n (decide (rd ≠ elRd e)) + b2n (decide (wr ≠ elWr e))
         let far (a b : Nat) : Bool := decide (a + 1 < b) || decide (b + 1 < a)
         let wraps := b2n (far rd (elRd e)) + b2n (far wr (elWr e))
         ((s.setChan stack ch { c with set := c.set.moveTo lane rd (elSm e) wr }).chanBump stack ch 3 moves).chanBump
           stack ch 4 wraps
       else
         let i := lane - 76
         let cur := c.set.caTap i
         let nxt := match c.lerpCa t i with
           | some v => if cur < v then cur + 1 else if v < cur then cur - 1 else cur
           | none => cur
         (s.setChan stack ch { c with set := c.set.setCa i nxt }).chanBump stack ch 3 (b2n (decide (nxt ≠ cur))))

/-- Ladel polls the temperature of a stack: once the stacks are up, in P5 as well (11 R348; 14 R424). -/
def State.polls (s : State) (st : Nat) : Bool := (s.ldl.stage = 5 || s.ldl.stage = 6) && s.served (s.stackDuty st)

/-- A channel's first reading near a point that is not VALID, since the last cold start (13 R396). -/
def State.newPoint (s : State) (st ch : Nat) : Option Nat :=
  let c := s.chan st ch
  (List.range 5).find? fun i =>
    decide ((setTemps.getD i 0 - (s.pot st).temp).natAbs ≤ s.param 0x4F00 15) && !(c.point i).valid && !c.asked.contains i

/-- Such a reading asks for a retrain, of a channel in service. -/
def State.askPoint (s : State) (st ch : Nat) : State :=
  match s.newPoint st ch with
  | some i =>
    if (s.chan st ch).state ≠ 1 ∨ s.ldl.stage ≠ 6 ∨ s.live = false then s
    else (s.modChan st ch fun c => { c with asked := c.asked ++ [i] }).askRetrain st ch 6
  | none => s

/-- TEMP_POLL (11 R348; 13 R394, R396): the reading in °C sets the refresh rate; one below −273 °C stands for a read that
failed or timed out, which counts as hot. A reading near a point that is not VALID asks for a retrain once. -/
def execTempPoll (stack : Nat) (reading : Int) (s : State) : Host.Outcome State Fault Refusal :=
  runIf (decide (stack < s.build.S) && decide (-2147483648 ≤ reading) && decide (reading < 2147483648))
    (if !s.polls stack then s
     else
     let hot : Int := s.param 0x3F00 7
     let p := s.pot stack
     if reading < -273 then
       (s.setPot stack { p with rate := 2, tempBad := true }).note (0x0400 + stack) 348 stack
     else
       let rate := if hot ≤ reading then 2 else if reading < hot - s.param 0x3F00 8 then 1 else p.rate
       let s := s.setPot stack { p with temp := reading, tempBad := false, tempFtc := s.clk.ftc, rate := rate }
       (List.range 32).foldl (fun s ch => s.askPoint stack ch) s)

/-! ### Retrains (13 R396 to R401) -/

/-- RETRAIN_PERIOD has passed since the channel's last training (13 R396). -/
def State.periodOver (s : State) (st ch : Nat) : Bool :=
  let n := s.param 0x4F00 14
  decide (n ≠ 0) && s.since (s.chan st ch).trained (secR n)

/-- RETRAIN without a sender (13 R396): triggers 1 to 5 start a retrain in the command in which they arise, and nothing is left to
start; 6 a new point and 7 the period are judged here. -/
def State.retrain (s : State) (st ch trigger : Nat) : State :=
  if trigger = 6 then s.askPoint st ch
  else if trigger = 7 ∧ s.periodOver st ch = true then s.askRetrain st ch 7
  else s

/-- RETRAIN_PERIOD_EXPIRY (13 R396). -/
def execRetrainPeriodExpiry (stack ch : Nat) (s : State) : Host.Outcome State Fault Refusal :=
  s.runDuty (s.stackDuty stack) (s.build.hasChan stack ch)
    (if s.periodOver stack ch then s.askRetrain stack ch 7 else s)

/-- CA_PARITY_ALERT (13 R397): the freeze bit of each command bus of the channel is set, the bus stands still for 64 MCLK, and
STACK_COMMAND_ISSUE precharges and replays; a retrain follows; inside a window the alert is only counted. -/
def execCaParityAlert (stack ch : Nat) (s : State) : Host.Outcome State Fault Refusal :=
  s.runLive (s.build.hasChan stack ch)
    (let s := s.chanBump stack ch 5 1
     let inside := decide ((s.chan stack ch).state = 2) && decide (s.mclk < (s.pc stack (2 * ch)).shut)
     if inside then s
     else
       let s := (List.range 2).foldl (fun s j =>
         (s.modPc stack (2 * ch + j) fun x =>
           { x with halt := max x.halt (s.mclk + 64), alert := some s.mclk }).freezeArb 3 (64 * stack + 2 * ch + j) 8 true) s
       (s.chanBump stack ch 6 1).askRetrain stack ch 1)

/-- STANDIN_FILL_END (13 R399): both FILL_MARKs are past their last row, and routing goes to the spare channel. A channel that is
to be tested enters TEST; one whose TEST has been ended goes on to RETURN (13 R385). -/
def execStandinFillEnd (stack : Nat) (s : State) : Host.Outcome State Fault Refusal :=
  s.runDuty (s.stackDuty stack) (decide (stack < s.build.S))
    (match (s.pot stack).stands.find? fun n => decide (n.phase = 0) && decide (s.fillMark n = 1048576) with
     | none => s
     | some n =>
       let m := { n with phase := 1, since := s.clk.now }
       let s := s.modPot stack fun p => { p with stands := p.stands.replace n m }
       let s := (s.chanBump stack n.ch 8 ((s.clk.now - n.since) / 9600)).chanBump stack n.ch 11 2147483648
       let c := s.chan stack n.ch
       match c.test with
       | some true => (s.setChan stack n.ch (c.enterTest 1)).chanEvent stack n.ch 0
       | some false => (s.setChan stack n.ch { c with test := none }).startReturn stack m
       | none => (s.setChan stack n.ch { c with state := 4 }).chanEvent stack n.ch 0)

/-- A write to a dirty group of a stand-in waits in the spare channel. -/
def State.standWrites (s : State) (st : Nat) (n : StandIn) : Bool :=
  (List.range 2).any fun j =>
    let x := s.pc st (2 * n.spare + j)
    (x.pool ++ x.fifo ++ x.own).any (fun q =>
      q.write && (mapFind n.dirty (dirtyKey ⟨st, j, q.sid, q.bank, q.row, q.col⟩)).isSome) ||
    x.merges.any fun m => (mapFind n.dirty (dirtyKey { s.physical (s.visible m.gran) with pc := j })).isSome

/-- STANDIN_RETURN_END (13 R399): every dirty group is copied back and no write to one waits; routing returns, BORROWED is
cleared, and what waited for the spare channel goes on. -/
def execStandinReturnEnd (stack : Nat) (s : State) : Host.Outcome State Fault Refusal :=
  s.runDuty (s.stackDuty stack) (decide (stack < s.build.S))
    (match (s.pot stack).stands.find? fun n =>
         decide (n.phase = 2) && (n.dirty.map Prod.fst).all (s.returned n) && !s.standWrites stack n with
     | none => s
     | some n =>
       let s := (s.chanBump stack n.ch 10 (s.phaseUs n)).chanBump stack n.ch 11 (16384 * n.dirty.length)
       let s := (s.modChan stack n.ch fun c => { c with state := 1 }).chanEvent stack n.ch 0
       (s.endStand stack n).nextRetire stack)

/-- The channel whose turn it is among those that wait for windows: one that has had a window keeps its turn; then the earlier
trigger, the lower stack, the lower channel (13 R400). -/
def State.splitTurn (s : State) : Option (Nat × Nat) :=
  let l := (s.stk.pots.map fun p => (p.2.chans.filter fun c => decide (c.2.state = 2)).map fun c =>
    (p.1, c.1, if c.2.windows = 0 then 256 * (c.2.turn + 1) + 32 * p.1 + c.1 else 0)).flatten
  ((sortBy (fun x => x.2.2) l).head?).map fun x => (x.1, x.2.1)

/-- A window of 4,800 MCLK opens on a channel (13 R400): every bank is precharged as its timing allows, and no request of its
pools is served. -/
def State.openWindow (s : State) (stack ch : Nat) : State :=
  let s := (List.range 2).foldl (fun s j =>
    s.modPc stack (2 * ch + j) fun x =>
      { s.shutBanks x with shut := s.mclk + 4800 }) s
  let s := s.modStk fun k => { k with splitAt := some (s.clk.now + mclkR 4800) }
  (s.modChan stack ch fun c => { c with windows := c.windows + 1 }).chanBump stack ch 7 1

/-- SPLIT_GAP has passed since the last window of the block (13 R400). -/
def State.splitGapOver (s : State) : Bool :=
  match s.stk.splitAt with
  | some t => s.since t (usR (s.param 0x4F00 17))
  | none => true

/-- SPLIT_WINDOW (13 R400): one window of a channel, in turn, SPLIT_GAP after the last. -/
def execSplitWindow (stack ch : Nat) (s : State) : Host.Outcome State Fault Refusal :=
  s.runDuty (s.stackDuty stack) (s.build.hasChan stack ch)
    (if s.splitTurn = some (stack, ch) ∧ s.splitGapOver = true ∧ (s.pc stack (2 * ch)).calm = true ∧
        (s.pc stack (2 * ch + 1)).calm = true then s.openWindow stack ch else s)

end Sys2Proof.Machine
end

