-- ==== Sys2Proof/Machine/Egress.lean ====
section
/-! DEFINITION. Egress (02 R37, R57, R67, R69; 10 R301, R302, R308 to R311, R316): acceptance of done-table writes, the
scheduler of a port, credits, and ports that come up and go down. -/

namespace Sys2Proof.Machine

/-- The hold time of a response starts, where it is held and has not started (02 R69). -/
def State.startHold (s : State) (r : Resp) : State :=
  match r.home with
  | none => s
  | some (e, slot) => s.modFrm fun f =>
      { f with
        holds := f.holds.map fun g =>
          if g.r = e ∧ g.slot = slot ∧ g.resp.seq = r.seq ∧ g.left.isNone = true then { g with left := some s.clk.now }
          else g }

/-- What becomes of a frame that a port gives up (10 R302): `sent` says that some cell of it has left. -/
def State.giveBack (s : State) (r : Resp) (sent : Bool) : State :=
  match r.kind with
  | 3 => if sent then s else s.startHold r
  | 5 => if r.op = 0x98 then s.undelivered r else s.stagePick r
  | _ => s.stagePick r

/-- DONE_TABLE_WRITE_ACCEPTED (02 R67; 10 R312): the entry stands, its class is charged, and the final response that
waited for it may be sent; on a port that is down it is removed as 10 R302 removes it. -/
def execDoneTableWriteAccepted (entry slot : Nat) (s : State) : Host.Outcome State Fault Refusal :=
  s.runLive (decide (entry < s.build.reqEntries) && decide (slot < 64))
    (match s.frm.pend.find? fun p => decide (p.r = entry) && decide (p.slot = slot) with
     | none => s
     | some p =>
       let s := (s.modFrm fun f =>
         { f with pend := f.pend.erase p, done := mapSet {} f.done (64 * entry + slot) p.entry }).chargeClass p.cls 64
       match p.resp with
       | none => s
       | some (r, port) =>
         if (s.port port).up then s.stage port r else (s.giveBack r false).portBump port 12 1 none)

/-! ### The scheduler of a port (10 R308 to R311) -/

/-- The head of a queue takes part in a round from the PCLK edge after the one on which its queue's staging took its first
cell (08 R255; 10 R310). -/
def headReady (now : Nat) (q : List EgFrame) : Bool :=
  match q with
  | [] => false
  | f :: _ => decide (0 < f.sent) || decide (f.at_ / 6 < now / 6)

/-- W queues whose first cell was enqueued on an earlier edge have woken: their tags are at least V (10 R310). -/
def Port.woken (x : Port) (now : Nat) : Port :=
  (List.range 12).foldl (fun x i =>
    match x.queues.getD (4 + i) [] with
    | f :: l =>
      if f.wake && decide (f.at_ / 6 < now / 6) then
        { x with
          queues := x.queues.set (4 + i) ({ f with wake := false } :: l),
          tags := if later 48 x.vtime (x.tags.getD i 0) then x.tags.set i x.vtime else x.tags }
      else x
    | [] => x) x

/-- The W queue of the least tag, the lowest among equals; `none` where none of the twelve takes part. -/
def Port.pickW (x : Port) (now : Nat) : Option Nat :=
  (List.range 12).foldl (fun b i =>
    if !headReady now (x.queues.getD (4 + i) []) then b
    else match b with
      | none => some i
      | some j => if later 48 (x.tags.getD j 0) (x.tags.getD i 0) then some i else b) none

/-- The requesters of a port: S0 to S3 at priorities 0 to 3, the W group at 4; each is at a break point. -/
def Port.requests (x : Port) (now : Nat) : List Bid :=
  ((List.range 4).filter fun i => headReady now (x.queues.getD i [])).map (fun i => ({ idx := i, prio := i } : Bid)) ++
    (if (x.pickW now).isSome then [{ idx := 4, prio := 4 }] else [])

/-- INC of W queue i (10 R310, R311). -/
def State.wInc (s : State) (i : Nat) : Nat := 2 ^ 20 / max 1 (s.param 0x5300 (i + 1))

/-- The lateness of a response, in ns rounded up, where it is late (10 R316). -/
def State.lateBy (s : State) (x : Port) (f : EgFrame) : Option Nat :=
  let r := f.resp
  if r.home.isNone ∨ r.code ≠ 0 ∨ r.target = 0 ∨ [0x81, 0x82, 0x90, 0xA0, 0xA1].contains r.op = false then none
  else
    let spent := s.clk.now - r.born - r.sub - (x.dry - f.dry0)
    if r.target * 48 < spent * 5 then some (min (ceilDiv (spent * 5 - r.target * 48) 48) (2 ^ 32 - 1)) else none

/-- A header cell leaves the block: the lateness decision, the hold time, the delivery. -/
def State.headerLeaves (s : State) (x : Port) (f : EgFrame) : State × EgFrame :=
  let (s, f) :=
    match s.lateBy x f with
    | some d =>
      (s.classTally f.resp.cls (s.classPast 2) 1, { f with resp := { f.resp with code := cDoneLate, aux := d } })
    | none => (s, f)
  let s := s.startHold f.resp
  if f.resp.kind = 5 ∧ f.resp.op = 0x98 then
    (s.delivered f.resp, { f with resp := { f.resp with seq := mapGet 0 s.frm.delivery f.resp.req } })
  else (s, f)

/-- Sends the next cell of queue q of a port. -/
def State.sendCell (s : State) (p q : Nat) : State :=
  match (s.port p).queues.getD q [] with
  | [] => s
  | f :: rest =>
    let (s, f) := if f.sent = 0 then s.headerLeaves (s.port p) f else (s, f)
    let left := if f.sent + 1 < f.resp.payloadCells then { f with sent := f.sent + 1 } :: rest else rest
    let s := s.modPort p fun x =>
      { x with
        queues := x.queues.set q left, txCredit := x.txCredit - 1, tx := f.resp.cell f.sent, txAt := some s.pclk }
    (s.portBump p 10 1 none).classTally f.resp.cls (s.classPast 1) 1

/-- The cell of a requester that has the grant: S0 to S3, or the W group by virtual time. -/
def State.serve (s : State) (p w : Nat) : State :=
  if w < 4 then s.sendCell p w
  else match (s.port p).pickW s.clk.now with
    | none => s
    | some i =>
      let s := s.modPort p fun x =>
        let t := x.tags.getD i 0
        { x with
          vtime := t, tags := x.tags.set i ((t + s.wInc i) % 2 ^ 48) }
      s.sendCell p (4 + i)

/-- The holder of a port's grant releases it once it has nothing left to send. -/
def State.releasePort (s : State) (p : Nat) : State :=
  let a := s.arbAt 4 p
  match a.holder with
  | some h =>
    let x := s.port p
    let empty := if h < 4 then (x.queues.getD h []).isEmpty else (x.queues.drop 4).all List.isEmpty
    if empty then s.setArb 4 p { a with holder := none } else s
  | none => s

/-- EGRESS_CELL (10 R308 to R310): on a PCLK edge with an egress credit a port holds a round over its queues and sends one
cell; W queues that were filled on an earlier edge have woken. A frozen scheduler sends only for the holder of the grant
(10 R325). Deliveries that have waited out OWE_WAIT are owed first (03 R108). -/
def execEgressCell (port : Nat) (s : State) : Host.Outcome State Fault Refusal :=
  s.runLive (decide (port < s.build.A))
    (let s := s.oweStale port
     let x := (s.port port).woken s.clk.now
     let a := s.arbAt 4 port
     let reqs := x.requests s.clk.now
     if x.up = false ∨ x.txCredit = 0 ∨ reqs.isEmpty = true ∨ x.txAt = some s.pclk then s
     else
     let s := s.setPort port x
     if a.freeze ≠ 0 then
       match a.holder with
       | some h =>
         ((if reqs.any fun r => decide (r.idx = h) then s.serve port h else s).releasePort port).portBump port 16 1 none
       | none => s.portBump port 16 1 none
     else match a.winner 4 (s.waitLimit 4) reqs with
       | none => s
       | some (w, rule) =>
         let revoked := match a.holder with
           | some h => decide (h ≠ w) && reqs.any fun r => decide (r.idx = h)
           | none => false
         let s := (s.setArb 4 port (a.granted reqs w)).portBump port 13 1 none
         let s := if revoked then s.portBump port 14 1 none else s
         let s := if rule = 2 then s.portBump port 15 1 none else s
         (s.serve port w).releasePort port)

/-- EGRESS_CREDIT (02 R37): the host grants one egress credit. -/
def execEgressCredit (port : Nat) (s : State) : Host.Outcome State Fault Refusal :=
  s.runLive (decide (port < s.build.A))
    (if (s.port port).up then s.modPort port fun x => { x with txCredit := x.txCredit + 1 } else s)

/-! ### Ports (18 R488; 10 R301, R302) -/

/-- A port stops being up: what is queued for it is removed, owed or sent again (10 R302). -/
def State.dropPort (s : State) (p : Nat) : State :=
  let x := (s.port p).woken (s.clk.now + 6)
  let frames := x.queues.flatten
  let s := s.setPort p { x with up := false, start := none, txCredit := 0, queues := List.replicate 16 [] }
  let s := (s.portBump p 12 frames.length none).releasePort p
  frames.foldl (fun s f => s.giveBack f.resp (decide (0 < f.sent))) s

/-- A port becomes up: the host holds no credits, and frames that waited for a port are staged (10 R301). -/
def State.raisePort (s : State) (p : Nat) : State :=
  let s := s.modPort p fun x => { x with up := true, start := some s.clk.now, txCredit := 0 }
  let l := s.frm.noPort
  l.foldl State.stagePick (s.modFrm fun f => { f with noPort := [] })

/-- att_rdy of every port: low while the block is in P5 and before admission opens (18 R488). -/
def State.rdy (s : State) : Bool := s.live && decide (s.ldl.stage = 6)

/-- PORT_UP (18 R488): att_up is sampled high; the port is up once att_rdy is high as well. -/
def execPortUp (port : Nat) (s : State) : Host.Outcome State Fault Refusal :=
  runIf (decide (port < s.build.A))
    (let t := s.modPort port fun x => { x with host := true }
     if (s.port port).up = false ∧ s.rdy = true then t.raisePort port else t)

/-- PORT_DOWN (18 R488; 10 R302). -/
def execPortDown (port : Nat) (s : State) : Host.Outcome State Fault Refusal :=
  runIf (decide (port < s.build.A))
    (let t := s.modPort port fun x => { x with host := false }
     if (s.port port).up then t.dropPort port else t)

end Sys2Proof.Machine
end

