-- ==== Sys2Proof/Machine/Power.lean ====
section
/-! DEFINITION. Power domains and their ladder, doorkeepers, drains and resets of a domain, parking, and Trivet (14 R406 to
R425; 11 R353). -/

namespace Sys2Proof.Machine

/-! ### Idle domains (14 R412) -/

/-- The tiles of Skillet n that hold anything. -/
def State.skilletTiles (s : State) (n : Nat) : List Tile := (s.tl.tiles.filter fun p => decide (p.1 / 32 = n)).map Prod.snd

/-- A tile that keeps its Skillet busy: RUNNING, LOADING or starting, or with work that has not run out. -/
def Tile.busy (x : Tile) : Bool :=
  x.c.state = 1 || x.c.state = 3 || x.c.start.isSome || x.c.failing.isSome || !x.drained

/-- A Stockpot with nothing in progress. -/
def Pot.quiet (p : Pot) : Bool :=
  (p.pcs.all fun x => x.2.pool.isEmpty && x.2.fifo.isEmpty && x.2.merges.isEmpty && x.2.own.isEmpty && x.2.calm) && p.mig.isNone &&
    p.fills.isEmpty && p.stands.isEmpty &&
    p.chans.all fun c => [1, 7, 8, 9].contains c.2.state

/-- No frame of port p is in reassembly or egress staging. -/
def State.portQuiet (s : State) (p : Nat) : Bool :=
  (s.port p).queues.all List.isEmpty && s.frm.reasm.all fun x => x.2.cells.all fun c => decide (c.2.port ≠ p)

/-- The domain is idle. -/
def State.domIdle (s : State) (d : Nat) : Bool :=
  if d < 64 then (s.skilletTiles d).all (fun x => !x.busy) && (s.dom d).held.isEmpty && (s.dom d).wait.isEmpty
  else if d < 72 then (s.pot (d - 64)).quiet
  else if d < 80 then (List.range 4).all fun i => s.portQuiet (4 * (d - 72) + i)
  else if d < 84 then s.wsk.slots.all fun x => decide (x.2.state ≠ 1) && decide (x.2.state ≠ 2)
  else if d = 84 then
    (s.sch.ctxs.all fun c => decide (c.2.state = 0)) && (s.att.sets.all fun x => x.2.running.isNone) &&
      s.par.sets.all fun x => x.2.running.isNone
  else if d = 85 then s.syn.queue.isEmpty && s.syn.bars.all fun b => decide (b.2.arrived = 0) && b.2.frames.isEmpty
  else if d = 86 then s.frm.ops.isEmpty && s.frm.pend.isEmpty
  else (List.range s.build.K).all fun n => decide (1 ≤ (s.dom n).state)

/-- The deepest state that a domain may enter now: DOMAIN_FLOOR, and P1 for a port group with a port up. -/
def State.domDeepest (s : State) (d : Nat) : Nat :=
  let lim := if 72 ≤ d ∧ d < 80 ∧ ((List.range 4).any fun i => (s.port (4 * (d - 72) + i)).up) = true then 1
    else floorDefault d
  min (s.param (0xA100 + d) 2) lim

/-- The idle time before a state, in RCLK (14 R413). -/
def State.idleTime (s : State) (st : Nat) : Nat :=
  match st with
  | 1 => tclkR (s.param 0xA000 5)
  | 2 => usR (s.param 0xA000 6)
  | 3 => usR (s.param 0xA000 7)
  | _ => usR (s.param 0xA000 8)

/-- The idle time of the present domains is kept from edge to edge: it starts when a domain at P0 is seen idle, and ends
when it is seen at work, which aborts an entry. -/
def State.watchIdle (s : State) : State :=
  s.build.domains.foldl (fun s d =>
    let x := s.dom d
    match x.idle, s.domIdle d with
    | none, true => s.setDom d { x with idle := some s.clk.now }
    | some _, false => if x.state = 0 then s.wakeDom d else s
    | _, _ => s) s

/-! ### Stacks under the state of their Stockpot (11 R353) -/

/-- Changes every pseudo-channel of a stack. -/
def Pot.mapPcs (p : Pot) (f : Pc → Pc) : Pot := (List.range 64).foldl (fun p c => p.setPc c (f (p.pc c))) p

/-- A pseudo-channel with nothing to serve. -/
def Pc.quiet (x : Pc) : Bool := x.pool.isEmpty && x.fifo.isEmpty && x.merges.isEmpty && x.own.isEmpty

/-- Every request of a pseudo-channel is served: its pool empties, its merge entries go back as whole granules, and what waits
for a place moves up and is served in turn (11 R353; 12 R363; DESIGN CHOICE, log 48). -/
def State.drainPc (s : State) (st c fuel : Nat) : State :=
  match fuel with
  | 0 => s
  | n + 1 =>
    let x := s.pc st c
    if x.quiet then s
    else
      let s := (s.setPc st c
        { x with
          pool := [], merges := [], banks := x.banks.map fun b => (b.1, { b.2 with inOrder := false }) }).pcBump st c 20
            x.merges.length
      (s.pullAll st c).drainPc st c n

/-- Accepted writes retire, and the pools are empty (11 R353; 14 R409). -/
def State.drainPot (s : State) (st : Nat) : State :=
  ((s.pot st).pcs.filter fun q => !q.2.quiet).foldl (fun s q =>
    s.drainPc st q.1 (2 + q.2.own.length + q.2.fifo.length)) s

/-- Every bank is precharged as soon as its timing allows, and every rank is in power-down; before self-refresh the refresh debt
is paid (11 R343, R353). -/
def State.pcDown (s : State) (deep : Bool) (dec : Nat) (x : Pc) : Pc :=
  let y := s.shutBanks x
  let y := { y with
    alert := none, replay := [], hist := [],
    ranks := (List.range 4).map fun r => (r, if (x.rank r).down then x.rank r else { down := true, idle := s.mclk }) }
  if deep then (List.range x.debt).foldl (fun y _ => y.refreshed dec) y else y

/-- The edges that a pseudo-channel's ranks have spent in power-down are counted. -/
def State.countRanks (s : State) (st c : Nat) (x : Pc) (till : Nat) : State :=
  s.pcBump st c 10 ((x.ranks.map fun r => if r.2.down then till - r.2.idle else 0).foldl (· + ·) 0)

/-- A stack goes with its Stockpot: power-down at P1; self-refresh from P2 on, with the debt paid by REFpbs that are counted in
their bands. A failed stack stays failed (11 R353). -/
def State.stackDown (s : State) (st level : Nat) : State :=
  let deep := decide (2 ≤ level) && (s.pot st).sleepAt.isNone
  let dec := s.param (0x3000 + 256 * st) 8
  let s := if deep then
      (s.pot st).pcs.foldl (fun s q =>
        ((List.range q.2.debt).foldl (fun s k => s.pcBump st q.1 (debtBand (k + 1)) 1) s).countRanks st q.1 q.2 s.mclk) s
    else s
  s.modPot st fun p =>
    let p := p.mapPcs (s.pcDown deep dec)
    { p with
      state := if p.state = 2 ∧ 2 ≤ level then 3 else p.state, sleepAt := if deep then some s.mclk else p.sleepAt }

/-- A pseudo-channel as its stack leaves a low-power state: ranks are up, its banks take commands from an edge on, and after
self-refresh the debt counts from now (11 R347, R353). -/
def Pc.upFrom (x : Pc) (mclk ready : Nat) (slept : Bool) : Pc :=
  let x := { x with
    ranks := (List.range 4).map fun r => (r, { down := false, idle := mclk }), tick := if slept then 128 * mclk else x.tick }
  if ready ≤ mclk then x
  else (List.range 64).foldl (fun x b => x.setBank b { x.bank b with ready := max (x.bank b).ready ready }) x

/-- A stack leaves the state that its Stockpot's domain state gave it: T_XP or T_XS counts from the edge on which the exit
began (11 R341, R353, R354). -/
def State.stackUp (s : State) (st level : Nat) : State :=
  if level = 0 then s
  else
    let start := s.mclk - 2 * exitTime level
    let p := s.pot st
    let ready := start + (if p.sleepAt.isSome then s.tpar 19 else s.tpar 18)
    let s := p.pcs.foldl (fun s q =>
      match p.sleepAt with
      | some e => s.pcBump st q.1 11 (start - e)
      | none => s.countRanks st q.1 q.2 start) s
    s.modPot st fun p =>
      let q := p.mapPcs fun x => x.upFrom s.mclk ready p.sleepAt.isSome
      { q with state := if q.state = 3 then 2 else q.state, sleepAt := none }

/-! ### Arbiters at a reset (10 R327) -/

/-- The instances whose state starts anew at a reset of a domain: kind, first instance, how many. -/
def arbsOf (d : Nat) : List (Nat × Nat × Nat) :=
  (arbsInto d).map (fun k => (k.1, k.2, 1)) ++
    (if d < 64 then [(5, 1024 * d, 1024)]
     else if d < 72 then [(3, 64 * (d - 64), 64)]
     else if d < 80 then [(4, 4 * (d - 72), 4)]
     else [])

/-- Instances of a kind start anew: pointer, wait counters, holder, and the freeze requests of Ladel and Trivet. -/
def State.resetArbs (s : State) (kind lo n : Nat) : State :=
  s.modArb fun m =>
    (m.map fun p =>
      if akey kind lo ≤ p.1 ∧ p.1 < akey kind (lo + n) then (p.1, { freeze := p.2.freeze &&& 4 }) else p).filter
        fun p => p.2 ≠ {}

/-! ### Down the ladder (14 R413; 04 R154) -/

/-- A Skillet may enter P4: every tile is EMPTY, SAVED, or HALTED with an empty save slot. -/
def State.mayP4 (s : State) (n : Nat) : Bool :=
  s.tl.tiles.all fun p => decide (p.1 / 32 ≠ n) || p.2.c.state = 0 || p.2.c.state = 6 ||
    (p.2.c.state = 4 && p.2.drained && p.2.c.failing.isNone && (mapFind s.tl.saves p.1).isNone)

/-- The commit edge: the next state is entered (14 R413). -/
def State.enterState (s : State) (d : Nat) : State :=
  let n := (s.dom d).state + 1
  let s := if d < 64 ∧ n = 4 then
      (s.tl.tiles.filter fun p => decide (p.1 / 32 = d) && decide (p.2.c.state = 4)).foldl
        (fun s p => s.saveTile p.1 true) s
    else s
  let s := if 64 ≤ d ∧ d < 72 then s.stackDown (d - 64) n else s
  ((s.settleDom d).modDom d fun x => { x with state := n, entering := false, idle := some s.clk.now }).domBump d 6 1

/-- DOMAIN_STEP_DOWN (14 R413): an idle domain whose idle time has passed moves down one state. The first step of the entry
sets the freeze bits of every arbiter into the domain; the next, with no work left, is the commit edge. Work that has come
in between aborts the entry, and the domain returns to P0. -/
def execDomainStepDown (d : Nat) (s : State) : Host.Outcome State Fault Refusal :=
  s.runLive (s.build.hasDomain d)
    (let x := s.dom d
     match x.idle with
     | none => s
     | some t =>
       if x.wake.isSome ∨ s.domDeepest d ≤ x.state ∨ s.since t (s.idleTime (x.state + 1)) = false then s
       else if !s.domIdle d then s.wakeDom d
       else if !x.entering then (s.freezeInto d 2 true).modDom d fun x => { x with entering := true }
       else if d < 64 ∧ x.state = 3 ∧ s.mayP4 d = false then s
       else s.enterState d)

/-! ### Waking (14 R411, R415) -/

/-- DOMAIN_WAKE (14 R415): the doorkeeper sees work. -/
def execDomainWake (d : Nat) (s : State) : Host.Outcome State Fault Refusal :=
  s.runLive (s.build.hasDomain d) (s.wakeDom d)

/-- A held signal is applied, or refused as it would be at an awake domain. -/
def State.applyHeld (s : State) (h : HeldSig) : State :=
  match h.op with
  | some k => match s.op k with
    | some o => s.applySync o
    | none => s
  | none =>
    if h.hand then (if [0, 1, 6].contains (s.tile (h.addr / 64)).c.state then s else s.handCtr h.addr h.amount)
    else match s.applySig h.addr h.amount h.part h.path with
      | some t => t
      | none => s.sigRefused h.tile

/-- A domain is at P0 again: its arbiters hold rounds, its stack leaves its low-power state, tiles saved for P4 are
restored on the way out of P4 (04 R154), and held signals are applied in order of arrival, then those that waited. -/
def State.exitDom (s : State) (d : Nat) : State :=
  let x := s.dom d
  let s := (s.settleDom d).modDom d fun y =>
    { y with state := 0, wake := none, held := [], wait := [], idle := none, entering := false }
  let s := s.freezeInto d 2 false
  let s := if 64 ≤ d ∧ d < 72 then s.stackUp (d - 64) x.state else s
  let s := if d < 64 ∧ x.state = 4 then
      (s.tl.saves.filter fun p => decide (p.1 / 32 = d) && p.2.forP4 && !p.2.stale).foldl (fun s p => s.restoreTile p.1) s
    else s
  ((x.held ++ x.wait).foldl State.applyHeld s).domBump d 8 1

/-- DOMAIN_EXIT (14 R407, R411, R415): a domain that leaves P2 or deeper waits until the code on pwr_vid has been
confirmed. -/
def execDomainExit (d : Nat) (s : State) : Host.Outcome State Fault Refusal :=
  s.runLive (s.build.hasDomain d)
    (let x := s.dom d
     match x.wake with
     | some t => if t ≤ s.clk.now ∧ (x.state < 2 ∨ s.pwr.vidOk = true) then s.exitDom d else s
     | none => s)

/-! ### Reset of a domain (14 R416 to R418) -/

/-- The epoch goes up and the domain is at P0 with nothing held; its arbiters and programmable counters start anew. A freeze
that the debugger asks for stands (17 R484). -/
def State.bumpEpoch (s : State) (d : Nat) : State :=
  let s := (s.settleDom d).modDom d fun x => { epoch := (x.epoch + 1) % 2 ^ 16, temp := x.temp, since := x.since }
  let s := s.modObs fun o => { o with
    ctrs := mapClear o.ctrs (8 * d) 8, resetMask := o.resetMask ||| 2 ^ d }
  (arbsOf d).foldl (fun s k => s.resetArbs k.1 k.2.1 k.2.2) s

/-- Ends what an attention set runs and queues with RETRY_EPOCH, and leaves it in a state. -/
def State.endAttSet (s : State) (i state unit dom : Nat) : State :=
  let x := s.attSet i
  let s := if x.running.isSome then (s.attRun i).foldl State.stopTile s else s
  (s.setAttSet i { state := state }).endEpoch (x.running.toList ++ x.queue) unit dom

/-- The same for an update set. -/
def State.endUpdSet (s : State) (u state unit dom : Nat) : State :=
  let x := s.updSet u
  let s := if x.running.isSome then (s.updRun u).foldl State.stopTile s else s
  (s.setUpd u { state := state }).endEpoch (x.running.toList ++ x.queue) unit dom

/-- A slot is broken by an epoch bump: its frames answer RETRY_EPOCH (03 R94). -/
def State.breakEpoch (s : State) (x : Slot) (unit dom : Nat) : State :=
  s.breakSlot x { code := cEpoch, aux := s.epoch dom, reset := some (unit, dom) } 94

/-- Slots that are open or closing and hold blocks as a test says. -/
def State.openSlotsWith (s : State) (p : Slot → Bool) : List Slot :=
  (mapVals s.wsk.slots).filter fun x => (x.state = 1 || x.state = 2) && p x

/-- The admitted SYNC frames whose counter lies in Skillet n: none of them has been applied (08 R250). -/
def State.syncsOf (s : State) (n : Nat) : List OpRec :=
  (mapVals s.frm.ops).filter fun o => decide (o.opcode = opSync) && decide (hArg o.hdr 36 3 / 64 / 32 = n)

/-- A transfer that a tile has in progress into a domain that is reset ends there: it writes nothing more and sends no signal, and
the tile faults with XFER_REFUSED (14 R417, R418; DESIGN CHOICE, log 105). -/
def State.cutXfer (s : State) (t : Nat) : State :=
  match (s.tile t).c.xrun with
  | none => s
  | some d =>
    let s := s.modTile t fun x =>
      { x with
        c := { x.c with xrun := none, fences := lowerFences d x.c.fences },
        x := { x.x with xinfo := x.x.xinfo.drop 1 } }
    ((s.tileBump t 9 1).asyncFault t fXferRefused 0).settle t

/-- Ends the transfers in progress that a test names. -/
def State.cutXfers (s : State) (hit : Nat → Bool) : State :=
  (((s.tl.tiles.filter fun p => p.2.c.xrun.any hit).map Prod.fst)).foldl State.cutXfer s

/-- A transfer reads or writes a granule in Stockpot st. -/
def State.xferInPot (s : State) (st d : Nat) : Bool :=
  let g := s.descOf (hdDesc (xdHandle d))
  decide (xdKind d ≠ 3) && (s.rangeInPot st g (xdOfs d) (xdLen d) false || s.rangeInPot st g (xdOfs d) (xdLen d) true)

/-- Skillet n: tiles EMPTY, ledgers cleared, saved contexts stale, its sets faulted, held signals gone, SYNC frames not yet
applied answered RETRY_EPOCH, transfers of other tiles into it at an end (04 R153; 08 R250; 14 R417, R418). -/
def State.resetSkillet (s : State) (n : Nat) : State :=
  let s := s.bumpEpoch n
  let s := s.modTl fun l => { l with
    tiles := mapClear l.tiles (32 * n) 32, ledger := mapClear l.ledger (2048 * n) 2048,
    saves := l.saves.map fun p => if p.1 / 32 = n then (p.1, { p.2 with stale := true, forP4 := false }) else p }
  let s := s.cutXfers fun d => decide (xdKind d = 3) && decide (xdRtile d / 32 = n)
  let s := (s.syncsOf n).foldl (fun s o => s.endEpoch [o.key] (srcTile (hArg o.hdr 36 3 / 64)) n) s
  let s := s.att.sets.foldl (fun s p =>
    if p.2.state ≠ 0 ∧ ((s.attRun p.1).any fun t => decide (t / 32 = n)) = true then
      s.endAttSet p.1 4 (srcTile (s.attFirst p.1)) n
    else s) s
  (List.range 16).foldl (fun s u =>
    if (s.updRun u).any fun t => decide (t / 32 = n) then s.endUpdSet u 4 (srcTile (s.updFirst u)) n else s) s

/-- The open slots that have blocks outside slot SRAM (03 R92). -/
def State.slotsOutside (s : State) : List Slot :=
  s.openSlotsWith fun x => decide (x.spill ≠ 0) || x.wide.any fun w => decide (w.2 = 4)

/-- Those of them of which the Stockpot being reset holds a granule: where a block lies in the spill area or the escape
reserve belongs to the Whisk, so each is a free value (01 R22; 03 R94; DESIGN CHOICE, log 21). -/
def State.slotsHeldBy (s : State) : List Slot :=
  (s.slotsOutside.zipIdx.filter fun p => decide ((Config.freeValue 13 (s.free + p.2)).toNat % 2 = 1)).map Prod.fst

/-- A query reads something in Stockpot st: the directory, or the tokens of its local pages (06 R201). -/
def State.queryReads (s : State) (st k : Nat) : Bool :=
  match s.op k with
  | none => false
  | some o =>
    let d := s.descOf (hdDesc (hHandle o.hdr))
    let h := s.kvHdr d
    let ctx := hArg o.hdr 40 4
    let w := s.kvCtx d ctx
    let n := kvLocals h w (kvG o.hdr)
    s.rangeInPot st d 0 64 false || s.rangeInPot st d (64 + 16 * ctx) 16 false ||
      s.rangeInPot st d (kvPtOfs h ctx (hArg o.hdr 38 2) (hArg o.hdr 44 2) 0) (8 * n) false ||
      (List.range n).any fun p =>
        let base := kvSlotOfs h (kpSlot (s.kvEntry d o.hdr p))
        let b := validTokens o.hdr (kcFirst w + p) * kvRow h
        s.rangeInPot st d base b false || s.rangeInPot st d (base + 4096 * kvRow h) b false

/-- Stockpot st holds the range of an update, in its current or its shadow frames, or its log entry (07 R226). -/
def State.updateHeld (s : State) (st k : Nat) : Bool :=
  match s.op k with
  | none => false
  | some o =>
    let d := s.descOf (hdDesc (hHandle o.hdr))
    let l := s.descOf (hdDesc (prmLog (s.prmHdr d)))
    let lh := s.logHdr l
    s.rangeInPot st d (hOfs o.hdr) (hLen o.hdr) false || s.rangeInPot st d (hOfs o.hdr) (hLen o.hdr) true ||
      s.rangeInPot st l (lgEntryOfs lh (hArg o.hdr 44 8)) (lgEntryBytes lh) false

/-- Ends those of a set's queries that read in a Stockpot that is reset. -/
def State.potQueries (s : State) (st i : Nat) : State :=
  let x := s.attSet i
  let hit := (x.running.toList ++ x.queue).filter (s.queryReads st)
  let s := if x.running.any hit.contains then
      ((s.attRun i).foldl State.stopTile s).setAttSet i { x with running := none, state := 2 }
    else s
  s.endEpoch hit (0x0400 + st) (64 + st)

/-- Ends those of a set's updates whose range or log entry is in a Stockpot that is reset. -/
def State.potUpdates (s : State) (st u : Nat) : State :=
  let x := s.updSet u
  let hit := (x.running.toList ++ x.queue).filter (s.updateHeld st)
  let s := if x.running.any hit.contains then
      ((s.updRun u).foldl State.stopTile s).setUpd u { x with running := none, state := 2 }
    else s
  s.endEpoch hit (0x0400 + st) (64 + st)

/-- Stockpot st: accepted writes retire; slots with blocks there break; transfers, queries and updates that read it end. -/
def State.resetPot (s : State) (st : Nat) : State :=
  let s := ((s.drainPot st).stackUp st (s.dom (64 + st)).state).bumpEpoch (64 + st)
  let u := 0x0400 + st
  let s := (s.slotsHeldBy).foldl (fun s x => s.breakEpoch x u (64 + st))
    (s.modFree (· + s.slotsOutside.length))
  let s := s.cutXfers (s.xferInPot st)
  let s := s.att.sets.foldl (fun s p => s.potQueries st p.1) s
  s.par.sets.foldl (fun s p => s.potUpdates st p.1) s

/-- Cells of a port's buffer are discarded; a key left with none is forgotten unless its frame is admitted. -/
def State.discardCells (s : State) (p : Nat) : State :=
  (s.modFrm fun f =>
    { f with
      reasm := (f.reasm.map fun x => (x.1, { x.2 with cells := x.2.cells.filter fun c => decide (c.2.port ≠ p) })).filter
        fun x => x.2.admitted || !x.2.cells.isEmpty }).modPort p fun x => { x with held := 0 }

/-- Port group g: its ports go down and come back, with nothing in their buffers, their meters full, and their
schedulers as after reset (10 R327). -/
def State.resetPorts (s : State) (g : Nat) : State :=
  let ps := (List.range 4).map (4 * g + ·)
  let s := s.bumpEpoch (72 + g)
  let s := ps.foldl (fun s p => if (s.port p).up then s.dropPort p else s) s
  let s := ps.foldl State.discardCells s
  let s := s.modCls fun c => { c with meters := mapClear c.meters (256 * g) 256 }
  let s := ps.foldl (fun s p => s.modPort p fun x => { x with vtime := 0, tags := List.replicate 12 0, txAt := none }) s
  ps.foldl (fun s p => if (s.port p).host ∧ s.rdy = true then s.raisePort p else s) s

/-- Whisk quadrant q: slots with blocks there break (03 R94). -/
def State.resetQuad (s : State) (q : Nat) : State :=
  let s := s.bumpEpoch (80 + q)
  (s.openSlotsWith fun x => decide (x.sram.getD q 0 ≠ 0) || x.wide.any fun w => decide (w.2 = q)).foldl
    (fun s x => s.breakEpoch x (0x0100 + q) (80 + q)) s

/-- A context is ended by a reset: its step is marked, and it is free (09 R281). -/
def State.endCtx (s : State) (i rule : Nat) : State :=
  let c := s.ctx i
  let s := if c.state = 0 ∨ c.marked = true then s else
    (s.raise srcHub 0x0202 (beBytes 8 c.step ++ beBytes 4 rule)).bump tallyBlock tbMark 1
  (s.modSch fun h => { h with ctxs := mapDel h.ctxs i }).dropResv fun k => decide (k / 4096 = i)

/-- A set that was busy is ready once its tiles have stopped. -/
def idleSet (state : Nat) : Nat := if state = 3 then 2 else state

/-- The schedule hub: every context ends, its frames answer RETRY_EPOCH, and so does what its dispatcher holds. Spill
records stay in force: only a release or a later record ends one (09 R273). -/
def State.resetHub (s : State) : State :=
  let s := s.bumpEpoch 84
  let s := s.sch.ctxs.foldl (fun s p =>
    if p.2.state = 0 then s
    else
      let arming := match p.2.arm with
        | some a => a.op.toList
        | none => []
      (s.endEpoch (arming ++ s.framesOf p.2.part p.2.step) srcHub 84).endCtx p.1 281) s
  let s := s.att.sets.foldl (fun s p => if p.2.state = 0 then s else s.endAttSet p.1 (idleSet p.2.state) srcHub 84) s
  let s := s.par.sets.foldl (fun s p => s.endUpdSet p.1 (idleSet p.2.state) srcHub 84) s
  s.modSch fun h => { h with edges := [] }

/-- A barrier returns to its generation with no arrivals. -/
def Barrier.cleared (x : Barrier) : Barrier := { gen := x.gen, freed := x.freed }

/-- The sync hub: queued remote signals are lost and their steps marked; barriers have no arrivals, and one that expects none of
its own sends its frame anew (08 R257). -/
def State.resetSync (s : State) : State :=
  let s := s.bumpEpoch 85
  let q := s.syn.queue
  let s := s.modSyn fun y => { y with queue := [] }
  let s := q.foldl (fun s g => s.markStep g.part g.step 418) s
  let bars := s.syn.bars
  let s := bars.foldl (fun s p => (s.setBar p.1 p.2.cleared).endEpoch p.2.frames srcBarrier 85) s
  bars.foldl (fun s p => if s.commitBarrier p.1 then s else s.barLocalDone p.1) s

/-- A reset of one domain. -/
def State.resetDom (s : State) (d : Nat) : State :=
  if d < 64 then s.resetSkillet d
  else if d < 72 then s.resetPot (d - 64)
  else if d < 80 then s.resetPorts (d - 72)
  else if d < 84 then s.resetQuad (d - 80)
  else if d = 84 then s.resetHub
  else if d = 85 then s.resetSync
  else s

/-- A write of DOMAIN_RESET: the management fabric hub and the shared PHY services are refused; a domain with work is
drained first (14 R416, R418). -/
def State.domainReset (s : State) (d : Nat) : Option State :=
  if 86 ≤ d then none
  else if (s.dom d).drain.isSome then some s
  else if s.domIdle d then some (s.resetDom d)
  else some ((s.freezeInto d 1 true).modDom d fun x => { x with drain := some s.clk.now })

/-- A drain that has ended: the domain holds no work. -/
def State.endDrains (s : State) : State :=
  (s.pwr.doms.filter fun p => p.2.drain.isSome).foldl (fun s p => if s.domIdle p.1 then s.resetDom p.1 else s) s

/-- DRAIN_LIMIT_EXPIRY (14 R416). -/
def execDrainLimitExpiry (d : Nat) (s : State) : Host.Outcome State Fault Refusal :=
  s.runLive (s.build.hasDomain d)
    (match (s.dom d).drain with
     | none => s
     | some t => if s.since t (usR (s.param 0xA000 9)) || s.domIdle d then s.resetDom d else s)

/-! ### Parking (14 R409, R414; 18 R501) -/

/-- The block enters P5 (14 R409): every freeze bit is set, accepted writes retire, stacks are in self-refresh, ports are not
ready, domains are off, and the rail enables fall. -/
def State.parkBlock (s : State) : State :=
  let s := s.modPwr fun w => { w with frozen := true }
  let s := (List.range s.build.S).foldl (fun s st => (s.drainPot st).stackDown st 2) s
  let s := (List.range s.build.A).foldl (fun s p => if (s.port p).up then s.dropPort p else s) s
  let s := s.modPwr fun w => { w with parked := true, vid := 60, vidAt := s.clk.now, vidOk := false }
  let s := s.build.domains.foldl (fun s d =>
    (s.settleDom d).modDom d fun x => { state := 5, epoch := x.epoch, temp := x.temp, since := x.since }) s
  s.modPin fun p => { p with en := [false, false, false] }

/-- A write of BLOCK_PARK: refused while a schedule context is in use (14 R414). -/
def State.blockPark (s : State) : Option State :=
  if s.sch.ctxs.any fun c => decide (c.2.state ≠ 0) then none
  else if s.pwr.parked then some s
  else some s.parkBlock

/-- MAIN_POWER_FAIL (14 R409): pwr_main_fail is sampled high. -/
def execMainPowerFail (s : State) : Host.Outcome State Fault Refusal :=
  .next
    (if s.pwr.mainFail then s
     else
       let s := (s.modPwr fun w => { w with mainFail := true }).raise srcTrivet 0x0103 []
       if s.pwr.parked then s else s.parkBlock)

/-- RAIL_GOOD_LOST (18 R501): 0 SRAM, 1 CORE, 2 PHY. With its enable high and pwr_main_fail low, the block parks at once and
accepts only a cold start. -/
def execRailGoodLost (rail : Nat) (s : State) : Host.Outcome State Fault Refusal :=
  runIf (decide (rail < 3))
    (let was := s.pin.good.getD rail false
     let en := s.pin.en.getD rail false
     let s := s.modPin fun p => { p with good := listSet p.good rail false }
     if was && en && !s.pwr.mainFail then
       (s.parkBlock.modPwr fun w => { w with coldOnly := true }).raise srcTrivet 0x0103 []
     else s)

/-- KEEP_SWITCH (14 R408). -/
def execKeepSwitch (s : State) : Host.Outcome State Fault Refusal :=
  .next
    (if s.pwr.keep = 1 then s
     else ((s.modPwr fun w => { w with keep := 1 }).bump tallyBlock tbKeep 1).raise srcKeep 0x0102 [1])

/-- KEEP_RETURN (14 R408): KEEP_MAIN has stayed good for 10 ms. -/
def execKeepReturn (s : State) : Host.Outcome State Fault Refusal :=
  .next
    (if s.pwr.keep = 0 then s
     else ((s.modPwr fun w => { w with keep := 0 }).bump tallyBlock tbKeep 1).raise srcKeep 0x0102 [0])

/-- The split retrains of a stack are abandoned, with the old settings; stand-ins keep their state (13 R401). -/
def State.dropSplits (s : State) (st : Nat) : State :=
  s.modPot st fun p =>
    { p with chans := p.chans.map fun c => (c.1, if c.2.state = 2 then { c.2 with state := 1, windows := 0 } else c.2) }

/-- PLL_LOCK_LOST (01 R19; 09 R268): the discipline goes to HOLDOVER, the FTC runs from the reference, stacks are in
self-refresh, the switched domains hold their state, and only management is served until a warm start; a warm start
under way goes back to its third step (18 R500). -/
def execPllLockLost (s : State) : Host.Outcome State Fault Refusal :=
  .next
    (if !s.clk.locked then s
     else
       let s := (s.modClk fun c => { c with locked := false }).raise srcPll 0x0101 []
       let s := (List.range s.build.S).foldl (fun s st => ((s.drainPot st).stackDown st 2).dropSplits st) s
       s.toHoldover.modPwr fun w => { w with stalled := true, parked := w.parked || (s.pin.start.isSome && s.pin.reached) })

/-! ### VDD_CORE (14 R407) -/

/-- VID_STEP (14 R407): `vidOk` is pwr_vid_ok; `margin` is the least margin that the timing monitors of a domain at P0 report
at the code in force, in % of a TCLK period. A margin of at least VMARGIN confirms that code. Whether the code below would keep
the margin is no reading of those monitors, and the spec does not say how Trivet knows it: a free value (DESIGN CHOICE, log 106). -/
def execVidStep (vidOk : Bool) (margin : Nat) (s : State) : Host.Outcome State Fault Refusal :=
  runIf true
    (let w := s.pwr
     let floor := min 80 (max 20 Config.fusedVmin.toNat)
     let short := decide (margin < s.param 0xA000 12)
     if !s.live || !vidOk then s
     else
       let s := s.modPwr fun w => { w with vidOk := w.vidOk || !short }
       let put (s : State) (n : Nat) : State := s.modPwr fun w => { w with vid := n, vidAt := s.clk.now, vidOk := false }
       if !s.since w.vidAt (tclkR 600) then s
       else if short = true ∨ w.vid < floor then (if w.vid < 80 then put s (w.vid + 1) else s)
       else if floor < w.vid then
         (if (Config.freeValue 17 s.free).toNat % 2 = 1 then put s.spend (w.vid - 1) else s.spend)
       else s)

/-! ### Trivet's interval (14 R419 to R425) -/

/-- 2^(r ÷ 40) in units of 2^−32, rounded down, for 0 ≤ r < 40. -/
def root40 (r : Nat) : Nat :=
  (List.range 34).foldl (fun x i => if (x + 2 ^ (33 - i)) ^ 40 ≤ 2 ^ (r + 1280) then x + 2 ^ (33 - i) else x) 0

/-- 2^(k ÷ 40) in units of 2^−32. -/
def pow40 (k : Int) : Nat :=
  let q := k / 40
  let x := root40 (k % 40).toNat
  if 0 ≤ q then x * 2 ^ q.toNat else x / 2 ^ (-q).toNat

/-- STRESS_HOURS in 10^−3 h (14 R425): an interval of 10 µs is 1 ÷ 360,000 of that unit times its factor. -/
def State.stressHours (s : State) : Nat :=
  s.stress.base +
    (s.stress.hours.map fun p => p.2 * pow40 ((p.1 : Int) - 1000)).foldl (· + ·) 0 / (360000 * 2 ^ 32)

/-- BOOST_SECONDS. -/
def State.boostSeconds (s : State) : Nat := s.stress.boostBase + s.stress.boost / 100000

/-- A Skillet whose array issue Trivet may throttle: no RUNNING tile carries a class with EGRESS_Q 0 to 3. -/
def State.throttled (s : State) (n : Nat) : Bool :=
  (s.skilletTiles n).all fun x => x.c.state ≠ 3 || decide (4 ≤ x.cr.eq)

/-- Awake tiles of throttled Skillets. -/
def State.awakeTiles (s : State) : Nat :=
  (s.tl.tiles.filter fun p => p.2.c.state = 3 && !p.2.x.asleep && s.throttled (p.1 / 32)).length

def State.uMax (s : State) : Nat := 512 * s.build.K
def State.uNow (s : State) : Nat := s.pwr.u.getD s.uMax

/-- A sensor as an event names it: a domain by its number; the keep island and the stacks have numbers that the spec does
not give. -/
def sensorNo (i : Nat) : Nat := if i < 88 then i else (Config.freeValue 4 i).toNat % 256

/-- What every sensor reads, in 0.25 °C: the domains, the keep island (88), and the stacks whose last reading is good
(96 + s). -/
def State.readings (s : State) : List (Nat × Int) :=
  (s.build.domains.map fun d => (d, (s.dom d).temp)) ++ [(88, s.pwr.keepTemp)]
def State.stackReadings (s : State) : List (Nat × Int) :=
  ((List.range s.build.S).filter fun st => !(s.pot st).tempBad).map fun st => (96 + st, 4 * (s.pot st).temp)

/-- The sensors of an interval are taken in. -/
def State.takeTemps (s : State) (temps : List Int) : State :=
  let ds := s.build.domains
  let s := (ds.zip temps).foldl (fun s p => s.modDom p.1 fun x => { x with temp := p.2 }) s
  s.modPwr fun w => { w with keepTemp := temps.getD ds.length 0 }

/-- At or above a limit in °C, and the latch that holds until all are 3 °C below it, every one being read (14 R422). -/
def hotLatch (was every : Bool) (l : List (Nat × Int)) (limit : Nat) : Bool :=
  (l.any fun x => decide (4 * (limit : Int) ≤ x.2)) ||
    (was && !(every && l.all fun x => decide (x.2 < 4 * (limit : Int) - 12)))

def Pwr.hot (w : Pwr) : Bool := w.hotDie || w.hotStack || w.hotFail

/-- The hot state, with its events (14 R422). -/
def State.judgeHot (s : State) : State :=
  let bad := (List.range s.build.S).any fun st => (s.pot st).tempBad
  let die := hotLatch s.pwr.hotDie true s.readings (s.param 0xA200 1)
  let stk := hotLatch s.pwr.hotStack (!bad) s.stackReadings (s.param 0xA200 3)
  let was := s.pwr.hot
  let s := s.modPwr fun w => { w with hotDie := die, hotStack := stk, hotFail := bad }
  if s.pwr.hot = was then s
  else if s.pwr.hot then
    let at_ (l : List (Nat × Int)) (lim : Nat) : Option Nat :=
      (l.find? fun x => decide (4 * (lim : Int) ≤ x.2)).map Prod.fst
    let i := match at_ s.readings (s.param 0xA200 1), at_ s.stackReadings (s.param 0xA200 3) with
      | some i, _ => i
      | none, some i => i
      | none, none => match (List.range s.build.S).find? fun st => (s.pot st).tempBad with
        | some st => 96 + st
        | none => 88
    s.raise srcTrivet 0x0501 (beBytes 1 1 ++ beBytes 1 (sensorNo i))
  else (s.raise srcTrivet 0x0501 (beBytes 1 0 ++ beBytes 1 ((Config.freeValue 5 s.free).toNat % 256))).spend

/-- The sensor that trips, if one does (14 R424). -/
def State.tripSensor (s : State) : Option (Nat × Int) :=
  match s.readings.find? fun x => decide (4 * (s.param 0xA200 2 : Int) ≤ x.2) with
  | some x => some x
  | none => s.stackReadings.find? fun x => decide (4 * (s.param 0xA200 4 : Int) ≤ x.2)

/-- Every sensor reads at least 15 °C below its trip limit: a stack whose reading failed does not. -/
def State.tripOver (s : State) : Bool :=
  ((List.range s.build.S).all fun st => !(s.pot st).tempBad) &&
    (s.readings.all fun x => decide (x.2 ≤ 4 * (s.param 0xA200 2 : Int) - 60)) &&
    s.stackReadings.all fun x => decide (x.2 ≤ 4 * (s.param 0xA200 4 : Int) - 60)

/-- A thermal trip (14 R424; 18 R500): during a cold start it ends the start. -/
def State.thermTrip (s : State) (x : Nat × Int) : State :=
  let s := s.modPwr fun w => { w with trip := true, tripped := some x.1 }
  let s := if s.pwr.parked then s else s.parkBlock
  let s := s.raise srcTrivet 0x0502 (beBytes 1 (sensorNo x.1) ++ beBytes 4 (uNat 32 x.2))
  match s.pin.start with
  | some .cold => s.failStart 0x0040
  | some _ => s.modPin fun p => { p with start := none }
  | none => s

/-- The boost account after an interval of p, in 0.1 W (14 R420). -/
def State.updateBoost (s : State) (p : Nat) : State :=
  let cap := 10 * s.param 0xA000 2
  let full := s.param 0xA000 4
  let left := min full (if cap < p then s.pwr.boost - 10 else if p < cap then s.pwr.boost + 1 else s.pwr.boost)
  let s := s.modPwr fun w => { w with
    boost := left, exhausted := if left = 0 then true else if left = full then false else w.exhausted }
  if cap < p then s.modStress fun x => { x with boost := x.boost + 1 } else s

/-- An interval whose budget the least duty cannot meet is counted, and reported at most once in 100 ms (14 R421). -/
def State.countUnmet (s : State) (p : Nat) : State :=
  let due := match s.stress.unmet with
    | some t => s.since t (usR 100000)
    | none => true
  let s := s.bump tallyBlock tbUnmet 1
  if due then (s.modStress fun x => { x with unmet := some s.clk.now }).raise srcTrivet 0x0503 (beBytes 4 p) else s

/-- The budget u and the duties after an interval of p (14 R421). Powers are compared in 1 ÷ 320 W. -/
def State.updateDuty (s : State) (p : Nat) : State :=
  let hot := s.pwr.hot
  let cap0 := 320 * (if s.pwr.exhausted then s.param 0xA000 2 else s.param 0xA000 3)
  let cap := if hot then min cap0 (31 * p) else cap0
  let pp := 32 * p
  let uMin := s.uMax * s.param 0xA000 10 / 16
  let u := s.uNow
  let u' := if cap < pp then max uMin (u - ceilDiv (u * (pp - cap)) pp)
    else if 32 * pp < 31 * cap then min s.uMax (u + s.uMax / 64)
    else u
  let dutyT := min 16 (u' / max s.awakeTiles 1)
  let low := max (s.param 0xA000 10) dutyT
  let duty := (List.range s.build.K).foldl (fun m n => mapSet 16 m n (if s.throttled n then low else 16)) []
  let s := if cap < pp ∧ u = uMin then s.countUnmet p else s
  let s := s.modPwr fun w => { w with u := some u', duty := duty }
  let s := if duty.isEmpty then s else s.bump tallyBlock tbThrottled 1
  if hot then s.bump tallyBlock tbHot 1 else s

/-- The stress account of an interval, with its advisories (14 R425). -/
def State.updateStress (s : State) : State :=
  let tj := s.readings.foldl (fun m x => max m x.2) (-4000)
  let k := tj - 340 + 2 * ((s.pwr.vid : Int) - 60)
  let key := (1000 + k).toNat
  let s := s.modStress fun x => { x with hours := mapSet 0 x.hours key (mapGet 0 x.hours key + 1) }
  let h := s.stressHours
  let life := s.param 0xA300 4
  let pct := if life * 1000 < h then 100 else if life * 800 < h then 80 else 0
  if s.stress.advised < pct then
    (s.modStress fun x => { x with advised := pct }).raise srcTrivet 0x0504 (beBytes 1 pct)
  else s

/-- TRIVET_INTERVAL (14 R419 to R425): `temps` are the die sensors of the domains present, in order, and the keep
island's, in 0.25 °C. It runs on the edge that ends an interval. The estimate is open within 5%. Stress is counted but for
P5. A trip follows the interval's accounts, and is over once every sensor reads low enough. -/
def execTrivetInterval (temps : List Int) (s : State) : Host.Outcome State Fault Refusal :=
  runIf (decide (temps.length = s.build.domains.length + 1) &&
      temps.all fun t => decide (-2147483648 ≤ t) && decide (t < 2147483648))
    (if s.clk.ftc % 12000 ≠ 0 ∨ s.clk.ftc = s.pwr.edge.getD 0 then s
     else
       let s := ((s.modPwr fun w => { w with edge := some s.clk.ftc }).takeTemps temps).judgeHot
       let p := (Config.powerActivity s.free).toNat
       let s := ((s.spend.modPwr fun w => { w with est := p }).updateBoost p).updateDuty p
       let s := if s.pwr.parked then s else s.updateStress
       if s.pwr.trip then (if s.tripOver then s.modPwr fun w => { w with trip := false, tripped := none } else s)
       else match s.tripSensor with
         | some x => s.thermTrip x
         | none => s)

end Sys2Proof.Machine
end

