-- ==== Sys2Proof/Machine/Start.lean ====
section
/-! DEFINITION. Cold and warm starts: reset pins, PLL lock, boot stages, rails, release of the domains, and what a start
keeps (18 R491 to R501; 15 R432, R437; 02 R73). -/

namespace Sys2Proof.Machine

/-! ### Rails (18 R501) -/

/-- The good of the rail before r has been high for 10 µs. -/
def State.railDue (s : State) (r : Nat) : Bool :=
  r = 0 || (s.pin.good.getD (r - 1) false && s.since (s.pin.goodAt.getD (r - 1) 0) (usR 10))

/-- Raises the enables in order, each once the good before it has been high for 10 µs; says whether every rail is good. -/
def State.railsOn (s : State) : State × Bool :=
  (List.range 3).foldl (fun (a : State × Bool) r =>
    if !a.2 || !(a.1.pin.en.getD r false || a.1.railDue r) then (a.1, false)
    else
      let s := a.1
      let s := if s.pin.en.getD r false then s
        else s.modPin fun p => { p with en := listSet p.en r true, enAt := s.clk.now }
      (s, s.pin.good.getD r false)) (s, true)

/-! ### Stacks at a start -/

/-- The settings that a channel's set gives at a temperature: taps under 13 R394, samplers from the nearer point. -/
def Chan.fromSets (c : Chan) (t : Int) : Settings :=
  match c.around t with
  | none => c.set
  | some (a, b) =>
    let n := if (t - setTemps.getD b 0).natAbs < (t - setTemps.getD a 0).natAbs then b else a
    let x := (List.range 76).foldl (fun (x : Settings) l =>
      match c.lerpLane t l with
      | some (rd, wr) => x.moveTo l rd (elSm ((c.point n).lane l)) wr
      | none => x) { c.set with sieve := c.calSieve }
    (List.range 18).foldl (fun (x : Settings) l =>
      match c.lerpCa t l with
      | some v => x.setCa l v
      | none => x) x

/-- What a pseudo-channel keeps over a start: its erasure and its remap entries. -/
def Pc.kept (x : Pc) (mclk : Nat) : Pc := ({ erased := x.erased, remaps := x.remaps } : Pc).upFrom mclk mclk true

/-- A stack over a cold start: the spare map and the calibration sets (12 R375; 18 R495). -/
def Pot.coldKept (p : Pot) : Pot :=
  { rankMap := p.rankMap, mig := p.mig, fills := p.fills, queue := p.queue,
    slots := p.slots.map fun k => (k.1, { k.2 with borrowed := false }),
    pcs := p.pcs.map fun x => (x.1, { erased := x.2.erased, remaps := x.2.remaps }),
    chans := p.chans.map fun c => (c.1, { points := c.2.points, epoch := c.2.epoch, calSieve := c.2.calSieve }) }

/-- A channel over a warm start: its set is applied in one step, but for one without a working setting, which keeps its own; a
stand-in, a split retrain or TEST has ended. -/
def Chan.warmKept (c : Chan) (t : Int) : Chan :=
  { c.stepped (if 7 ≤ c.state then c.set else c.fromSets t) with
    state := if 1 < c.state ∧ c.state < 7 then 1 else c.state,
    saved := none, test := none, windows := 0, deferred := none, lost := 0 }

/-- A stack over a warm start (18 R498, R499): stand-ins complete RETURN, migrations resume at MARK. -/
def Pot.warmKept (p : Pot) (mclk : Nat) : Pot :=
  { p with
    state := if p.state = 4 then 4 else 2, sleepAt := none,
    pcs := (List.range 64).foldl (fun m c => mapSet {} m c ((p.pc c).kept mclk)) [],
    slots := p.slots.map fun k => (k.1, { k.2 with borrowed := false }),
    chans := p.chans.map fun c => (c.1, c.2.warmKept p.temp),
    stands := [] }

/-- Step 7 of a cold start up to training: identity, bin, timing; every channel trains (18 R494, R496). -/
def State.readStacks (s : State) : State :=
  match (List.range s.build.S).find? fun st => decide (s.pin.bins.getD st 0 = 0) with
  | some st =>
    ((s.modPot st fun p => { p with state := 4 }).note (0x0400 + st) 329 st).failStart (0x0020 + st)
  | none =>
    let bin := binOf s.pin.bins
    let s := (List.range s.build.S).foldl (fun s st => s.setParam (0x3000 + 256 * st) 3 (s.pin.bins.getD st 0)) s
    let s := (s.setParam 0x3F00 11 bin).setTiming bin
    (List.range s.build.S).foldl (fun s st =>
      let q := (Config.raaQual st).toNat
      (s.setParam (0x3000 + 256 * st) 7 (min (s.param (0x3000 + 256 * st) 7) q)).modPot st fun p => { p with
        state := 1, raaQual := q, chans := (List.range 32).foldl (fun m c => mapPut m c { p.chan c with state := 0 }) p.chans }) s

/-! ### What a warm start clears (18 R499; 02 R73) -/

/-- The summary of a binding rebuilt from its done-table entries. -/
def State.rebuildSummary (s : State) (r : Nat) : Summary :=
  let es := (List.range 64).map fun i => s.doneEntry r i
  let used := es.filter fun e => decide (e.state ≠ 0)
  let high := match used with
    | [] => (rqSeq0 (s.reqEntry r) + 2 ^ 32 - 1) % 2 ^ 32
    | e :: l => l.foldl (fun h x => if later 32 x.seq h then x.seq else h) e.seq
  { high := high,
    slots := es.map fun e => if (high + 2 ^ 32 - e.seq) % 2 ^ 32 < 64 then e.state else 0 }

/-- The done table as a warm start leaves it: an OPEN entry becomes REFUSED with RETRY_EPOCH. -/
def State.closeOpen (s : State) : State :=
  s.modFrm fun f => { f with
    done := f.done.map fun p =>
      if p.2.state = 1 then (p.1, { p.2 with state := 3, code := cEpoch, aux := s.epoch 86 }) else p }

/-- Every done-table write issued before the block stopped is accepted and retires (02 R66). -/
def State.retireDone (s : State) : State :=
  s.modFrm fun f =>
    { f with pend := [], done := f.pend.foldl (fun m p => mapSet {} m (64 * p.r + p.slot) p.entry) f.done }

/-- Frames: operations, cells and responses are lost; the done table, the hold ring and the next numbers are kept, and the
summaries are rebuilt. -/
def State.clearFrames (s : State) : State :=
  let s := s.retireDone.closeOpen
  let held (h : HoldRec) : Bool :=
    let e := s.doneEntry h.r h.slot
    e.held && decide (e.seq = h.resp.seq)
  let s := s.modFrm fun f =>
    { ports := (f.ports.map fun p => (p.1, { host := p.2.host })).filter fun p => p.2.host,
      done := f.done, next := f.next, delivery := f.delivery, notif := f.notif, holdPos := f.holdPos,
      holds := (f.holds.filter held).map fun h => if h.left.isNone then { h with left := some s.clk.now } else h }
  let rs := s.reqListed.filter fun r => rqValid (s.reqEntry r)
  s.modFrm fun f => { f with summ := rs.foldl (fun m r => mapPut m r (s.rebuildSummary r)) [] }

/-- Slots that are open or closing become BROKEN, and what the Whisk holds is cleared. -/
def State.clearWhisk (s : State) : State :=
  let s := (s.openSlotsWith fun _ => true).foldl (fun s x =>
    s.breakEpoch { x with openOps := [], closers := [] } 0x0100 80) s
  s.modWsk fun w => { slots := w.slots }

/-- Owed deliveries are lost, and their steps marked. -/
def State.clearMcast (s : State) : State :=
  let owed := s.mc.list.filter (·.owed)
  let s := s.modMc fun m => { copied := m.copied }
  owed.foldl (fun s d => s.markStep d.part d.step 499) s

/-- Contexts end and their steps are marked; a written wheel table is reloaded at once. -/
def State.clearSchedule (s : State) : State :=
  let s := s.sch.ctxs.foldl (fun s p => s.endCtx p.1 281) s
  let settle (w : Wheel) : Wheel := match w.next.getLast? with
    | some (l, _) => { table := some l }
    | none => w
  s.modSch fun h => { h with
    spills := [], edges := [], skillet := settle h.skillet, whisk := settle h.whisk, stockpot := settle h.stockpot }

/-- PARAM regions that are OPEN discard (07 R234). -/
def State.discardOpen (s : State) : State :=
  (s.rgn.desc.filter fun p => (p.2.state = 1 || p.2.state = 2) && decide (p.2.kind = kParam)).foldl (fun s p =>
    let h := s.prmHdr p.2
    if prmState h ≠ 1 then s
    else
      let h := putBits h 385 384 3
      s.setPrmHdr p.2 (if (mapFind s.par.casts p.1).isSome then putBits h 249 249 1 else h)) s

/-- Tiles, sets, hubs and counters of the switched domains. -/
def State.clearUnits (s : State) : State :=
  let s := s.modTl fun l => { saves := l.saves.map fun p => (p.1, { p.2 with stale := true }) }
  let q := s.syn.queue
  let s := s.modSyn fun y => { y with
    queue := [], bars := y.bars.map (fun b => (b.1, b.2.cleared)), reported := [] }
  let s := q.foldl (fun s g => s.markStep g.part g.step 418) s
  let s := s.modAtt fun a => { a with
    sets := a.sets.map (fun x => (x.1, { state := if x.2.state = 0 then 0 else 4 })), queries := [], reserved := [] }
  let s := s.modPar fun p => { p with
    sets := p.sets.map (fun x => (x.1, { state := if x.2.state = 0 then 0 else 4 })),
    ops := [], claims := [], mirrors := [], casts := [] }
  let s := s.modRgn fun r => { r with desc := r.desc.map fun d => (d.1, { d.2 with outstanding := 0 }) }
  let s := s.modMem fun m => { m with fails := [], misreads := [] }
  let s := (s.modCls fun _ => {}).modArb fun _ => []
  s.modObs fun o => { o with
    ctrs := [], samples := [], countdown := [], chal := [], unlock := none, brks := [],
    resetMask := s.build.domains.foldl (fun m d => m ||| 2 ^ d) o.resetMask }

/-- Ladel over a warm start: its cores serve the duties of R427, an update under way is rolled back, locks and selectors are
gone. -/
def State.clearLadel (s : State) : State :=
  let s := s.modLdl fun l => { l with
    cores := ({} : Ldl).cores, stage := 5, stageAt := s.clk.now, updStep := 0,
    updState := if l.updState = 2 ∨ l.updState = 3 then 5 else l.updState }
  s.modDict fun d => { d with locks := [], sel := [] }

/-- Every switched domain at P0 under its next epoch. -/
def State.nextEpochs (s : State) : State :=
  s.build.domains.foldl (fun s d =>
    (s.settleDom d).modDom d fun x => { epoch := (x.epoch + 1) % 2 ^ 16, temp := x.temp, since := x.since }) s

/-- The edges that the stacks have spent in self-refresh are counted (11 R354). -/
def State.countSleep (s : State) : State :=
  s.stk.pots.foldl (fun s p =>
    match p.2.sleepAt with
    | some e => p.2.pcs.foldl (fun s c => s.pcBump p.1 c.1 11 (s.mclk - e)) s
    | none => s) s

/-- TEST is over on every channel, and TEST_HOLD and GO read 0. -/
def State.endTests (s : State) : State :=
  s.stk.pots.foldl (fun s p =>
    (p.2.chans.filter fun c => decide (c.2.state = 6) || c.2.test.isSome).foldl (fun s c =>
      let idx := 0x4000 + 256 * p.1 + c.1
      (s.setParam idx 15 0).setParam idx 11 (setBit (s.param idx 11) 29 false)) s) s

/-- Steps 5 to 7 of a warm start (18 R498). -/
def State.releaseWarm (s : State) : State :=
  let s := s.countSleep.nextEpochs
  let s := s.clearFrames
  let s := ((s.clearWhisk.clearMcast.clearSchedule).discardOpen).clearUnits
  let s := s.endTests.modStk fun k => { k with
    pots := (List.range s.build.S).foldl (fun m st => mapSet {} m st ((s.pot st).warmKept s.mclk)) [], splitAt := none }
  (s.clearLadel).modPwr fun w => { w with
    parked := false, stalled := false, frozen := false, duty := [] }

/-! ### Starts (18 R494, R498) -/

/-- A start goes on as far as its rails allow; with every rail good, the domains are released. -/
def State.continueStart (s : State) : State :=
  let r := s.railsOn
  if !r.2 then r.1
  else match s.pin.start with
    | some .cold => (r.1.modLdl fun l => { l with stage := 5, stageAt := s.clk.now }).readStacks
    | some _ => r.1.releaseWarm
    | none => r.1

/-- A warm start parks the block if it is not in P5, waits for lock and for its rails, and goes on (18 R498). -/
def State.beginWarm (s : State) (k : StartKind) : State :=
  let s := if s.pwr.parked then s else s.parkBlock
  let s := s.modPin fun p => { p with start := some k }
  if s.clk.locked then s.continueStart else s

/-- A request for a warm start (18 R497, R500): ignored and logged during a trip, before a cold start has reached admission,
or after a loss without hold-up or a failed start; deferred while pwr_main_fail is high; merged with one under way, and
counted. -/
def State.warmRequest (s : State) (k : StartKind) : State :=
  if s.pwr.trip ∨ s.pin.reached = false ∨ s.ldl.stage = 255 ∨ s.pwr.coldOnly then s.note (s.srcDuty 4) 497 0
  else if s.pin.start.isSome then s.modPin fun p => { p with merged := p.merged + 1 }
  else if s.pwr.mainFail then s.modPin fun p => { p with start := some k }
  else s.beginWarm k

/-- Stages 0x03 and 0x04 of a cold start: the slot, the persisted values, the rails (15 R437, R442; 18 R494). The boost account
starts full (14 R420). -/
def State.bootOn (s : State) : State :=
  match s.pickSlot with
  | (s, none) => s.failStart 0x0003
  | (s, some x) =>
    let s := s.modLdl fun l => { l with slot := x, stage := 4, stageAt := s.clk.now }
    let s := if s.ldl.bootSel = 3 then s
      else match s.pickRecord with
        | (s, some r) => s.applyRecord r
        | (s, none) => s
    (s.modPwr fun w => { w with boost := s.param 0xA000 4 }).continueStart

/-- Step 8 of a start is over: admission opens and ports whose att_up is high are up (18 R494, R498). -/
def State.openAdmission (s : State) : State :=
  let kind := match s.pin.start with
    | some .warmPin => 1
    | some .warmObject => 2
    | _ => 0
  let us := (List.range 4).map fun i => (Config.freeValue 7 (s.free + i)).toNat % 2 ^ 32
  let s := (List.range s.build.S).foldl (fun s st =>
    s.modPot st fun p => { p with state := if p.state = 1 then 2 else p.state }) s
  let s := (s.modLdl fun l => { l with stage := 6, stageAt := s.clk.now }).modPin fun p => { p with
    start := none, reached := true, lastKind := kind, lastFtc := s.clk.ftc, lastUs := us }
  let s := s.modFree (· + 4)
  (List.range s.build.A).foldl (fun s p => if (s.port p).host then s.raisePort p else s) s

/-- A channel has not been trained, or is in TEST: admission waits for it (13 R386; 18 R494). -/
def State.untrained (s : State) : Bool :=
  s.stk.pots.any fun p => p.2.chans.any fun c => decide (c.2.state = 0) || decide (c.2.state = 6)

/-- A start waits for its rails. -/
def State.awaitsRails (s : State) : Bool :=
  match s.pin.start with
  | some .cold => decide (s.ldl.stage = 4)
  | some _ => s.pwr.parked && s.clk.locked && !s.pwr.mainFail
  | none => false

/-- What Ladel does of its own accord while a start is under way and no command waits: stage 0x01 ends after its 1 ms, in
HOLD or in the choice of the slot; a rail is raised once the one before has been good for 10 µs; stage 0x05 ends with every
channel trained and memory zeroed, where the domains run, at a warm start not before the exit time of P5 (14 R411). -/
def State.startStep (s : State) : State :=
  if s.awaitsRails then s.continueStart
  else match s.ldl.stage with
  | 0 => if s.pin.start = some .cold ∧ s.since s.ldl.stageAt (usR 1000) = true then s.failStart 0x0002 else s
  | 1 =>
    let s := s.passTime (s.ldl.stageAt + usR 1000 - s.clk.now)
    if s.ldl.held then s.modLdl fun l => { l with stage := 2, stageAt := s.clk.now } else s.bootOn
  | 5 =>
    if !s.live then s
    else match s.pin.start with
      | some .cold => if s.untrained then s else s.openAdmission
      | some _ =>
        if s.untrained then s else (s.passTime (s.ldl.stageAt + tclkR 240000 - s.clk.now)).openAdmission
      | none => s.openAdmission
  | _ => s

/-- COLD_START (18 R493, R494): rst_cold_n rises; `bins` is what the stacks report as qualified bins, 0 for one that fails
identity. The keep island's spare map and calibration sets are carried over; the memory is zeroed. -/
def execColdStart (bins : List Nat) (s : State) : Host.Outcome State Fault Refusal :=
  runIf (decide (bins.length = s.build.S) && bins.all fun b => decide (b < 8))
    (if s.pin.coldN then s
     else
       let lost := s.pin.keepLost
       { build := s.build, pending := s.pending, free := s.free,
         clk := { now := s.clk.now, ftc := 0, locked := false },
         frm := { ports := (s.frm.ports.map fun p => (p.1, { host := p.2.host })).filter fun p => p.2.host },
         ldl := { flash := s.ldl.flash, fitted := s.ldl.fitted, stage := 0, stageAt := s.clk.now },
         per := if lost then {} else { wear := s.per.wear, worn := s.per.worn },
         pwr := {
           keep := s.pwr.keep, mainFail := s.pwr.mainFail,
           doms := s.build.domains.foldl (fun m d => mapSet {} m d { since := s.clk.now }) [] },
         stk := if lost then {} else { pots := (s.stk.pots.map fun p => (p.1, p.2.coldKept)).filter fun p => p.2 ≠ {} },
         pin := {
           reached := false, goodAt := s.pin.goodAt, en := [false, false, false], good := s.pin.good, start := some .cold,
           bins := bins, boundary := s.pin.boundary,
           tap := if 1 < s.pin.tap then 0 else s.pin.tap, tapReg := if 1 < s.pin.tap then 0 else s.pin.tapReg } })

/-- COLD_RESET (18 R493): rst_cold_n falls; the block stops at once, without a park. -/
def execColdReset (s : State) : Host.Outcome State Fault Refusal :=
  .next
    ((s.modLdl fun l => { l with stage := 0, stageAt := s.clk.now, bootSel := 0, held := false }).modPin fun p =>
      { p with coldN := false, en := [false, false, false], start := none, reached := false })

/-- KEEP_LOST (14 R408; 18 R493): the keep island and all it holds are lost; the next start is a cold start. -/
def execKeepLost (s : State) : Host.Outcome State Fault Refusal :=
  .next
    { build := s.build, pending := s.pending, free := s.free, clk := { now := s.clk.now, ftc := 0, locked := false },
      frm := { ports := (s.frm.ports.map fun p => (p.1, { host := p.2.host })).filter fun p => p.2.host },
      ldl := { flash := s.ldl.flash, fitted := s.ldl.fitted, stage := 0, stageAt := s.clk.now },
      pwr := { doms := s.build.domains.foldl (fun m d => mapSet {} m d { since := s.clk.now }) [] },
      pin := {
        coldN := s.pin.coldN, en := [false, false, false], good := s.pin.good, goodAt := s.pin.goodAt,
        keepLost := true, reached := false } }

/-- PLL_LOCK (18 R491): at a cold start the dividers are released where the alignment counter reads 0, and the FTC reads
0 there; later, the return falls on an edge of the reference as well, and a warm start that waits goes on; so does a
cold start past its first stage (DESIGN CHOICE, log 96). -/
def execPllLock (s : State) : Host.Outcome State Fault Refusal :=
  .next
    (if s.clk.locked then s
     else match (if s.ldl.stage = 0 then s.pin.start else s.pin.start.filter (· ≠ .cold)) with
       | some .cold =>
         if s.since s.ldl.stageAt (usR 1000 + 1) then s.failStart 0x0002
         else
           let t := roundUp s.clk.now 48
           (s.modClk fun _ => { now := t, ftc := 0, locked := true }).modLdl fun l => { l with stage := 1, stageAt := t }
       | k =>
         if s.ldl.stage = 0 then s
         else
           let s := (s.passTime (roundUp s.clk.now 96 - s.clk.now)).modClk fun c => { c with locked := true }
           let s := if s.pin.start = some .cold then s.modPwr fun w => { w with stalled := false } else s
           if k.isSome ∧ s.pwr.parked ∧ s.pwr.mainFail = false then s.continueStart else s)

/-- RAIL_GOOD_RISE (18 R501): 0 SRAM, 1 CORE, 2 PHY. -/
def execRailGoodRise (rail : Nat) (s : State) : Host.Outcome State Fault Refusal :=
  runIf (decide (rail < 3))
    (let s := s.modPin fun p =>
       if p.good.getD rail false then p
       else { p with good := listSet p.good rail true, goodAt := listSet p.goodAt rail s.clk.now }
     if s.awaitsRails then s.continueStart else s)

/-- RAIL_TIMEOUT_EXPIRY (18 R496, R501). -/
def execRailTimeoutExpiry (rail : Nat) (s : State) : Host.Outcome State Fault Refusal :=
  runIf (decide (rail < 3))
    (if s.awaitsRails && s.pin.en.getD rail false && !s.pin.good.getD rail false &&
        s.since s.pin.enAt (usR (s.param 0x2000 5)) then
       s.failStart (0x0010 + rail)
     else s)

/-- PWR_MAIN_FAIL_CLEAR (18 R497, R500): pwr_main_fail falls, and a warm start that waits for it begins. -/
def execPwrMainFailClear (s : State) : Host.Outcome State Fault Refusal :=
  .next
    (if !s.pwr.mainFail then s
     else
       let s := s.modPwr fun w => { w with mainFail := false }
       match s.pin.start with
       | some .warmPin => s.beginWarm .warmPin
       | some .warmObject => s.beginWarm .warmObject
       | _ => s)

end Sys2Proof.Machine
end

