-- ==== Sys2Proof/Machine/Firmware.lean ====
section
/-! DEFINITION. Ladel's cores and duties, live update, image commits and the shipped library (15 R427 to R429, R438, R445
to R448; 14 R425). -/

namespace Sys2Proof.Machine

/-- FW_UPDATE_STATE changes, with its event (15 R450). -/
def State.setFwState (s : State) (st : Nat) : State :=
  let s := s.modLdl fun l => { l with updState := st }
  s.raise (s.srcDuty 4) 0x0603 (beBytes 1 st ++ beBytes 4 s.fwVersion)

def LCore.set (c : LCore) (state duty : Nat) (newImage : Bool) : LCore :=
  { c with state := state, duty := duty, newImage := newImage }

def State.setCore (s : State) (i : Nat) (c : LCore) : State := s.modLdl fun l => { l with cores := listSet l.cores i c }
def State.core (s : State) (i : Nat) : LCore := s.ldl.cores.getD i ⟨3, 5, false⟩

/-- The core without a duty that can take one: the standby, or in the chain of an update the one that loads. -/
def State.spareCore (s : State) : Option Nat :=
  (s.ldl.cores.zipIdx.find? fun p => decide (p.1.state = 1 ∨ p.1.state = 2)).map Prod.snd

/-- A rollback (15 R448): every core runs the old image, and a core without a duty is the standby. -/
def State.rollBack (s : State) : State :=
  (s.modLdl fun l => { l with
    updStep := 0,
    cores := l.cores.map fun c => { c with newImage := false, state := if c.state = 2 then 1 else c.state } }).setFwState 5

/-- CORE_WATCHDOG_EXPIRY (15 R428, R429): the core has failed; the standby takes its duty, and where there is none the duty
is not served. -/
def execCoreWatchdogExpiry (core : Nat) (s : State) : Host.Outcome State Fault Refusal :=
  runIf (decide (core < 6))
    (let c := s.core core
     if c.state = 3 then s
     else
       let d := c.duty
       let s := s.setCore core (c.set 3 d false)
       let s :=
         if d = 5 then s
         else match s.spareCore with
           | some q => (s.setCore q ((s.core q).set 0 d (s.core q).newImage)).setCore core (c.set 3 5 false)
           | none => s
       let s := s.raise (s.srcDuty 4) 0x0601 (beBytes 1 core ++ beBytes 1 d)
       let n := (s.ldl.cores.filter fun c => decide (c.state = 3)).length
       let s := if 1 < n ∧ d ≠ 5 ∧ (s.core core).duty = d then s.raise (s.srcDuty 4) 0x0602 (beBytes 1 n) else s
       if s.ldl.updState = 2 ∨ s.ldl.updState = 3 then s.rollBack else s)

/-! ### Live update (15 R446 to R448) -/

def State.stagingRead (s : State) (a n : Nat) : List Byte := mapGetList 0 s.ldl.staging a n

/-- The staged image passes R441 and has the running dictionary layout. -/
def State.stagedOk (s : State) : Bool :=
  let h := s.stagingRead 0x1000 272
  imageValid h (fun n => s.stagingRead 0x2000 n) && decide (hdrWord h 14 2 = s.dictVersion)

/-- The body and the header of the slot that is not the boot slot are erased, programmed and verified. -/
def State.programOther (s : State) : State :=
  let x := s.otherSlot
  let h := s.stagingRead 0x1000 272
  let n := hdrWord h 16 4
  let s := ((s.countErase (512 + x)).flashClear (slotBase x + 0x1000) 0xEFF000)
  let s := (s.flashPut (slotBase x + 0x1000) (s.stagingRead 0x1000 4096)).flashPut (slotBase x + 0x2000) (s.stagingRead 0x2000 n)
  let ok := s.verifies (512 + x)
  s.modLdl fun l => { l with
    imgState := if ok then 3 else 4,
    updState := if l.updState = 4 ∨ l.updState = 5 then 0 else l.updState }

/-- A write of IMAGE_PROGRAM; none: REFUSED_STATE. -/
def State.askProgram (s : State) : Option State :=
  if s.ldl.updState = 2 ∨ s.ldl.updState = 3 ∨ s.stagedOk = false then none else some s.programOther

/-- A write of FW_UPDATE; none: REFUSED_STATE. A handover in progress is not started again (15 R433). -/
def State.askUpdate (s : State) : Option State :=
  if s.ldl.updState = 2 ∨ s.ldl.updState = 3 then some s
  else if s.ldl.imgState ≠ 3 then none
  else match s.ldl.cores.zipIdx.find? fun p => decide (p.1.state = 1) with
    | none => none
    | some (_, i) =>
      some (((s.setCore i ⟨2, 5, true⟩).modLdl fun l => { l with updStep := 0 }).setFwState 2)

/-- The quiet edge of a duty (15 R447). -/
def State.quiet (s : State) (duty : Nat) : Bool :=
  match duty with
  | 0 | 1 => (List.range s.build.S).all fun st =>
      decide ((2 * st / s.build.S) ≠ duty) ||
        (decide ((s.pot st).state ≠ 1) && (s.pot st).pcs.all fun c => decide (c.2.shut ≤ s.mclk))
  | 2 => (s.par.restore = 0 || 3 ≤ s.par.restore) && s.att.sets.all (fun p => decide (p.2.state ≠ 1)) &&
      s.par.sets.all fun p => decide (p.2.state ≠ 1)
  | 3 => s.sch.ctxs.all fun p =>
      let c := p.2
      decide (c.state ≠ 1) &&
        (c.state = 0 || c.commitEntry.isNone || c.committed || c.aborted ||
          (List.range (s.param 0x6900 4)).all fun k =>
            let e := s.decisionEdge c k
            decide (e < s.clk.ftc ∨ s.clk.ftc + 240000 < e))
  | _ => true

/-- DUTY_HANDOVER (15 R447): at the quiet edge of the next duty of the chain, the core that has loaded the new image takes
it; the core it relieves loads, and after the management duty it is the standby. -/
def execDutyHandover (s : State) : Host.Outcome State Fault Refusal :=
  .next
    (if s.ldl.updState ≠ 2 then s
     else
       let k := s.ldl.updStep
       match s.spareCore, s.coreOf k with
       | some i, some j =>
         if !s.quiet k then s
         else
           let t := (s.setCore i ⟨0, k, true⟩).setCore j ⟨if k = 4 then 1 else 2, 5, true⟩
           if k = 4 then
             (t.modLdl fun l => { l with updStep := 0, probAt := t.clk.now }).setFwState 3
           else t.modLdl fun l => { l with updStep := k + 1 }
       | _, _ => s)

/-- PROBATION_END (15 R448): the boot sector of the programmed slot is written, it becomes the boot slot, and an image
commit follows. -/
def execProbationEnd (s : State) : Host.Outcome State Fault Refusal :=
  .next
    (if s.ldl.updState = 3 ∧ s.since s.ldl.probAt (secR (s.param 0x2F00 7)) = true then
       let x := s.otherSlot
       let q := beBytes 4 ((s.bootSeq (1 - x) + 1) % 2 ^ 32)
       let s := ((s.countErase (512 + x)).flashClear (slotBase x) 4096).flashPut (slotBase x) (q ++ beBytes 4 (crc32c q))
       let s := s.modLdl fun l => { l with slot := x, cores := l.cores.map fun c => { c with newImage := false } }
       (s.askCommit s.stressHours s.boostSeconds).setFwState 4
     else s)

/-! ### Image commits (15 R438; 14 R425) -/

/-- COMMIT_MIN_GAP_EXPIRY: the merged commits take place. -/
def execCommitMinGapExpiry (s : State) : Host.Outcome State Fault Refusal :=
  .next
    (match s.per.last with
     | some t =>
       if s.per.queued ∧ s.since t (secR (s.param 0x2F00 9)) = true ∧ (s.coreOf 4).isSome = true then
         s.commitImage s.stressHours s.boostSeconds
       else s
     | none => s)

/-- STRESS_SAVE: Ladel's copy of the two accounts into the image, every STRESS_SAVE. -/
def execStressSave (s : State) : Host.Outcome State Fault Refusal :=
  .next
    (if s.since s.stress.saved (secR (s.param 0xA300 3)) ∧ (s.coreOf 4).isSome = true then
       (s.modStress fun x => { x with saved := s.clk.now }).askCommit s.stressHours s.boostSeconds
     else s)

/-! ### The library (15 R445) -/

/-- The images of the library: number, name, whether it serves attention. -/
def libNumbers : List Nat := [0x01, 0x02, 0x03, 0x11, 0x12, 0x13]

/-- A write of LIB_INSTALL; none: REFUSED_STATE. -/
def State.libInstall (s : State) (number handle ofs : Nat) : Option State :=
  match s.activeDesc handle with
  | none => none
  | some d =>
    let b := Config.libImage number
    if d.kind ≠ kCode ∨ d.rdonly = true ∨ d.capacity < ofs + b.length then none
    else
      let t := (s.rwrite handle ofs b false).forgetImages (hdDesc handle) ofs b.length
      some (t.modRgn fun r => { r with libs := r.libs ++ [(hdDesc handle, ofs, number)] })

end Sys2Proof.Machine
end

