-- ==== Sys2Proof/Machine/Control.lean ====
section
/-! DEFINITION. The management port: responses and control words (15 R431, R432; 18 R489, R496). -/

namespace Sys2Proof.Machine

/-- Bytes as 32-bit words, the last padded with zeros (15 R431). -/
def wordsOf (d : List Byte) : List Nat := (chunks 4 (d.length / 4 + 1) d).map beNat

/-- The words of a response (15 R431). -/
def rspWords (kind tag code aux : Nat) (d : List Byte) : List Nat :=
  [kind * 2 ^ 28 + tag * 2 ^ 24 + code * 2 ^ 16, d.length, aux] ++ wordsOf d

/-- The port takes requests: mgt_req_ready is high (18 R489, R491). -/
def State.mgtUp (s : State) : Bool := s.pin.coldN && decide (s.ldl.stage ≠ 0)

/-- A request of the port is answered, and counted. -/
def State.portAnswer (s : State) (kind tag code aux : Nat) (d : List Byte) : State :=
  let s := (s.modMgtRsp fun _ => rspWords kind tag code aux d).bump tallyBlock tbMgmtPort 1
  if code = cDone then s else s.bump tallyBlock tbMgmtRefused 1

/-- A control word that returns data. -/
def State.ctlDone (s : State) (tag : Nat) (d : List Byte) : State := s.portAnswer 8 tag cDone d.length d

/-- The 32 bytes of an event record (15 R449). -/
def EvRec.bytes (r : EvRec) : List Byte :=
  beBytes 8 r.ftc ++ beBytes 2 r.src ++ beBytes 1 r.subseq ++ beBytes 1 r.sev ++ beBytes 2 r.code ++
    beBytes 2 (b2n r.inband + 2 * b2n r.gap) ++ beBytes 4 r.pos ++ fitBytes 12 r.data

/-- A control word of one stage is refused in the others. -/
def State.ctlAt (s : State) (tag : Nat) (stages : List Nat) (t : State) : State :=
  if !s.mgtUp then s
  else if stages.contains s.ldl.stage then t
  else s.portAnswer 8 tag cState 0 []

/-- STATUS (15 R432): stage, boot slot, failure cause, FW_VERSION. -/
def execStatus (tag : Nat) (s : State) : Host.Outcome State Fault Refusal :=
  runIf (decide (tag < 16))
    (if s.mgtUp then
       s.ctlDone tag (beBytes 1 s.ldl.stage ++ beBytes 1 s.ldl.slot ++ beBytes 2 s.ldl.cause ++ beBytes 4 s.fwVersion)
     else s)

/-- HOLD (15 R432): argument 1 holds Ladel at stage 0x02, argument 0 releases it to stage 0x03. -/
def execHold (tag arg : Nat) (s : State) : Host.Outcome State Fault Refusal :=
  runIf (decide (tag < 16) && decide (arg < 256))
    (s.ctlAt tag [1, 2]
      (if 1 < arg then s.portAnswer 8 tag cFormat 64 []
       else
         let s := (s.modLdl fun l => { l with held := decide (arg = 1) }).ctlDone tag []
         if arg = 0 ∧ s.ldl.stage = 2 then (s.modLdl fun l => { l with stage := 3 }).bootOn else s))

/-- BOOT_SELECT (15 R432), for this start only. -/
def execBootSelect (tag arg : Nat) (s : State) : Host.Outcome State Fault Refusal :=
  runIf (decide (tag < 16) && decide (arg < 256))
    (s.ctlAt tag [2]
      (if 3 < arg then s.portAnswer 8 tag cFormat 64 []
       else (s.modLdl fun l => { l with bootSel := arg }).ctlDone tag []))

/-- FLASH_READ (15 R432). -/
def execFlashRead (tag addr len : Nat) (s : State) : Host.Outcome State Fault Refusal :=
  runIf (decide (tag < 16) && decide (addr < 2 ^ 32) && decide (len < 2 ^ 32))
    (s.ctlAt tag [2]
      (if 4096 < len then s.portAnswer 8 tag cFormat 12 [] else s.ctlDone tag (s.flashRead addr len)))

/-- The sector's count, for the two slots (15 R444). -/
def State.countAt (s : State) (addr : Nat) : State := if addr < 0x2000000 then s.countErase (wearIndex addr) else s

/-- FLASH_ERASE (15 R432, R444): the 4 KiB sector of an address. -/
def execFlashErase (tag addr : Nat) (s : State) : Host.Outcome State Fault Refusal :=
  runIf (decide (tag < 16) && decide (addr < 2 ^ 32))
    (s.ctlAt tag [2]
      (((s.countAt addr).flashClear (addr / 4096 * 4096) 4096).ctlDone tag []))

/-- FLASH_PROGRAM (15 R432): at most one page, verified by reading it back. -/
def execFlashProgram (tag addr : Nat) (data : List Byte) (s : State) : Host.Outcome State Fault Refusal :=
  runIf (decide (tag < 16) && decide (addr < 2 ^ 32))
    (s.ctlAt tag [2]
      (if 256 < addr % 256 + data.length then s.portAnswer 8 tag cFormat 12 []
       else
         let t := if s.ldl.fitted then s.flashPut addr data else s
         if t.flashRead addr data.length = data ∧ s.verifies (wearIndex addr) = true then
           t.portAnswer 8 tag cDone data.length []
         else t.portAnswer 8 tag cState 0 []))

/-- EVENT_PEEK (15 R432): the newest 8 records, oldest first. -/
def execEventPeek (tag : Nat) (s : State) : Host.Outcome State Fault Refusal :=
  runIf (decide (tag < 16))
    (if s.mgtUp then
       s.ctlDone tag ((s.evt.ring.drop (s.evt.ring.length - 8)).map EvRec.bytes).flatten
     else s)

end Sys2Proof.Machine
end

