-- ==== Sys2Proof/Machine/Create.lean ====
section
/-! DEFINITION. Regions created and retired (16 R464 to R466; 01 R26, R29 to R31; 06 R178; 07 R207, R210, R211, R216). -/

namespace Sys2Proof.Machine

/-! ### Free space (01 R26, R31) -/

/-- The ranges, in units of 2 MiB, that regions in any state but free occupy, mirrors included. -/
def State.usedRanges (s : State) : List (Nat × Nat) :=
  ((s.rgn.desc.filter fun p => decide (p.2.state ≠ 0)).map fun p =>
    (p.2.base, p.2.length) :: (if p.2.mirror then [(p.2.mirrorBase, p.2.length)] else [])).flatten

/-- The gaps from a position on between ranges in rising order. -/
def gapsFrom (pos units : Nat) (l : List (Nat × Nat)) : List (Nat × Nat) :=
  match l with
  | [] => if pos < units then [(pos, units - pos)] else []
  | (b, n) :: r => (if pos < b then [(pos, b - pos)] else []) ++ gapsFrom (max pos (b + n)) units r

/-- The free ranges of the allocatable space, with some further ranges taken. -/
def State.freeRanges (s : State) (taken : List (Nat × Nat)) : List (Nat × Nat) :=
  gapsFrom 0 s.build.units (sortBy Prod.fst (s.usedRanges ++ taken))

/-- FREE_UNITS and LARGEST_FREE (16 R461). -/
def State.freeUnits (s : State) : Nat := ((s.freeRanges []).map Prod.snd).foldl (· + ·) 0
def State.largestFree (s : State) : Nat := ((s.freeRanges []).map Prod.snd).foldl max 0

/-- The lowest free range that fits. -/
def State.placeRegion (s : State) (n : Nat) : Option Nat := ((s.freeRanges []).find? fun g => decide (n ≤ g.2)).map Prod.fst

/-- Every granule and its copy lie in different stacks (01 R26; 11 R333), for bases in units of 2 MiB. -/
def State.mirrorApart (s : State) (base m : Nat) : Bool :=
  let n := 60 * s.build.S
  let g (u : Nat) : Nat := s.granSel (32768 * u)
  let d := (g m + n - g base) % n
  if s.param 0x3F00 1 < 2 then decide (60 ≤ d) && decide (d ≤ n - 60) else decide (d % s.build.S ≠ 0)

/-- The lowest free range for the copy of a region placed at a base. -/
def State.placeMirror (s : State) (base n : Nat) : Option Nat :=
  (((s.freeRanges [(base, n)]).map fun g =>
    ((List.range (min 512 (g.2 + 1 - n))).map (g.1 + ·)).filter fun m => decide (m + n ≤ g.1 + g.2)).flatten).find?
    (s.mirrorApart base)

/-- The lowest-numbered free descriptor; 16,384 where all are in use. -/
def State.freeDesc (s : State) : Nat := mapFresh (s.rgn.desc.filter fun p => decide (p.2.state ≠ 0)) 0 16384

/-- PART_REGIONS (16 R461). -/
def State.partRegions (s : State) (p : Nat) : Nat :=
  (s.rgn.desc.filter fun x => decide (x.2.state ≠ 0) && decide (x.2.owner = p)).length

/-! ### The creation record (16 R464) -/

def crPart (r : List Byte) : Nat := natAt r 0 1 % 64
def crKind (r : List Byte) : Nat := natAt r 1 1 % 16
def crMirror (r : List Byte) : Bool := bit (natAt r 2 1) 0
def crRdonly (r : List Byte) : Bool := bit (natAt r 2 1) 1
def crDigest (r : List Byte) : Bool := bit (natAt r 2 1) 2
def crLength (r : List Byte) : Nat := natAt r 4 4
/-- A field of GEOMETRY. -/
def crGeo (r : List Byte) (ofs n : Nat) : Nat := natAt r (64 + ofs) n
def crExtents (r : List Byte) : List Nat := (List.range (crGeo r 4 2)).map fun i => natAt r (96 + 16 * i) 16
/-- A handle names a retention buffer in force (03 R105; 07 R211). -/
def State.isRetain (s : State) (handle : Nat) : Bool :=
  decide (handle ≠ 0) && (List.range 1024).any fun g => decide (s.param (0x7400 + g) 2 % 2 ^ 24 = handle)

/-- Check 2: bytes 0 to 63. -/
def crFixed (r : List Byte) : List (Bool × Nat) :=
  [(63 < natAt r 0 1, 0), (15 < natAt r 1 1, 1), (7 < natAt r 2 1, 2), (natAt r 3 1 ≠ 0, 3),
   (crLength r = 0 || 243456 < crLength r, 4), (natAt r 24 40 ≠ 0, 24)]

/-- Check 5: GEOMETRY and EXTENTS by kind. -/
def crShape (r : List Byte) : List (Bool × Nat) :=
  let g := crGeo r
  match crKind r with
  | 1 =>
    [(g 0 1 = 0 || 4 < g 0 1, 64), (g 1 1 ≠ 0, 65), (g 2 2 = 0 || 16384 < g 2 2, 66), (1024 < g 4 2, 68), (g 6 2 ≠ 0, 70),
     (g 11 1 ≠ 0, 75), ((if g 12 3 = 0 then decide (g 15 1 ≠ 0) else g 15 1 = 0 || 4 < g 15 1), 79),
     (2 ^ 40 ≤ g 16 8, 80), (g 24 8 ≠ 0, 88)] ++
    (crExtents r).zipIdx.map fun p =>
      (bits p.1 34 0 ≠ 0 || bits p.1 127 64 % 16384 ≠ 0 || bits p.1 49 35 = 0, 96 + 16 * p.2)
  | 2 =>
    [(g 0 1 = 0 || 4 < g 0 1, 64), (g 1 1 ≠ 0, 65), (!headDimOk (g 2 2), 66), (g 4 2 = 0 || 4096 < g 4 2, 68),
     (g 6 2 = 0 || 256 < g 6 2, 70), (g 8 2 = 0 || 1024 < g 8 2, 72), (g 10 2 ≠ 0, 74),
     (g 12 4 = 0 || 65536 < g 12 4, 76), (g 16 4 = 0, 80), (g 20 12 ≠ 0, 84)]
  | 3 =>
    [(g 1 1 ≠ 3 && g 1 1 ≠ 5, 65), (15 < g 2 1, 66), (g 3 1 ≠ 0, 67), (g 4 3 ≠ 0, 68), (g 7 1 ≠ 0, 71),
     (2 ^ 20 ≤ g 8 4, 72), (g 15 1 ≠ 0, 79), (g 16 2 = 0 || 16384 < g 16 2, 80), (g 18 14 ≠ 0, 82)]
  | _ => [(g 0 32 ≠ 0, 64)]

/-- Check 6: the conditions that give REFUSED_STATE, in the order of the table. -/
def State.crState (s : State) (r : List Byte) : List (Bool × Nat) :=
  let g := crGeo r
  let k := crKind r
  let logOk := match s.activeDesc (g 8 3) with
    | some d => s.isPrimaryLog d && decide (d.owner = crPart r) && decide (lgPages (s.logHdr d) = g 2 2) &&
        decide (lgParam (s.logHdr d) = 0)
    | none => false
  let castOk := match s.activeDesc (g 12 3) with
    | some d => decide (d.kind = kResult) && decide (d.owner = crPart r) && !s.isRetain (g 12 3)
    | none => false
  [(crMirror r && k ≠ kParam, 2), (crDigest r && (k = kKv || k = kLog), 2), (k = kParam && !logOk, 72),
   (k = kParam && g 12 3 ≠ 0 && !castOk, 76), (k = kLog && g 0 1 ≠ 1 && g 0 1 ≠ 2, 64), (k = kLog && g 0 1 = 2 && g 8 4 = 0, 72)]

/-- Offsets of a KV region's parts (06 R178): page table, bitmaps, slot 0, and a page's bytes. -/
def crKv (r : List Byte) : Nat × Nat × Nat × Nat :=
  let g := crGeo r
  let pt := roundUp (64 + 16 * g 12 4) 64
  let bm := roundUp (pt + 8 * (g 12 4 * g 4 2 * g 6 2 * g 8 2)) 64
  (pt, bm, roundUp (bm + 512 * g 16 4) 2097152, 4096 * g 2 2 * kvW (g 0 1) * 2)

/-- ENTRY_BYTES of a LOG region (07 R216). -/
def crEntryBytes (r : List Byte) : Nat := roundUp (8192 + crGeo r 16 2 * 16384 * (if crGeo r 1 1 = 3 then 2 else 4)) 65536

/-- The first extent that reaches beyond NPAGES or shares a page or a chunk with an earlier one (07 R207). -/
def badExtent (npages : Nat) (l : List Nat) : Option Nat :=
  (l.zipIdx.find? fun x =>
    let f := bits x.1 63 50
    let n := bits x.1 49 35
    decide (npages < f + n) || (l.take x.2).any fun y =>
      overlaps f n (bits y 63 50) (bits y 49 35) ||
        overlaps (bits x.1 127 64 / 16384) n (bits y 127 64 / 16384) (bits y 49 35)).map Prod.snd

/-- Check 7: the conditions that give REFUSED_CAPACITY, in order. -/
def State.crCapacity (s : State) (r : List Byte) : List (Bool × Nat) :=
  let n := crLength r
  let placed := match s.placeRegion n with
    | some b => !crMirror r || (s.placeMirror b n).isSome
    | none => false
  let kv := crKv r
  let bad := badExtent (crGeo r 2 2) (crExtents r)
  [(!placed, 4), (16384 ≤ s.freeDesc, 0xFFFF), (decide (s.param (0xC100 + crPart r) 2 ≤ s.partRegions (crPart r)), 0),
   (crKind r = kKv && decide (n * 2097152 < kv.2.2.1 + crGeo r 16 4 * kv.2.2.2), 4),
   (crKind r = kParam && bad.isSome, 96 + 16 * bad.getD 0),
   (crKind r = kParam && decide (n * 2097152 < 2097152 + 2 * crGeo r 2 2 * 65536 * crGeo r 0 1), 4)]

/-- The first of a list of faults. -/
def firstFault (l : List (Bool × Nat)) : Option Nat := (l.find? (·.1)).map Prod.snd

/-- The refusal of a creation record: CODE, AUX and FAULT_OFS; none where every check passes (16 R464, R465). The record's
length is no field, and the offset that names it is open. -/
def State.crRefusal (s : State) (r : List Byte) : Option (Nat × Nat × Nat) :=
  let open_ := (Config.freeValue 11 s.free).toNat % 65536
  let need := if crKind r = kParam then 96 + 16 * crGeo r 4 2 else 96
  if r.length < 96 then some (cFormat, 12, open_)
  else match firstFault (crFixed r) with
    | some o => some (cFormat, 64, o)
    | none =>
      if 5 < crKind r then some (cState, 0, 1)
      else if r.length ≠ need then some (cFormat, 12, open_)
      else match firstFault (crShape r) with
        | some o => some (cFormat, 64, o)
        | none => match firstFault (s.crState r) with
          | some o => some (cState, 0, o)
          | none => (firstFault (s.crCapacity r)).map fun o => (cCapacity, 0, o)

/-! ### The region made (16 R464) -/

/-- The header of a PARAM region (07 R211). -/
def crPrmHdr (r : List Byte) : Nat :=
  let g := crGeo r
  g 0 1 <<< 508 + g 2 2 <<< 493 + g 4 2 <<< 482 + g 8 3 <<< 458 + g 12 3 <<< 434 + g 15 1 <<< 426 + g 16 8 <<< 386

/-- The header of a LOG region (07 R216). -/
def crLogHdr (r : List Byte) : Nat :=
  let g := crGeo r
  g 0 1 <<< 510 + g 1 1 <<< 502 + (if g 2 1 = 0 then 4 else g 2 1) <<< 498 + g 8 4 <<< 454 + g 12 3 <<< 430 +
    g 16 2 <<< 415 + (crEntryBytes r % 2 ^ 32) <<< 383

/-- The directory header of a KV region (06 R179). -/
def crKvHdr (r : List Byte) : Nat :=
  let g := crGeo r
  let k := crKv r
  g 0 1 <<< 504 + g 2 2 <<< 488 + g 4 2 <<< 472 + g 6 2 <<< 456 + g 8 2 <<< 440 + g 12 4 <<< 408 + g 16 4 <<< 376 +
    g 16 4 <<< 344 + k.1 <<< 280 + k.2.1 <<< 240 + k.2.2.1 <<< 200 + k.2.2.2 <<< 168

/-- The bytes of the digest space of a new region (09 R292). -/
def crSpace (r : List Byte) : Nat :=
  if crKind r = kParam then crGeo r 2 2 * 65536 * crGeo r 0 1 else crLength r * 2097152

/-- The header or directory that a kind needs, with its stripe map and an identity page map (07 R210, R213): page p
starts in frames 2p and 2p + 1. -/
def State.crHeader (s : State) (d : Desc) (r : List Byte) : State :=
  match crKind r with
  | 1 =>
    let s := s.rawWrite d 0 (beBytes 64 (crPrmHdr r))
    let s := s.rawWrite d 0x40 (sliceBytes r 96 (16 * crGeo r 4 2))
    let s := s.rawWrite d 0x10000 ((List.range (crGeo r 2 2)).map fun p => beBytes 8 ((2 * p) <<< 40 + (2 * p + 1) <<< 16)).flatten
    match s.activeDesc (crGeo r 8 3) with
    | some l => s.setLogHdr l (putBits (s.logHdr l) 497 474 d.handle)
    | none => s
  | 2 => s.rawWrite d 0 (beBytes 64 (crKvHdr r))
  | 3 => s.rawWrite d 0 (beBytes 64 (crLogHdr r))
  | _ => s

/-- The 16 bytes of REGION_RESULT (16 R465). -/
def crResult (code ofs handle ftc : Nat) : List Byte :=
  beBytes 1 code ++ beBytes 1 0 ++ beBytes 2 ofs ++ beBytes 1 0 ++ beBytes 3 handle ++ beBytes 8 ftc

def State.setResult (s : State) (reader : Nat) (b : List Byte) : State :=
  s.modDict fun d => { d with result := mapPut d.result reader b }

/-- The new region of a record that passes every check. -/
def State.crMake (s : State) (r : List Byte) : State × Nat :=
  let n := s.freeDesc
  let base := (s.placeRegion (crLength r)).getD 0
  let handle := crPart r * 2 ^ 18 + n
  let d : Desc :=
    { state := 1, kind := crKind r, owner := crPart r, mirror := crMirror r, rdonly := crRdonly r, digest := crDigest r,
      classMask := natAt r 8 8, base := base,
      mirrorBase := if crMirror r then (s.placeMirror base (crLength r)).getD 0 else 0,
      length := crLength r, handle := handle, createFtc := s.clk.ftc,
      root := if crDigest r then zeroRoot (crSpace r) else 0, tag := natAt r 16 8 }
  ((s.modRgn fun g => { g with desc := mapPut g.desc n d }).crHeader d r, handle)

/-- A write of REGION_CREATE by a reader: CODE and AUX of the answer (16 R464, R465). -/
def State.regionCreate (s : State) (reader : Nat) (r : List Byte) : State × Nat × Nat :=
  match s.crRefusal r with
  | some (code, aux, ofs) => ((s.setResult reader (crResult code ofs 0 0)).spend, code, aux)
  | none =>
    let (t, handle) := s.crMake r
    (t.setResult reader (crResult cDone 0xFFFF handle s.clk.ftc), cDone, r.length)

/-! ### Retiring (16 R466; 01 R29, R30) -/

/-- An object or a region in force, or a loaded spill record, names the region. An OPT_IMAGE, GROUP_RETAIN or CAST_HANDLE of
0 names none. -/
def State.regionNamed (s : State) (handle : Nat) : Bool :=
  ((List.range 64).any fun i => decide (s.param (0x6810 + i) 3 ≠ 0) && decide (s.param (0x6810 + i) 4 % 2 ^ 24 = handle)) ||
    (decide (handle ≠ 0) && (List.range 16).any fun i => decide (s.param (0x6920 + i) 1 % 2 ^ 24 = handle)) ||
    s.isRetain handle ||
    (s.rgn.desc.any fun p => decide (p.2.state = 1) && decide (p.2.kind = kParam) &&
      (decide (prmLog (s.prmHdr p.2) = handle) || (decide (handle ≠ 0) && decide (prmCast (s.prmHdr p.2) = handle)))) ||
    s.sch.spills.any fun r =>
      (decide (srHomeEp r.bytes = s.blockEp) && decide (srHomeHandle r.bytes = handle)) ||
        (decide (srSpillEp r.bytes = s.blockEp) && decide (srSpillHandle r.bytes = handle))

/-- A schedule entry names a region: an image, a slot's destination, an updated PARAM region, a spill record's KV region. -/
def State.entryNames (s : State) (handle : Nat) (e : List Byte) : Bool :=
  match enKind e with
  | 1 => decide (pgImage e = handle)
  | 2 => decide (natAt e 16 3 = handle)
  | 3 =>
    let r := enSpill e
    (decide (srHomeEp r = s.blockEp) && decide (srHomeHandle r = handle)) ||
      (decide (srSpillEp r = s.blockEp) && decide (srSpillHandle r = handle))
  | 6 => (({ entries := [e] } : Ctx).updates).any fun u => decide (u.1 = handle)
  | _ => false

/-- A step that the schedule holds names the region (01 R29). -/
def State.stepNames (s : State) (handle : Nat) : Bool :=
  s.sch.ctxs.any fun p => decide (p.2.state ≠ 0) &&
    ((match p.2.arm with | some a => decide (a.handle = handle) || a.entries.any (s.entryNames handle) | none => false) ||
      p.2.entries.any (s.entryNames handle))

/-- A write of REGION_RETIRE; the code of the refusal otherwise. -/
def State.regionRetire (s : State) (handle : Nat) : State × Nat :=
  match s.activeDesc handle with
  | none => (s, cState)
  | some d =>
    if s.regionNamed handle then (s, cState)
    else if s.stepNames handle then (s, cCapacity)
    else
      (s.modRgn fun g =>
        { g with
          desc := mapPut g.desc (hdDesc handle) { d with state := 2 },
          drainAt := mapPut g.drainAt (hdDesc handle) s.clk.now }, cDone)

/-- A write of REGION_RDONLY; none where the handle names no active region. A change from 0 to 1 on a CODE region starts its
hash checks anew (04 R148; 09 R272). -/
def State.regionRdonly (s : State) (handle value : Nat) : Option State :=
  match s.activeDesc handle with
  | none => none
  | some d =>
    let n := hdDesc handle
    some (s.modRgn fun g =>
      let fresh := d.kind = kCode && !d.rdonly && decide (value = 1)
      { g with
        desc := mapPut g.desc n { d with rdonly := decide (value = 1) },
        hash := if fresh then g.hash.filter fun r => decide (r.desc ≠ n) else g.hash,
        sched := if fresh then g.sched.filter fun r => decide (r.desc ≠ n) else g.sched })

/-- A TCLK edge has passed since a region was retired (01 R29). -/
def State.afterRetirement (s : State) (desc : Nat) : Bool :=
  match mapFind s.rgn.drainAt desc with
  | some t => decide (t / 8 < s.clk.now / 8)
  | none => true

/-- REGION_DRAINED (01 R29): on an edge after the retirement, with nothing outstanding, the region is zeroing. -/
def execRegionDrained (desc : Nat) (s : State) : Host.Outcome State Fault Refusal :=
  s.runDuty 2 (decide (desc < 16384))
    (let d := s.descOf desc
     if d.state = 2 ∧ d.outstanding = 0 ∧ s.afterRetirement desc = true then
       s.modRgn fun g => { g with desc := mapPut g.desc desc { d with state := 3 }, drainAt := mapDel g.drainAt desc }
     else s)

/-- A range of whole granules holds zeros, none of them poisoned (01 R30; 12 R361). -/
def State.zeroRange (s : State) (a n : Nat) : State :=
  s.modMem fun m =>
    { m with
      bytes := mapClear m.bytes a n,
      poison := m.poison.filter fun p => decide (64 * p.1 < a) || decide (a + n ≤ 64 * p.1) }

/-- What is kept beside a descriptor is forgotten as it becomes free. -/
def State.forgetRegion (s : State) (n : Nat) : State :=
  let s := s.modRgn fun g =>
    { g with
      desc := mapDel g.desc n,
      hash := g.hash.filter fun r => decide (r.desc ≠ n),
      sched := g.sched.filter fun r => decide (r.desc ≠ n),
      libs := g.libs.filter fun r => decide (r.1 ≠ n),
      dirty := g.dirty.filter fun p => decide (p.1 / 2 ^ 20 ≠ n) }
  let s := s.modAtt fun a =>
    { a with
      reserved := a.reserved.filter fun p => decide (p.2 ≠ n),
      cleaned := a.cleaned.filter fun p => decide (p.1 / 65536 ≠ n) }
  s.modPar fun p =>
    { p with
      mirrored := p.mirrored.filter fun x => decide (x.1 / 16384 / 16 ≠ n),
      sealed := p.sealed.filter fun x => decide (x.1 / 16 ≠ n),
      casts := mapDel p.casts n }

/-- ZEROING_COMPLETE (01 R30): the whole range and its mirror hold zeros, and the descriptor and the range are free. -/
def execZeroingComplete (desc : Nat) (s : State) : Host.Outcome State Fault Refusal :=
  s.runLive (decide (desc < 16384))
    (let d := s.descOf desc
     if d.state = 3 then
       let s := s.zeroRange d.bpa0 d.capacity
       let s := if d.mirror then s.zeroRange d.mbpa0 d.capacity else s
       s.forgetRegion desc
     else s)

end Sys2Proof.Machine
end

