-- ==== Sys2Proof/Machine/Observe.lean ====
section
/-! DEFINITION. Programmable counters, snapshots, grants, sampling, debug unlock and hand controls (17 R467 to R484). -/

namespace Sys2Proof.Machine

/-! ### Programmable counters (17 R467 to R471) -/

/-- Counter units, rising (17 R467). -/
def Build.units17 (b : Build) : List Nat := b.domains.filter fun d => decide (d < 84)

/-- A counter of a unit is set to 0 (17 R471). -/
def State.zeroCtr (s : State) (d k : Nat) : State := s.modObs fun o => { o with ctrs := mapDel o.ctrs (8 * d + k) }

/-- All eight counters of a unit are set to 0. -/
def State.zeroCtrs (s : State) (d : Nat) : State := s.modObs fun o => { o with ctrs := mapClear o.ctrs (8 * d) 8 }

/-- CTR_VALUES of a unit. -/
def State.ctrBytes (s : State) (d : Nat) : List Byte :=
  ((List.range 8).map fun k => beBytes 8 (mapGet 0 s.obs.ctrs (8 * d + k))).flatten

/-! ### Sampling (17 R475, R477) -/

/-- A write of SAMPLE_CTL reloads the countdown with PERIOD. -/
def State.reloadSample (s : State) (n w : Nat) : State :=
  s.modObs fun o => { o with countdown := mapSet 0 o.countdown n (bits w 55 32) }

/-- A write of SAMPLE_CLEAR empties the buffer. -/
def State.clearSamples (s : State) (n : Nat) : State := s.modObs fun o => { o with samples := mapDel o.samples n }

/-! ### Snapshots and grants (17 R472 to R474) -/

/-- Bytes of a snapshot record. -/
def Build.snapBytes (b : Build) : Nat := 64 + 64 * b.units17.length

/-- A counter's value as a copy shows it: in a granted copy, only what counts the partition alone. -/
def State.ctrSeen (s : State) (part : Option Nat) (d k : Nat) : Nat :=
  let v := mapGet 0 s.obs.ctrs (8 * d + k)
  match part with
  | none => v
  | some p =>
    let w := s.ctrWord d k
    if bit w 46 && decide (bits w 45 40 = p) then v else 0

/-- A snapshot record; a copy for a partition hides RESET_MASK. -/
def State.snapRecord (s : State) (missed : Nat) (part : Option Nat) : List Byte :=
  beBytes 8 s.obs.snapSeq ++ beBytes 8 s.clk.ftc ++ beBytes 2 s.build.units17.length ++ beBytes 2 (min missed 65535) ++
    beBytes 12 (if part.isNone then s.obs.resetMask else 0) ++ beBytes 32 0 ++
    (s.build.units17.map fun d => ((List.range 8).map fun k => beBytes 8 (s.ctrSeen part d k)).flatten).flatten

/-- A region receives cast weights of an active PARAM region (07 R211). -/
def State.isCast (s : State) (handle : Nat) : Bool :=
  s.rgn.desc.any fun p => decide (p.2.state = 1) && decide (p.2.kind = kParam) && decide (prmCast (s.prmHdr p.2) = handle)

/-- The live grant region of a partition (17 R474). -/
def State.grantOf (s : State) (p : Nat) : Option (Nat × Desc) :=
  let h := s.param (0x9100 + p) 1
  match s.activeDesc h with
  | some d =>
    if h ≠ 0 ∧ d.kind = kResult ∧ d.owner = p ∧ s.isRetain h = false ∧ s.isCast h = false then some (h, d) else none
  | none => none

/-- The copy of a capture into a live grant region. -/
def State.grantCopy (s : State) (missed p : Nat) : State :=
  match s.grantOf p with
  | none => s
  | some (h, d) =>
    let n := d.capacity / s.build.snapBytes
    if n = 0 then s else s.rwrite h (s.obs.snapSeq % n * s.build.snapBytes) (s.snapRecord missed (some p)) false

/-- SNAPSHOT_CAPTURE (17 R472 to R474): on a capture edge, outside P5. -/
def execSnapshotCapture (s : State) : Host.Outcome State Fault Refusal :=
  .next
    (let period := s.param 0x9000 1 * 1200
     if s.pwr.parked || s.ldl.stage ≠ 6 || decide (s.clk.ftc % period ≠ 0) || decide (s.obs.snapFtc = some s.clk.ftc) then s
     else
       let missed := match s.obs.snapFtc with
         | some f => (s.clk.ftc - 1) / period - f / period
         | none => 0
       let t := (List.range 64).foldl (fun t p => t.grantCopy missed p) s
       (t.modObs fun o => { o with
         snaps := mapPut o.snaps (s.obs.snapSeq % 1024) (s.snapRecord missed none),
         snapSeq := o.snapSeq + 1, resetMask := 0, snapFtc := some s.clk.ftc }).bump tallyBlock tbSnapSkipped missed)

/-! ### Debug unlock (17 R478 to R480) -/

/-- A read of DEBUG_CHALLENGE draws a fresh challenge; none for 10 s after a refused response. -/
def State.drawChallenge (s : State) (reader : Nat) : Option (State × List Byte) :=
  if s.clk.now < s.obs.refuse then none
  else
    let b := beBytes 32 (Config.nonce s.free).toNat ++ beBytes 8 s.clk.ftc ++ beBytes 4 s.blockEp ++ beBytes 4 0
    some (s.spend.modObs fun o => { o with chal := mapPut o.chal reader ⟨b, s.clk.now⟩ }, b)

/-- The response proves the debug key over the reader's valid challenge. -/
def State.responseOk (s : State) (reader : Nat) (d : List Byte) : Bool :=
  match mapFind s.obs.chal reader with
  | none => false
  | some c =>
    !s.since c.at_ (secR 60) && decide (beNat (sha384 (sliceBytes d 8 96)) = Config.fusedDebugKey.toNat) &&
      ecdsaVerify (sliceBytes d 8 96) (sliceBytes d 104 96) (c.bytes ++ sliceBytes d 0 8)

/-- A write of DEBUG_RESPONSE: the challenge is used up; the block is unlocked, or the response is refused. -/
def State.takeResponse (s : State) (reader : Nat) (d : List Byte) : State × Bool :=
  let ok := s.responseOk reader d
  let other := match s.obs.unlock with
    | some u => decide (u.owner ≠ reader)
    | none => false
  let t := s.modObs fun o => { o with chal := mapDel o.chal reader }
  if other then (t, false)
  else if ok then
    (t.modObs fun o => { o with
      unlock := some ⟨reader, natAt d 0 1, natAt d 1 1, s.clk.now + secR (natAt d 4 4)⟩ }, true)
  else (t.modObs fun o => { o with refuse := s.clk.now + secR 10 }, false)

/-- An unlock ends: breakpoints are disabled and the debugger's freeze requests withdrawn (17 R480). -/
def State.endUnlock (s : State) : State :=
  (s.modObs fun o => { o with unlock := none, brks := [] }).modArb fun m =>
    (m.map fun p => (p.1, { p.2 with freeze := p.2.freeze &&& 11 })).filter fun p => p.2 ≠ {}

/-- A write of DEBUG_LOCK, by the owner alone. -/
def State.debugLock (s : State) (reader : Nat) : Option State :=
  match s.obs.unlock with
  | some u => if u.owner = reader then some s.endUnlock else none
  | none => none

/-- UNLOCK_DURATION_EXPIRY (17 R480). -/
def execUnlockDurationExpiry (s : State) : Host.Outcome State Fault Refusal :=
  .next
    (match s.obs.unlock with
     | some u => if u.ends ≤ s.clk.now then s.endUnlock else s
     | none => s)

/-- The reader owns a CONTROL unlock whose scope takes in a partition; none asks for the whole block (17 R479). -/
def State.mayControl (s : State) (reader : Nat) (part : Option Nat) : Bool :=
  match s.obs.unlock with
  | none => false
  | some u => decide (u.owner = reader) && decide (u.level = 2) && (decide (u.scope = 64) || part = some u.scope)

/-- The reader may read the system area (17 R479). -/
def State.mayWindow (s : State) (reader : Nat) : Bool :=
  match s.obs.unlock with
  | none => false
  | some u => decide (u.owner = reader) && decide (u.scope = 64)

/-! ### Hand controls (17 R481 to R484) -/

/-- A write of COUNTER_SET: at once, or through the doorkeeper of a gated Skillet. -/
def State.counterSet (s : State) (reader addr v : Nat) : Option State :=
  let x := s.tile (addr / 64)
  if s.mayControl reader (some x.c.owner) = false ∨ [0, 1, 6].contains x.c.state = true then none
  else
    let d := addr / 64 / 32
    some
      (if s.awake d then (s.reach d).handCtr addr v
       else
         let h : HeldSig := { addr := addr, amount := v, part := x.c.owner, path := 3, hand := true }
         s.holdSig d h)

/-- A write of TILE_CONTROL: 1 stops a RUNNING tile, 2 resumes one that a breakpoint or a stop by hand holds. -/
def State.tileControl (s : State) (reader t action : Nat) : Option State :=
  let x := s.tile t
  if !s.mayControl reader (some x.c.owner) then none
  else match action with
    | 1 =>
      if x.c.state = 3 then some ((s.modTile t fun y => { y with c := { y.c with byHand := true } }).stopTile t) else none
    | 2 =>
      if (x.c.state = 5 ∧ x.cr.fault / 2 ^ 56 = fDebugStop) ∨ (x.c.state = 4 ∧ x.c.byHand = true) then
        some ((s.resumeTile t).wakeDom (t / 32))
      else none
    | _ => none

/-- A write of BP_SET. -/
def State.bpSet (s : State) (reader : Nat) (d : List Byte) : Option State :=
  match s.obs.unlock with
  | none => none
  | some u =>
    if u.owner = reader ∧ u.level = 2 then
      some (s.modObs fun o => { o with
        brks := mapSet {} o.brks (4 * natAt d 0 2 + natAt d 2 1) ⟨decide (natAt d 3 1 = 1), natAt d 4 4, natAt d 8 2⟩ })
    else none

/-- BP_TABLE. -/
def State.bpTable (s : State) : List Byte :=
  ((List.range (4 * s.build.K)).map fun i =>
    let b := mapGet {} s.obs.brks i
    beBytes 2 (i / 4) ++ beBytes 1 (i % 4) ++ beBytes 1 (b2n b.on) ++ beBytes 4 b.mask ++ beBytes 2 b.idx ++ beBytes 2 0).flatten

/-- A write of ARB_FREEZE: the debugger's request, apart from Ladel's and Trivet's. -/
def State.arbFreeze (s : State) (reader kind inst v : Nat) : Option State :=
  if s.mayControl reader none then
    let a := s.arbAt kind inst
    some (s.setArb kind inst { a with freeze := (a.freeze &&& 11) + 4 * v })
  else none

end Sys2Proof.Machine
end

