-- ==== Sys2Proof/Machine/DictRead.lean ====
section
/-! DEFINITION. What the objects of the dictionary read as (15 R452; 16 R454 to R456, R461; the object tables of every
chapter). -/

namespace Sys2Proof.Machine

/-- The reader, or writer, of an access: a requester ID, or 2^20 for the management port (16 R455). -/
def reader (src : MgmtSrc) : Nat :=
  match src with
  | .port _ => 2 ^ 20
  | .frame req _ => req

/-- A reader as the owner fields show it, 0xF_FFFF for the port (15 R452). -/
def ownerField (r : Nat) : Nat := if r = 2 ^ 20 then 0xFFFFF else r

/-! ### Scalars -/

/-- Identity, locks and image (15 R452; 18 R503). -/
def State.scalarLadel (s : State) (idx sub : Nat) : Option Nat :=
  match idx, sub with
  | 0x1000, 2 => some s.fwVersion
  | 0x1000, 3 => some (s.build.S * 65536 + s.build.K * 256 + s.build.A)
  | 0x1000, 4 => some s.dictVersion
  | 0x1000, 5 => some s.fwSvn
  | 0x1000, 6 => some Config.fusedSvn.toNat
  | 0x2000, 4 => some (s.upPorts.foldl (fun w p => w + 2 ^ p) 0)
  | 0x2E00, 6 => some s.dict.lockEdge
  | 0x2F00, 1 => some s.ldl.slot
  | 0x2F00, 4 => some s.ldl.imgState
  | 0x2F00, 6 => some s.ldl.updState
  | 0x2F00, 10 => some s.dict.dirty.length
  | 0x2F00, 11 => some s.per.pseq
  | 0xB000, 2 => some (if s.evt.ring.isEmpty then 0 else s.evt.newest)
  | 0xB000, 3 => some ((s.evt.ring.head?.map fun r => r.pos).getD 0)
  | 0xB000, 4 => some s.evt.ack
  | 0xB000, 7 => some (s.evt.overrun % 2 ^ 32)
  | _, _ => none

/-- PATGEN_CTL with the bursts that remain: a burst takes 2 MCLK (13 R382, R383). -/
def State.patgen (s : State) (st ch : Nat) : Nat :=
  let w := s.param (0x4000 + 256 * st + ch) 10
  let left := bits w 32 16 - (s.clk.now - (s.chan st ch).genAt) / 8
  if bits w 63 60 = 0 then w else putBits w 32 16 left

/-- Stacks and channels (11 R354; 12 R376; 13 R405). -/
def State.scalarStack (s : State) (idx sub : Nat) : Option Nat :=
  let st := idx / 256 % 16
  let p := s.pot st
  if 0x3000 ≤ idx ∧ idx < 0x3F00 then
    match idx % 256, sub with
    | 0, 1 => some p.state
    | 0, 5 => some (uNat 32 p.temp)
    | 0, 6 => some p.tempFtc
    | 0, 9 => some p.rate
    | 0, 10 => some (p.maxDebt % 256)
    | 4, 3 => some (((List.range 16).filter fun k => decide ((p.slot k).state = 0) && !p.lent (30 + k / 8)).length)
    | 5, 2 => some (p.poisoned % 2 ^ 32)
    | 5, 3 => some (p.uncorr % 2 ^ 32)
    | _, _ => none
  else if 0x4000 ≤ idx ∧ idx < 0x4F00 then
    let c := s.chan st (idx % 256)
    match sub with
    | 1 => some c.state
    | 2 => some (c.calCount % 2 ^ 32)
    | 3 => some c.calFtc
    | 4 => some (c.retrains % 2 ^ 32)
    | 8 => some c.set.sieve
    | 10 => some (s.patgen st (idx % 256))
    | _ => none
  else none

/-- Positions of MODE 0b10 in the table of WHEEL_STOCKPOT in force (10 R317). -/
def State.s0Share (s : State) : Nat :=
  match s.sch.stockpot.table with
  | none => 150
  | some t => (t.filter fun e => decide (e / 64 = 2)).length

/-- The mesh width W (01 R10). -/
def Build.meshW (b : Build) : Nat := if b.K = 16 then 4 else 8

/-- The tiles of Skillet n of which something holds, as a mask. -/
def State.tileMask (n : Nat) (p : Nat → Bool) : Nat :=
  ((List.range 32).filter fun i => p (32 * n + i)).foldl (fun w i => w + 2 ^ i) 0

/-- Classes, Skillets, attention, parameters, groups, barriers (04 R155; 06 R205; 07 R242; 03 R112; 08 R264; 10 R328). -/
def State.scalarUnits (s : State) (idx sub : Nat) : Option Nat :=
  if idx = 0x5000 then (if sub = 3 then some s.classOver else if sub = 7 then some s.s0Share else none)
  else if idx = 0x6000 then
    match sub with
    | 1 => some s.build.K
    | 2 => some s.build.tiles
    | 3 => some s.build.meshW
    | 4 => some (s.build.K / s.build.meshW)
    | _ => none
  else if 0x6100 ≤ idx ∧ idx < 0x6140 then
    let n := idx - 0x6100
    match sub with
    | 3 => some (State.tileMask n fun t => (mapFind s.tl.saves t).isSome)
    | 4 => some (State.tileMask n fun t => match mapFind s.tl.saves t with | some x => x.stale | none => false)
    | 5 => some (mapGet 16 s.pwr.duty n)
    | _ => none
  else if 0x6810 ≤ idx ∧ idx < 0x6850 then
    match sub with
    | 6 => some (s.attSet (idx - 0x6810)).state
    | 7 => some (s.attSet (idx - 0x6810)).queue.length
    | _ => none
  else if 0x6910 ≤ idx ∧ idx < 0x6920 then (if sub = 4 then some (s.updSet (idx - 0x6910)).state else none)
  else if idx = 0x6B00 then (if sub = 5 then some s.par.restore else none)
  else if idx = 0x7000 then (if sub = 3 then some (320 * s.build.S) else if sub = 4 then some (32 * s.build.S) else none)
  else if 0x7400 ≤ idx ∧ idx < 0x7800 then (if sub = 4 then some (s.groupCount (idx - 0x7400)) else none)
  else if idx = 0x8000 then (if sub = 2 then some (s.syn.eggs % 2 ^ 32) else none)
  else if 0x8200 ≤ idx ∧ idx < 0x8600 then
    let b := s.bar (idx - 0x8200)
    match sub with
    | 8 => some b.gen
    | 9 => some b.arrived
    | 10 => some b.frames.length
    | _ => none
  else none

/-- Debug, counters, power (14 R426; 17 R486). -/
def State.scalarPower (s : State) (idx sub : Nat) : Option Nat :=
  if idx = 0x8F00 then
    match sub, s.obs.unlock with
    | 3, some u => some u.level
    | 3, none => some 0
    | 4, some u => some (u.scope * 2 ^ 24 + 2 ^ 20 + ownerField u.owner)
    | _, _ => none
  else if idx = 0x9000 then
    (if sub = 3 then some (s.obs.snapSeq - 1) else if sub = 4 then some s.build.snapBytes else none)
  else if 0x9100 ≤ idx ∧ idx < 0x9140 then (if sub = 2 then some (b2n (s.grantOf (idx - 0x9100)).isSome) else none)
  else if 0x9200 ≤ idx ∧ idx < 0x9240 then (if sub = 3 then some (mapGet [] s.obs.samples (idx - 0x9200)).length else none)
  else if idx = 0xA000 then
    match sub with
    | 1 => some s.pwr.est
    | 0x0B => some Config.fusedVmin.toNat
    | 0x0D => some s.pwr.keep
    | 0x0F => some s.pwr.boost
    | 0x10 => some (b2n s.pwr.exhausted)
    | 0x11 => some s.pwr.vid
    | 0x12 => some (b2n (s.pwr.hotDie || s.pwr.hotStack || s.pwr.hotFail))
    | _ => none
  else if 0xA100 ≤ idx ∧ idx < 0xA158 then
    let d := s.dom (idx - 0xA100)
    match sub with
    | 1 => some (if s.pwr.parked then 5 else d.state)
    | 3 => some (d.epoch % 65536)
    | 5 => some (uNat 32 d.temp)
    | _ => none
  else if idx = 0xA200 then (if sub = 5 then some (uNat 32 s.pwr.keepTemp) else none)
  else if idx = 0xA300 then (if sub = 1 then some s.stressHours else if sub = 2 then some s.boostSeconds else none)
  else none

/-- CTX_STATE (09 R296). -/
def Ctx.shown (c : Ctx) : Nat := if c.state = 0 then 0 else if c.aborted then 5 else if c.marked then 4 else c.state

/-- Partitions, regions, fabric time, schedules (09 R296; 16 R461). -/
def State.scalarHub (s : State) (idx sub : Nat) : Option Nat :=
  if idx = 0xC000 then
    (if sub = 2 then some s.build.reqEntries else if sub = 3 then some s.reqBound else none)
  else if idx = 0xC010 then (if sub = 5 then some Config.fusedRevoked.toNat else none)
  else if 0xC100 ≤ idx ∧ idx < 0xC140 then
    let p := idx - 0xC100
    match sub with
    | 3 => some (s.partRegions p)
    | 4 => some ((s.reqListed.filter fun r => rqValid (s.reqEntry r) && decide (rqPart (s.reqEntry r) = p)).length)
    | _ => none
  else if idx = 0xC400 then (if sub = 6 then some s.freeUnits else if sub = 7 then some s.largestFree else none)
  else if idx = 0xD000 then
    match sub with
    | 1 => some s.clk.ftc
    | 2 => some s.sch.disc.state
    | 3 => some (uNat 32 s.sch.disc.err)
    | 4 => some (uNat 32 s.sch.disc.trim)
    | _ => none
  else if 0xD010 ≤ idx ∧ idx < 0xD020 then
    let c := s.ctx (idx - 0xD010)
    match sub with
    | 1 => some c.shown
    | 2 => some c.part
    | 3 => some c.step
    | 4 => some c.launch
    | 5 => some c.sched
    | 6 => some (c.run % 256)
    | _ => none
  else if idx = 0xD100 then (if sub = 4 then some s.sch.wheelFtc else none)
  else none

/-- The value that a scalar object reads as: what its unit keeps, or else the value in force. -/
def State.scalar (s : State) (idx sub : Nat) : Nat :=
  match s.scalarLadel idx sub, s.scalarStack idx sub, s.scalarUnits idx sub, s.scalarPower idx sub, s.scalarHub idx sub with
  | some v, _, _, _, _ => v
  | none, some v, _, _, _ => v
  | none, none, some v, _, _ => v
  | none, none, none, some v, _ => v
  | none, none, none, none, some v => v
  | none, none, none, none, none => s.param idx sub

/-! ### BLOBs -/

/-- The bytes of a BLOB in this build (16 R454 check 4). -/
def State.blobSize (s : State) (o : Obj) (idx : Nat) : Nat :=
  let j := idx - o.base
  if o.base = 0xB000 then 32 * s.evt.ring.length
  else if o.base = 0x8010 then ((mapFind s.syn.snaps j).map fun x => x.bytes.length).getD 0
  else if o.base = 0x8F10 then min (2 ^ 30) (s.build.sysSize - 2 ^ 30 * j)
  else if o.base = 0x8F00 ∧ o.sub = 11 then 48 * s.build.K
  else if o.base = 0x9000 then 1024 * s.build.snapBytes
  else if o.base = 0x9800 then 8 * s.build.tallyCount j
  else if o.base = 0x9A00 then 8 * s.build.tallyCount (tallyClass j)
  else if o.base = 0x9B00 ∧ o.sub = 1 then 8 * s.build.tallyCount tallyBlock
  else if o.base = 0xC000 ∧ o.sub = 5 then 8 * s.build.reqEntries
  else o.size

/-- The wheel table in force, as bytes (09 R283). -/
def Wheel.bytes (w : Wheel) : List Byte :=
  match w.table with
  | some t => t.map (BitVec.ofNat 8)
  | none => (List.range 1200).map fun p => if p % 8 = 0 then 128 else 0

/-- The table written last, in force or awaiting its edge, on which a partial write lays its bytes. -/
def Wheel.latest (w : Wheel) : List Byte :=
  match w.next.getLast? with
  | some (t, _) => t.map (BitVec.ofNat 8)
  | none => w.bytes

/-- LIB_CATALOG (15 R445): name, number, flags, NBUNDLE, size, program digest. -/
def libEntry (number : Nat) : List Byte :=
  let name : List Nat := match number with
    | 0x01 => [65, 84, 84, 78, 95, 68, 54, 52]
    | 0x02 => [65, 84, 84, 78, 95, 68, 49, 50, 56]
    | 0x03 => [65, 84, 84, 78, 95, 68, 50, 53, 54]
    | 0x11 => [79, 80, 84, 95, 83, 71, 68, 77]
    | 0x12 => [79, 80, 84, 95, 65, 68, 65, 77, 87]
    | _ => [79, 80, 84, 95, 76, 73, 79, 78]
  let h := sliceBytes (Config.libImage number) 0 64
  fitBytes 16 (ascii name) ++ beBytes 1 number ++ beBytes 1 (igFlags h) ++ beBytes 2 (igBundles h) ++
    beBytes 4 (Config.libImage number).length ++ beBytes 16 (libDigest number) ++ beBytes 24 0

/-- LOCK_OWNER (15 R452). -/
def State.lockOwner (s : State) (d : Nat) : Nat :=
  match mapFind s.dict.locks d with
  | none => 0
  | some l => 2 ^ 20 + l.owner.getD 0xFFFFF

/-- A tally of a domain: µs in a state, the one it is in up to now, or a count (14 R426; 17 R470). -/
def State.domTally (s : State) (d e : Nat) : Nat :=
  let n := mapGet 0 s.stress.resid (16 * d + e)
  if 6 ≤ e then n
  else (if s.build.hasDomain d && decide ((s.dom d).state = e) then n + (s.clk.now - (s.dom d).since) else n) / 9600

/-- BLOBs of Ladel and of the log (15 R452; 16 R461; 18 R503). -/
def State.blobLadel (s : State) (idx sub : Nat) : Option (List Byte) :=
  match idx, sub with
  | 0x2000, 3 => some (beBytes 1 s.pin.lastKind ++ beBytes 7 0 ++ beBytes 8 s.pin.lastFtc ++
      (s.pin.lastUs.map (beBytes 4)).flatten)
  | 0x2D00, 1 => some (s.ldl.cores.map fun c => BitVec.ofNat 8 c.state)
  | 0x2D00, 2 => some (s.ldl.cores.map fun c => BitVec.ofNat 8 c.duty)
  | 0x2E00, 5 => some ((List.range 16).map fun d => beBytes 4 (s.lockOwner d)).flatten
  | 0x2F00, 12 => some Config.flashInfo
  | 0x2F00, 13 => some ((List.range 514).map fun k => beBytes 4 (mapGet 0 s.per.wear k)).flatten
  | 0x2F00, 14 => some (libNumbers.map libEntry).flatten
  | 0x2F00, 16 => some (s.slotHdr 0 ++ s.slotHdr 1)
  | 0x6B00, 8 => some (beBytes 8 s.par.lastStep ++ beBytes 1 s.par.lastAction ++ beBytes 1 s.par.lastK ++ beBytes 6 0)
  | 0x8F00, 6 => some (beBytes 48 Config.fusedDebugKey.toNat)
  | 0x8F00, 11 => some s.bpTable
  | 0x9B00, 2 => some ((List.range 88).map fun d =>
      ((List.range 9).map fun e => beBytes 8 (s.domTally d e)).flatten).flatten
  | 0xB000, 1 => some (s.evt.ring.map EvRec.bytes).flatten
  | 0xC010, k => some (beBytes 48 (Config.fusedKey (k - 1)).toNat)
  | 0xD100, 1 => some s.sch.skillet.bytes
  | 0xD100, 2 => some s.sch.whisk.bytes
  | 0xD100, 3 => some s.sch.stockpot.bytes
  | _, _ => none

/-- A remap entry as REMAP_TABLE shows it (12 R369). -/
def Remap.word (r : Remap) : Nat :=
  r.state * 2 ^ 62 + r.sid * 2 ^ 60 + r.bank * 2 ^ 56 + r.row * 2 ^ 42 + r.target % 2 ^ 29

/-- MIGRATION (12 R376). -/
def Pot.migBytes (p : Pot) : List Byte :=
  match (p.mig.toList ++ p.fills).head? with
  | none => beBytes 8 0 ++ beBytes 4 p.queue.length
  | some m => beBytes 1 (if !m.fill && p.paused m then 2 else 1) ++ beBytes 1 m.v ++ beBytes 1 m.sid ++ beBytes 1 m.slot ++
      beBytes 4 m.mark ++ beBytes 4 p.queue.length

/-- BLOBs of stacks and channels (11 R354; 12 R376; 13 R405). -/
def State.blobStack (s : State) (idx sub : Nat) : Option (List Byte) :=
  let st := idx / 256 % 16
  let p := s.pot st
  if idx = 0x4F00 then some (setTemps.map fun t => BitVec.ofNat 8 (uNat 8 t))
  else if 0x3000 ≤ idx ∧ idx < 0x3F00 then
    match idx % 256, sub with
    | 0, 2 => some (Config.stackId st)
    | 0, 4 => some (Config.qualTiming st)
    | 2, 1 => some ((List.range 240).map fun i =>
        let r := p.rankOf (i / 4) (i % 4)
        BitVec.ofNat 8 (4 * r.1 + r.2))
    | 3, 1 => some ((List.range 512).map fun i => beBytes 8 (Remap.word (mapGet {} (p.pc (i / 8)).remaps (i % 8)))).flatten
    | 4, 1 => some ((List.range 16).map fun k => beBytes 4 (p.slotWord k)).flatten
    | 4, 2 => some p.migBytes
    | 5, 1 => some ((List.range 64).map fun c => BitVec.ofNat 8 ((p.pc c).erased.getD 0x3F))
    | _, _ => none
  else if 0x4000 ≤ idx ∧ idx < 0x4F00 then
    let c := s.chan st (idx % 256)
    match sub with
    | 5 => some c.eye
    | 6 => some c.residual
    | 7 => some c.ber
    | 9 => some c.calSet
    | 13 => some c.result
    | _ => none
  else none

/-- BLOBs of Skillets, the Egg timer and counters (04 R155; 08 R263; 17 R470, R476). -/
def State.blobUnits (s : State) (idx sub : Nat) : Option (List Byte) :=
  let tallies (set : Nat) : List Byte :=
    ((List.range (s.build.tallyCount set)).map fun e => beBytes 8 (mapGet 0 s.tally (set * 8192 + e))).flatten
  if 0x6100 ≤ idx ∧ idx < 0x6140 then
    let ts := (List.range 32).map fun i => s.tile (32 * (idx - 0x6100) + i)
    match sub with
    | 1 => some (ts.map fun x => BitVec.ofNat 8 x.c.state)
    | 2 => some (ts.map fun x => beBytes 8 x.cr.fault).flatten
    | _ => none
  else if 0x8010 ≤ idx ∧ idx < 0x8018 then some (((mapFind s.syn.snaps (idx - 0x8010)).map fun x => x.bytes).getD [])
  else if 0x9200 ≤ idx ∧ idx < 0x9240 then some (mapGet [] s.obs.samples (idx - 0x9200)).flatten
  else if 0x9400 ≤ idx ∧ idx < 0x9454 then some (s.ctrBytes (idx - 0x9400))
  else if 0x9800 ≤ idx ∧ idx < 0x9854 then some (tallies (idx - 0x9800))
  else if 0x9A00 ≤ idx ∧ idx < 0x9A40 then some (tallies (tallyClass (idx - 0x9A00)))
  else if idx = 0x9B00 ∧ sub = 1 then some (tallies tallyBlock)
  else none

/-- Bytes of SNAP_RING: record n lies at (n mod 1,024) × SNAP_BYTES (17 R473). -/
def State.ringBytes (s : State) (ofs len : Nat) : List Byte :=
  let n := s.build.snapBytes
  (List.range len).map fun i => (mapGet [] s.obs.snaps ((ofs + i) / n)).getD ((ofs + i) % n) 0

/-! ### Selectors (16 R455) -/

/-- The 64 bytes of a descriptor (01 R25). -/
def Desc.bytes (d : Desc) : List Byte :=
  beBytes 64 (d.state <<< 510 + d.kind <<< 506 + d.owner <<< 500 + b2n d.mirror <<< 499 + b2n d.rdonly <<< 498 +
    b2n d.digest <<< 497 + d.classMask <<< 416 + d.base <<< 398 + d.mirrorBase <<< 380 + d.length <<< 362 +
    d.handle <<< 338 + d.createFtc <<< 256 + (d.outstanding % 2 ^ 32) <<< 224 + d.root <<< 64 + d.tag)

/-- The active region that a selector of an object names, of the kind that the object serves: a PARAM or LOG region for
REGION_HEADER, a region with DIGEST for DIGEST_STATUS, any region for REGION_DESC. -/
def State.selected (s : State) (idx handle : Nat) : Option Desc :=
  match s.activeDesc handle with
  | none => none
  | some d =>
    if idx = 0x6B00 then (if d.kind = kParam ∨ d.kind = kLog then some d else none)
    else if idx = 0xD200 then (if d.digest then some d else none)
    else some d

/-- The key of a reader's selector of an object. -/
def selKey (idx sub r : Nat) : Nat := okey idx sub * 2 ^ 21 + r

/-- What a selector object reads as for a reader; none where there is no selector, or its region is active no longer. -/
def State.selBytes (s : State) (r idx sub : Nat) : Option (List Byte) :=
  match mapFind s.dict.sel (selKey idx sub r) with
  | none => none
  | some h =>
    match s.selected idx h with
    | none => none
    | some d =>
      some (if idx = 0x6B00 then s.rawRead d 0 64
        else if idx = 0xD200 then
          beBytes 4 (s.rgn.dirty.filter fun p => decide (p.1 / 2 ^ 20 = hdDesc h)).length
        else d.bytes)

/-! ### The system area (17 R485; 01 R22; 04 R152) -/

/-- The bytes of a save slot: what lies where, in order. -/
def SaveSlot.bytes (x : SaveSlot) : List Byte :=
  let words (n : Nat) (f : Nat → Nat) : List Byte := ((List.range n).map fun i => beBytes 4 (f i)).flatten
  x.r.getDm 0 196608 ++ ((List.range 1024).map fun i => beBytes 32 (mapGet 0 x.r.is i)).flatten ++
    words 2048 (fun i => mapGet 0 x.r.v i) ++ words 2048 (fun i => mapGet 0 x.r.ac i) ++ words 32 x.r.getG ++
    ((List.range 8).map fun i => beBytes 8 (x.r.getM i)).flatten ++ words 4 x.r.getL ++
    beBytes 4 x.r.pc ++ beBytes 4 x.c.state ++ beBytes 8 x.cr.fault ++
    beBytes 4 x.cr.part ++ beBytes 4 x.cr.cls ++ beBytes 4 x.cr.setpos ++ beBytes 4 x.cr.setsize ++
    beBytes 4 x.cr.step ++ beBytes 4 (x.cr.step / 2 ^ 32) ++ beBytes 4 x.cr.seed ++ beBytes 4 (x.cr.seed / 2 ^ 32) ++
    beBytes 4 x.cr.status ++ beBytes 4 x.cr.poisonOfs ++ beBytes 8 x.cr.ebase ++ words 48 x.r.getCtr ++
    beBytes 8 x.c.image ++ beBytes 8 x.c.imageOfs ++ beBytes 16 x.c.digest

/-- One byte of the system area: the done table, the descriptors and the save slots stand where 01 R22 puts them; what a
unit places at its own choice is open. -/
def State.sysByte (s : State) (a : Nat) : Byte :=
  let mib := 1048576 * s.build.S
  if a < 16 * mib then (s.doneEntry (a / 1024) (a / 16 % 64)).bytes.getD (a % 16) 0
  else if 472 * mib ≤ a ∧ a < 472 * mib + 1048576 then (s.descOf ((a - 472 * mib) / 64)).bytes.getD (a % 64) 0
  else if 512 * mib ≤ a then
    let t := (a - 512 * mib) / 262144
    match mapFind s.tl.saves t with
    | some x => x.bytes.getD (a % 262144) 0
    | none => (Config.freeValue 12 (s.free * 2 ^ 40 + a)).truncate 8
  else (Config.freeValue 12 (s.free * 2 ^ 40 + a)).truncate 8

/-- Bytes of the system area, failing granules as zeros. -/
def State.sysRead (s : State) (a n : Nat) : List Byte :=
  (List.range n).map fun i =>
    if s.failing ((s.build.sysBase + a + i) / 64) then 0 else s.sysByte (a + i)

/-! ### A read -/

/-- An answer to an access: CODE, AUX and data (16 R454). -/
structure Answer where
  code : Nat
  aux : Nat := 0
  data : List Byte := []
  deriving DecidableEq, Repr

/-- A refusal. -/
def refusal (code aux : Nat) : Answer := { code := code, aux := aux }

/-- Data as read, AUX the bytes transferred (02 R48). -/
def readDone (d : List Byte) : Answer := { code := cDone, aux := d.length, data := d }

/-- The bytes of a BLOB from an offset; none is refused with REFUSED_STATE. -/
def State.blobRead (s : State) (r : Nat) (o : Obj) (idx ofs len : Nat) : Option (List Byte) :=
  if o.acc = .sel then (s.selBytes r idx o.sub).map fun b => sliceBytes b ofs len
  else if o.base = 0x9000 then some (s.ringBytes ofs len)
  else if o.base = 0xB000 ∧ len % 32 ≠ 0 then none
  else if o.base = 0x8F00 ∧ o.sub = 11 ∧ s.obs.unlock = none then none
  else if o.base = 0xC400 ∧ o.sub = 2 then
    some (sliceBytes (mapGet (List.replicate 16 0) s.dict.result r) ofs len)
  else match s.blobLadel idx o.sub, s.blobStack idx o.sub, s.blobUnits idx o.sub with
    | some b, _, _ => some (sliceBytes b ofs len)
    | none, some b, _ => some (sliceBytes b ofs len)
    | none, none, some b => some (sliceBytes b ofs len)
    | none, none, none => some (s.blob idx o.sub ofs len)

/-- A read of SYS_WINDOW (17 R479, R485): open while the reader owns an unlock of the whole block. -/
def State.windowRead (s : State) (src : MgmtSrc) (idx ofs len : Nat) : State × Answer :=
  let a := (idx - 0x8F10) * 2 ^ 30 + ofs
  if !s.mayWindow (reader src) then (s, refusal cState 0)
  else
    let d := s.sysRead a len
    match s.poisonIn (s.build.sysBase + a) len with
    | none => (s.spend, readDone d)
    | some g =>
      let mine := match src with
        | .port _ => false
        | .frame req seq => s.mem.fails.any fun x => decide (x.req = req ∧ x.seq = seq ∧ x.gran = g)
      (s.spend, ⟨if mine then cUncorrectable else s.failCode g, g - (s.build.sysBase + a) / 64, d⟩)

/-- Checks 1 to 4 of a read, and the object (16 R454; 15 R430). -/
def State.checkRead (s : State) (bulk : Bool) (idx sub ofs len : Nat) : Except Answer Obj :=
  if !hasIndex s.build idx then .error (refusal cFormat 38)
  else match findObj s.build idx sub with
    | none => .error (refusal cFormat 37)
    | some o =>
      let n := if o.ty = .blob then s.blobSize o idx else o.ty.bytes
      if o.acc = .wo ∨ (bulk = true ∧ o.ty ≠ .blob) then .error (refusal cFormat 36)
      else if bulk then
        if n ≤ ofs then .error (refusal cFormat 40)
        else if 65536 < len ∨ n < ofs + len then .error (refusal cFormat 12)
        else .ok o
      else if ofs ≠ 0 then .error (refusal cFormat 40)
      else if 65536 < len ∨ len < n then .error (refusal cFormat 12)
      else .ok o

/-- A read of REGION_HEADER repairs what a mirrored region can of the header that it reads (07 R241). -/
def State.healSel (s : State) (r idx sub : Nat) : State :=
  match mapFind s.dict.sel (selKey idx sub r) with
  | none => s
  | some h =>
    match s.selected idx h with
    | some d => if idx = 0x6B00 ∧ d.mirror = true then s.healRaw d 0 64 else s
    | none => s

/-- A read that passes its checks. A read of DEBUG_CHALLENGE issues one; a read of MAX_DEBT starts its maximum anew. -/
def State.readObj (s : State) (src : MgmtSrc) (o : Obj) (bulk : Bool) (idx ofs len : Nat) : State × Answer :=
  let r := reader src
  let n := if bulk then len else if o.ty = .blob then s.blobSize o idx else o.ty.bytes
  if o.base = 0x8F00 ∧ o.sub = 1 then
    match s.drawChallenge r with
    | none => (s, refusal cState 0)
    | some (t, b) => (t, readDone (sliceBytes b ofs n))
  else if o.base = 0x8F10 then s.windowRead src idx ofs n
  else if o.base = 0x8F00 ∧ o.sub = 4 ∧ s.obs.unlock = none then (s, refusal cState 0)
  else if o.ty = .blob then
    match s.blobRead r o idx ofs n with
    | none => (s, refusal cState 0)
    | some d => (s.healSel r idx o.sub, readDone d)
  else
    let v := beBytes o.ty.bytes (s.scalar idx o.sub)
    if o.base = 0x3000 ∧ o.sub = 10 then
      let st := idx / 256 % 16
      (s.modPot st fun p => { p with
        maxDebt := (List.range 64).foldl (fun m c => max m (p.pc c).debt) 0 }, readDone v)
    else (s, readDone v)

/-- A read access: the checks, then the value. -/
def State.accessRead (s : State) (src : MgmtSrc) (bulk : Bool) (idx sub ofs len : Nat) : State × Answer :=
  match s.checkRead bulk idx sub ofs len with
  | .error a => (s, a)
  | .ok o => s.readObj src o bulk idx ofs len

end Sys2Proof.Machine
end

