-- ==== Sys2Proof/Machine/DictWrite.lean ====
section
/-! DEFINITION. Writes of objects: the checks of 16 R454, writes that take effect at once, selectors, and the operations
that a write of a WO object starts (15 R433 to R438; 16 R455 to R459, R464 to R466). -/

namespace Sys2Proof.Machine

/-! ### Check 6: ranges and reserved bits -/

/-- A record of a WO object: its reserved bytes are 0 and its fields lie in their ranges. -/
def State.recordOk (s : State) (o : Obj) (d : List Byte) : Bool :=
  let z (ofs n : Nat) : Bool := decide (natAt d ofs n = 0)
  match o.base, o.sub with
  | 0x6880, 1 => z 3 1
  | 0x6B00, 1 | 0x6B00, 4 | 0x6B00, 6 => z 3 5
  | 0x6B00, 2 => z 10 6 && (decide (natAt d 8 1 = 1) || decide (natAt d 8 1 = 2))
  | 0x6B00, 3 => z 3 1 && decide (natAt d 4 4 < 2 ^ 20) && z 11 5
  | 0x8000, 5 => decide (natAt d 0 4 < 2 ^ 17) && decide (1 ≤ natAt d 4 4 ∧ natAt d 4 4 < 2 ^ 31)
  | 0x3F10, 11 => z 3 1 && decide (natAt d 0 1 < s.build.S) && decide (natAt d 1 1 < 60) && decide (natAt d 2 1 < 4)
  | 0xC400, 3 => z 3 1
  | 0xC400, 4 => decide (natAt d 3 1 ≤ 1)
  | 0xD000, 15 => z 3 5
  | 0x2F00, 15 => z 4 4 && libNumbers.contains (natAt d 0 1)
  | 0x8F00, 2 =>
    z 2 2 && decide (1 ≤ natAt d 0 1 ∧ natAt d 0 1 ≤ 2) && decide (natAt d 1 1 ≤ 64) &&
      decide (1 ≤ natAt d 4 4 ∧ natAt d 4 4 ≤ 86400)
  | 0x8F00, 7 => decide (natAt d 0 4 < 2 ^ 17)
  | 0x8F00, 8 => z 3 1 && decide (natAt d 0 2 < s.build.tiles)
  | 0x8F00, 10 =>
    decide (natAt d 0 2 < s.build.K) && decide (natAt d 2 1 < 4) && decide (natAt d 3 1 ≤ 1) && decide (natAt d 8 2 < 1024) &&
      z 10 2
  | 0x8F00, 12 => decide (natAt d 0 1 < 5) && s.build.hasArb (natAt d 0 1) (natAt d 1 2) && decide (natAt d 3 1 ≤ 1)
  | _, _ => true

/-- Check 6 of 16 R454. -/
def State.valueOk (s : State) (o : Obj) (idx ofs : Nat) (d : List Byte) : Bool :=
  if o.acc = .sel then decide (natAt d 3 1 = 0)
  else if o.ty = .blob then
    if o.acc = .wo then s.recordOk o d
    else (d.zipIdx.all fun p => decide (p.1.toNat &&& reservedMask o (ofs + p.2) = 0))
  else decide (o.lo ≤ beNat d) && decide (beNat d ≤ o.hi) && s.wordOk o idx (beNat d)

/-! ### Checks 1 to 6 -/

/-- The lengths of check 4 for a single write: a value has its type's size, a selector 4 bytes, a BLOB its whole size; a
creation record may be shorter. -/
def State.writeLenOk (s : State) (o : Obj) (idx len : Nat) : Bool :=
  if o.acc = .sel then decide (len = 4)
  else if o.ty ≠ .blob then decide (len = o.ty.bytes)
  else if o.base = 0xC400 ∧ o.sub = 1 then decide (len ≤ o.size)
  else decide (len = s.blobSize o idx)

/-- A WO record is taken whole from one write; the staged image is written piece by piece. -/
def Obj.whole (o : Obj) : Bool :=
  decide (o.acc = .wo) && !(decide (o.base = 0x2F00 ∧ o.sub = 2)) && !(decide (o.base = 0xC400 ∧ o.sub = 1))

/-- Checks 1 to 6 of a write, and the object. -/
def State.checkWrite (s : State) (r : Nat) (bulk : Bool) (idx sub ofs : Nat) (d : List Byte) : Except Answer Obj :=
  let len := d.length
  if !hasIndex s.build idx then .error (refusal cFormat 38)
  else match findObj s.build idx sub with
    | none => .error (refusal cFormat 37)
    | some o =>
      let n := s.blobSize o idx
      if o.acc = .ro ∨ (bulk = true ∧ (o.acc = .sel ∨ o.ty ≠ .blob)) then .error (refusal cFormat 36)
      else if (if bulk then decide (n ≤ ofs) else decide (ofs ≠ 0)) then .error (refusal cFormat 40)
      else if 65536 < len ∨ (bulk = true ∧ (n < ofs + len ∨ (o.whole = true ∧ len ≠ n))) ∨
          (bulk = false ∧ s.writeLenOk o idx len = false) then .error (refusal cFormat 12)
      else if o.acc = .rwl ∧ (match mapFind s.dict.locks (idx / 4096) with
          | some l => decide (l.owner.getD (2 ^ 20) ≠ r)
          | none => true) = true then .error (refusal cState 0)
      else if !s.valueOk o idx ofs d then .error (refusal cFormat 64)
      else .ok o

/-! ### Check 7: rules that compare objects with each other -/

/-- An RWS value agrees with the objects that its rule compares it with (11 R354; 13 R405; 14 R426; 07 R242). Only Ladel
writes the two stress accounts. -/
def State.crossOk (s : State) (o : Obj) (idx v : Nat) : Bool :=
  match o.base, o.sub with
  | 0xA000, 2 => decide (v ≤ s.param 0xA000 3)
  | 0xA000, 3 => decide (s.param 0xA000 2 ≤ v)
  | 0xA200, 1 => decide (v + 5 ≤ s.param 0xA200 2)
  | 0xA200, 2 => decide (s.param 0xA200 1 + 5 ≤ v)
  | 0xA200, 3 => decide (v + 5 ≤ s.param 0xA200 4)
  | 0xA200, 4 => decide (s.param 0xA200 3 + 5 ≤ v)
  | 0x4F00, 6 => decide (s.param 0x4F00 7 ≤ v)
  | 0x4F00, 7 => decide (v ≤ s.param 0x4F00 6)
  | 0x3000, 7 => decide (s.param idx 8 ≤ v)
  | 0x3000, 8 => decide (v ≤ s.param idx 7)
  | 0x6900, 2 => decide (s.param 0x6900 3 < v)
  | 0x6900, 3 => decide (v < s.param 0x6900 2)
  | 0xA300, 1 | 0xA300, 2 => false
  | _, _ => true

/-- Marks an RWS object dirty (15 R438). -/
def State.markDirty (s : State) (idx sub : Nat) : State :=
  s.modDict fun d => { d with dirty := mapPut d.dirty (okey idx sub) 1 }

/-- What a write of CTR_CTL_k or SAMPLE_CTL does beside setting the word (17 R471, R475). -/
def State.wordHook (s : State) (o : Obj) (idx v : Nat) : State :=
  if o.base = 0x9400 then s.zeroCtr (idx - 0x9400) (o.sub - 1)
  else if o.base = 0x9200 then s.reloadSample (idx - 0x9200) v
  else s

/-- A write of an RW or RWS object that passes check 6: in force at once (15 R438; 16 R457). -/
def State.writeNow (s : State) (o : Obj) (idx ofs : Nat) (d : List Byte) : State × Answer :=
  let ok : Answer := { code := cDone, aux := d.length }
  if o.ty = .blob then
    let t := s.setBlob idx o.sub ofs d
    (if o.acc = .rws then t.markDirty idx o.sub else t, ok)
  else
    let v := beNat d
    if o.base = 0xB000 ∧ o.sub = 4 then (s.modEvt fun e => { e with ack := v }, ok)
    else if !s.crossOk o idx v then (s, refusal cState 0)
    else
      let t := s.setParam idx o.sub v
      ((if o.acc = .rws then t.markDirty idx o.sub else t).wordHook o idx v, ok)

/-- A write of a selector (16 R455). -/
def State.writeSel (s : State) (r : Nat) (o : Obj) (idx : Nat) (d : List Byte) : State × Answer :=
  match s.selected idx (natAt d 0 3) with
  | none => (s, refusal cState 0)
  | some _ =>
    (s.modDict fun x => { x with sel := mapPut x.sel (selKey idx o.sub r) (natAt d 0 3) },
     { code := cDone, aux := d.length })

/-! ### Locks (15 R435, R436; 16 R459) -/

/-- The owner of a lock by reader. -/
def lockHolder (r : Nat) : Option Nat := if r = 2 ^ 20 then none else some r

/-- Live work that keeps the lock of the block-wide modes from being granted (09 R287). -/
def State.modesBusy (s : State) : Bool :=
  (s.sch.ctxs.any fun c => decide (c.2.state ≠ 0)) ||
    (s.wsk.slots.any fun x => decide (x.2.state = 1) || decide (x.2.state = 2)) ||
    (s.att.sets.any fun x => decide (x.2.state = 3)) || (s.par.sets.any fun x => decide (x.2.state = 3)) ||
    (s.tl.tiles.any fun x => decide (x.2.c.state = 3))

/-- A write of LOCK_REQ. -/
def State.lockReq (s : State) (r digit : Nat) : State × Answer :=
  match mapFind s.dict.locks digit with
  | some l =>
    if l.owner = lockHolder r then (s, { code := cDone, aux := 1 })
    else (s.bump tallyBlock tbLockRefused 1, refusal cState 0)
  | none =>
    if digit = 2 ∧ s.modesBusy = true then (s.bump tallyBlock tbLockRefused 1, refusal cState 0)
    else
      ((s.modDict fun d => { d with locks := mapPut d.locks digit { owner := lockHolder r, at_ := s.clk.now } }).bump
        tallyBlock tbLockGrant 1, { code := cDone, aux := 1 })

/-- A lock ends. -/
def State.unlock (s : State) (digit : Nat) : State := s.modDict fun d => { d with locks := mapDel d.locks digit }

/-- A write of LOCK_ABORT, by the owner. -/
def State.lockAbort (s : State) (r digit : Nat) : State × Answer :=
  match mapFind s.dict.locks digit with
  | some l => if l.owner = lockHolder r then (s.unlock digit, { code := cDone, aux := 1 }) else (s, refusal cState 0)
  | none => (s, refusal cState 0)

/-- Stages a write under its lock: 256 writes or 256 KiB at most. -/
def State.stageWrite (s : State) (o : Obj) (idx ofs : Nat) (d : List Byte) : State × Answer :=
  match mapFind s.dict.locks (idx / 4096) with
  | none => (s, refusal cState 0)
  | some l =>
    let used := (l.staged.map fun w => w.data.length).foldl (· + ·) 0
    if 256 ≤ l.staged.length ∨ 262144 < used + d.length then (s, refusal cCapacity 0)
    else
      let l := { l with staged := l.staged ++ [{ idx := idx, sub := o.sub, ofs := ofs, data := d }] }
      (s.modDict fun x => { x with locks := mapPut x.locks (idx / 4096) l }, { code := cDone, aux := d.length })

/-! ### Operations that a write starts -/

/-- The duty of Ladel that an operation needs beside the management duty (15 R427). -/
def State.objDuty (s : State) (o : Obj) (idx : Nat) (d : List Byte) : Nat :=
  match o.base, o.sub with
  | 0xC400, 1 | 0xC400, 3 | 0xC400, 4 | 0x6B00, 1 | 0x6B00, 3 | 0x6B00, 4 | 0x6B00, 6 | 0x6880, 1 => 2
  | 0x6B00, 2 | 0xD000, 15 => 3
  | 0x3F10, 11 => s.stackDuty (natAt d 0 1)
  | 0x4000, 14 => s.stackDuty (idx / 256 % 16)
  | _, _ => 4

/-- Operations on units of the switched domains, which run at stage 0x06 while those domains run. -/
def Obj.switched (o : Obj) : Bool :=
  [0x6880, 0x6B00, 0x8000, 0x3F10, 0x4000, 0xC400, 0xA100].contains o.base ||
    (o.base = 0xD000 && o.sub = 15) || (o.base = 0x2F00 && o.sub = 15) ||
    (o.base = 0x8F00 && [7, 8, 10, 12].contains o.sub)

/-- An operation that its state object shows in progress or done is not started again by a resend (15 R433). -/
def State.started (s : State) (o : Obj) : Bool :=
  match o.base, o.sub with
  | 0x2F00, 3 => [1, 2, 3].contains s.ldl.imgState
  | 0x2F00, 5 => [2, 3, 4].contains s.ldl.updState
  | 0x6B00, 3 | 0x6B00, 4 => [1, 2, 3].contains s.par.restore
  | _, _ => false

/-- The effect of a record or a BOOL of a WO object; none: REFUSED_STATE. `returned` is what the source of a RESTORE_LOG
returns to the block's READs. WARM_START and BLOCK_PARK act once they are answered. -/
def State.operate (s : State) (r : Nat) (o : Obj) (idx : Nat) (d returned : List Byte) : Option State :=
  let h := natAt d 0 3
  match o.base, o.sub with
  | 0x6880, 1 => s.ctxRelease h (natAt d 4 4)
  | 0x6B00, 1 => s.setCkpt h (natAt d 8 8)
  | 0x6B00, 2 => s.stepDecide (natAt d 0 8) (natAt d 8 1) (natAt d 9 1)
  | 0x6B00, 3 => s.restoreLog h (natAt d 4 4) (natAt d 8 3) (natAt d 16 8) (natAt d 24 8) returned
  | 0x6B00, 4 => s.restoreRun h (natAt d 8 8)
  | 0x6B00, 6 => s.setCommitted h (natAt d 8 8)
  | 0x3F10, 11 => some (s.askRetire (natAt d 0 1) (natAt d 1 1) (natAt d 2 1))
  | 0x4000, 14 => some (s.askRetrain (idx / 256 % 16) (idx % 256) 8)
  | 0xC400, 4 => s.regionRdonly h (natAt d 3 1)
  | 0xD000, 11 => s.ftcResync
  | 0xD000, 15 => s.schedVerify h
  | 0x2F00, 3 => s.askProgram
  | 0x2F00, 5 => s.askUpdate
  | 0x2F00, 8 => some (s.askCommit s.stressHours s.boostSeconds)
  | 0x2F00, 15 => s.libInstall (natAt d 0 1) (natAt d 1 3) (natAt d 8 8)
  | 0x9400, 10 => some (s.zeroCtrs (idx - 0x9400))
  | 0x9200, 4 => some (s.clearSamples (idx - 0x9200))
  | 0xA100, 4 => s.domainReset (idx - 0xA100)
  | 0xA000, 14 => if s.blockPark.isSome then some s else none
  | 0x8F00, 5 => s.debugLock r
  | 0x8F00, 7 => s.counterSet r (natAt d 0 4) (natAt d 4 4)
  | 0x8F00, 8 => s.tileControl r (natAt d 0 2) (natAt d 2 1)
  | 0x8F00, 10 => s.bpSet r d
  | 0x8F00, 12 => s.arbFreeze r (natAt d 0 1) (natAt d 1 2) (natAt d 3 1)
  | _, _ => some s

/-- What an operation does once its write has been answered (14 R414; 18 R497). -/
def State.afterAnswer (s : State) (o : Obj) (a : Answer) : State :=
  if a.code ≠ cDone then s
  else match o.base, o.sub with
    | 0x2000, 2 => s.warmRequest .warmObject
    | 0xA000, 14 => s.blockPark.getD s
    | _, _ => s

/-- A write of a WO object that passes check 6. -/
def State.writeOp (s : State) (r : Nat) (again : Bool) (o : Obj) (idx ofs : Nat) (d returned : List Byte) : State × Answer :=
  let ok : Answer := { code := cDone, aux := d.length }
  if again && s.started o then (s, ok)
  else if o.switched && !(s.live && decide (s.ldl.stage = 6)) then (s, refusal cState 0)
  else if o.base = 0x2F00 ∧ o.sub = 2 then
    (s.modLdl fun l => { l with staging := mapPutList 0 l.staging ofs d }, ok)
  else if o.base = 0xC400 ∧ o.sub = 1 then
    let x := s.regionCreate r d
    (x.1, { code := x.2.1, aux := x.2.2 })
  else if o.base = 0xC400 ∧ o.sub = 3 then
    let x := s.regionRetire (natAt d 0 3)
    (x.1, if x.2 = cDone then ok else refusal x.2 0)
  else if o.base = 0x8000 ∧ o.sub = 5 then
    let x := s.ladelSignal (natAt d 0 4) (natAt d 4 4)
    (x.1, if x.2 then ok else refusal cState 0)
  else if o.base = 0x8F00 ∧ o.sub = 2 then
    let x := s.takeResponse r d
    (x.1, if x.2 then ok else refusal cState 0)
  else if o.base = 0x8F00 ∧ o.sub = 7 ∧ s.ctrOk (natAt d 0 4) = false then
    (s.note srcSync 32 (natAt d 0 4), refusal cState 0)
  else match s.operate r o idx d returned with
    | some t => (t, ok)
    | none => (s, refusal cState 0)

end Sys2Proof.Machine
end

