-- ==== Sys2Proof/Machine/DictLock.lean ====
section
/-! DEFINITION. LOCK_COMMIT: the checks on the state that all staged writes would produce together, and what a commit puts
in force (15 R436; 16 R459, R462, R463). -/

namespace Sys2Proof.Machine

/-! ### The state that the staged writes would produce -/

/-- Lays a staged write over a wheel table: it takes effect on the table's edge (09 R284). -/
def State.layWheel (s : State) (sub ofs : Nat) (d : List Byte) : State :=
  let put (w : Wheel) : Wheel := s.wheelWrite w ((splice w.latest ofs d).map BitVec.toNat)
  s.modSch fun h =>
    { h with
      skillet := if sub = 1 then put h.skillet else h.skillet,
      whisk := if sub = 2 then put h.whisk else h.whisk,
      stockpot := if sub = 3 then put h.stockpot else h.stockpot }

/-- One staged write put in force. -/
def State.putStaged (s : State) (w : Staged) : State :=
  match findObj s.build w.idx w.sub with
  | none => s
  | some o =>
    if w.idx = 0xD100 then s.layWheel w.sub w.ofs w.data
    else if o.ty = .blob then s.setBlob w.idx w.sub w.ofs w.data
    else s.setParam w.idx w.sub (beNat w.data)

/-- All of them, in order. -/
def State.putAll (s : State) (l : List Staged) : State := l.foldl State.putStaged s

/-- Entries of a BLOB of n-byte entries that a list of writes touches. -/
def entriesOf (l : List Staged) (idx sub n : Nat) : List Nat :=
  ((l.filter fun w => decide (w.idx = idx ∧ w.sub = sub ∧ w.data ≠ [])).map fun w =>
    (List.range ((w.ofs + w.data.length - 1) / n + 1 - w.ofs / n)).map (w.ofs / n + ·)).flatten

/-- The indices from a base on whose objects a list of writes touches. -/
def touchedIx (l : List Staged) (base n : Nat) : List Nat :=
  ((l.filter fun w => decide (base ≤ w.idx ∧ w.idx < base + n)).map fun w => w.idx - base).eraseDups

/-- Some write of a list is to this object. -/
def writes (l : List Staged) (idx sub : Nat) : Bool := l.any fun w => decide (w.idx = idx ∧ w.sub = sub)

/-! ### A check and the write that fails it -/

/-- A check of a commit: whether it fails, and the objects that it reads. -/
structure Check where
  fails : Bool
  reads : Nat → Nat → Bool

/-- A check that reads one object. -/
def check1 (fails : Bool) (idx sub : Nat) : Check := ⟨fails, fun i j => decide (i = idx ∧ j = sub)⟩

/-- The position, from 1, of the first staged write to an object that a check reads; 0 where there is none. -/
def Check.position (c : Check) (l : List Staged) : Nat :=
  match l.zipIdx.find? fun p => c.reads p.1.idx p.1.sub with
  | some p => p.2 + 1
  | none => 0

/-- The position of the first failing write; none where every check passes. -/
def firstFail (cs : List Check) (l : List Staged) : Option Nat :=
  let ps := (cs.filter (·.fails)).map fun c => c.position l
  match ps with
  | [] => none
  | p :: r => some (r.foldl (fun m q => if q = 0 then m else if m = 0 then q else min m q) p)

/-! ### Checks by domain (16 R459); `s` is the state before, `t` the state that the writes would produce -/

/-- A pool that Ladel could not drain within its 100 µs for a change of REORDER: its stack serves nothing (11 R339; DESIGN
CHOICE, log 85). -/
def State.poolsStuck (s : State) : Bool :=
  s.stk.pots.any fun p => decide (p.2.state ≠ 2) && p.2.pcs.any fun c => !c.2.quiet

/-- The least value of a timing parameter (11 R341). -/
def State.timingFloor (s : State) (sub : Nat) : Nat :=
  let bin := s.param 0x3F00 11
  let b := if bin = 9600 then 2 else if bin = 8000 then 1 else 0
  max (timingAt sub (objDefault s.build 0x3F01 sub) bin)
    ((List.range s.build.S).foldl (fun m st => max m (natAt (Config.qualTiming st) (80 * b + 4 * (sub - 1)) 4)) 0)

def State.checks3 (s t : State) (l : List Staged) : List Check :=
  [check1 (writes l 0x3F00 1 && s.rgn.desc.any fun p => decide (p.2.state ≠ 0)) 0x3F00 1,
   check1 (decide (t.param 0x3F00 2 ≠ s.param 0x3F00 2) && s.poolsStuck) 0x3F00 2] ++
  (List.range 20).map fun i =>
    check1 (writes l 0x3F01 (i + 1) && decide (t.param 0x3F01 (i + 1) < s.timingFloor (i + 1))) 0x3F01 (i + 1)

/-- Puts the staged TEST_HOLDs in force one after another; whether one finds no whole spare channel (13 R385). -/
def State.testFold (s : State) (l : List Staged) : List (Bool × Nat) :=
  match l with
  | [] => []
  | w :: r =>
    if 0x4000 ≤ w.idx ∧ w.idx < 0x4F00 ∧ w.sub = 15 then
      let st := w.idx / 256 % 16
      let ch := w.idx % 256
      let bad := decide (beNat w.data = 1) && decide ((s.chan st ch).state ≠ 6) && !s.testOk st ch
      (bad, w.idx) :: (s.testHold st ch (beNat w.data)).testFold r
    else s.testFold r

def State.checks4 (s t : State) (l : List Staged) : List Check :=
  let inTest (idx : Nat) : Bool :=
    if writes l idx 15 && decide (s.ldl.stage ≠ 6) then decide (t.param idx 15 = 1)
    else (!writes l idx 15 || decide (t.param idx 15 = 1)) && decide ((s.chan (idx / 256 % 16) (idx % 256)).state = 6)
  ((s.testFold l).map fun p => check1 p.1 p.2 15) ++
    (l.filter fun w => decide (10 ≤ w.sub ∧ w.sub ≤ 12)).map fun w => check1 (!inTest w.idx) w.idx w.sub

/-- Positions of MODE 0b10 in the table of WHEEL_STOCKPOT written last. -/
def State.s0Positions (s : State) : Nat := (s.sch.stockpot.latest.filter fun e => decide (e.toNat / 64 = 2)).length

/-- The limits of the S0 classes (10 R317), with the objects that each reads. -/
def State.s0Checks (t : State) : List Check :=
  let n := t.s0Positions
  let s0 := (List.range 64).filter fun c => decide (t.classParam c 2 = 0)
  let sum (sub : Nat) : Nat := (s0.map fun c => t.classParam c sub).foldl (· + ·) 0
  let reads (sub : Nat) (more : Nat → Nat → Bool) (i j : Nat) : Bool :=
    (decide (0x5200 ≤ i ∧ i < 0x5240) && (decide (j = 2) || decide (j = sub))) || more i j
  let wheel (i j : Nat) : Bool := decide (i = 0xD100 ∧ j = 3)
  [⟨decide (n * 409600 < sum 5 * 1200), reads 5 wheel⟩,
   ⟨decide (16384 < sum 6), reads 6 fun _ _ => false⟩,
   ⟨decide (n * 1920 * t.build.S * t.param 0x5000 2 < sum 9 * 1200),
     reads 9 fun i j => wheel i j || decide (i = 0x5000 ∧ j = 2)⟩,
   ⟨s0.any fun c => decide (t.classParam c 9 = 0), reads 9 fun _ _ => false⟩]

def State.checks5 (t : State) : List Check :=
  let eps := (t.peerListed.filter fun i => bit (t.peerEntry i) 63).map fun i => bits (t.peerEntry i) 51 32
  ((List.range 64).map fun c =>
    ⟨decide (t.classParam c 7 < t.classParam c 5), fun i j => decide (i = 0x5200 + c) && (j = 5 || j = 7)⟩) ++
  t.s0Checks ++
  [check1 (decide (t.blockEp ≠ 0) && (t.findReq t.blockEp).isNone) 0x5100 6,
   check1 (eps.contains 0 || !allDistinct eps) 0x5100 8]

/-- A set's run of tiles: within the build, and in at most 8 Skillets (06 R188; 07 R225). -/
def runOk (b : Build) (first n : Nat) : Bool :=
  n = 0 || (decide (first + n ≤ b.tiles) && decide ((first + n - 1) / 32 - first / 32 < 8))

/-- The attention and update sets that have tiles: first index of the object, first tile, tiles. -/
def State.setRuns (t : State) : List (Nat × Nat × Nat) :=
  (((List.range 64).map fun i => (0x6810 + i, t.attFirst i, t.attTiles i)) ++
    ((List.range 16).map fun u => (0x6910 + u, t.updFirst u, t.updTiles u))).filter fun x => decide (x.2.2 ≠ 0)

def State.checks6 (s t : State) (l : List Staged) : List Check :=
  let runs := t.setRuns
  let whole (idx : Nat) (fails : Bool) : Check := ⟨fails, fun i _ => decide (i = idx)⟩
  let busy (st : Nat) : Bool := st = 1 || st = 3
  let clash (x : Nat × Nat × Nat) : Bool :=
    runs.any fun y => decide (y.1 ≠ x.1) && overlaps x.2.1 x.2.2 y.2.1 y.2.2
  let images (i j : Nat) : Bool :=
    decide (t.attTiles i ≠ 0) && decide (t.attTiles j ≠ 0) && decide (t.param (0x6810 + i) 1 = t.param (0x6810 + j) 1) &&
      (decide (t.param (0x6810 + i) 4 ≠ t.param (0x6810 + j) 4) || decide (t.param (0x6810 + i) 5 ≠ t.param (0x6810 + j) 5))
  ((touchedIx l 0x6810 64).map fun i => whole (0x6810 + i) (busy (s.attSet i).state)) ++
  ((touchedIx l 0x6910 16).map fun u => whole (0x6910 + u) (busy (s.updSet u).state)) ++
  (runs.map fun x => ⟨!runOk t.build x.2.1 x.2.2, fun i j => decide (i = x.1) && (j = 2 || j = 3)⟩) ++
  [⟨runs.any clash, fun i j => (decide (0x6810 ≤ i ∧ i < 0x6850) || decide (0x6910 ≤ i ∧ i < 0x6920)) && (j = 2 || j = 3)⟩,
   ⟨(List.range 64).any fun i => (List.range i).any fun j => images i j,
     fun i j => decide (0x6810 ≤ i ∧ i < 0x6850) && [1, 3, 4, 5].contains j⟩]

/-- A retention buffer that a group may name: an active RESULT region that no PARAM region casts into and that no grant
uses (03 R105; 07 R211; 17 R474). -/
def State.retainOk (t : State) (h : Nat) : Bool :=
  h = 0 || (match t.activeDesc h with
    | some d => decide (d.kind = kResult) && !t.isCast h &&
        !(List.range 64).any fun p => decide (t.param (0x9100 + p) 1 = h) && decide (d.owner = p)
    | none => false)

def State.checks7 (t : State) (l : List Staged) : List Check :=
  ((touchedIx l 0x7400 1024).map fun g =>
    let ms := (entriesOf l (0x7400 + g) 3 8).map (t.member g)
    [check1 (ms.any fun w => decide (t.build.A ≤ mbPort w) ||
        (match mbAlt w with | some p => decide (t.build.A ≤ p) | none => false)) (0x7400 + g) 3,
     check1 (writes l (0x7400 + g) 2 && !t.retainOk (t.groupRetain g)) (0x7400 + g) 2]).flatten

def State.checks8 (t : State) (l : List Staged) : List Check :=
  (touchedIx l 0x8200 1024).map fun b =>
    ⟨decide (t.build.tiles < t.barFirst b + t.barTiles b), fun i j => decide (i = 0x8200 + b) && (j = 2 || j = 3)⟩

/-- The requester of an entry has an OPEN slot. -/
def State.reqOpen (s : State) (r : Nat) : Bool := (s.summary r).slots.any fun x => decide (x = 1)

def State.checksC (s t : State) (l : List Staged) : List Check :=
  let valid := t.reqListed.filter fun r => rqValid (t.reqEntry r)
  [check1 (!allDistinct (valid.map fun r => rqReq (t.reqEntry r))) 0xC000 5,
   check1 ((entriesOf l 0xC000 5 8).any fun r =>
     let a := s.reqEntry r
     let b := t.reqEntry r
     rqValid a && s.reqOpen r && (!rqValid b || decide (rqReq a ≠ rqReq b) || decide (rqPart a ≠ rqPart b))) 0xC000 5,
   check1 (decide (t.blockEp ≠ 0) && (t.findReq t.blockEp).isNone) 0xC000 5]

def State.checksD (t : State) : List Check :=
  let bad (w : Wheel) : Bool := w.latest.any fun e => decide (e.toNat / 64 = 3)
  [check1 (bad t.sch.skillet) 0xD100 1, check1 (bad t.sch.whisk) 0xD100 2, check1 (bad t.sch.stockpot) 0xD100 3] ++
    t.s0Checks

/-- The checks of a domain. -/
def State.commitChecks (s t : State) (digit : Nat) (l : List Staged) : List Check :=
  match digit with
  | 3 => s.checks3 t l
  | 4 => s.checks4 t l
  | 5 => t.checks5
  | 6 => s.checks6 t l
  | 7 => t.checks7 l
  | 8 => t.checks8 l
  | 0xC => s.checksC t l
  | 0xD => t.checksD
  | _ => []

/-! ### What a commit does beside putting values in force -/

/-- An entry of REQ_TABLE whose binding changes: the summary starts anew, and the done-table entries are written as zero
where it is valid (16 R462, R463). A rewrite with the same REQ_ID, PART and PEER changes nothing. -/
def State.rebind (s t : State) (r : Nat) : State :=
  let a := s.reqEntry r
  let b := t.reqEntry r
  if rqValid a && rqValid b && decide (rqReq a = rqReq b) && decide (rqPart a = rqPart b) && decide (rqPeer a = rqPeer b)
  then t.setBlob 0xC000 5 (8 * r) (beBytes 8 a)
  else
    t.modFrm fun f =>
      { f with
        summ := mapDel f.summ r,
        done := mapClear f.done (64 * r) 64,
        pend := f.pend.map fun p => if p.r = r then { p with entry := {} } else p,
        holds := f.holds.filter fun h => h.r ≠ r }

/-- A written entry of PEER_TABLE sets the next number of its destination to SEQ0 (02 R52); abandoned numbers of the space
before are forgotten (DESIGN CHOICE, log 98). -/
def State.renumber (t : State) (i : Nat) : State :=
  let w := t.peerEntry i
  let ep := bits w 51 32
  if bit w 63 then t.modFrm fun f =>
    { f with
      next := mapPut f.next ep (bits w 31 0),
      orig := f.orig.filter fun p => !(p.2.dead && decide (p.2.ep = ep)) }
  else t

/-- CMP_CTL with CLEAR: the counts and the capture of CMP_RESULT are 0, and CLEAR reads 0 (13 R384). -/
def State.clearCmp (t : State) (idx : Nat) : State :=
  let w := t.param idx 12
  if !bit w 61 then t
  else
    (t.setParam idx 12 (setBit w 61 false)).modChan (idx / 256 % 16) (idx % 256) fun c =>
      { c with result := c.result.mapIdx fun i b => if 3008 ≤ i ∨ (24 ≤ i % 32 ∧ i % 32 < 28) then 0 else b }

/-- A barrier whose objects are written returns to its generation with no arrivals, and sends its frame at once where its
local part is complete with none (08 R256, R259). -/
def State.restoreBar (t : State) (b : Nat) : State :=
  let t := t.setBar b { t.bar b with arrived := 0, sent := false, step := 0 }
  if t.commitBarrier b then t else t.barAdvance b

/-- The queue of a set whose descriptor is written: it stays where the set keeps its partition, and is answered
REFUSED_STATE where the set is gone or another's (DESIGN CHOICE, log 81: 06 R188 does not say). -/
def State.requeue (t : State) (same : Bool) (q : List Nat) : State × List Nat :=
  if same then (t, q) else (t.doneAll q cState 0, [])

/-- The descriptor of attention set i is written: Ladel loads it (06 R188). -/
def State.renewAtt (s t : State) (i : Nat) : State :=
  let q := t.requeue (decide (t.attTiles i ≠ 0) && decide (s.attPart i = t.attPart i)) (s.attSet i).queue
  q.1.setAttSet i { state := if t.attTiles i = 0 then 0 else 1, queue := q.2 }

/-- The descriptor of update set u is written (07 R225). -/
def State.renewUpd (s t : State) (u : Nat) : State :=
  let q := t.requeue (decide (t.updTiles u ≠ 0) && decide (s.updPart u = t.updPart u)) (s.updSet u).queue
  q.1.setUpd u { state := if t.updTiles u = 0 then 0 else 2, queue := q.2 }

/-- A BLOCK_EP that is not 0 lets the frames that wait go (02 R75). -/
def State.letGo (t : State) : State :=
  ((t.frm.waiting.map (·.ep)).eraseDups).foldl (State.sendWaiting 64) t

/-- What one committed write does to its unit. `s` is the state before the commit. A change of REORDER has Ladel freeze and drain
each Stockpot first (11 R339; 16 R459). -/
def State.commitHook (s t : State) (w : Staged) : State :=
  if 0x5200 ≤ w.idx ∧ w.idx < 0x5240 then
    (if 5 ≤ w.sub ∧ w.sub ≤ 8 then t.refillClass (w.idx - 0x5200) else t)
  else if 0x4000 ≤ w.idx ∧ w.idx < 0x4F00 then
    match w.sub with
    | 10 => t.startPattern (w.idx / 256 % 16) (w.idx % 256)
    | 12 => t.clearCmp w.idx
    | 15 => t.testHold (w.idx / 256 % 16) (w.idx % 256) (beNat w.data)
    | _ => t
  else if w.idx = 0x3F00 ∧ w.sub = 2 then
    (if t.param 0x3F00 2 = s.param 0x3F00 2 then t else (List.range t.build.S).foldl State.drainPot t)
  else if w.idx = 0xC000 ∧ w.sub = 5 then (entriesOf [w] 0xC000 5 8).foldl (State.rebind s) t
  else if w.idx = 0x5100 ∧ w.sub = 6 then t.letGo
  else if w.idx = 0x5100 ∧ w.sub = 8 then (entriesOf [w] 0x5100 8 8).foldl State.renumber t
  else t

/-- What a commit does to the sets and barriers whose objects it writes. -/
def State.commitUnits (s t : State) (l : List Staged) : State :=
  let t := (touchedIx l 0x6810 64).foldl (State.renewAtt s) t
  let t := (touchedIx l 0x6910 16).foldl (State.renewUpd s) t
  (touchedIx l 0x8200 1024).foldl State.restoreBar t

/-- A write of LOCK_COMMIT, by the owner: all staged writes take effect on one edge, or none (15 R436). -/
def State.lockCommit (s : State) (r digit : Nat) : State × Answer :=
  match mapFind s.dict.locks digit with
  | none => (s, refusal cState 0)
  | some l =>
    if l.owner ≠ lockHolder r then (s, refusal cState 0)
    else
      let t := s.putAll l.staged
      match firstFail (s.commitChecks t digit l.staged) l.staged with
      | some p => (s, refusal cState p)
      | none =>
        let t := s.commitUnits (l.staged.foldl (State.commitHook s) t) l.staged
        ((t.modDict fun d => { d with lockEdge := s.clk.ftc }).unlock digit, { code := cDone, aux := l.staged.length })

/-- LOCK_EXPIRED (15 R436): LOCK_HOLD passes without a commit. -/
def execLockExpired (digit : Nat) (s : State) : Host.Outcome State Fault Refusal :=
  runIf (lockDomains.contains digit)
    (match mapFind s.dict.locks digit with
     | none => s
     | some l =>
       if s.since l.at_ (usR (s.param 0x2E00 4)) && s.served 4 then
         ((s.unlock digit).raise (s.srcDuty 4) 0x0607 (beBytes 1 digit ++ beBytes 2 l.staged.length)).bump tallyBlock
           tbLockExpired 1
       else s)

end Sys2Proof.Machine
end

