-- ==== Sys2Proof/Machine/Dict.lean ====
section
/-! DEFINITION. How a dictionary access is taken, carried out and answered, on the management port or for an admitted MGMT
frame (02 R48, R50; 15 R431 to R434; 16 R454). -/

namespace Sys2Proof.Machine

/-- An access: 1 read, 2 write, 3 bulk read, 4 bulk write (02 R48; 15 R431). -/
structure Access where
  kind : Nat
  idx : Nat
  sub : Nat
  ofs : Nat := 0
  len : Nat := 0
  data : List Byte := []
  /-- the row of the command names neither MOP nor offset nor length: the frame's own hold -/
  loose : Bool := false
  /-- the row names no value: a BOOL, of which the frame's own value holds -/
  anyData : Bool := false
  deriving DecidableEq, Repr

def Access.reads (a : Access) : Bool := decide (a.kind = 1) || decide (a.kind = 3)

/-- The access that an admitted MGMT frame carries, where it is the one that the command names. -/
def State.frameAccess (s : State) (o : OpRec) (a : Access) : Option Access :=
  let h := o.hdr
  let mop := hArg h 36 1
  let single := decide (a.kind ≤ 2)
  let data := if a.reads then [] else if a.anyData then s.opPayload o else a.data
  let len := if a.reads then (if a.loose then hLen h else a.len) else hLen h
  let kindOk := decide (mop = a.kind) || (a.loose && single && decide (mop = a.kind + 2))
  if kindOk && decide (hArg h 37 1 = a.sub) && decide (hArg h 38 2 = a.idx) && (a.loose || decide (hArg h 40 4 = a.ofs)) &&
      decide (hLen h = len) && (a.reads || decide (s.opPayload o = data)) then
    some { a with
      kind := mop, ofs := hArg h 40 4, len := len, data := data }
  else none

/-- The port's access: a row that names no length asks for the most, and one that names no value writes 1. -/
def Access.onPort (a : Access) : Access :=
  { a with
    len := if a.reads && a.loose then 65536 else a.len,
    data := if a.anyData then [1] else a.data }

/-- The answer of an access leaves: on the port, or as the final response of the frame. -/
def State.respond (s : State) (src : MgmtSrc) (kind : Nat) (a : Answer) : State :=
  match src with
  | .port tag => s.portAnswer kind tag a.code a.aux a.data
  | .frame req seq =>
    let s := s.bump tallyBlock tbMgmtInband 1
    let s := if a.code = cDone then s else s.bump tallyBlock tbMgmtRefused 1
    s.finish (opKey req seq) { code := a.code, aux := a.aux, payload := a.data }

/-- A write that passes checks 1 to 6. -/
def State.writeObj (s : State) (r : Nat) (again : Bool) (o : Obj) (a : Access) (returned : List Byte) : State × Answer :=
  let v := beNat a.data
  match o.acc with
  | .sel => s.writeSel r o a.idx a.data
  | .rwl => s.stageWrite o a.idx a.ofs a.data
  | .wo =>
    if o.base = 0x2E00 then
      (if o.sub = 1 then s.lockReq r v else if o.sub = 2 then s.lockCommit r v else s.lockAbort r v)
    else s.writeOp r again o a.idx a.ofs a.data returned
  | _ => s.writeNow o a.idx a.ofs a.data

/-- Carries out an access and answers it. An operation whose duty no core serves waits (15 R429). -/
def State.perform (s : State) (src : MgmtSrc) (again : Bool) (a : Access) (returned : List Byte) : State :=
  if a.reads then
    let x := s.accessRead src (decide (a.kind = 3)) a.idx a.sub a.ofs a.len
    x.1.respond src a.kind x.2
  else match s.checkWrite (reader src) (decide (a.kind = 4)) a.idx a.sub a.ofs a.data with
    | .error e => s.respond src a.kind e
    | .ok o =>
      if o.acc = .wo ∧ s.served (s.objDuty o a.idx a.data) = false then s
      else
        let x := s.writeObj (reader src) again o a returned
        (x.1.respond src a.kind x.2).afterAnswer o x.2

/-- A dictionary access by its sender. The port is served from stage 0x04 on, and at stage 0xFF for reads of the event log
(15 R432; 18 R496); a frame once it is admitted and whole. -/
def State.access (s : State) (src : MgmtSrc) (a : Access) (returned : List Byte) : State :=
  if !s.served 4 then s
  else match src with
    | .port _ =>
      let a := a.onPort
      if !s.mgtUp then s
      else if s.ldl.stage < 4 ∨ (s.ldl.stage = 255 ∧ !(a.reads && decide (a.idx = 0xB000))) then
        s.respond src a.kind (refusal cState 0)
      else s.perform src false a returned
    | .frame req seq =>
      if !s.live then s
      else match s.ready req seq opMgmt with
        | none => s.wakeFor req seq opMgmt
        | some o =>
          match s.frameAccess o a with
          | none => s
          | some b => s.perform src (decide (0 < o.att)) b returned

/-- A sender of this block: one of 16 tags of the port, or a frame. -/
def srcOk (src : MgmtSrc) : Bool :=
  match src with
  | .port tag => decide (tag < 16)
  | .frame req seq => decide (req < 2 ^ 20) && decide (seq < 2 ^ 32)

/-- The meaning of a row that is one dictionary access. -/
def State.runAccess (s : State) (src : MgmtSrc) (ok : Bool) (a : Access) : Host.Outcome State Fault Refusal :=
  runIf (srcOk src && ok) (s.access src a [])

end Sys2Proof.Machine
end

