-- ==== Sys2Proof/Machine/DictRows.lean ====
section
/-! DEFINITION. The commands that are dictionary accesses: the four of 15 R430, and the rows that name one object. -/

namespace Sys2Proof.Machine

/-- A write of a WO record or of a selector by the row that names it. -/
def record (idx sub : Nat) (d : List Byte) : Access := { kind := 2, idx := idx, sub := sub, data := d, loose := true }
/-- A write of a BOOL of which the row names no value. -/
def trigger (idx sub : Nat) : Access := { kind := 2, idx := idx, sub := sub, loose := true, anyData := true }
/-- A single write of a scalar. -/
def word (idx sub : Nat) (d : List Byte) : Access := { kind := 2, idx := idx, sub := sub, data := d }

/-- A handle as records carry it, byte 3 reserved (16 R461). -/
def handleBytes (h : Nat) : List Byte := beBytes 3 h ++ [0]

/-! ### The four accesses (15 R430; 16 R454 to R457) -/

/-- READ_OBJECT. -/
def execReadObject (src : MgmtSrc) (idx sub ofs len : Nat) (s : State) : Host.Outcome State Fault Refusal :=
  s.runAccess src (decide (idx < 2 ^ 16 ∧ sub < 256 ∧ ofs < 2 ^ 32 ∧ len < 2 ^ 32))
    { kind := 1, idx := idx, sub := sub, ofs := ofs, len := len }

/-- WRITE_OBJECT. -/
def execWriteObject (src : MgmtSrc) (idx sub ofs : Nat) (data : List Byte) (s : State) :
    Host.Outcome State Fault Refusal :=
  s.runAccess src (decide (idx < 2 ^ 16 ∧ sub < 256 ∧ ofs < 2 ^ 32 ∧ data.length < 2 ^ 32))
    { word idx sub data with ofs := ofs }

/-- BULK_READ. -/
def execBulkRead (src : MgmtSrc) (idx sub ofs len : Nat) (s : State) : Host.Outcome State Fault Refusal :=
  s.runAccess src (decide (idx < 2 ^ 16 ∧ sub < 256 ∧ ofs < 2 ^ 32 ∧ len < 2 ^ 32))
    { kind := 3, idx := idx, sub := sub, ofs := ofs, len := len }

/-- BULK_WRITE. -/
def execBulkWrite (src : MgmtSrc) (idx sub ofs : Nat) (data : List Byte) (s : State) : Host.Outcome State Fault Refusal :=
  s.runAccess src (decide (idx < 2 ^ 16 ∧ sub < 256 ∧ ofs < 2 ^ 32 ∧ data.length < 2 ^ 32))
    { kind := 4, idx := idx, sub := sub, ofs := ofs, data := data }

/-! ### Locks (15 R435, R436) -/

/-- LOCK_REQ. -/
def execLockReq (src : MgmtSrc) (digit : Nat) (s : State) : Host.Outcome State Fault Refusal :=
  s.runAccess src (decide (digit < 256)) (word 0x2E00 1 (beBytes 1 digit))

/-- LOCK_COMMIT. -/
def execLockCommit (src : MgmtSrc) (digit : Nat) (s : State) : Host.Outcome State Fault Refusal :=
  s.runAccess src (decide (digit < 256)) (word 0x2E00 2 (beBytes 1 digit))

/-- LOCK_ABORT. -/
def execLockAbort (src : MgmtSrc) (digit : Nat) (s : State) : Host.Outcome State Fault Refusal :=
  s.runAccess src (decide (digit < 256)) (word 0x2E00 3 (beBytes 1 digit))

/-! ### Attention and parameters (06 R186; 07 R233, R236, R238 to R240) -/

/-- CTX_RELEASE (06 R186). -/
def execCtxRelease (src : MgmtSrc) (handle ctx : Nat) (s : State) : Host.Outcome State Fault Refusal :=
  s.runAccess src (decide (handle < 2 ^ 24 ∧ ctx < 2 ^ 32)) (record 0x6880 1 (handleBytes handle ++ beBytes 4 ctx))

/-- STEP_DECIDE (07 R233, R236). -/
def execStepDecide (src : MgmtSrc) (step action k : Nat) (s : State) : Host.Outcome State Fault Refusal :=
  s.runAccess src (decide (step < 2 ^ 64 ∧ action < 256 ∧ k < 256))
    (record 0x6B00 2 (beBytes 8 step ++ beBytes 1 action ++ beBytes 1 k ++ beBytes 6 0))

/-- SET_CKPT (07 R238). -/
def execSetCkpt (src : MgmtSrc) (handle step : Nat) (s : State) : Host.Outcome State Fault Refusal :=
  s.runAccess src (decide (handle < 2 ^ 24 ∧ step < 2 ^ 64))
    (record 0x6B00 1 (handleBytes handle ++ beBytes 4 0 ++ beBytes 8 step))

/-- SET_COMMITTED (07 R239). -/
def execSetCommitted (src : MgmtSrc) (handle step : Nat) (s : State) : Host.Outcome State Fault Refusal :=
  s.runAccess src (decide (handle < 2 ^ 24 ∧ step < 2 ^ 64))
    (record 0x6B00 6 (handleBytes handle ++ beBytes 4 0 ++ beBytes 8 step))

/-- RESTORE_LOG (07 R239): `data` is what the source returns to the READs of the entries. -/
def execRestoreLog (src : MgmtSrc) (handle ep srcHandle first last : Nat) (data : List Byte) (s : State) :
    Host.Outcome State Fault Refusal :=
  runIf (srcOk src && decide (handle < 2 ^ 24 ∧ ep < 2 ^ 20 ∧ srcHandle < 2 ^ 24 ∧ first < 2 ^ 64 ∧ last < 2 ^ 64))
    (s.access src
      (record 0x6B00 3 (handleBytes handle ++ beBytes 4 ep ++ beBytes 3 srcHandle ++ beBytes 5 0 ++ beBytes 8 first ++
        beBytes 8 last)) data)

/-- RESTORE_RUN (07 R239). -/
def execRestoreRun (src : MgmtSrc) (handle last : Nat) (s : State) : Host.Outcome State Fault Refusal :=
  s.runAccess src (decide (handle < 2 ^ 24 ∧ last < 2 ^ 64))
    (record 0x6B00 4 (handleBytes handle ++ beBytes 4 0 ++ beBytes 8 last))

/-! ### Regions (16 R455, R464 to R466; 09 R272, R294) -/

/-- REGION_CREATE (16 R464). -/
def execRegionCreate (src : MgmtSrc) (rec_ : List Byte) (s : State) : Host.Outcome State Fault Refusal :=
  s.runAccess src (decide (rec_.length < 2 ^ 32)) (record 0xC400 1 rec_)

/-- REGION_RETIRE (16 R466). -/
def execRegionRetire (src : MgmtSrc) (handle : Nat) (s : State) : Host.Outcome State Fault Refusal :=
  s.runAccess src (decide (handle < 2 ^ 24)) (record 0xC400 3 (handleBytes handle))

/-- REGION_RDONLY (16 R466). -/
def execRegionRdonly (src : MgmtSrc) (handle value : Nat) (s : State) : Host.Outcome State Fault Refusal :=
  s.runAccess src (decide (handle < 2 ^ 24 ∧ value < 256)) (record 0xC400 4 (beBytes 3 handle ++ beBytes 1 value))

/-- SCHED_VERIFY (09 R272). -/
def execSchedVerify (src : MgmtSrc) (handle : Nat) (s : State) : Host.Outcome State Fault Refusal :=
  s.runAccess src (decide (handle < 2 ^ 24)) (record 0xD000 15 (handleBytes handle ++ beBytes 4 0))

/-- REGION_HEADER (16 R455). -/
def execRegionHeader (src : MgmtSrc) (handle : Nat) (s : State) : Host.Outcome State Fault Refusal :=
  s.runAccess src (decide (handle < 2 ^ 24)) (word 0x6B00 7 (handleBytes handle))

/-- DIGEST_STATUS (16 R455). -/
def execDigestStatus (src : MgmtSrc) (handle : Nat) (s : State) : Host.Outcome State Fault Refusal :=
  s.runAccess src (decide (handle < 2 ^ 24)) (word 0xD200 1 (handleBytes handle))

/-- REGION_DESC (16 R455). -/
def execRegionDesc (src : MgmtSrc) (handle : Nat) (s : State) : Host.Outcome State Fault Refusal :=
  s.runAccess src (decide (handle < 2 ^ 24)) (word 0xC400 5 (handleBytes handle))

/-! ### Synchronisation and fabric time (08 R264; 09 R270) -/

/-- LADEL_SIGNAL (08 R264). -/
def execLadelSignal (src : MgmtSrc) (ctr amount : Nat) (s : State) : Host.Outcome State Fault Refusal :=
  s.runAccess src (decide (ctr < 2 ^ 32 ∧ amount < 2 ^ 32)) (record 0x8000 5 (beBytes 4 ctr ++ beBytes 4 amount))

/-- FTC_RESYNC (09 R270). -/
def execFtcResync (src : MgmtSrc) (value : Nat) (s : State) : Host.Outcome State Fault Refusal :=
  s.runAccess src (decide (value < 256)) (word 0xD000 11 (beBytes 1 value))

/-! ### Stacks and channels (12 R376; 13 R382 to R385, R396) -/

/-- RETIRE_RANK (12 R376). -/
def execRetireRank (src : MgmtSrc) (stack vpc sid : Nat) (s : State) : Host.Outcome State Fault Refusal :=
  s.runAccess src (decide (stack < 256 ∧ vpc < 256 ∧ sid < 256))
    (record 0x3F10 11 (beBytes 1 stack ++ beBytes 1 vpc ++ beBytes 1 sid ++ [0]))

/-- The index of a channel's objects. -/
def chanIx (stack ch : Nat) : Nat := 0x4000 + 256 * stack + ch

/-- PATGEN_CTL (13 R382). -/
def execPatgenCtl (src : MgmtSrc) (stack ch w : Nat) (s : State) : Host.Outcome State Fault Refusal :=
  s.runAccess src (decide (stack < 8 ∧ ch < 32 ∧ w < 2 ^ 64)) (word (chanIx stack ch) 10 (beBytes 8 w))

/-- SWEEP_CTL (13 R383). -/
def execSweepCtl (src : MgmtSrc) (stack ch w : Nat) (s : State) : Host.Outcome State Fault Refusal :=
  s.runAccess src (decide (stack < 8 ∧ ch < 32 ∧ w < 2 ^ 64)) (word (chanIx stack ch) 11 (beBytes 8 w))

/-- CMP_CTL (13 R384). -/
def execCmpCtl (src : MgmtSrc) (stack ch w : Nat) (s : State) : Host.Outcome State Fault Refusal :=
  s.runAccess src (decide (stack < 8 ∧ ch < 32 ∧ w < 2 ^ 64)) (word (chanIx stack ch) 12 (beBytes 8 w))

/-- TEST_HOLD (13 R385). -/
def execTestHold (src : MgmtSrc) (stack ch value : Nat) (s : State) : Host.Outcome State Fault Refusal :=
  s.runAccess src (decide (stack < 8 ∧ ch < 32 ∧ value < 256)) (word (chanIx stack ch) 15 (beBytes 1 value))

/-- RETRAIN (13 R396): a write of RETRAIN is trigger 8 of the table; the others are seen by Ladel itself. -/
def execRetrain (src : Option MgmtSrc) (stack ch trig : Nat) (s : State) : Host.Outcome State Fault Refusal :=
  match src with
  | none =>
    s.runDuty (s.stackDuty stack) (s.build.hasChan stack ch && decide (1 ≤ trig ∧ trig ≤ 7)) (s.retrain stack ch trig)
  | some x => s.runAccess x (decide (stack < 8 ∧ ch < 32 ∧ trig = 8)) (trigger (chanIx stack ch) 14)

/-! ### Power and starts (14 R414, R416, R418; 18 R497) -/

/-- DOMAIN_RESET (14 R418). -/
def execDomainReset (src : MgmtSrc) (d : Nat) (s : State) : Host.Outcome State Fault Refusal :=
  s.runAccess src (decide (d < 88)) (trigger (0xA100 + d) 4)

/-- BLOCK_PARK (14 R414). -/
def execBlockPark (src : MgmtSrc) (s : State) : Host.Outcome State Fault Refusal :=
  s.runAccess src true (trigger 0xA000 14)

/-- WARM_START (18 R497): by a write of WARM_START, or by the rise of rst_warm_n. -/
def execWarmStart (src : Option MgmtSrc) (s : State) : Host.Outcome State Fault Refusal :=
  match src with
  | none => .next (s.warmRequest .warmPin)
  | some x => s.runAccess x true (trigger 0x2000 2)

/-! ### Images and the log (15 R438, R445 to R447, R451) -/

/-- IMAGE_PROGRAM (15 R446). -/
def execImageProgram (src : MgmtSrc) (s : State) : Host.Outcome State Fault Refusal :=
  s.runAccess src true (trigger 0x2F00 3)

/-- FW_UPDATE (15 R447). -/
def execFwUpdate (src : MgmtSrc) (s : State) : Host.Outcome State Fault Refusal :=
  s.runAccess src true (trigger 0x2F00 5)

/-- IMAGE_COMMIT (15 R438). -/
def execImageCommit (src : MgmtSrc) (s : State) : Host.Outcome State Fault Refusal :=
  s.runAccess src true (trigger 0x2F00 8)

/-- LIB_INSTALL (15 R445). -/
def execLibInstall (src : MgmtSrc) (number handle ofs : Nat) (s : State) : Host.Outcome State Fault Refusal :=
  s.runAccess src (decide (number < 256 ∧ handle < 2 ^ 24 ∧ ofs < 2 ^ 64))
    (record 0x2F00 15 (beBytes 1 number ++ beBytes 3 handle ++ beBytes 4 0 ++ beBytes 8 ofs))

/-- EVENT_ACK (15 R451). -/
def execEventAck (src : MgmtSrc) (pos : Nat) (s : State) : Host.Outcome State Fault Refusal :=
  s.runAccess src (decide (pos < 2 ^ 64)) (word 0xB000 4 (beBytes 8 pos))

/-! ### Counters, sampling and debug (17 R471, R475 to R484) -/

/-- CTR_CTL (17 R471). -/
def execCtrCtl (src : MgmtSrc) (d k w : Nat) (s : State) : Host.Outcome State Fault Refusal :=
  s.runAccess src (decide (d < 88 ∧ k < 8 ∧ w < 2 ^ 64)) (word (0x9400 + d) (k + 1) (beBytes 8 w))

/-- CTR_CLEAR (17 R471). -/
def execCtrClear (src : MgmtSrc) (d : Nat) (s : State) : Host.Outcome State Fault Refusal :=
  s.runAccess src (decide (d < 88)) (trigger (0x9400 + d) 10)

/-- SAMPLE_CTL (17 R475). -/
def execSampleCtl (src : MgmtSrc) (n w : Nat) (s : State) : Host.Outcome State Fault Refusal :=
  s.runAccess src (decide (n < 64 ∧ w < 2 ^ 64)) (word (0x9200 + n) 1 (beBytes 8 w))

/-- SAMPLE_CLEAR (17 R477). -/
def execSampleClear (src : MgmtSrc) (n : Nat) (s : State) : Host.Outcome State Fault Refusal :=
  s.runAccess src (decide (n < 64)) (trigger (0x9200 + n) 4)

/-- DEBUG_CHALLENGE (17 R478). -/
def execDebugChallenge (src : MgmtSrc) (s : State) : Host.Outcome State Fault Refusal :=
  s.runAccess src true { kind := 1, idx := 0x8F00, sub := 1, loose := true }

/-- DEBUG_RESPONSE (17 R478). -/
def execDebugResponse (src : MgmtSrc) (data : List Byte) (s : State) : Host.Outcome State Fault Refusal :=
  s.runAccess src (decide (data.length < 2 ^ 32)) (record 0x8F00 2 data)

/-- DEBUG_LOCK (17 R480). -/
def execDebugLock (src : MgmtSrc) (s : State) : Host.Outcome State Fault Refusal :=
  s.runAccess src true (trigger 0x8F00 5)

/-- COUNTER_SET (17 R481). -/
def execCounterSet (src : MgmtSrc) (data : List Byte) (s : State) : Host.Outcome State Fault Refusal :=
  s.runAccess src (decide (data.length < 2 ^ 32)) (record 0x8F00 7 data)

/-- TILE_CONTROL (17 R482). -/
def execTileControl (src : MgmtSrc) (data : List Byte) (s : State) : Host.Outcome State Fault Refusal :=
  s.runAccess src (decide (data.length < 2 ^ 32)) (record 0x8F00 8 data)

/-- BP_SET (17 R483). -/
def execBpSet (src : MgmtSrc) (data : List Byte) (s : State) : Host.Outcome State Fault Refusal :=
  s.runAccess src (decide (data.length < 2 ^ 32)) (record 0x8F00 10 data)

/-- ARB_FREEZE (17 R484). -/
def execArbFreeze (src : MgmtSrc) (data : List Byte) (s : State) : Host.Outcome State Fault Refusal :=
  s.runAccess src (decide (data.length < 2 ^ 32)) (record 0x8F00 12 data)

end Sys2Proof.Machine
end

