-- ==== Sys2Proof/Machine/Events.lean ====
section
/-! DEFINITION. Notification of events: mgt_irq and notification frames (15 R451). -/

namespace Sys2Proof.Machine

/-- mgt_irq: a record held at or above NOTIFY_LEVEL is later than EVENT_ACK. -/
def State.mgtIrq (s : State) : Bool :=
  s.evt.ring.any fun r => decide (s.param 0xB000 5 ≤ r.sev) && decide (s.evt.ack < r.pos)

/-- Records that qualify and have not been notified in band, in order of position. -/
def State.toNotify (s : State) : List EvRec :=
  s.evt.ring.filter fun r => decide (s.param 0xB000 5 ≤ r.sev) && decide (s.evt.notified < r.pos)

/-- EVENT_NOTIFICATION: up to 32 records go to NOTIFY_EP in stamp order; beyond 320 that wait, the excess is left to the
log, and the first record of the frame says in its copy that records are missing before it. -/
def execEventNotification (s : State) : Host.Outcome State Fault Refusal :=
  s.runDuty 4 true
    (let ep := s.param 0xB000 6
     let all := s.toNotify
     let extra := all.length - 320
     let rs := sortBy (fun r => r.ftc) (sortBy (fun r => r.src) ((all.drop extra).take 32))
     if ep = 0 ∨ s.ldl.stage ≠ 6 ∨ rs = [] then s
     else
       let ps := rs.map fun r => r.pos
       let last := ps.foldl max 0
       let lost := decide (0 < extra) || (match s.evt.ring.head? with
         | some r => decide (s.evt.notified + 1 < r.pos)
         | none => false)
       let copies := rs.mapIdx fun i r => ({ r with inband := true, gap := r.gap || (lost && decide (i = 0)) } : EvRec).bytes
       let n := mapGet 0 s.frm.notif ep
       let x : Resp :=
         { req := ep, seq := n, op := 0xBF, code := cDone, aux := rs.length, payload := copies.flatten, cls := s.sysClass,
           source := s.srcDuty 4, eq := s.egressQ s.sysClass, kind := 5, ftc := s.clk.ftc }
       let s := s.modFrm fun f => { f with notif := mapSet 0 f.notif ep ((n + 1) % 2 ^ 32) }
       let s := s.modEvt fun e =>
         { e with
           ring := e.ring.map fun r => if ps.contains r.pos then { r with inband := true } else r,
           notified := max e.notified last }
       ((s.bump tallyBlock tbNotifySent 1).bump tallyBlock tbNotifyDropped extra).stagePick x)

end Sys2Proof.Machine
end

