-- ==== Sys2Proof/Machine/Resend.lean ====
section
/-! DEFINITION. Request frames of the block that get no answer: they are resent, and abandoned after ATTEMPT 15 (02 R52,
R63). -/

namespace Sys2Proof.Machine

/-- What the action that needed a frame does when the frame has failed at ATTEMPT 15 (02 R52, R63): a closing feeder slot
breaks (03 R103), a query ends (06 R200), a mirror copy and a vote fail (07 R219, R236), a barrier and a remote signal are
abandoned (08 R249, R257). -/
def State.abandonFor (s : State) (o : OrigFrame) : State :=
  match o.purpose with
  | .partialSum key n => s.partialGone key n
  | .spill k _ => if (mapFind s.att.queries k).isSome then s.spillFails k o.ep else s
  | .mirror id => s.mirrorGone id
  | .vote part step => s.voteGone part step false
  | .barrier b _ => s.abandonBarrier b o.part (bodyStep o.body)
  | .signal e _ => s.abandonSignal e o.part (bodyStep o.body)

/-- ORIGINATED_FRAME_RESEND (02 R52, R63): a request frame of the block that has no final answer goes out again under its
number, ATTEMPT raised by one; one that has used ATTEMPT 15 is abandoned, once. -/
def execOriginatedFrameResend (ep seq : Nat) (s : State) : Host.Outcome State Fault Refusal :=
  s.runLive (decide (ep < 2 ^ 20) && decide (seq < 2 ^ 32))
    (match s.awaited ep seq with
     | none => s
     | some o => if o.att < 15 then s.resendOrig ep seq else (s.abandonOrig ep seq).abandonFor o)

end Sys2Proof.Machine
end

