-- ==== Sys2Proof/Machine/Tap.lean ====
section
/-! DEFINITION. The IEEE 1149.1 test access port (18 R490). -/

namespace Sys2Proof.Machine

/-- The identity code: 0x3, 0x4B57, the fused manufacturer code, 1 (18 R490). -/
def tapIdCode : Nat := 0x3 * 2 ^ 28 + 0x4B57 * 2 ^ 12 + bits Config.idCode.toNat 11 1 * 2 + 1

/-- An instruction is in force with the value that its data register has captured. -/
def State.tapSet (s : State) (ins reg : Nat) (stack : Option Nat) : State :=
  s.modPin fun p => { p with tap := ins, tapReg := reg, tapStack := stack }

/-- BYPASS: the one-bit register captures 0. -/
def State.tapBypass (s : State) : State := s.tapSet 0 0 none

/-- What the boundary register captures from the pins: the spec gives its cells no order, so the value is free. -/
def State.tapCapture (s : State) : Nat := (Config.freeValue 8 s.free).toNat

/-- BYPASS (18 R490), at any time. -/
def execBypass (s : State) : Host.Outcome State Fault Refusal := .next s.tapBypass

/-- IDCODE (18 R490), at any time. -/
def execIdcode (s : State) : Host.Outcome State Fault Refusal := .next (s.tapSet 1 tapIdCode none)

/-- SAMPLE/PRELOAD (18 R490): only while rst_cold_n is low; replaced by BYPASS otherwise. -/
def execSamplePreload (word : Nat) (s : State) : Host.Outcome State Fault Refusal :=
  .next
    (if s.pin.coldN then s.tapBypass
     else ((s.tapSet 2 s.tapCapture none).modPin fun p => { p with boundary := word }).spend)

/-- EXTEST (18 R490): only while rst_cold_n is low; the preloaded word drives the pins. -/
def execExtest (s : State) : Host.Outcome State Fault Refusal :=
  .next (if s.pin.coldN then s.tapBypass else (s.tapSet 3 s.tapCapture none).spend)

/-- STACK_1500 (18 R490): only while rst_cold_n is low; the TAP is linked to the wrapper port of a stack. -/
def execStack1500 (stack : Nat) (s : State) : Host.Outcome State Fault Refusal :=
  runIf (decide (stack < s.build.S))
    (if s.pin.coldN then s.tapBypass else s.tapSet 4 stack (some stack))

end Sys2Proof.Machine
end

