-- ==== Sys2Proof/Machine/TileOps.lean ====
section
/-! DEFINITION. The tile operations: each command is one edge of a tile's issue with a bundle that holds that operation
in its slot and no-operations in the others (04 R121, R126, R131, R138, R143). -/

namespace Sys2Proof.Machine

/-- The command names a tile of this build and a slot word of the operation's opcode. -/
def State.slotOk (s : State) (tile word width op code : Nat) : Bool :=
  decide (tile < s.build.tiles) && decide (word < 2 ^ width) && decide (code = op)

/-- LDV (04 R126). -/
def execLdv (tile word : Nat) (s : State) : Host.Outcome State Fault Refusal :=
  s.runLive (s.slotOk tile word 64 1 (mvOp word)) (s.issue tile { mv := word })

/-- STV (04 R126). -/
def execStv (tile word : Nat) (s : State) : Host.Outcome State Fault Refusal :=
  s.runLive (s.slotOk tile word 64 2 (mvOp word)) (s.issue tile { mv := word })

/-- LDS (04 R126). -/
def execLds (tile word : Nat) (s : State) : Host.Outcome State Fault Refusal :=
  s.runLive (s.slotOk tile word 64 3 (mvOp word)) (s.issue tile { mv := word })

/-- STS (04 R126). -/
def execSts (tile word : Nat) (s : State) : Host.Outcome State Fault Refusal :=
  s.runLive (s.slotOk tile word 64 4 (mvOp word)) (s.issue tile { mv := word })

/-- MOVI (04 R126). -/
def execMovi (tile word : Nat) (s : State) : Host.Outcome State Fault Refusal :=
  s.runLive (s.slotOk tile word 64 5 (mvOp word)) (s.issue tile { mv := word })

/-- ALU (04 R126). -/
def execAlu (tile word : Nat) (s : State) : Host.Outcome State Fault Refusal :=
  s.runLive (s.slotOk tile word 64 6 (mvOp word)) (s.issue tile { mv := word })

/-- ALUI (04 R126). -/
def execAlui (tile word : Nat) (s : State) : Host.Outcome State Fault Refusal :=
  s.runLive (s.slotOk tile word 64 7 (mvOp word)) (s.issue tile { mv := word })

/-- BCAST (04 R126). -/
def execBcast (tile word : Nat) (s : State) : Host.Outcome State Fault Refusal :=
  s.runLive (s.slotOk tile word 64 8 (mvOp word)) (s.issue tile { mv := word })

/-- VTOG (04 R126). -/
def execVtog (tile word : Nat) (s : State) : Host.Outcome State Fault Refusal :=
  s.runLive (s.slotOk tile word 64 9 (mvOp word)) (s.issue tile { mv := word })

/-- LDM (04 R126). -/
def execLdm (tile word : Nat) (s : State) : Host.Outcome State Fault Refusal :=
  s.runLive (s.slotOk tile word 64 10 (mvOp word)) (s.issue tile { mv := word })

/-- STM (04 R126). -/
def execStm (tile word : Nat) (s : State) : Host.Outcome State Fault Refusal :=
  s.runLive (s.slotOk tile word 64 11 (mvOp word)) (s.issue tile { mv := word })

/-- XFER (04 R126). -/
def execXfer (tile word : Nat) (s : State) : Host.Outcome State Fault Refusal :=
  s.runLive (s.slotOk tile word 64 12 (mvOp word)) (s.issue tile { mv := word })

/-- RDCTR (04 R126). -/
def execRdctr (tile word : Nat) (s : State) : Host.Outcome State Fault Refusal :=
  s.runLive (s.slotOk tile word 64 13 (mvOp word)) (s.issue tile { mv := word })

/-- RDCR (04 R126). -/
def execRdcr (tile word : Nat) (s : State) : Host.Outcome State Fault Refusal :=
  s.runLive (s.slotOk tile word 64 14 (mvOp word)) (s.issue tile { mv := word })

/-- SETL (04 R126). -/
def execSetl (tile word : Nat) (s : State) : Host.Outcome State Fault Refusal :=
  s.runLive (s.slotOk tile word 64 15 (mvOp word)) (s.issue tile { mv := word })

/-- WRCR (04 R126). -/
def execWrcr (tile word : Nat) (s : State) : Host.Outcome State Fault Refusal :=
  s.runLive (s.slotOk tile word 64 16 (mvOp word)) (s.issue tile { mv := word })

/-- MMA (04 R135). -/
def execMma (tile word : Nat) (s : State) : Host.Outcome State Fault Refusal :=
  s.runLive (s.slotOk tile word 56 1 (arOp word)) (s.issue tile { ar := word })

/-- ACZERO (04 R136). -/
def execAczero (tile word : Nat) (s : State) : Host.Outcome State Fault Refusal :=
  s.runLive (s.slotOk tile word 56 2 (arOp word)) (s.issue tile { ar := word })

/-- FADD (04 R138). -/
def execFadd (tile word : Nat) (s : State) : Host.Outcome State Fault Refusal :=
  s.runLive (s.slotOk tile word 72 1 (veOp word)) (s.issue tile { ve := word })

/-- FSUB (04 R138). -/
def execFsub (tile word : Nat) (s : State) : Host.Outcome State Fault Refusal :=
  s.runLive (s.slotOk tile word 72 2 (veOp word)) (s.issue tile { ve := word })

/-- FMUL (04 R138). -/
def execFmul (tile word : Nat) (s : State) : Host.Outcome State Fault Refusal :=
  s.runLive (s.slotOk tile word 72 3 (veOp word)) (s.issue tile { ve := word })

/-- FFMA (04 R138). -/
def execFfma (tile word : Nat) (s : State) : Host.Outcome State Fault Refusal :=
  s.runLive (s.slotOk tile word 72 4 (veOp word)) (s.issue tile { ve := word })

/-- FMAX (04 R138). -/
def execFmax (tile word : Nat) (s : State) : Host.Outcome State Fault Refusal :=
  s.runLive (s.slotOk tile word 72 5 (veOp word)) (s.issue tile { ve := word })

/-- FMIN (04 R138). -/
def execFmin (tile word : Nat) (s : State) : Host.Outcome State Fault Refusal :=
  s.runLive (s.slotOk tile word 72 6 (veOp word)) (s.issue tile { ve := word })

/-- FSGN (04 R138). -/
def execFsgn (tile word : Nat) (s : State) : Host.Outcome State Fault Refusal :=
  s.runLive (s.slotOk tile word 72 7 (veOp word)) (s.issue tile { ve := word })

/-- FCMP (04 R138). -/
def execFcmp (tile word : Nat) (s : State) : Host.Outcome State Fault Refusal :=
  s.runLive (s.slotOk tile word 72 8 (veOp word)) (s.issue tile { ve := word })

/-- SEL (04 R138). -/
def execSel (tile word : Nat) (s : State) : Host.Outcome State Fault Refusal :=
  s.runLive (s.slotOk tile word 72 9 (veOp word)) (s.issue tile { ve := word })

/-- FEXP (04 R171). -/
def execFexp (tile word : Nat) (s : State) : Host.Outcome State Fault Refusal :=
  s.runLive (s.slotOk tile word 72 10 (veOp word)) (s.issue tile { ve := word })

/-- FEXPA (04 R175). -/
def execFexpa (tile word : Nat) (s : State) : Host.Outcome State Fault Refusal :=
  s.runLive (s.slotOk tile word 72 11 (veOp word)) (s.issue tile { ve := word })

/-- FRCP (04 R173). -/
def execFrcp (tile word : Nat) (s : State) : Host.Outcome State Fault Refusal :=
  s.runLive (s.slotOk tile word 72 12 (veOp word)) (s.issue tile { ve := word })

/-- FSQRT (04 R174). -/
def execFsqrt (tile word : Nat) (s : State) : Host.Outcome State Fault Refusal :=
  s.runLive (s.slotOk tile word 72 13 (veOp word)) (s.issue tile { ve := word })

/-- FMULI (04 R138). -/
def execFmuli (tile word : Nat) (s : State) : Host.Outcome State Fault Refusal :=
  s.runLive (s.slotOk tile word 72 14 (veOp word)) (s.issue tile { ve := word })

/-- FADDI (04 R138). -/
def execFaddi (tile word : Nat) (s : State) : Host.Outcome State Fault Refusal :=
  s.runLive (s.slotOk tile word 72 15 (veOp word)) (s.issue tile { ve := word })

/-- IADD (04 R138). -/
def execIadd (tile word : Nat) (s : State) : Host.Outcome State Fault Refusal :=
  s.runLive (s.slotOk tile word 72 16 (veOp word)) (s.issue tile { ve := word })

/-- ISUB (04 R138). -/
def execIsub (tile word : Nat) (s : State) : Host.Outcome State Fault Refusal :=
  s.runLive (s.slotOk tile word 72 17 (veOp word)) (s.issue tile { ve := word })

/-- IMUL (04 R138). -/
def execImul (tile word : Nat) (s : State) : Host.Outcome State Fault Refusal :=
  s.runLive (s.slotOk tile word 72 18 (veOp word)) (s.issue tile { ve := word })

/-- LOGIC (04 R138). -/
def execLogic (tile word : Nat) (s : State) : Host.Outcome State Fault Refusal :=
  s.runLive (s.slotOk tile word 72 19 (veOp word)) (s.issue tile { ve := word })

/-- SHIFT (04 R138). -/
def execShift (tile word : Nat) (s : State) : Host.Outcome State Fault Refusal :=
  s.runLive (s.slotOk tile word 72 20 (veOp word)) (s.issue tile { ve := word })

/-- IMINMAX (04 R138). -/
def execIminmax (tile word : Nat) (s : State) : Host.Outcome State Fault Refusal :=
  s.runLive (s.slotOk tile word 72 21 (veOp word)) (s.issue tile { ve := word })

/-- RED (04 R138). -/
def execRed (tile word : Nat) (s : State) : Host.Outcome State Fault Refusal :=
  s.runLive (s.slotOk tile word 72 24 (veOp word)) (s.issue tile { ve := word })

/-- PERM (04 R138). -/
def execPerm (tile word : Nat) (s : State) : Host.Outcome State Fault Refusal :=
  s.runLive (s.slotOk tile word 72 25 (veOp word)) (s.issue tile { ve := word })

/-- CVTN (04 R139). -/
def execCvtn (tile word : Nat) (s : State) : Host.Outcome State Fault Refusal :=
  s.runLive (s.slotOk tile word 72 26 (veOp word)) (s.issue tile { ve := word })

/-- CVTS (04 R140). -/
def execCvts (tile word : Nat) (s : State) : Host.Outcome State Fault Refusal :=
  s.runLive (s.slotOk tile word 72 27 (veOp word)) (s.issue tile { ve := word })

/-- CVTW (04 R139). -/
def execCvtw (tile word : Nat) (s : State) : Host.Outcome State Fault Refusal :=
  s.runLive (s.slotOk tile word 72 28 (veOp word)) (s.issue tile { ve := word })

/-- CVTI (04 R138). -/
def execCvti (tile word : Nat) (s : State) : Host.Outcome State Fault Refusal :=
  s.runLive (s.slotOk tile word 72 29 (veOp word)) (s.issue tile { ve := word })

/-- ACRD (04 R138). -/
def execAcrd (tile word : Nat) (s : State) : Host.Outcome State Fault Refusal :=
  s.runLive (s.slotOk tile word 72 30 (veOp word)) (s.issue tile { ve := word })

/-- ACWR (04 R138). -/
def execAcwr (tile word : Nat) (s : State) : Host.Outcome State Fault Refusal :=
  s.runLive (s.slotOk tile word 72 31 (veOp word)) (s.issue tile { ve := word })

/-- SIG (04 R143). -/
def execSig (tile word : Nat) (s : State) : Host.Outcome State Fault Refusal :=
  s.runLive (s.slotOk tile word 64 1 (syOp word)) (s.issue tile { sy := word })

/-- SUB (04 R143). -/
def execSubCtr (tile word : Nat) (s : State) : Host.Outcome State Fault Refusal :=
  s.runLive (s.slotOk tile word 64 2 (syOp word)) (s.issue tile { sy := word })

/-- WAIT (04 R143). -/
def execWait (tile word : Nat) (s : State) : Host.Outcome State Fault Refusal :=
  s.runLive (s.slotOk tile word 64 3 (syOp word)) (s.issue tile { sy := word })

/-- FENCE (04 R143). -/
def execFence (tile word : Nat) (s : State) : Host.Outcome State Fault Refusal :=
  s.runLive (s.slotOk tile word 64 4 (syOp word)) (s.issue tile { sy := word })

/-- BR (04 R143). -/
def execBr (tile word : Nat) (s : State) : Host.Outcome State Fault Refusal :=
  s.runLive (s.slotOk tile word 64 5 (syOp word)) (s.issue tile { sy := word })

/-- BRZ (04 R143). -/
def execBrz (tile word : Nat) (s : State) : Host.Outcome State Fault Refusal :=
  s.runLive (s.slotOk tile word 64 6 (syOp word)) (s.issue tile { sy := word })

/-- LOOP (04 R143). -/
def execLoop (tile word : Nat) (s : State) : Host.Outcome State Fault Refusal :=
  s.runLive (s.slotOk tile word 64 7 (syOp word)) (s.issue tile { sy := word })

/-- HALT (04 R143). -/
def execHalt (tile word : Nat) (s : State) : Host.Outcome State Fault Refusal :=
  s.runLive (s.slotOk tile word 64 8 (syOp word)) (s.issue tile { sy := word })

end Sys2Proof.Machine
end

