-- ==== Sys2Proof/Machine/Dispatch.lean ====
section
/-! DEFINITION. The command dispatch: one arm per command. -/

namespace Sys2Proof.Machine

def exec (i : Instr) (s : State) : Host.Outcome State Fault Refusal :=
  match i with
  | .ingressCell port cell => Sys2Proof.Machine.execIngressCell port cell s
  | .reassemblyTimeout req seq att => Sys2Proof.Machine.execReassemblyTimeout req seq att s
  | .lateCellWindowEnd req seq att => Sys2Proof.Machine.execLateCellWindowEnd req seq att s
  | .orderedRelease req seq => Sys2Proof.Machine.execOrderedRelease req seq s
  | .holdTimeEnd req seq => Sys2Proof.Machine.execHoldTimeEnd req seq s
  | .doneTableWriteAccepted entry slot => Sys2Proof.Machine.execDoneTableWriteAccepted entry slot s
  | .egressCell port => Sys2Proof.Machine.execEgressCell port s
  | .egressCredit port => Sys2Proof.Machine.execEgressCredit port s
  | .portUp port => Sys2Proof.Machine.execPortUp port s
  | .portDown port => Sys2Proof.Machine.execPortDown port s
  | .read req seq => Sys2Proof.Machine.execRead req seq s
  | .write req seq => Sys2Proof.Machine.execWrite req seq s
  | .accum req seq => Sys2Proof.Machine.execAccum req seq s
  | .windowedPartialApply req seq => Sys2Proof.Machine.execWindowedPartialApply req seq s
  | .redOpen req seq => Sys2Proof.Machine.execRedOpen req seq s
  | .redClose req seq => Sys2Proof.Machine.execRedClose req seq s
  | .slotClose part slot => Sys2Proof.Machine.execSlotClose part slot s
  | .partialAnswer ep seq code orig => Sys2Proof.Machine.execPartialAnswer ep seq code orig s
  | .slotWaitExpiry part slot => Sys2Proof.Machine.execSlotWaitExpiry part slot s
  | .slotOpenFtc ctx entry => Sys2Proof.Machine.execSlotOpenFtc ctx entry s
  | .slotCloseFtc part slot => Sys2Proof.Machine.execSlotCloseFtc part slot s
  | .mcast req seq => Sys2Proof.Machine.execMcast req seq s
  | .mcastDelivery group step member ofs => Sys2Proof.Machine.execMcastDelivery group step member ofs s
  | .oweWaitExpiry group step member ofs => Sys2Proof.Machine.execOweWaitExpiry group step member ofs s
  | .oweRetry group step member ofs => Sys2Proof.Machine.execOweRetry group step member ofs s
  | .mcastDeadline part step => Sys2Proof.Machine.execMcastDeadline part step s
  | .kvAppend req seq => Sys2Proof.Machine.execKvAppend req seq s
  | .attnQuery req seq => Sys2Proof.Machine.execAttnQuery req seq s
  | .queryStart set => Sys2Proof.Machine.execQueryStart set s
  | .queryComplete set => Sys2Proof.Machine.execQueryComplete set s
  | .spillAnswer ep seq code orig aux notHeld payload => Sys2Proof.Machine.execSpillAnswer ep seq code orig aux notHeld payload s
  | .spillWaitExpiry req seq rec => Sys2Proof.Machine.execSpillWaitExpiry req seq rec s
  | .runaheadFetch set pieces => Sys2Proof.Machine.execRunaheadFetch set pieces s
  | .ctxRelease src handle ctx => Sys2Proof.Machine.execCtxRelease src handle ctx s
  | .contextFreed handle ctx => Sys2Proof.Machine.execContextFreed handle ctx s
  | .optStep req seq => Sys2Proof.Machine.execOptStep req seq s
  | .updateStart set => Sys2Proof.Machine.execUpdateStart set s
  | .updateComplete set => Sys2Proof.Machine.execUpdateComplete set s
  | .mirrorAnswer ep seq code orig => Sys2Proof.Machine.execMirrorAnswer ep seq code orig s
  | .mirrorWaitExpiry id => Sys2Proof.Machine.execMirrorWaitExpiry id s
  | .vote part step => Sys2Proof.Machine.execVote part step s
  | .voteAnswer ep seq code orig aux => Sys2Proof.Machine.execVoteAnswer ep seq code orig aux s
  | .commitDecisionEdge ctx => Sys2Proof.Machine.execCommitDecisionEdge ctx s
  | .commitEdge part step => Sys2Proof.Machine.execCommitEdge part step s
  | .foldComplete desc => Sys2Proof.Machine.execFoldComplete desc s
  | .stepDecide src step action k => Sys2Proof.Machine.execStepDecide src step action k s
  | .setCkpt src handle step => Sys2Proof.Machine.execSetCkpt src handle step s
  | .setCommitted src handle step => Sys2Proof.Machine.execSetCommitted src handle step s
  | .restoreLog src handle ep srcHandle first last data => Sys2Proof.Machine.execRestoreLog src handle ep srcHandle first last data s
  | .restoreRun src handle last => Sys2Proof.Machine.execRestoreRun src handle last s
  | .sync req seq => Sys2Proof.Machine.execSync req seq s
  | .barrier req seq => Sys2Proof.Machine.execBarrier req seq s
  | .barrierAnswer ep seq code orig aux => Sys2Proof.Machine.execBarrierAnswer ep seq code orig aux s
  | .remoteSignalSend => Sys2Proof.Machine.execRemoteSignalSend s
  | .remoteSignalAnswer ep seq code orig => Sys2Proof.Machine.execRemoteSignalAnswer ep seq code orig s
  | .launch req seq => Sys2Proof.Machine.execLaunch req seq s
  | .armingComplete ctx => Sys2Proof.Machine.execArmingComplete ctx s
  | .armingDeadline ctx => Sys2Proof.Machine.execArmingDeadline ctx s
  | .launchEdge ctx => Sys2Proof.Machine.execLaunchEdge ctx s
  | .programEntryFire ctx entry => Sys2Proof.Machine.execProgramEntryFire ctx entry s
  | .contextEnd ctx => Sys2Proof.Machine.execContextEnd ctx s
  | .readObject src idx sub ofs len => Sys2Proof.Machine.execReadObject src idx sub ofs len s
  | .writeObject src idx sub ofs data => Sys2Proof.Machine.execWriteObject src idx sub ofs data s
  | .bulkRead src idx sub ofs len => Sys2Proof.Machine.execBulkRead src idx sub ofs len s
  | .bulkWrite src idx sub ofs data => Sys2Proof.Machine.execBulkWrite src idx sub ofs data s
  | .status tag => Sys2Proof.Machine.execStatus tag s
  | .hold tag arg => Sys2Proof.Machine.execHold tag arg s
  | .bootSelect tag arg => Sys2Proof.Machine.execBootSelect tag arg s
  | .flashRead tag addr len => Sys2Proof.Machine.execFlashRead tag addr len s
  | .flashErase tag addr => Sys2Proof.Machine.execFlashErase tag addr s
  | .flashProgram tag addr data => Sys2Proof.Machine.execFlashProgram tag addr data s
  | .eventPeek tag => Sys2Proof.Machine.execEventPeek tag s
  | .lockReq src digit => Sys2Proof.Machine.execLockReq src digit s
  | .lockCommit src digit => Sys2Proof.Machine.execLockCommit src digit s
  | .lockAbort src digit => Sys2Proof.Machine.execLockAbort src digit s
  | .lockExpired digit => Sys2Proof.Machine.execLockExpired digit s
  | .regionCreate src record => Sys2Proof.Machine.execRegionCreate src record s
  | .regionRetire src handle => Sys2Proof.Machine.execRegionRetire src handle s
  | .regionRdonly src handle value => Sys2Proof.Machine.execRegionRdonly src handle value s
  | .regionDrained desc => Sys2Proof.Machine.execRegionDrained desc s
  | .zeroingComplete desc => Sys2Proof.Machine.execZeroingComplete desc s
  | .imageHashCheck desc ofs => Sys2Proof.Machine.execImageHashCheck desc ofs s
  | .schedVerify src handle => Sys2Proof.Machine.execSchedVerify src handle s
  | .regionHeader src handle => Sys2Proof.Machine.execRegionHeader src handle s
  | .digestStatus src handle => Sys2Proof.Machine.execDigestStatus src handle s
  | .regionDesc src handle => Sys2Proof.Machine.execRegionDesc src handle s
  | .rehashPass desc => Sys2Proof.Machine.execRehashPass desc s
  | .ladelSignal src ctr amount => Sys2Proof.Machine.execLadelSignal src ctr amount s
  | .ftcPulse valid value phase => Sys2Proof.Machine.execFtcPulse valid value phase s
  | .pulseTimeout => Sys2Proof.Machine.execPulseTimeout s
  | .holdoverMaxExpiry => Sys2Proof.Machine.execHoldoverMaxExpiry s
  | .ftcResync src value => Sys2Proof.Machine.execFtcResync src value s
  | .wheelTableEffect table => Sys2Proof.Machine.execWheelTableEffect table s
  | .budgetWindowEdge => Sys2Proof.Machine.execBudgetWindowEdge s
  | .arbiterRound kind inst reqs => Sys2Proof.Machine.execArbiterRound kind inst reqs s
  | .granuleRequestAccept stack write bpa mask data src unit tag => Sys2Proof.Machine.execGranuleRequestAccept stack write bpa mask data src unit tag s
  | .stackCommandIssue stack pc => Sys2Proof.Machine.execStackCommandIssue stack pc s
  | .writeRetire stack pc id => Sys2Proof.Machine.execWriteRetire stack pc id s
  | .granuleReadDecode stack pc id word lost req seq => Sys2Proof.Machine.execGranuleReadDecode stack pc id word lost req seq s
  | .ageLimitAged stack pc id => Sys2Proof.Machine.execAgeLimitAged stack pc id s
  | .pageIdlePrecharge stack pc bank => Sys2Proof.Machine.execPageIdlePrecharge stack pc bank s
  | .refreshDebtTick stack pc => Sys2Proof.Machine.execRefreshDebtTick stack pc s
  | .refpb stack pc => Sys2Proof.Machine.execRefpb stack pc s
  | .rfm stack pc bank => Sys2Proof.Machine.execRfm stack pc bank s
  | .powerDownEntry stack pc sid => Sys2Proof.Machine.execPowerDownEntry stack pc sid s
  | .tempPoll stack reading => Sys2Proof.Machine.execTempPoll stack reading s
  | .mergeWriteBack stack pc gran => Sys2Proof.Machine.execMergeWriteBack stack pc gran s
  | .patrolScrub stack pc word => Sys2Proof.Machine.execPatrolScrub stack pc word s
  | .remapRow stack pc sid bank row => Sys2Proof.Machine.execRemapRow stack pc sid bank row s
  | .remapActive stack pc entry => Sys2Proof.Machine.execRemapActive stack pc entry s
  | .postPackageRepair stack pc entry ok => Sys2Proof.Machine.execPostPackageRepair stack pc entry ok s
  | .retireRank src stack pc sid => Sys2Proof.Machine.execRetireRank src stack pc sid s
  | .migrationRowCopy stack words => Sys2Proof.Machine.execMigrationRowCopy stack words s
  | .training stack ch ok maps verify => Sys2Proof.Machine.execTraining stack ch ok maps verify s
  | .sweepComplete stack ch maps => Sys2Proof.Machine.execSweepComplete stack ch maps s
  | .patgenCtl src stack ch word => Sys2Proof.Machine.execPatgenCtl src stack ch word s
  | .sweepCtl src stack ch word => Sys2Proof.Machine.execSweepCtl src stack ch word s
  | .cmpCtl src stack ch word => Sys2Proof.Machine.execCmpCtl src stack ch word s
  | .testHold src stack ch value => Sys2Proof.Machine.execTestHold src stack ch value s
  | .histogramComplete stack ch lane bins => Sys2Proof.Machine.execHistogramComplete stack ch lane bins s
  | .tapMove stack ch lane => Sys2Proof.Machine.execTapMove stack ch lane s
  | .retrain src stack ch trigger => Sys2Proof.Machine.execRetrain src stack ch trigger s
  | .retrainPeriodExpiry stack ch => Sys2Proof.Machine.execRetrainPeriodExpiry stack ch s
  | .caParityAlert stack ch => Sys2Proof.Machine.execCaParityAlert stack ch s
  | .standinFillEnd stack => Sys2Proof.Machine.execStandinFillEnd stack s
  | .standinReturnEnd stack => Sys2Proof.Machine.execStandinReturnEnd stack s
  | .splitWindow stack ch => Sys2Proof.Machine.execSplitWindow stack ch s
  | .trivetInterval temps => Sys2Proof.Machine.execTrivetInterval temps s
  | .vidStep vidOk margin => Sys2Proof.Machine.execVidStep vidOk margin s
  | .domainStepDown d => Sys2Proof.Machine.execDomainStepDown d s
  | .domainWake d => Sys2Proof.Machine.execDomainWake d s
  | .domainExit d => Sys2Proof.Machine.execDomainExit d s
  | .domainReset src d => Sys2Proof.Machine.execDomainReset src d s
  | .drainLimitExpiry d => Sys2Proof.Machine.execDrainLimitExpiry d s
  | .blockPark src => Sys2Proof.Machine.execBlockPark src s
  | .mainPowerFail => Sys2Proof.Machine.execMainPowerFail s
  | .railGoodLost rail => Sys2Proof.Machine.execRailGoodLost rail s
  | .keepSwitch => Sys2Proof.Machine.execKeepSwitch s
  | .keepReturn => Sys2Proof.Machine.execKeepReturn s
  | .keepLost => Sys2Proof.Machine.execKeepLost s
  | .pllLockLost => Sys2Proof.Machine.execPllLockLost s
  | .pllLock => Sys2Proof.Machine.execPllLock s
  | .coldStart bins => Sys2Proof.Machine.execColdStart bins s
  | .coldReset => Sys2Proof.Machine.execColdReset s
  | .railTimeoutExpiry rail => Sys2Proof.Machine.execRailTimeoutExpiry rail s
  | .warmStart src => Sys2Proof.Machine.execWarmStart src s
  | .coreWatchdogExpiry core => Sys2Proof.Machine.execCoreWatchdogExpiry core s
  | .imageProgram src => Sys2Proof.Machine.execImageProgram src s
  | .fwUpdate src => Sys2Proof.Machine.execFwUpdate src s
  | .dutyHandover => Sys2Proof.Machine.execDutyHandover s
  | .probationEnd => Sys2Proof.Machine.execProbationEnd s
  | .imageCommit src => Sys2Proof.Machine.execImageCommit src s
  | .commitMinGapExpiry => Sys2Proof.Machine.execCommitMinGapExpiry s
  | .stressSave => Sys2Proof.Machine.execStressSave s
  | .libInstall src number handle ofs => Sys2Proof.Machine.execLibInstall src number handle ofs s
  | .eventAck src pos => Sys2Proof.Machine.execEventAck src pos s
  | .eventNotification => Sys2Proof.Machine.execEventNotification s
  | .eggTimerEvaluate => Sys2Proof.Machine.execEggTimerEvaluate s
  | .snapshotCapture => Sys2Proof.Machine.execSnapshotCapture s
  | .ctrCtl src d k word => Sys2Proof.Machine.execCtrCtl src d k word s
  | .ctrClear src d => Sys2Proof.Machine.execCtrClear src d s
  | .sampleCtl src n word => Sys2Proof.Machine.execSampleCtl src n word s
  | .sampleClear src n => Sys2Proof.Machine.execSampleClear src n s
  | .debugChallenge src => Sys2Proof.Machine.execDebugChallenge src s
  | .debugResponse src data => Sys2Proof.Machine.execDebugResponse src data s
  | .debugLock src => Sys2Proof.Machine.execDebugLock src s
  | .unlockDurationExpiry => Sys2Proof.Machine.execUnlockDurationExpiry s
  | .counterSet src data => Sys2Proof.Machine.execCounterSet src data s
  | .tileControl src data => Sys2Proof.Machine.execTileControl src data s
  | .bpSet src data => Sys2Proof.Machine.execBpSet src data s
  | .arbFreeze src data => Sys2Proof.Machine.execArbFreeze src data s
  | .bypass => Sys2Proof.Machine.execBypass s
  | .idcode => Sys2Proof.Machine.execIdcode s
  | .samplePreload word => Sys2Proof.Machine.execSamplePreload word s
  | .extest => Sys2Proof.Machine.execExtest s
  | .stack1500 stack => Sys2Proof.Machine.execStack1500 stack s
  | .tileLoad first count handle ofs part => Sys2Proof.Machine.execTileLoad first count handle ofs part s
  | .tileStart tile => Sys2Proof.Machine.execTileStart tile s
  | .tileStop tile => Sys2Proof.Machine.execTileStop tile s
  | .tileSave tile => Sys2Proof.Machine.execTileSave tile s
  | .tileRestore tile => Sys2Proof.Machine.execTileRestore tile s
  | .tileDiscard tile => Sys2Proof.Machine.execTileDiscard tile s
  | .tileSleep tile => Sys2Proof.Machine.execTileSleep tile s
  | .transferStart tile => Sys2Proof.Machine.execTransferStart tile s
  | .transferComplete tile => Sys2Proof.Machine.execTransferComplete tile s
  | .mmaStart tile => Sys2Proof.Machine.execMmaStart tile s
  | .fenceComplete tile => Sys2Proof.Machine.execFenceComplete tile s
  | .ldv tile word => Sys2Proof.Machine.execLdv tile word s
  | .stv tile word => Sys2Proof.Machine.execStv tile word s
  | .lds tile word => Sys2Proof.Machine.execLds tile word s
  | .sts tile word => Sys2Proof.Machine.execSts tile word s
  | .movi tile word => Sys2Proof.Machine.execMovi tile word s
  | .alu tile word => Sys2Proof.Machine.execAlu tile word s
  | .alui tile word => Sys2Proof.Machine.execAlui tile word s
  | .bcast tile word => Sys2Proof.Machine.execBcast tile word s
  | .vtog tile word => Sys2Proof.Machine.execVtog tile word s
  | .ldm tile word => Sys2Proof.Machine.execLdm tile word s
  | .stm tile word => Sys2Proof.Machine.execStm tile word s
  | .xfer tile word => Sys2Proof.Machine.execXfer tile word s
  | .rdctr tile word => Sys2Proof.Machine.execRdctr tile word s
  | .rdcr tile word => Sys2Proof.Machine.execRdcr tile word s
  | .setl tile word => Sys2Proof.Machine.execSetl tile word s
  | .wrcr tile word => Sys2Proof.Machine.execWrcr tile word s
  | .mma tile word => Sys2Proof.Machine.execMma tile word s
  | .aczero tile word => Sys2Proof.Machine.execAczero tile word s
  | .fadd tile word => Sys2Proof.Machine.execFadd tile word s
  | .fsub tile word => Sys2Proof.Machine.execFsub tile word s
  | .fmul tile word => Sys2Proof.Machine.execFmul tile word s
  | .ffma tile word => Sys2Proof.Machine.execFfma tile word s
  | .fmax tile word => Sys2Proof.Machine.execFmax tile word s
  | .fmin tile word => Sys2Proof.Machine.execFmin tile word s
  | .fsgn tile word => Sys2Proof.Machine.execFsgn tile word s
  | .fcmp tile word => Sys2Proof.Machine.execFcmp tile word s
  | .sel tile word => Sys2Proof.Machine.execSel tile word s
  | .fexp tile word => Sys2Proof.Machine.execFexp tile word s
  | .fexpa tile word => Sys2Proof.Machine.execFexpa tile word s
  | .frcp tile word => Sys2Proof.Machine.execFrcp tile word s
  | .fsqrt tile word => Sys2Proof.Machine.execFsqrt tile word s
  | .fmuli tile word => Sys2Proof.Machine.execFmuli tile word s
  | .faddi tile word => Sys2Proof.Machine.execFaddi tile word s
  | .iadd tile word => Sys2Proof.Machine.execIadd tile word s
  | .isub tile word => Sys2Proof.Machine.execIsub tile word s
  | .imul tile word => Sys2Proof.Machine.execImul tile word s
  | .logic tile word => Sys2Proof.Machine.execLogic tile word s
  | .shift tile word => Sys2Proof.Machine.execShift tile word s
  | .iminmax tile word => Sys2Proof.Machine.execIminmax tile word s
  | .red tile word => Sys2Proof.Machine.execRed tile word s
  | .perm tile word => Sys2Proof.Machine.execPerm tile word s
  | .cvtn tile word => Sys2Proof.Machine.execCvtn tile word s
  | .cvts tile word => Sys2Proof.Machine.execCvts tile word s
  | .cvtw tile word => Sys2Proof.Machine.execCvtw tile word s
  | .cvti tile word => Sys2Proof.Machine.execCvti tile word s
  | .acrd tile word => Sys2Proof.Machine.execAcrd tile word s
  | .acwr tile word => Sys2Proof.Machine.execAcwr tile word s
  | .sig tile word => Sys2Proof.Machine.execSig tile word s
  | .subCtr tile word => Sys2Proof.Machine.execSubCtr tile word s
  | .wait tile word => Sys2Proof.Machine.execWait tile word s
  | .fence tile word => Sys2Proof.Machine.execFence tile word s
  | .br tile word => Sys2Proof.Machine.execBr tile word s
  | .brz tile word => Sys2Proof.Machine.execBrz tile word s
  | .loop tile word => Sys2Proof.Machine.execLoop tile word s
  | .halt tile word => Sys2Proof.Machine.execHalt tile word s
  | .originatedFrameResend ep seq => Sys2Proof.Machine.execOriginatedFrameResend ep seq s
  | .pwrMainFailClear => Sys2Proof.Machine.execPwrMainFailClear s
  | .railGoodRise rail => Sys2Proof.Machine.execRailGoodRise rail s
  | .errWindowEdge => Sys2Proof.Machine.execErrWindowEdge s

end Sys2Proof.Machine
end

