-- ==== Sys2Proof/Machine/Tick.lean ====
section
/-! DEFINITION. What happens by itself while no command waits: one RCLK position passes (01 R15). Tiles issue from their
instruction stores, idle times are watched, drains end, and counters of level events advance. -/

namespace Sys2Proof.Machine

/-! ### Levels (17 R469) -/

/-- The level events of a Skillet. -/
def State.skilletLevel (s : State) (n event : Nat) : Nat :=
  let ts := (List.range 32).map fun i => s.tile (32 * n + i)
  let running := ts.filter fun t => decide (t.c.state = 3)
  match event with
  | 0x2000 => if s.awake n then (running.filter fun t => !t.x.asleep).length else 0
  | 0x2001 => (ts.map fun t => t.c.xq.length).sum
  | 0x2002 => (running.filter fun t => t.x.asleep).length
  | _ => (s.dom n).held.length

/-- The level events of a Stockpot. -/
def State.potLevel (s : State) (st event : Nat) : Nat :=
  let pcs := (List.range 64).map fun c => (s.pot st).pc c
  match event with
  | 0x2004 => (pcs.map fun p => p.fifo.length).sum
  | 0x2005 => (pcs.map fun p => p.merges.length).sum
  | 0x2006 => pcs.foldl (fun m p => max m p.debt) 0
  | _ => (pcs.map fun p => (p.pool.filter fun r => decide (r.level = event - 0x2000)).length).sum

/-- The level events of a port group. -/
def State.portLevel (s : State) (g event : Nat) : Nat :=
  let ps := (List.range 4).map fun i => s.port (4 * g + i)
  if event = 0x2010 then
    ((s.frm.reasm.filter fun x => !x.2.whole).map fun x => ((List.range 4).map fun i => x.2.onPort (4 * g + i)).sum).sum
  else
    (ps.map fun p => p.staged (event - 0x2000)).sum

/-- The level events of a Whisk quadrant. -/
def State.quadLevel (s : State) (q event : Nat) : Nat :=
  if event = 0x2000 then
    (s.wsk.slots.filter fun x => decide (0 < x.2.sram.getD q 0) || x.2.wide.any fun w => decide (w.2 = q)).length
  else s.wsk.esc / 1024

/-- The clock period of a counter unit in RCLK (17 R467). -/
def ctrPeriod (d : Nat) : Nat := if d < 64 then 8 else if d < 72 then 4 else if d < 80 then 6 else 8

/-- The level of an event of a counter unit. -/
def State.level (s : State) (d event : Nat) : Nat :=
  if d < 64 then s.skilletLevel d event
  else if d < 72 then s.potLevel (d - 64) event
  else if d < 80 then s.portLevel (d - 72) event
  else s.quadLevel (d - 80) event

/-- An event number is a level event (17 R469). -/
def isLevel (event : Nat) : Bool := decide (0x2000 ≤ event) && decide (event < 0x3000)

/-- The level counters of one unit on an edge of its clock. A level has no one cause, so a word that filters a partition
counts none (DESIGN CHOICE, log 53). -/
def State.levelCounts (s : State) (d : Nat) : State :=
  let ws := (List.range 8).map fun k => s.ctrWord d k
  let es := ((ws.filter fun w => bit w 47).map fun w => bits w 63 50).eraseDups
  (es.filter isLevel).foldl (fun s e => s.ctrEvent d e 1 (s.level d e) none) s

/-! ### The tick -/

/-- One TCLK edge of the tiles: MMAs that wait take a free array, and every RUNNING tile with a program of its own issues its
next bundle, but for one whose branch costs this TCLK (04 R124, R136). -/
def State.tileEdge (s : State) : State :=
  let s := (s.tl.tiles.filter fun p => p.2.x.mmaWait.isSome).foldl (fun s p => s.mmaNext p.1) s
  let go := (s.tl.tiles.filter fun p => decide (p.2.c.lib = 0) && s.issues p.1).map Prod.fst
  let held := go.filter fun t => (s.tile t).x.hold
  let s := held.foldl (fun s t => s.modTile t fun x => { x with x := { x.x with hold := false } }) s
  s.issueTiles (go.filter fun t => !held.contains t)

/-- The timed events of the schedules: the domain that each needs and its fabric time — the Skillets of the tiles that a PROGRAM
entry starts, the quadrant of a declared slot that opens (14 R415). -/
def State.timedEvents (s : State) : List (Nat × Nat) :=
  let runs := (s.sch.ctxs.map fun p =>
    (p.2.launch, if p.2.state = 3 then p.2.entries else []) :: (p.2.arm.toList.map fun a => (a.launch, a.entries))).flatten
  ((runs.map fun r => ((r.2.filter fun e => decide (enKind e = 1)).map fun e =>
    (((enTiles e).map (· / 32)).eraseDups).map fun n => (n, r.1 + pgRel e)).flatten).flatten) ++
    s.wsk.resv.filterMap fun p => p.2.decl.map fun y => (80 + p.2.q0, y.openFtc)

/-- A doorkeeper wakes its domain ahead of a timed event by the exit time of its state (14 R415). -/
def State.wakeTimed (s : State) : State :=
  if s.pwr.doms.all fun p => decide (p.2.state = 0) then s
  else
    (s.timedEvents.filter fun p =>
      decide (0 < (s.dom p.1).state) && decide (s.clk.ftc ≤ p.2) &&
        decide (p.2 ≤ s.clk.ftc + exitTime (s.dom p.1).state)).foldl (fun s p => s.wakeDom p.1) s

/-- The switched domains on one RCLK position: counters of levels, and on a TCLK edge the tiles
issue, domains wake for timed events, idle times are watched, and drains end. -/
def State.liveTick (s : State) : State :=
  let s := s.modFrm fun f =>
    { f with
      ports := f.ports.map fun p =>
        (p.1, if p.2.up && decide (p.2.txCredit = 0) then { p.2 with dry := p.2.dry + 1 } else p.2) }
  let s := (s.build.domains.filter fun d => s.build.hasCounters d && decide (s.clk.now % ctrPeriod d = 0)).foldl
    State.levelCounts s
  if s.clk.now % 8 = 0 then
    s.tileEdge.wakeTimed.watchIdle.endDrains
  else s

/-- One RCLK position without a command. A start under way goes on (18 R494). -/
def State.tick (s : State) : State :=
  let s := s.passTime 1
  if s.ldl.stage = 6 ∧ s.pin.start = none then (if s.live then s.liveTick else s) else s.startStep

end Sys2Proof.Machine
end

