-- ==== Sys2Proof/Safety.lean ====
section
/-! DEFINITION. What a safe run is: one in which no step faults or is refused. And the words in which a claim says what
a command leaves unchanged. -/

namespace Sys2Proof

open Sys2Proof.Machine

/-- A step goes on. -/
def goesOn (s : State) : Prop := ∃ t, step s = .next t

/-- The stacked memory is in its canonical form: addresses strictly rising, no byte listed that equals what an unlisted
address reads as, and the same of the poisoned granules. -/
def Memory.wf (s : State) : Bool := mapWf 0 s.mem.bytes && mapWf 0 s.mem.poison

/-- The event log is sound (15 R449): at most 4,096 records are held, their positions rise by 1 up to the newest, and
none later than the newest has been notified. -/
structure Machine.Evt.Sound (e : Evt) : Prop where
  bound : e.ring.length ≤ 4096
  fits : e.ring.length ≤ e.newest
  positions : e.ring.map (fun r => r.pos) = (List.range e.ring.length).map fun i => e.newest - e.ring.length + 1 + i
  notified : e.notified ≤ e.newest

/-- What every step keeps: the canonical form of the stacked memory and a sound event log. -/
structure Inv (s : State) : Prop where
  memory : Memory.wf s = true
  log : s.evt.Sound

/-- The groups of the state. -/
inductive Group where
  | build | pending | clk | mem | dict | frm | rgn | wsk | mc | tl | syn | sch | ldl | per | pwr | stress | evt | att
  | par | obs | cls | stk | pin | arb | tally | mgtRsp | free
  deriving DecidableEq, Repr

/-- A group is the same in two states. -/
def Group.same (g : Group) (s t : State) : Prop :=
  match g with
  | .build => t.build = s.build
  | .pending => t.pending = s.pending
  | .clk => t.clk = s.clk
  | .mem => t.mem = s.mem
  | .dict => t.dict = s.dict
  | .frm => t.frm = s.frm
  | .rgn => t.rgn = s.rgn
  | .wsk => t.wsk = s.wsk
  | .mc => t.mc = s.mc
  | .tl => t.tl = s.tl
  | .syn => t.syn = s.syn
  | .sch => t.sch = s.sch
  | .ldl => t.ldl = s.ldl
  | .per => t.per = s.per
  | .pwr => t.pwr = s.pwr
  | .stress => t.stress = s.stress
  | .evt => t.evt = s.evt
  | .att => t.att = s.att
  | .par => t.par = s.par
  | .obs => t.obs = s.obs
  | .cls => t.cls = s.cls
  | .stk => t.stk = s.stk
  | .pin => t.pin = s.pin
  | .arb => t.arb = s.arb
  | .tally => t.tally = s.tally
  | .mgtRsp => t.mgtRsp = s.mgtRsp
  | .free => t.free = s.free

/-- Two states agree on every group but those of a list. -/
structure SameExcept (l : List Group) (s t : State) : Prop where
  same : ∀ g, l.contains g = false → g.same s t

/-- A command goes on: it answers a next state, which agrees with the state before on every group but those of a list,
and which has a property. -/
def Completes (c : Instr) (s : State) (l : List Group) (post : State → Prop) : Prop :=
  ∃ t, exec c s = .next t ∧ SameExcept l s t ∧ post t

/-- What an answered operation leaves (02 R54, R66, R67, R71): it is no longer admitted, its slot has the state of its
code, and its done-table write is issued with the final response that waits for it, on the port of its header cell. -/
structure Answered (s t : State) (o : OpRec) (code aux : Nat) (payload : List Byte) : Prop where
  gone : t.op o.key = none
  slot : (t.summary o.r).slots = (s.summary o.r).slots.set (o.seq % 64) (codeState code)
  issued : ∃ p ∈ t.frm.pend, p.r = o.r ∧ p.slot = o.seq % 64 ∧ p.entry.seq = o.seq ∧ p.entry.state = codeState code ∧
    p.entry.attempt = o.att ∧ p.entry.code = code ∧ p.entry.opcode = o.opcode ∧ p.entry.aux = aux % 2 ^ 32 ∧
    ∃ x, p.resp = some (x, o.port) ∧ x.req = o.req ∧ x.seq = o.seq ∧ x.att = o.att ∧ x.op = o.opcode + 128 ∧
      x.code = code ∧ x.aux = aux % 2 ^ 32 ∧ x.payload = payload

/-- The outcome of an operation stands (02 R54; 09 R294): it is answered, or, where its digest must show a leaf of its
region that an operation admitted before it has made dirty, it keeps its outcome until a rehash pass has taken that leaf
in. -/
def Concludes (s t : State) (o : OpRec) (code aux : Nat) (payload : List Byte) : Prop :=
  Answered s t o code aux payload ∨
    (code = cDone ∧ hDigest o.hdr = true ∧
      (t.rgn.dirty.any fun p => decide (p.1 / 2 ^ 20 = hdDesc (hHandle o.hdr)) && decide (p.2 < o.ord)) = true ∧
      ∃ x f, t.op o.key = some x ∧ x.phase = 1 ∧ x.wait = some f ∧ f.code = code ∧ f.aux = aux ∧ f.payload = payload)

/-- No granule of the spill area has failed, so that no read of a slot's storage fails (03 R94). -/
def Machine.State.spillQuiet (s : State) : Prop :=
  (s.mem.fails.any fun f => s.inSpill f.gran) = false ∧ (s.mem.poison.any fun p => s.inSpill p.1) = false

/-! ### Dictionary accesses -/

/-- The groups that the answer of an access changes: on the port its words and their tally, for a frame what an answered
operation leaves. -/
def answerGroups (src : MgmtSrc) : List Group :=
  match src with
  | .port _ => [.obs, .tally, .mgtRsp]
  | .frame _ _ => [.mem, .frm, .rgn, .obs, .cls, .tally]

/-- The answer of an access: the words of the port's response (15 R431), or the final response of the frame (02 R48). -/
def Replied (s t : State) (src : MgmtSrc) (kind code aux : Nat) (d : List Byte) : Prop :=
  match src with
  | .port tag => t.mgtRsp = rspWords kind tag code aux d
  | .frame req seq => ∀ o, s.op (opKey req seq) = some o → o.key = opKey req seq → Answered s t o code aux d

/-- An access `a` of a sender is taken, as `b`: the port is served from stage 0x04 on, a frame once it is admitted and
whole (15 R432; 02 R48). -/
def Taken (s : State) (src : MgmtSrc) (a b : Access) : Prop :=
  s.served 4 = true ∧
    match src with
    | .port tag => tag < 16 ∧ s.mgtUp = true ∧ 4 ≤ s.ldl.stage ∧ s.ldl.stage ≠ 255 ∧ b = a.onPort
    | .frame req seq => req < 2 ^ 20 ∧ seq < 2 ^ 32 ∧ s.live = true ∧
        ∃ o, s.ready req seq opMgmt = some o ∧ o.req = req ∧ o.seq = seq ∧ s.frameAccess o a = some b

/-- A write that is taken and passes checks 1 to 6 of 16 R454, to an object whose duty a core serves and whose unit
runs, and that is no resend of an operation that has started (15 R433). -/
structure Accepted (s : State) (src : MgmtSrc) (a b : Access) (o : Obj) : Prop where
  taken : Taken s src a b
  checks : s.checkWrite (reader src) (decide (b.kind = 4)) a.idx a.sub b.ofs b.data = .ok o
  duty : s.served (s.objDuty o a.idx b.data) = true
  runs : o.switched = true → s.live = true ∧ s.ldl.stage = 6
  first : ∀ req seq x, src = .frame req seq → s.op (opKey req seq) = some x → x.att = 0 ∨ s.started o = false

/-- A command that is an access is answered DONE with the bytes that it moved; beside its answer it changes only a
list of groups, and no byte of memory where the memory is none of them; and it leaves a property. -/
def Does (c : Instr) (s : State) (src : MgmtSrc) (b : Access) (l : List Group) (post : State → Prop) : Prop :=
  Completes c s (l ++ answerGroups src) fun t =>
    Replied s t src b.kind cDone b.data.length [] ∧
      (l.contains .mem = false → t.mem.bytes = s.mem.bytes ∧ t.mem.poison = s.mem.poison) ∧ post t

/-- An access is answered with a refusal and changes nothing else. -/
def TurnedAway (c : Instr) (s : State) (src : MgmtSrc) (b : Access) (code aux : Nat) : Prop :=
  Completes c s (answerGroups src) fun t =>
    Replied s t src b.kind code aux [] ∧ t.mem.bytes = s.mem.bytes ∧ t.mem.poison = s.mem.poison

namespace Machine

/-- The key of a cell: requester, sequence number and attempt of its prefix (02 R38). -/
def cellKey (c : List Byte) : Nat := raKey (pfxReq c) (pfxSeq c) (pfxAtt c)

/-- What the arrival of a cell on a port wakes (14 R415). -/
def State.woken (s : State) (p : Nat) : State := (s.wakeDom (72 + p / 4)).wakeDom 86

/-- The state in which steps 4 to 10 of 02 R59 see a header cell, and its colour. -/
def State.painted (s : State) (p : Nat) (c : List Byte) : State × Nat :=
  ((s.woken p).portBump p 0 1 none).paint p (hClass (cellHdr c)) (chargeBytes (cellHdr c) (pfxCount c))

/-- Cells of incomplete frames that a port holds (02 R64). -/
def State.crowd (s : State) (p : Nat) : Nat :=
  ((s.frm.reasm.filter fun x => !x.2.whole).map fun x => x.2.onPort p).foldl (· + ·) 0

/-! ### Starts and resets (14 R414, R418; 18 R498, R499) -/

/-- No frame is queued on a port that is up. -/
def State.egressIdle (s : State) : Prop := ∀ p, p < s.build.A → (s.port p).up = true → (s.port p).queues.flatten = []

/-- The block has entered P5 (14 R409, R414): domains are off under their epochs, ports are down, accepted writes have
retired, stacks are in self-refresh, the enables are low. -/
structure InP5 (s t : State) : Prop where
  parked : t.pwr.parked = true
  vid : t.pwr.vid = 60
  rails : t.pin.en = [false, false, false]
  memory : (∀ st, st < s.build.S → (s.pot st).quiet = true) → t.mem.bytes = s.mem.bytes
  frozen : t.pwr.frozen = true
  doms : ∀ d ∈ s.build.domains, (t.dom d).state = 5 ∧ (t.dom d).epoch = (s.dom d).epoch
  ports : ∀ p, p < s.build.A → (t.port p).up = false
  pots : ∀ st, st < s.build.S → ((s.pot st).state = 2 → (t.pot st).state = 3) ∧
    ∀ c, (t.pc st c).pool = [] ∧ (t.pc st c).fifo = [] ∧ (t.pc st c).merges = []

/-- A domain has been reset (14 R417, R418). -/
structure DomReset (s t : State) (d : Nat) : Prop where
  epoch : (t.dom d).epoch = ((s.dom d).epoch + 1) % 2 ^ 16
  on : (t.dom d).state = 0 ∧ (t.dom d).wake = none ∧ (t.dom d).drain = none
  others : ∀ i, i ≠ d → (t.dom i).epoch = (s.dom i).epoch ∧ (t.dom i).state = (s.dom i).state
  mask : t.obs.resetMask = s.obs.resetMask ||| 2 ^ d
  memory : (64 ≤ d → d < 72 → (s.pot (d - 64)).quiet = true) → t.mem.bytes = s.mem.bytes
  tiles : d < 64 → ∀ k, k / 32 = d → t.tile k = {}
  ledger : d < 64 → ∀ k, k / 2048 = d → mapGet 0 t.tl.ledger k = 0
  saves : d < 64 → ∀ k v, k / 32 = d → mapFind s.tl.saves k = some v →
    mapFind t.tl.saves k = some { v with stale := true, forP4 := false }
  sets : d < 64 → ∀ i x, mapFind s.att.sets i = some x → x.state ≠ 0 →
    ((s.attRun i).any fun k => decide (k / 32 = d)) = true → (t.attSet i).state = 4
  pools : 64 ≤ d → d < 72 → ∀ c, (t.pc (d - 64) c).pool = [] ∧ (t.pc (d - 64) c).fifo = [] ∧ (t.pc (d - 64) c).merges = []
  ports : 72 ≤ d → d < 80 → ∀ p, p / 4 = d - 72 → (t.port p).held = 0 ∧ (t.port p).up = ((s.port p).host && s.rdy)
  meters : 72 ≤ d → d < 80 → ∀ k, k / 256 = d - 72 → mapFind t.cls.meters k = none
  contexts : d = 84 → ∀ i, (t.ctx i).state = 0
  remote : d = 85 → t.syn.queue = [] ∧ ∀ b, (t.bar b).arrived = 0

/-- What a warm start leaves at the release of the domains (18 R498, R499); of memory only headers of PARAM regions
change. -/
structure Released (s t : State) : Prop where
  stage : t.ldl.stage = 5 ∧ t.pwr.parked = false ∧ t.pwr.stalled = false ∧ t.pwr.frozen = false ∧
    t.pin.en = [true, true, true]
  epochs : ∀ d ∈ s.build.domains, (t.dom d).epoch = ((s.dom d).epoch + 1) % 2 ^ 16 ∧ (t.dom d).state = 0
  memory : (s.pwr.parked = false → ∀ st, st < s.build.S → (s.pot st).quiet = true) →
    ∀ a, (∀ p ∈ s.rgn.desc, p.2.kind = kParam → (a < p.2.bpa0 ∨ p.2.bpa0 + 64 ≤ a) ∧
    (a < p.2.mbpa0 ∨ p.2.mbpa0 + 64 ≤ a)) → t.mbyte a = s.mbyte a
  frames : t.frm.ops = [] ∧ t.frm.reasm = []
  done : ∀ r i, (∀ p ∈ s.frm.pend, 64 * p.r + p.slot ≠ 64 * r + i) → (s.doneEntry r i).state ≠ 1 →
    t.doneEntry r i = s.doneEntry r i
  retired : ∀ p, s.frm.pend.getLast? = some p → p.entry.state ≠ 1 → t.doneEntry p.r p.slot = p.entry
  tiles : t.tl.tiles = [] ∧ t.tl.ledger = []
  saves : ∀ k v, mapFind s.tl.saves k = some v → mapFind t.tl.saves k = some { v with stale := true }
  contexts : ∀ i, (t.ctx i).state = 0
  slots : ∀ k x, mapFind s.wsk.slots k = some x → x.key = k → (x.state = 1 ∨ x.state = 2) →
    ∃ y, mapFind t.wsk.slots k = some y ∧ y.state = 4
  values : ((∀ p ∈ s.stk.pots, ∀ c ∈ p.2.chans, c.2.state ≠ 6 ∧ c.2.test = none) → t.dict.vals = s.dict.vals) ∧
    t.dict.blob = s.dict.blob ∧ t.dict.locks = [] ∧ t.dict.sel = []
  meters : t.cls = {}
  debug : t.obs.unlock = none ∧ t.obs.samples = [] ∧ t.obs.ctrs = []
  pots : ∀ st, st < s.build.S → (t.pot st).state = if (s.pot st).state = 4 then 4 else 2

/-- An image commit has been made, or persistence has stopped for good (15 R438, R443, R444). -/
def Committed (s t : State) : Prop :=
  (t.per.last = some s.clk.now ∧ t.per.pseq = s.nextPseq ∧ t.per.queued = false ∧ t.dict.dirty = []) ∨
    (t.per.stopped = true ∧ t.per.queued = false ∧ t.ldl.imgState = 5)

/-! ### Tiles (04 R122 to R124, R151) -/

/-- A bundle issues whole on tile k: the tile is RUNNING in an awake Skillet, its PC names a bundle, the bundle is
legal, and nothing stalls, breaks or faults it (04 R122, R123, R146, R151). -/
structure Runs (s : State) (k : Nat) (b : Slots) : Prop where
  live : s.live = true
  tile : k < s.build.tiles
  running : s.issues k = true
  inside : (s.tile k).r.pc < (s.tile k).c.nbundle
  legal : b.illegal = none
  free : s.stall k b = none
  unbroken : s.breaks k = false
  sound : s.bundleFault k b = none

/-- A tile after an issue: its next bundle, its registers, and whether the bundle costs the next TCLK (04 R124). -/
def Tile.onward (o : Tile) (now pc : Nat) (r : TileRegs) (hold : Bool := false) : Tile :=
  { o with
    r := { r with pc := pc }
    x := { o.x with
      blocked := none, stuckAt := none, asleep := false, moved := now, hold := hold, passBp := false } }

/-- The fault record of a tile that faults at its bundle (04 R146): the code, the index, the slot and the FTC. -/
def Tile.record (o : Tile) (code slot ftc : Nat) : Nat :=
  code * 2 ^ 56 + (o.r.pc % 1024) * 2 ^ 46 + slot * 2 ^ 44 + ftc % 2 ^ 44

/-- A tile that has entered FAULTED at its bundle (04 R146). -/
def Tile.faulted (o : Tile) (code slot ftc : Nat) : Tile :=
  { o with
    cr := { o.cr with fault := o.record code slot ftc }
    c := { o.c with state := 5, frozen := false, stopped := false, failing := none }
    x := { o.x with blocked := none, stuckAt := none, asleep := false } }

/-- A tile that a fault has stopped at its bundle, and that enters FAULTED once its work has run out (04 R146). -/
def Tile.failed (o : Tile) (code slot : Nat) : Tile :=
  { o with
    c := { o.c with failing := some ⟨code, o.r.pc % 1024, slot⟩ }
    x := { o.x with blocked := none, stuckAt := none, asleep := false } }

/-- Only the tiles of a list change, no saved context and no ledger. -/
def Alone (s t : State) (l : List Nat) : Prop :=
  (∀ j, l.contains j = false → t.tile j = s.tile j) ∧ t.tl.saves = s.tl.saves ∧ t.tl.ledger = s.tl.ledger

/-- The tile and the bundle of a tile operation: its slot word, and no-operations in the other slots (04 R121). -/
def tileOp (i : Instr) : Option (Nat × Slots) :=
  match i with
  | .ldv k w | .stv k w | .lds k w | .sts k w | .movi k w | .alu k w | .alui k w | .bcast k w | .vtog k w | .ldm k w
  | .stm k w | .xfer k w | .rdctr k w | .rdcr k w | .setl k w | .wrcr k w => some (k, { mv := w })
  | .mma k w | .aczero k w => some (k, { ar := w })
  | .fadd k w | .fsub k w | .fmul k w | .ffma k w | .fmax k w | .fmin k w | .fsgn k w | .fcmp k w | .sel k w | .fexp k w
  | .fexpa k w | .frcp k w | .fsqrt k w | .fmuli k w | .faddi k w | .iadd k w | .isub k w | .imul k w | .logic k w
  | .shift k w | .iminmax k w | .red k w | .perm k w | .cvtn k w | .cvts k w | .cvtw k w | .cvti k w | .acrd k w
  | .acwr k w => some (k, { ve := w })
  | .sig k w | .subCtr k w | .wait k w | .fence k w | .br k w | .brz k w | .loop k w | .halt k w => some (k, { sy := w })
  | _ => none

end Machine

end Sys2Proof
end

