-- ==== Sys2Proof/WellFormed.lean ====
section
/-! DEFINITION. When a command is well formed in a build: the units that it names exist and its operands lie in their
ranges. A command that is not is refused by name; nothing else is refused. -/

namespace Sys2Proof

open Sys2Proof.Machine

/-- The slot word of a tile operation: the tile exists, the word fits its slot, and its operation code is the row's
(04 R125, R131, R137, R142). -/
def slotWord (b : Build) (tile word width op code : Nat) : Bool :=
  decide (tile < b.tiles) && decide (word < 2 ^ width) && decide (code = op)

/-- A command is well formed in a build. -/
def Instr.wellFormed (b : Build) (i : Instr) : Bool :=
  match i with
  | .ingressCell port cell => decide (port < b.A) && decide (cell.length = 256)
  | .reassemblyTimeout req seq att => decide (req < 2 ^ 20) && decide (seq < 2 ^ 32) && decide (att < 16)
  | .lateCellWindowEnd req seq att => decide (req < 2 ^ 20) && decide (seq < 2 ^ 32) && decide (att < 16)
  | .orderedRelease req seq => decide (req < 2 ^ 20) && decide (seq < 2 ^ 32)
  | .holdTimeEnd req seq => decide (req < 2 ^ 20) && decide (seq < 2 ^ 32)
  | .doneTableWriteAccepted entry slot => decide (entry < b.reqEntries) && decide (slot < 64)
  | .egressCell port => decide (port < b.A)
  | .egressCredit port => decide (port < b.A)
  | .portUp port => decide (port < b.A)
  | .portDown port => decide (port < b.A)
  | .read req seq => decide (req < 2 ^ 20) && decide (seq < 2 ^ 32)
  | .write req seq => decide (req < 2 ^ 20) && decide (seq < 2 ^ 32)
  | .accum req seq => decide (req < 2 ^ 20) && decide (seq < 2 ^ 32)
  | .windowedPartialApply req seq => decide (req < 2 ^ 20) && decide (seq < 2 ^ 32)
  | .redOpen req seq => decide (req < 2 ^ 20) && decide (seq < 2 ^ 32)
  | .redClose req seq => decide (req < 2 ^ 20) && decide (seq < 2 ^ 32)
  | .slotClose part slot => decide (part < 64) && decide (slot < 2 ^ 32)
  | .partialAnswer ep seq code orig =>
    decide (ep < 2 ^ 20) && decide (seq < 2 ^ 32) && decide (code < 256) && decide (orig < 256)
  | .slotWaitExpiry part slot => decide (part < 64) && decide (slot < 2 ^ 32)
  | .slotOpenFtc ctx entry => decide (ctx < 16) && decide (entry < 2048)
  | .slotCloseFtc part slot => decide (part < 64) && decide (slot < 2 ^ 32)
  | .mcast req seq => decide (req < 2 ^ 20) && decide (seq < 2 ^ 32)
  | .mcastDelivery group step member ofs =>
    decide (group < 1024) && decide (step < 2 ^ 64) && decide (member < 4096) && decide (ofs < 2 ^ 40)
  | .oweWaitExpiry group step member ofs =>
    decide (group < 1024) && decide (step < 2 ^ 64) && decide (member < 4096) && decide (ofs < 2 ^ 40)
  | .oweRetry group step member ofs =>
    decide (group < 1024) && decide (step < 2 ^ 64) && decide (member < 4096) && decide (ofs < 2 ^ 40)
  | .mcastDeadline part step => decide (part < 64) && decide (step < 2 ^ 64)
  | .kvAppend req seq => decide (req < 2 ^ 20) && decide (seq < 2 ^ 32)
  | .attnQuery req seq => decide (req < 2 ^ 20) && decide (seq < 2 ^ 32)
  | .queryStart set => decide (set < 64)
  | .queryComplete set => decide (set < 64)
  | .spillAnswer ep seq code orig aux _ payload =>
    decide (ep < 2 ^ 20 ∧ seq < 2 ^ 32 ∧ code < 256 ∧ orig < 256 ∧ aux < 2 ^ 32 ∧ payload.length < 2 ^ 24)
  | .spillWaitExpiry req seq n => decide (req < 2 ^ 20) && decide (seq < 2 ^ 32) && decide (n < 4)
  | .runaheadFetch set pieces => decide (set < 64) && decide (pieces < 256)
  | .ctxRelease src handle ctx => srcOk src && decide (handle < 2 ^ 24 ∧ ctx < 2 ^ 32)
  | .contextFreed handle ctx => decide (handle < 2 ^ 24) && decide (ctx < 2 ^ 32)
  | .optStep req seq => decide (req < 2 ^ 20) && decide (seq < 2 ^ 32)
  | .updateStart set => decide (set < 16)
  | .updateComplete set => decide (set < 16)
  | .mirrorAnswer ep seq code orig =>
    decide (ep < 2 ^ 20) && decide (seq < 2 ^ 32) && decide (code < 256) && decide (orig < 256)
  | .mirrorWaitExpiry id => decide (id < 2 ^ 32)
  | .vote part step => decide (part < 64) && decide (step < 2 ^ 64)
  | .voteAnswer ep seq code orig aux =>
    decide (ep < 2 ^ 20) && decide (seq < 2 ^ 32) && decide (code < 256) && decide (orig < 256) && decide (aux <
      2 ^ 32)
  | .commitDecisionEdge ctx => decide (ctx < 16)
  | .commitEdge part step => decide (part < 64) && decide (step < 2 ^ 64)
  | .foldComplete desc => decide (desc < 16384)
  | .stepDecide src step action k => srcOk src && decide (step < 2 ^ 64 ∧ action < 256 ∧ k < 256)
  | .setCkpt src handle step => srcOk src && decide (handle < 2 ^ 24 ∧ step < 2 ^ 64)
  | .setCommitted src handle step => srcOk src && decide (handle < 2 ^ 24 ∧ step < 2 ^ 64)
  | .restoreLog src handle ep srcHandle first last _ =>
    srcOk src && decide (handle < 2 ^ 24 ∧ ep < 2 ^ 20 ∧ srcHandle < 2 ^ 24 ∧ first < 2 ^ 64 ∧ last < 2 ^ 64)
  | .restoreRun src handle last => srcOk src && decide (handle < 2 ^ 24 ∧ last < 2 ^ 64)
  | .sync req seq => decide (req < 2 ^ 20) && decide (seq < 2 ^ 32)
  | .barrier req seq => decide (req < 2 ^ 20) && decide (seq < 2 ^ 32)
  | .barrierAnswer ep seq code orig aux =>
    decide (ep < 2 ^ 20 ∧ seq < 2 ^ 32 ∧ code < 256 ∧ orig < 256 ∧ aux < 2 ^ 32)
  | .remoteSignalSend => true
  | .remoteSignalAnswer ep seq code orig => decide (ep < 2 ^ 20 ∧ seq < 2 ^ 32 ∧ code < 256 ∧ orig < 256)
  | .launch req seq => decide (req < 2 ^ 20) && decide (seq < 2 ^ 32)
  | .armingComplete ctx => decide (ctx < 16)
  | .armingDeadline ctx => decide (ctx < 16)
  | .launchEdge ctx => decide (ctx < 16)
  | .programEntryFire ctx entry => decide (ctx < 16) && decide (entry < 2048)
  | .contextEnd ctx => decide (ctx < 16)
  | .readObject src idx sub ofs len => srcOk src && decide (idx < 2 ^ 16 ∧ sub < 256 ∧ ofs < 2 ^ 32 ∧ len < 2 ^ 32)
  | .writeObject src idx sub ofs data =>
    srcOk src && decide (idx < 2 ^ 16 ∧ sub < 256 ∧ ofs < 2 ^ 32 ∧ data.length < 2 ^ 32)
  | .bulkRead src idx sub ofs len => srcOk src && decide (idx < 2 ^ 16 ∧ sub < 256 ∧ ofs < 2 ^ 32 ∧ len < 2 ^ 32)
  | .bulkWrite src idx sub ofs data =>
    srcOk src && decide (idx < 2 ^ 16 ∧ sub < 256 ∧ ofs < 2 ^ 32 ∧ data.length < 2 ^ 32)
  | .status tag => decide (tag < 16)
  | .hold tag arg => decide (tag < 16) && decide (arg < 256)
  | .bootSelect tag arg => decide (tag < 16) && decide (arg < 256)
  | .flashRead tag addr len => decide (tag < 16) && decide (addr < 2 ^ 32) && decide (len < 2 ^ 32)
  | .flashErase tag addr => decide (tag < 16) && decide (addr < 2 ^ 32)
  | .flashProgram tag addr _ => decide (tag < 16) && decide (addr < 2 ^ 32)
  | .eventPeek tag => decide (tag < 16)
  | .lockReq src digit => srcOk src && decide (digit < 256)
  | .lockCommit src digit => srcOk src && decide (digit < 256)
  | .lockAbort src digit => srcOk src && decide (digit < 256)
  | .lockExpired digit => lockDomains.contains digit
  | .regionCreate src rec_ => srcOk src && decide (rec_.length < 2 ^ 32)
  | .regionRetire src handle => srcOk src && decide (handle < 2 ^ 24)
  | .regionRdonly src handle value => srcOk src && decide (handle < 2 ^ 24 ∧ value < 256)
  | .regionDrained desc => decide (desc < 16384)
  | .zeroingComplete desc => decide (desc < 16384)
  | .imageHashCheck desc ofs => decide (desc < 16384) && decide (ofs < 2 ^ 40)
  | .schedVerify src handle => srcOk src && decide (handle < 2 ^ 24)
  | .regionHeader src handle => srcOk src && decide (handle < 2 ^ 24)
  | .digestStatus src handle => srcOk src && decide (handle < 2 ^ 24)
  | .regionDesc src handle => srcOk src && decide (handle < 2 ^ 24)
  | .rehashPass desc => decide (desc < 16384)
  | .ladelSignal src ctr amount => srcOk src && decide (ctr < 2 ^ 32 ∧ amount < 2 ^ 32)
  | .ftcPulse _ value phase => decide (value < 2 ^ 64) && decide (phase < 8)
  | .pulseTimeout => true
  | .holdoverMaxExpiry => true
  | .ftcResync src value => srcOk src && decide (value < 256)
  | .wheelTableEffect table => decide (1 ≤ table ∧ table ≤ 3)
  | .budgetWindowEdge => true
  | .arbiterRound kind inst reqs =>
    b.hasArb kind inst && reqs.all (fun r => decide (r.idx < 65536) && b.hasOrigin r.src)
  | .granuleRequestAccept stack _ bpa mask data src unit _ =>
    decide (stack < b.S) && decide (mask < 2 ^ 64) && decide (data.length = 64) && b.hasOrigin src &&
      decide (unit < 65536) && decide (bpa % 64 = 0)
  | .stackCommandIssue stack pc => b.hasPc stack pc
  | .writeRetire stack pc _ => b.hasPc stack pc
  | .granuleReadDecode stack pc _ word lost _ seq =>
    b.hasPc stack pc && decide (word.length = 72) && decide (lost < 4) && decide (seq < 2 ^ 32)
  | .ageLimitAged stack pc _ => b.hasPc stack pc
  | .pageIdlePrecharge stack pc bank => b.hasPc stack pc && decide (bank < 64)
  | .refreshDebtTick stack pc => b.hasPc stack pc
  | .refpb stack pc => b.hasPc stack pc
  | .rfm stack pc bank => b.hasPc stack pc && decide (bank < 64)
  | .powerDownEntry stack pc sid => b.hasPc stack pc && decide (sid < 4)
  | .tempPoll stack reading => decide (stack < b.S) && decide (-2147483648 ≤ reading) && decide (reading < 2147483648)
  | .mergeWriteBack stack pc _ => b.hasPc stack pc
  | .patrolScrub stack pc word => b.hasPc stack pc && wordOk72 word
  | .remapRow stack pc sid bank row =>
    b.hasPc stack pc && decide (sid < 4) && decide (bank < 16) && decide (row < 16384)
  | .remapActive stack pc entry => b.hasPc stack pc && decide (entry < 8)
  | .postPackageRepair stack pc entry _ => b.hasPc stack pc && decide (entry < 8)
  | .retireRank src stack vpc sid => srcOk src && decide (stack < 256 ∧ vpc < 256 ∧ sid < 256)
  | .migrationRowCopy stack words =>
    decide (stack < b.S) && decide (words.length = 16) && words.all wordOk72
  | .training stack ch _ maps verify =>
    b.hasChan stack ch && decide (maps.length = 322) && maps.all (fun m => decide (m < 2 ^ 64)) && decide
      (verify.length = 152)
  | .sweepComplete stack ch maps =>
    b.hasChan stack ch && decide (maps.length = 282) && maps.all fun m => decide (m < 2 ^ 64)
  | .patgenCtl src stack ch w => srcOk src && decide (stack < 8 ∧ ch < 32 ∧ w < 2 ^ 64)
  | .sweepCtl src stack ch w => srcOk src && decide (stack < 8 ∧ ch < 32 ∧ w < 2 ^ 64)
  | .cmpCtl src stack ch w => srcOk src && decide (stack < 8 ∧ ch < 32 ∧ w < 2 ^ 64)
  | .testHold src stack ch value => srcOk src && decide (stack < 8 ∧ ch < 32 ∧ value < 256)
  | .histogramComplete stack ch lane bins => b.hasChan stack ch && decide (lane < 76) && decide (bins.length = 32)
  | .tapMove stack ch lane => b.hasChan stack ch && decide (lane < 94)
  | .retrain src stack ch trig => match src with
    | none => b.hasChan stack ch && decide (1 ≤ trig ∧ trig ≤ 7)
    | some x => srcOk x && decide (stack < 8 ∧ ch < 32 ∧ trig = 8)
  | .retrainPeriodExpiry stack ch => b.hasChan stack ch
  | .caParityAlert stack ch => b.hasChan stack ch
  | .standinFillEnd stack => decide (stack < b.S)
  | .standinReturnEnd stack => decide (stack < b.S)
  | .splitWindow stack ch => b.hasChan stack ch
  | .trivetInterval temps =>
    decide (temps.length = b.domains.length + 1) && temps.all fun t => decide (-2147483648 ≤ t) && decide (t <
      2147483648)
  | .vidStep _ _ => true
  | .domainStepDown d => b.hasDomain d
  | .domainWake d => b.hasDomain d
  | .domainExit d => b.hasDomain d
  | .domainReset src d => srcOk src && decide (d < 88)
  | .drainLimitExpiry d => b.hasDomain d
  | .blockPark src => srcOk src
  | .mainPowerFail => true
  | .railGoodLost rail => decide (rail < 3)
  | .keepSwitch => true
  | .keepReturn => true
  | .keepLost => true
  | .pllLockLost => true
  | .pllLock => true
  | .coldStart bins => decide (bins.length = b.S) && bins.all fun b => decide (b < 8)
  | .coldReset => true
  | .railTimeoutExpiry rail => decide (rail < 3)
  | .warmStart src => match src with
    | none => true
    | some x => srcOk x
  | .coreWatchdogExpiry core => decide (core < 6)
  | .imageProgram src => srcOk src
  | .fwUpdate src => srcOk src
  | .dutyHandover => true
  | .probationEnd => true
  | .imageCommit src => srcOk src
  | .commitMinGapExpiry => true
  | .stressSave => true
  | .libInstall src number handle ofs => srcOk src && decide (number < 256 ∧ handle < 2 ^ 24 ∧ ofs < 2 ^ 64)
  | .eventAck src pos => srcOk src && decide (pos < 2 ^ 64)
  | .eventNotification => true
  | .eggTimerEvaluate => true
  | .snapshotCapture => true
  | .ctrCtl src d k w => srcOk src && decide (d < 88 ∧ k < 8 ∧ w < 2 ^ 64)
  | .ctrClear src d => srcOk src && decide (d < 88)
  | .sampleCtl src n w => srcOk src && decide (n < 64 ∧ w < 2 ^ 64)
  | .sampleClear src n => srcOk src && decide (n < 64)
  | .debugChallenge src => srcOk src
  | .debugResponse src data => srcOk src && decide (data.length < 2 ^ 32)
  | .debugLock src => srcOk src
  | .unlockDurationExpiry => true
  | .counterSet src data => srcOk src && decide (data.length < 2 ^ 32)
  | .tileControl src data => srcOk src && decide (data.length < 2 ^ 32)
  | .bpSet src data => srcOk src && decide (data.length < 2 ^ 32)
  | .arbFreeze src data => srcOk src && decide (data.length < 2 ^ 32)
  | .bypass => true
  | .idcode => true
  | .samplePreload _ => true
  | .extest => true
  | .stack1500 stack => decide (stack < b.S)
  | .tileLoad first count handle ofs part =>
    decide (0 < count) && decide (first + count ≤ b.tiles) && decide (handle < 2 ^ 24) && decide (part < 64) &&
      decide (ofs < 2 ^ 64)
  | .tileStart tile => decide (tile < b.tiles)
  | .tileStop tile => decide (tile < b.tiles)
  | .tileSave tile => decide (tile < b.tiles)
  | .tileRestore tile => decide (tile < b.tiles)
  | .tileDiscard tile => decide (tile < b.tiles)
  | .tileSleep tile => decide (tile < b.tiles)
  | .transferStart tile => decide (tile < b.tiles)
  | .transferComplete tile => decide (tile < b.tiles)
  | .mmaStart tile => decide (tile < b.tiles)
  | .fenceComplete tile => decide (tile < b.tiles)
  | .ldv tile word => slotWord b tile word 64 1 (mvOp word)
  | .stv tile word => slotWord b tile word 64 2 (mvOp word)
  | .lds tile word => slotWord b tile word 64 3 (mvOp word)
  | .sts tile word => slotWord b tile word 64 4 (mvOp word)
  | .movi tile word => slotWord b tile word 64 5 (mvOp word)
  | .alu tile word => slotWord b tile word 64 6 (mvOp word)
  | .alui tile word => slotWord b tile word 64 7 (mvOp word)
  | .bcast tile word => slotWord b tile word 64 8 (mvOp word)
  | .vtog tile word => slotWord b tile word 64 9 (mvOp word)
  | .ldm tile word => slotWord b tile word 64 10 (mvOp word)
  | .stm tile word => slotWord b tile word 64 11 (mvOp word)
  | .xfer tile word => slotWord b tile word 64 12 (mvOp word)
  | .rdctr tile word => slotWord b tile word 64 13 (mvOp word)
  | .rdcr tile word => slotWord b tile word 64 14 (mvOp word)
  | .setl tile word => slotWord b tile word 64 15 (mvOp word)
  | .wrcr tile word => slotWord b tile word 64 16 (mvOp word)
  | .mma tile word => slotWord b tile word 56 1 (arOp word)
  | .aczero tile word => slotWord b tile word 56 2 (arOp word)
  | .fadd tile word => slotWord b tile word 72 1 (veOp word)
  | .fsub tile word => slotWord b tile word 72 2 (veOp word)
  | .fmul tile word => slotWord b tile word 72 3 (veOp word)
  | .ffma tile word => slotWord b tile word 72 4 (veOp word)
  | .fmax tile word => slotWord b tile word 72 5 (veOp word)
  | .fmin tile word => slotWord b tile word 72 6 (veOp word)
  | .fsgn tile word => slotWord b tile word 72 7 (veOp word)
  | .fcmp tile word => slotWord b tile word 72 8 (veOp word)
  | .sel tile word => slotWord b tile word 72 9 (veOp word)
  | .fexp tile word => slotWord b tile word 72 10 (veOp word)
  | .fexpa tile word => slotWord b tile word 72 11 (veOp word)
  | .frcp tile word => slotWord b tile word 72 12 (veOp word)
  | .fsqrt tile word => slotWord b tile word 72 13 (veOp word)
  | .fmuli tile word => slotWord b tile word 72 14 (veOp word)
  | .faddi tile word => slotWord b tile word 72 15 (veOp word)
  | .iadd tile word => slotWord b tile word 72 16 (veOp word)
  | .isub tile word => slotWord b tile word 72 17 (veOp word)
  | .imul tile word => slotWord b tile word 72 18 (veOp word)
  | .logic tile word => slotWord b tile word 72 19 (veOp word)
  | .shift tile word => slotWord b tile word 72 20 (veOp word)
  | .iminmax tile word => slotWord b tile word 72 21 (veOp word)
  | .red tile word => slotWord b tile word 72 24 (veOp word)
  | .perm tile word => slotWord b tile word 72 25 (veOp word)
  | .cvtn tile word => slotWord b tile word 72 26 (veOp word)
  | .cvts tile word => slotWord b tile word 72 27 (veOp word)
  | .cvtw tile word => slotWord b tile word 72 28 (veOp word)
  | .cvti tile word => slotWord b tile word 72 29 (veOp word)
  | .acrd tile word => slotWord b tile word 72 30 (veOp word)
  | .acwr tile word => slotWord b tile word 72 31 (veOp word)
  | .sig tile word => slotWord b tile word 64 1 (syOp word)
  | .subCtr tile word => slotWord b tile word 64 2 (syOp word)
  | .wait tile word => slotWord b tile word 64 3 (syOp word)
  | .fence tile word => slotWord b tile word 64 4 (syOp word)
  | .br tile word => slotWord b tile word 64 5 (syOp word)
  | .brz tile word => slotWord b tile word 64 6 (syOp word)
  | .loop tile word => slotWord b tile word 64 7 (syOp word)
  | .halt tile word => slotWord b tile word 64 8 (syOp word)
  | .originatedFrameResend ep seq => decide (ep < 2 ^ 20) && decide (seq < 2 ^ 32)
  | .pwrMainFailClear => true
  | .railGoodRise rail => decide (rail < 3)
  | .errWindowEdge => true

end Sys2Proof
end

