-- ==== Sys2Proof/Certificates/Slice0/Obligations.lean ====
section
/-! DEFINITION. The statements for the provers, from the numbered rules of spec/, family by family of the table. -/

open Sys2Proof Sys2Proof.Machine

/-! ### Attach ports and frames (02, 10) -/

/-- 02 R37, R38, R40, R59 steps 1 and 2: a cell without an ingress credit, with a failing CCRC or HCRC, with an
invalid prefix, of a key that is late, or of a frame of the block's own is dropped, counted where the chapter names a
tally, and nothing else of the block changes but what its arrival wakes (that HCRC failures share the tally of CCRC
failures, and that duplicate cells share the tally of duplicates in progress, is the model's choice, log 11). A good
payload cell is held under its key and INDEX and takes one of the port's credits, and no other parked cell is lost;
one whose INDEX is held already is dropped and counted; where the port is crowded with incomplete frames, R64 applies
and not this statement. -/
def Obligations.CellsAreCheckedAndParked : Prop :=
  ∀ (s : State) (p : Nat) (c : List Byte), s.live = true → p < s.build.A → c.length = 256 →
    (s.credits p = 0 → exec (.ingressCell p c) s = .next (s.portBump p 2 1 none)) ∧
    (s.credits p ≠ 0 → ccrcBad c = true → exec (.ingressCell p c) s = .next ((s.woken p).portBump p 1 1 none)) ∧
    (s.credits p ≠ 0 → ccrcBad c = false → pfxBad c = true →
      exec (.ingressCell p c) s = .next ((s.woken p).portBump p 3 1 none)) ∧
    (s.credits p ≠ 0 → ccrcBad c = false → pfxBad c = false → (3 ≤ pfxKind c ∨ s.isLate (cellKey c) = true) →
      exec (.ingressCell p c) s = .next (s.woken p)) ∧
    (s.credits p ≠ 0 → ccrcBad c = false → pfxBad c = false → s.isLate (cellKey c) = false →
      (pfxKind c = 1 → hcrcBad (cellHdr c) = true →
        exec (.ingressCell p c) s = .next ((s.woken p).portBump p 1 1 none)) ∧
      (pfxKind c = 2 → (∃ x y, mapFind s.frm.reasm (cellKey c) = some x ∧ mapFind x.cells (pfxIndex c) = some y) →
        exec (.ingressCell p c) s = .next ((s.woken p).portBump p 4 1 none)) ∧
      (pfxKind c = 2 → (∀ x, mapFind s.frm.reasm (cellKey c) = some x → mapFind x.cells (pfxIndex c) = none) →
        (s.park p (cellKey c) c).crowd p < 3072 →
        Completes (.ingressCell p c) s [.frm, .pwr, .stress, .arb] fun t =>
          (∃ x, mapFind t.frm.reasm (cellKey c) = some x ∧ mapFind x.cells (pfxIndex c) = some ⟨p, c, s.frm.order⟩) ∧
          (t.port p).held = (s.port p).held + 1 ∧
          (∀ k, k ≠ cellKey c → mapFind t.frm.reasm k = mapFind s.frm.reasm k) ∧
          t.frm.summ = s.frm.summ ∧ t.frm.done = s.frm.done ∧ t.frm.pend = s.frm.pend))

/-- 02 R59 steps 3 to 9, R60: a header cell from an endpoint that no entry of REQ_TABLE binds to its partition, one
outside the window, one of a number in progress, one whose format is at fault, one of red colour, one refused by an
address check and one refused by its opcode's chapter each get the answer of the first of the steps that fails, in
this order (an entry binds a peer to every partition, and a query of a spill block's home to the partition of
HOME_HANDLE, 06 R199). A number beyond HIGH takes its slots over first. -/
def Obligations.HeaderCellsAreJudgedInOrder : Prop :=
  ∀ (s : State) (p : Nat) (c : List Byte) (v : State) (colour : Nat), s.live = true → p < s.build.A → c.length = 256 →
    s.credits p ≠ 0 → ccrcBad c = false → pfxBad c = false → pfxKind c = 1 → s.isLate (cellKey c) = false →
    hcrcBad (cellHdr c) = false → s.painted p c = (v, colour) →
    ((∀ r, v.findReq (pfxReq c) = some r → v.bindsPart r (pfxReq c) (cellHdr c) = false) →
      exec (.ingressCell p c) s =
        .next ((v.answer p (pfxReq c) (pfxSeq c) (pfxAtt c) (cellHdr c) cPartition 0 1).relieve p)) ∧
    (∀ r, v.findReq (pfxReq c) = some r → v.bindsPart r (pfxReq c) (cellHdr c) = true →
      ((v.classify r (pfxSeq c) (pfxAtt c) = .out ∨ v.classify r (pfxSeq c) (pfxAtt c) = .violation) →
        exec (.ingressCell p c) s =
          .next (((v.answer p (pfxReq c) (pfxSeq c) (pfxAtt c) (cellHdr c) cSequence 0 (v.summary r).high).portBump p 6 1
            none).relieve p)) ∧
      (v.classify r (pfxSeq c) (pfxAtt c) = .progress →
        exec (.ingressCell p c) s =
          .next (((v.answer p (pfxReq c) (pfxSeq c) (pfxAtt c) (cellHdr c) cDupInProgress 0 0).portBump p 4 1
            none).relieve p)) ∧
      (∀ w, ((v.classify r (pfxSeq c) (pfxAtt c) = .takeover ∧ w = v.takeOver r (pfxSeq c)) ∨
          ((v.classify r (pfxSeq c) (pfxAtt c) = .fresh ∨ v.classify r (pfxSeq c) (pfxAtt c) = .attempt) ∧ w = v)) →
        (∀ aux, w.formatFault (cellHdr c) (pfxReq c) (pfxSeq c) (pfxAtt c) (pfxCount c) = some aux →
          exec (.ingressCell p c) s =
            .next ((w.refuse p r (pfxReq c) (pfxSeq c) (pfxAtt c) (cellHdr c) cFormat aux).relieve p)) ∧
        (w.formatFault (cellHdr c) (pfxReq c) (pfxSeq c) (pfxAtt c) (pfxCount c) = none →
          (colour = 2 →
            exec (.ingressCell p c) s =
              .next ((w.refuse p r (pfxReq c) (pfxSeq c) (pfxAtt c) (cellHdr c) cRed 0).relieve p)) ∧
          (colour ≠ 2 → ∀ code aux, w.checkAddress (cellHdr c) (pfxReq c) = some (code, aux) →
            exec (.ingressCell p c) s =
              .next ((w.refuse p r (pfxReq c) (pfxSeq c) (pfxAtt c) (cellHdr c) code aux).relieve p)) ∧
          (colour ≠ 2 → w.checkAddress (cellHdr c) (pfxReq c) = none →
            ∀ code aux, w.checkState (cellHdr c) = some (code, aux) →
            exec (.ingressCell p c) s =
              .next (((w.noteRefused (cellHdr c) code).refuse p r (pfxReq c) (pfxSeq c) (pfxAtt c) (cellHdr c) code
                aux).relieve p)))))

/-- 02 R59 step 10: a header cell that passes every step is admitted: its operation stands, its slot is OPEN, the
write of its entry is issued, and OUTSTANDING of its region has gone up by one. Stated for the opcodes whose units
hold nothing for an admitted operation. -/
def Obligations.HeaderCellsAreAdmitted : Prop :=
  ∀ (s : State) (p : Nat) (c : List Byte) (v w : State) (colour r : Nat), s.live = true → p < s.build.A →
    c.length = 256 → s.credits p ≠ 0 → ccrcBad c = false → pfxBad c = false → pfxKind c = 1 →
    s.isLate (cellKey c) = false → hcrcBad (cellHdr c) = false → s.painted p c = (v, colour) →
    v.findReq (pfxReq c) = some r → v.bindsPart r (pfxReq c) (cellHdr c) = true →
    ((v.classify r (pfxSeq c) (pfxAtt c) = .takeover ∧ w = v.takeOver r (pfxSeq c)) ∨
      ((v.classify r (pfxSeq c) (pfxAtt c) = .fresh ∨ v.classify r (pfxSeq c) (pfxAtt c) = .attempt) ∧ w = v)) →
    w.formatFault (cellHdr c) (pfxReq c) (pfxSeq c) (pfxAtt c) (pfxCount c) = none → colour ≠ 2 →
    w.checkAddress (cellHdr c) (pfxReq c) = none → w.checkState (cellHdr c) = none →
    [opRead, opWrite, opMcast, opSync, opBarrier, opMgmt].contains (hOp (cellHdr c)) = true →
    (w.admitAt p r (pfxReq c) (pfxSeq c) (pfxAtt c) (cellHdr c) c (decide (colour = 1))).crowd p < 3072 →
    Completes (.ingressCell p c) s [.frm, .rgn, .pwr, .stress, .obs, .cls, .arb, .tally] fun t =>
      (∃ o, t.op (opKey (pfxReq c) (pfxSeq c)) = some o ∧ o.req = pfxReq c ∧ o.seq = pfxSeq c ∧ o.att = pfxAtt c ∧
        o.hdr = cellHdr c ∧ o.port = p ∧ o.r = r ∧ o.phase = 0 ∧ o.adm = s.clk.now ∧ o.region = opRegion (cellHdr c)) ∧
      (t.summary r).slots = (w.summary r).slots.set (pfxSeq c % 64) 1 ∧
      (∃ q ∈ t.frm.pend, q.r = r ∧ q.slot = pfxSeq c % 64 ∧ q.entry.seq = pfxSeq c ∧ q.entry.state = 1 ∧
        q.entry.opcode = hOp (cellHdr c) ∧ q.resp = none) ∧
      (∀ d x, opRegion (cellHdr c) = some d → mapFind s.rgn.desc d = some x →
        mapFind t.rgn.desc d = some { x with outstanding := x.outstanding + 1 })

/-- 02 R70: a header cell of a number that has been answered gets DUP_ANSWERED: ORIG is the recorded CODE and AUX the
recorded AUX; it carries the held payload and digest where HELD is 1, and otherwise no payload, with NOT_HELD set if the
original response had a payload or a digest. Nothing is recorded. -/
def Obligations.DuplicatesAreAnsweredFromTheRecord : Prop :=
  ∀ (s : State) (p : Nat) (c : List Byte) (v : State) (colour r q : Nat) (e : DoneEntry), s.live = true →
    p < s.build.A → c.length = 256 → s.credits p ≠ 0 → ccrcBad c = false → pfxBad c = false → pfxKind c = 1 →
    s.isLate (cellKey c) = false → hcrcBad (cellHdr c) = false → s.painted p c = (v, colour) →
    v.findReq (pfxReq c) = some r → v.bindsPart r (pfxReq c) (cellHdr c) = true →
    v.classify r (pfxSeq c) (pfxAtt c) = .dup → e = v.doneView r (pfxSeq c % 64) → q = v.egressQ (hClass (cellHdr c)) →
    q < (s.port p).queues.length → (v.dupAnswer p r (pfxReq c) (pfxSeq c) (pfxAtt c) (cellHdr c)).crowd p < 3072 →
    Completes (.ingressCell p c) s [.frm, .pwr, .stress, .obs, .cls, .arb, .tally] fun t =>
      t.frm.ops = s.frm.ops ∧ t.frm.summ = s.frm.summ ∧ t.frm.pend = s.frm.pend ∧ t.frm.holds = s.frm.holds ∧
      ∃ f, (t.port p).queues.getD q [] = (s.port p).queues.getD q [] ++ [f] ∧ f.sent = 0 ∧ f.resp.req = pfxReq c ∧
        f.resp.seq = pfxSeq c ∧ f.resp.att = pfxAtt c ∧ f.resp.code = cDupAnswered ∧ f.resp.orig = e.code ∧
        f.resp.aux = e.aux % 2 ^ 32 ∧
        (e.held = true → ∀ g, (s.frm.holds.find? fun g => decide (g.resp.req = pfxReq c) &&
            decide (g.resp.seq = pfxSeq c)) = some g →
          f.resp.payload = g.resp.payload ∧ f.resp.digest = g.resp.digest) ∧
        (e.held = false → f.resp.payload = [] ∧ f.resp.digest = none ∧ f.resp.notHeld = hadMore (cellHdr c) e)

/-- 02 R61, R64, R45, R69: the four time events of a frame. A frame that is not complete in time is answered
RETRY_INCOMPLETE with the cells received where its header was admitted, and its cells are freed silently otherwise; a
decided key may be used again once its window has ended; an ORDERED frame that waits for nothing more begins; a held
response leaves the ring and HELD returns to 0. -/
def Obligations.TimeEventsOfAFrame : Prop :=
  (∀ (s : State) (req seq att : Nat) (x : Reasm), s.live = true → req < 2 ^ 20 → seq < 2 ^ 32 → att < 16 →
    mapFind s.frm.reasm (raKey req seq att) = some x → x.whole = false →
    s.since x.first (usR (s.param 0x5100 2)) = true →
    (s.op (opKey req seq) = none →
      Completes (.reassemblyTimeout req seq att) s [.frm, .obs, .tally] fun t =>
        mapFind t.frm.reasm (raKey req seq att) = none ∧ t.frm.pend = s.frm.pend ∧ t.frm.ops = s.frm.ops) ∧
    (∀ o, s.op (opKey req seq) = some o → o.req = req → o.seq = seq → o.att = att → x.admitted = true →
      Completes (.reassemblyTimeout req seq att) s
        [.mem, .frm, .rgn, .wsk, .mc, .syn, .sch, .pwr, .att, .par, .obs, .cls, .tally] fun t =>
        Answered s t o cIncomplete x.cells.length [] ∧ t.mem.bytes = s.mem.bytes)) ∧
  (∀ (s : State) (req seq att t0 : Nat), s.live = true → req < 2 ^ 20 → seq < 2 ^ 32 → att < 16 →
    mapFind s.frm.late (raKey req seq att) = some t0 → s.since t0 (usR (s.param 0x5100 2)) = true →
    Completes (.lateCellWindowEnd req seq att) s [.frm] fun t =>
      t.isLate (raKey req seq att) = false ∧ t.frm.reasm = s.frm.reasm ∧ t.frm.ops = s.frm.ops ∧
      ∀ k, k ≠ raKey req seq att → mapFind t.frm.late k = mapFind s.frm.late k) ∧
  (∀ (s : State) (req seq : Nat) (o : OpRec), s.live = true → req < 2 ^ 20 → seq < 2 ^ 32 →
    s.op (opKey req seq) = some o → o.req = req → o.seq = seq → o.waits = [seq] →
    Completes (.orderedRelease req seq) s [.frm] fun t =>
      (∃ p, t.op (opKey req seq) = some p ∧ p.waits = [] ∧ p.hdr = o.hdr ∧ p.phase = o.phase) ∧
      (∀ k, k ≠ opKey req seq → t.op k = s.op k) ∧ t.frm.summ = s.frm.summ ∧ t.frm.pend = s.frm.pend) ∧
  (∀ (s : State) (req seq t0 : Nat) (g : HoldRec), s.live = true → req < 2 ^ 20 → seq < 2 ^ 32 →
    (s.frm.holds.find? fun g => decide (g.resp.req = req) && decide (g.resp.seq = seq)) = some g → g.left = some t0 →
    s.since t0 (usR (s.param 0x5100 1)) = true → (s.doneView g.r g.slot).seq = seq → (s.doneView g.r g.slot).held = true →
    Completes (.holdTimeEnd req seq) s [.frm] fun t =>
      t.frm.holds = s.frm.holds.erase g ∧
      t.doneView g.r g.slot = { s.doneView g.r g.slot with held := false, hold := 0 } ∧
      t.frm.ops = s.frm.ops ∧ t.frm.summ = s.frm.summ)

/-- 02 R67, R37; 10 R308, R309: an accepted done-table write stands, and the response that waited for it is staged on
its port where that is up; a port that is up, holds a credit and has sent no cell on the edge sends the next cell of
the queue that wins its round, in which the queues filled on earlier edges take part, the header cell first, and
spends the credit, after the deliveries on it that have waited out OWE_WAIT are owed; a DONE that leaves later than
its class's target leaves as DONE_LATE (10 R316); a credit that the host grants counts. -/
def Obligations.DoneTableWritesAndEgress : Prop :=
  (∀ (s : State) (e i : Nat) (p : PendDone), s.live = true → e < s.build.reqEntries → i < 64 →
    (s.frm.pend.find? fun p => decide (p.r = e) && decide (p.slot = i)) = some p →
    (p.resp = none →
      Completes (.doneTableWriteAccepted e i) s [.frm, .obs, .cls, .tally] fun t =>
        t.doneEntry e i = p.entry ∧ t.frm.pend = s.frm.pend.erase p ∧ t.frm.ports = s.frm.ports) ∧
    (∀ r port, p.resp = some (r, port) → (s.port port).up = true → r.eq < (s.port port).queues.length →
      Completes (.doneTableWriteAccepted e i) s [.frm, .obs, .cls, .tally] fun t =>
        t.doneEntry e i = p.entry ∧ t.frm.pend = s.frm.pend.erase p ∧
        ((t.port port).queues.getD r.eq []).map (·.resp) = ((s.port port).queues.getD r.eq []).map (·.resp) ++ [r]) ∧
    (∀ r port, p.resp = some (r, port) → (s.port port).up = false → r.kind = 3 →
      Completes (.doneTableWriteAccepted e i) s [.frm, .obs, .cls, .tally] fun t =>
        t.doneEntry e i = p.entry ∧ t.frm.pend = s.frm.pend.erase p ∧ t.frm.ports = s.frm.ports)) ∧
  (∀ (s v : State) (p w q rule : Nat) (y : Port) (f g : EgFrame) (rest : List EgFrame), s.live = true → p < s.build.A →
    v = s.oweStale p → y = (v.port p).woken v.clk.now → (v.port p).up = true → (v.port p).txCredit ≠ 0 →
    (v.port p).txAt ≠ some v.pclk → (v.arbAt 4 p).freeze = 0 →
    (v.arbAt 4 p).winner 4 (v.waitLimit 4) (y.requests v.clk.now) = some (w, rule) →
    ((w < 4 ∧ q = w) ∨ (w = 4 ∧ ∃ i, y.pickW v.clk.now = some i ∧ q = 4 + i)) → (v.port p).queues.length = 16 →
    y.queues.getD q [] = f :: rest → (f.resp.kind = 3 ∨ f.resp.kind = 1) →
    ((g = f ∧ (f.sent ≠ 0 ∨ v.lateBy y f = none)) ∨
      (f.sent = 0 ∧ ∃ d, v.lateBy y f = some d ∧
        g = { f with resp := { f.resp with code := cDoneLate, aux := d } })) →
    ((∀ h ∈ (s.port p).queues.flatten, (s.delivOf h.resp).isNone) → v = s) ∧
    Completes (.egressCell p) s
      [.mem, .frm, .rgn, .wsk, .mc, .syn, .sch, .pwr, .stress, .evt, .att, .par, .obs, .cls, .arb, .tally] fun t =>
      (t.port p).tx = g.resp.cell f.sent ∧ (t.port p).txCredit = (v.port p).txCredit - 1 ∧
      (t.port p).queues.getD q [] =
        (if f.sent + 1 < f.resp.payloadCells then { g with sent := f.sent + 1 } :: rest else rest) ∧
      (∀ i, i ≠ q → (t.port p).queues.getD i [] = y.queues.getD i []) ∧
      (∀ i, i ≠ p → t.port i = v.port i) ∧ SameExcept [.frm, .arb, .obs, .tally] v t) ∧
  (∀ (s : State) (p : Nat), s.live = true → p < s.build.A → (s.port p).up = true →
    Completes (.egressCredit p) s [.frm] fun t =>
      t.port p = { s.port p with txCredit := (s.port p).txCredit + 1 } ∧ (∀ q, q ≠ p → t.port q = s.port q) ∧
      t.frm.ops = s.frm.ops ∧ t.frm.pend = s.frm.pend)

/-- 18 R488; 10 R302; 02 R37, R63: a port comes up with no credit on either side; one that stops being up loses its
credits and its queues; a request frame of the block that has no final answer goes out again under its number with
ATTEMPT raised by one. -/
def Obligations.PortsComeUpAndGoDown : Prop :=
  (∀ (s : State) (p : Nat), p < s.build.A → (s.port p).up = false → s.rdy = true →
    Completes (.portUp p) s [.frm] fun t =>
      (t.port p).up = true ∧ (t.port p).host = true ∧ (t.port p).start = some s.clk.now ∧ (t.port p).txCredit = 0 ∧
      t.frm.pend = s.frm.pend ∧ t.frm.ops = s.frm.ops) ∧
  (∀ (s : State) (p : Nat), p < s.build.A → (s.port p).up = true → (∀ q ∈ (s.port p).queues.flatten, q.resp.kind = 3) →
    Completes (.portDown p) s [.frm, .arb, .obs, .tally] fun t =>
      (t.port p).up = false ∧ (t.port p).host = false ∧ (t.port p).start = none ∧ (t.port p).txCredit = 0 ∧
      (t.port p).queues = List.replicate 16 [] ∧ (∀ q, q ≠ p → t.port q = s.port q) ∧ t.frm.ops = s.frm.ops) ∧
  (∀ (s : State) (p : Nat), p < s.build.A → (s.port p).up = true →
    Completes (.portDown p) s
      [.mem, .frm, .rgn, .wsk, .mc, .syn, .sch, .pwr, .evt, .att, .par, .obs, .cls, .arb, .tally] fun t =>
      (t.port p).up = false ∧ (t.port p).host = false ∧ (t.port p).start = none ∧ (t.port p).txCredit = 0 ∧
      (t.port p).queues = List.replicate 16 [] ∧ (∀ q, q ≠ p → (t.port q).up = (s.port q).up) ∧
      t.mem.bytes = s.mem.bytes) ∧
  (∀ (s : State) (ep seq : Nat) (o : OrigFrame), s.live = true → ep < 2 ^ 20 → seq < 2 ^ 32 →
    s.blockEp ≠ 0 → mapFind s.frm.orig (opKey ep seq) = some o → o.dead = false → o.att < 15 →
    Completes (.originatedFrameResend ep seq) s [.frm] fun t =>
      mapFind t.frm.orig (opKey ep seq) = some { o with att := o.att + 1 } ∧
      (∀ k, k ≠ opKey ep seq → mapFind t.frm.orig k = mapFind s.frm.orig k) ∧ t.frm.next = s.frm.next)

/-! ### READ, WRITE and the Whisk (02 R48, R56; 03 R76 to R104) -/

/-- 02 R48, R56; 12 R365: READ answers with the bytes of its range, failing granules as zeros, DONE where no granule
fails and the code and index of the lowest-addressed failing one otherwise; where a table that resolves the range
fails, the code of that failure, and zeros (AUX 0xFFFFFFFF there is the model's choice, log 107). A region without a
mirror keeps every byte. -/
def Obligations.ReadAnswersWithTheRange : Prop :=
  ∀ (s u : State) (req seq : Nat) (o : OpRec) (d : Desc), s.live = true → req < 2 ^ 20 → seq < 2 ^ 32 →
    s.ready req seq opRead = some o → o.req = req → o.seq = seq → d = s.descOf (hdDesc (hHandle o.hdr)) →
    u = s.rheal d (hOfs o.hdr) (hLen o.hdr) →
    (d.mirror = false → u = s) ∧
    (u.tablesFail d (hOfs o.hdr) (hLen o.hdr) = none → u.rreadFail o d (hOfs o.hdr) (hLen o.hdr) = none →
      Completes (.read req seq) s [.mem, .frm, .rgn, .wsk, .mc, .syn, .sch, .pwr, .att, .par, .obs, .cls, .tally] fun t =>
        Concludes s t o cDone 0 (u.rreadFor o d (hOfs o.hdr) (hLen o.hdr)) ∧
        t.mem.bytes = u.mem.bytes ∧ t.mem.poison = u.mem.poison) ∧
    (∀ code i, u.tablesFail d (hOfs o.hdr) (hLen o.hdr) = none →
      u.rreadFail o d (hOfs o.hdr) (hLen o.hdr) = some (code, i) →
      Completes (.read req seq) s [.mem, .frm, .rgn, .wsk, .mc, .syn, .sch, .pwr, .att, .par, .obs, .cls, .tally] fun t =>
        Concludes s t o code i (u.rreadFor o d (hOfs o.hdr) (hLen o.hdr)) ∧
        t.mem.bytes = u.mem.bytes ∧ t.mem.poison = u.mem.poison) ∧
    (∀ g, u.tablesFail d (hOfs o.hdr) (hLen o.hdr) = some g →
      Completes (.read req seq) s [.mem, .frm, .rgn, .wsk, .mc, .syn, .sch, .pwr, .att, .par, .obs, .cls, .tally] fun t =>
        Concludes s t o (u.failAt o g) (2 ^ 32 - 1) (List.replicate (hLen o.hdr) 0) ∧
        t.mem.bytes = u.mem.bytes ∧ t.mem.poison = u.mem.poison)

/-- 02 R48; 12 R365; 07 R241: WRITE answers DONE and its range holds the payload, or answers an error where a granule
of it is poisoned and covered in part in every copy, or lies where no command reaches, or where a table that resolves
the range fails; every byte outside the pieces of its range, and outside their copies in a mirrored region, is as the
repair of those tables left it, which touches nothing in a region without a mirror. -/
def Obligations.WriteStoresItsPayload : Prop :=
  ∀ (s v : State) (req seq : Nat) (o : OpRec) (d : Desc), s.live = true → req < 2 ^ 20 → seq < 2 ^ 32 →
    s.ready req seq opWrite = some o → o.req = req → o.seq = seq → d = s.descOf (hdDesc (hHandle o.hdr)) →
    v = (if d.mirror then s.healMap d (hOfs o.hdr) (hLen o.hdr) else s) → (s.opPayload o).length = hLen o.hdr →
    (v.tablesFail d (hOfs o.hdr) (hLen o.hdr) = none → v.rwriteFail d (hOfs o.hdr) (hLen o.hdr) = none →
      Completes (.write req seq) s [.mem, .frm, .rgn, .wsk, .mc, .syn, .sch, .pwr, .att, .par, .obs, .cls,
        .tally] fun t =>
        Concludes s t o cDone 0 [] ∧
        (d.kind ≠ kParam → d.mirror = false → t.mread (d.bpa0 + hOfs o.hdr) (hLen o.hdr) = s.opPayload o)) ∧
    (∀ g, v.tablesFail d (hOfs o.hdr) (hLen o.hdr) = none → v.rwriteFail d (hOfs o.hdr) (hLen o.hdr) = some g →
      Completes (.write req seq) s [.mem, .frm, .rgn, .wsk, .mc, .syn, .sch, .pwr, .att, .par, .obs, .cls,
        .tally] fun t =>
        Answered s t o (v.failAt o g) (v.failIndex d (hOfs o.hdr) (hLen o.hdr) g) []) ∧
    (∀ g, v.tablesFail d (hOfs o.hdr) (hLen o.hdr) = some g →
      Completes (.write req seq) s [.mem, .frm, .rgn, .wsk, .mc, .syn, .sch, .pwr, .att, .par, .obs, .cls,
        .tally] fun t =>
        Answered s t o (v.failAt o g) (2 ^ 32 - 1) [] ∧ t.mem.bytes = v.mem.bytes) ∧
    (∀ t a, exec (.write req seq) s = .next t →
      (∀ q ∈ v.pieces d (hOfs o.hdr) (hLen o.hdr) false,
        (a < d.bpa0 + q.1 ∨ d.bpa0 + q.1 + q.2 ≤ a) ∧
        (d.mirror = true → a < d.mbpa0 + q.1 ∨ d.mbpa0 + q.1 + q.2 ≤ a)) →
      t.mbyte a = v.mbyte a)

/-- 03 R88, R78, R94: an ACCUM whose blocks can be read adds the exact value of each of its elements to the
accumulator of its element, leaves every other accumulator of the slot as it was, counts its elements as applied, and
is answered DONE with their number; one whose slot is gone is answered RETRY_REPLAY. The windowed form does the same
with the elements that its checks accept, and is answered RETRY_REPLAY, with its step marked, where they do not. -/
def Obligations.AccumAddsExactly : Prop :=
  ∀ (s : State) (req seq : Nat) (o : OpRec), s.live = true → req < 2 ^ 20 → seq < 2 ^ 32 →
    s.ready req seq opAccum = some o → o.req = req → o.seq = seq →
    (s.opSlotAt o = none →
      Completes (.accum req seq) s [.mem, .frm, .rgn, .wsk, .mc, .syn, .sch, .pwr, .att, .par, .obs, .cls,
        .tally] fun t =>
        Answered s t o cReplay (hArg o.hdr 44 8 % 2 ^ 32) [] ∧ t.mem.bytes = s.mem.bytes) ∧
    (∀ x, s.opSlotAt o = some x → x.key = slotKey (hPart o.hdr) (hArg o.hdr 40 4) →
      (hArg o.hdr 36 1 ≠ 0x20 →
        ((touched ((hOfs o.hdr - x.ofs) / odBytes x.od) (accumValues (hArg o.hdr 36 1) (s.opPayload o)).length).any
            x.outside = false ∨ s.spillQuiet) →
        Completes (.accum req seq) s [.mem, .frm, .rgn, .wsk, .mc, .syn, .sch, .pwr, .att, .par, .obs, .cls,
          .tally] fun t =>
          Concludes s t o cDone (accumValues (hArg o.hdr 36 1) (s.opPayload o)).length [] ∧
          t.mem.bytes = s.mem.bytes ∧ t.mem.poison = s.mem.poison ∧
          ∃ y, t.slotAt x.key = some y ∧
            y.cApp = x.cApp + (accumValues (hArg o.hdr 36 1) (s.opPayload o)).length ∧
            (∀ j, mapGet {} y.acc j =
              match (accumValues (hArg o.hdr 36 1) (s.opPayload o))[j - (hOfs o.hdr - x.ofs) / odBytes x.od]? with
              | some v =>
                if (hOfs o.hdr - x.ofs) / odBytes x.od ≤ j then (mapGet {} x.acc j).plus (accOf v) else mapGet {} x.acc j
              | none => mapGet {} x.acc j)) ∧
      (hArg o.hdr 36 1 = 0x20 →
        (readWindowed x ((hOfs o.hdr - x.ofs) / odBytes x.od) (s.opPayload o) = none →
          (s.ctxOf x.part x.step = none →
            Completes (.windowedPartialApply req seq) s
              [.mem, .frm, .rgn, .wsk, .mc, .syn, .sch, .pwr, .evt, .att, .par, .obs, .cls, .tally] fun t =>
              Answered s t o cReplay (x.step % 2 ^ 32) [] ∧ t.evt.newest = s.evt.newest + 1 ∧
              t.mem.bytes = s.mem.bytes) ∧
          (∀ i, s.ctxOf x.part x.step = some i → (s.ctx i).voted = false → (s.ctx i).committed = false →
            Completes (.windowedPartialApply req seq) s
              [.mem, .frm, .rgn, .wsk, .mc, .syn, .sch, .pwr, .evt, .att, .par, .obs, .cls, .tally] fun t =>
              t.op o.key = none ∧ (t.ctx i).marked = true ∧ t.mem.bytes = s.mem.bytes)) ∧
        (∀ l addends r, readWindowed x ((hOfs o.hdr - x.ofs) / odBytes x.od) (s.opPayload o) = some (l, addends) →
          s.findRoom x ((hOfs o.hdr - x.ofs) / odBytes x.od) l.length = some r →
          ((touched ((hOfs o.hdr - x.ofs) / odBytes x.od) l.length).any x.outside = false ∨ s.spillQuiet) →
          Completes (.windowedPartialApply req seq) s
            [.mem, .frm, .rgn, .wsk, .mc, .syn, .sch, .pwr, .att, .par, .obs, .cls, .tally] fun t =>
            Concludes s t o cDone l.length [] ∧ t.mem.bytes = s.mem.bytes ∧
            ∃ y, t.slotAt x.key = some y ∧ y.cApp = x.cApp + l.length ∧ y.cAdm = x.cAdm + l.length ∧
              y.addends = x.addends + addends ∧
              y.acc = addAccs x.acc ((hOfs o.hdr - x.ofs) / odBytes x.od) l)))

/-- 03 R84, R85, R89: a RED_OPEN whose slot stands under its STEP is answered DONE with the KiB placed in slot SRAM,
any other RETRY_REPLAY; a RED_CLOSE of a CLOSED slot of its STEP is answered DONE with N, and one that waits in its
slot begins. -/
def Obligations.SlotFramesAreAnswered : Prop :=
  (∀ (s : State) (req seq : Nat) (o : OpRec), s.live = true → req < 2 ^ 20 → seq < 2 ^ 32 →
    s.ready req seq opRedOpen = some o → o.req = req → o.seq = seq →
    (∀ x, s.opSlotAt o = some x → x.state ≠ 4 → x.step = hArg o.hdr 44 8 →
      Completes (.redOpen req seq) s [.mem, .frm, .rgn, .wsk, .mc, .syn, .sch, .pwr, .att, .par, .obs, .cls,
        .tally] fun t =>
        Concludes s t o cDone x.kib [] ∧ t.wsk = s.wsk ∧ t.mem.bytes = s.mem.bytes) ∧
    ((∀ x, s.opSlotAt o = some x → x.state = 4 ∨ x.step ≠ hArg o.hdr 44 8) →
      Completes (.redOpen req seq) s [.mem, .frm, .rgn, .wsk, .mc, .syn, .sch, .pwr, .att, .par, .obs, .cls,
        .tally] fun t =>
        Answered s t o cReplay (hArg o.hdr 44 8 % 2 ^ 32) [] ∧ t.wsk = s.wsk ∧ t.mem.bytes = s.mem.bytes)) ∧
  (∀ (s : State) (req seq : Nat) (o : OpRec) (x : Slot), s.live = true → req < 2 ^ 20 → seq < 2 ^ 32 →
    s.ready req seq opRedClose = some o → o.req = req → o.seq = seq → s.opSlotAt o = some x →
    (x.closers.contains o.key = true →
      Completes (.redClose req seq) s [.frm] fun t =>
        t.op o.key = some { o with phase := 1 } ∧ (∀ k, k ≠ o.key → t.op k = s.op k) ∧ t.frm.pend = s.frm.pend) ∧
    (x.closers.contains o.key = false → x.state = 3 → x.step = hArg o.hdr 44 8 →
      Completes (.redClose req seq) s [.mem, .frm, .rgn, .wsk, .mc, .syn, .sch, .pwr, .att, .par, .obs, .cls,
        .tally] fun t =>
        Concludes s t o cDone x.n [] ∧ t.mem.bytes = s.mem.bytes)) ∧
  (∀ (s : State) (y : Slot) (p : List Nat × Nat), s.slotAt y.key = none → s.slotsUsed < 4096 →
    s.placeBlocks s.wsk.q0 y.n = some p →
    (s.openSlot y).slotAt y.key = some { y with q0 := s.wsk.q0, sram := p.1, spill := p.2 } ∧
    (s.openSlot y).wsk.q0 = (s.wsk.q0 + 1) % 4 ∧ SameExcept [.wsk] s (s.openSlot y))

/-- 03 R89, R91, R96 to R98: a CLOSING slot whose ACCUMs all have outcomes writes the rounded result of every element
to its region, is CLOSED and gives up its storage, and its RED_CLOSEs are answered (one whose digest must show a write
not yet taken in keeps its outcome); one that is short of contributions becomes BROKEN and writes nothing; a feeder
sends its partials and stays CLOSING until they are answered. -/
def Obligations.ClosingSlotsRoundAndWrite : Prop :=
  ∀ (s : State) (part slot : Nat) (x : Slot), s.live = true → part < 64 → slot < 2 ^ 32 →
    s.slotAt (slotKey part slot) = some x → x.part = part → x.slot = slot → x.state = 2 → x.openOps = [] →
    x.partials = 0 →
    (x.isShort = false → (∀ d, x.decl = some d → d.feeder = false) →
      (s.descOf (hdDesc x.handle)).handle = x.handle → (s.descOf (hdDesc x.handle)).state = 1 →
      (s.descOf (hdDesc x.handle)).kind = kData → (s.descOf (hdDesc x.handle)).mirror = false →
      s.rwriteFail (s.descOf (hdDesc x.handle)) x.ofs x.length = none → (s.slotBytes x).length = x.length →
      ((x.spill = 0 ∧ (x.wide.any fun w => decide (w.2 = 4)) = false) ∨ s.spillQuiet) →
      Completes (.slotClose part slot) s
        [.mem, .frm, .rgn, .wsk, .mc, .syn, .sch, .pwr, .att, .par, .obs, .cls, .tally] fun t =>
        (∃ y, t.slotAt (slotKey part slot) = some y ∧ y.state = 3 ∧ y.acc = [] ∧ y.closers = []) ∧
        (∀ k ∈ x.closers, t.op k = none ∨
          ∃ p f, t.op k = some p ∧ p.wait = some f ∧ f.code = cDone ∧ f.aux = x.n) ∧
        t.mread ((s.descOf (hdDesc x.handle)).bpa0 + x.ofs) x.length = s.slotBytes x ∧
        (∀ a, (a < (s.descOf (hdDesc x.handle)).bpa0 + x.ofs ∨
            (s.descOf (hdDesc x.handle)).bpa0 + x.ofs + x.length ≤ a) → t.mbyte a = s.mbyte a)) ∧
    (x.isShort = true →
      Completes (.slotClose part slot) s
        [.mem, .frm, .rgn, .wsk, .mc, .syn, .sch, .pwr, .evt, .att, .par, .obs, .cls, .tally] fun t =>
        (∃ y, t.slotAt (slotKey part slot) = some y ∧ y.state = 4 ∧ y.acc = []) ∧
        t.mem.bytes = s.mem.bytes ∧ t.mem.poison = s.mem.poison) ∧
    (∀ d u, x.isShort = false → x.decl = some d → d.feeder = true → (s.findPeer d.ownerEp).isSome = true →
      ((x.spill = 0 ∧ (x.wide.any fun w => decide (w.2 = 4)) = false) ∨ s.spillQuiet) →
      (s.partialPayloads x).length = 1 → s.mayOriginate d.ownerEp = true →
      (s.frm.waiting.find? fun o => decide (o.ep = d.ownerEp)) = none → u = mapGet 0 s.frm.next d.ownerEp →
      Completes (.slotClose part slot) s [.frm, .wsk] fun t =>
        (∃ y, t.slotAt (slotKey part slot) = some y ∧ y.state = 2 ∧ y.partials = 1 ∧ y.close = s.wsk.closes + 1) ∧
        ∃ f, mapFind t.frm.orig (opKey d.ownerEp u) = some f ∧ f.op = opAccum ∧
          f.purpose = .partialSum x.key (s.wsk.closes + 1) ∧ (s.partialPayloads x).map Prod.snd = [f.payload])

/-- 03 R86, R89, R91, R103: the events of a slot. A declared slot opens on its open FTC and starts to close on its
close FTC; SLOT_WAIT and the close FTC break a slot that is short and has no open ACCUM; the answer to a partial frame
counts it, closes the slot with the last one, sends it again, or breaks the slot; an answer to a frame of an earlier
close of the slot, which a replay of its step has left behind, changes nothing of the slot. -/
def Obligations.EventsOfASlot : Prop :=
  (∀ (s : State) (ctx entry : Nat) (y : Slot) (d : Decl), s.live = true → ctx < 16 → entry < 2048 →
    mapFind s.wsk.resv (ctx * 4096 + entry) = some y → y.decl = some d → d.openFtc = s.clk.ftc →
    s.inTurn ctx entry = true →
    s.openVerdict y = none → (d.feeder = true ∨ s.checkLogOpen y = none) →
    Completes (.slotOpenFtc ctx entry) s [.mem, .wsk, .par] fun t =>
      t.slotAt y.key = some { y with seed := s.partSeed y.part } ∧
      mapFind t.wsk.resv (ctx * 4096 + entry) = none ∧ t.wsk.sram = s.wsk.sram ∧ t.wsk.spill = s.wsk.spill ∧
      ((d.feeder = true ∨ s.isPrimaryLog (s.descOf (hdDesc y.handle)) = false) → t.mem = s.mem)) ∧
  (∀ (s : State) (part slot : Nat) (x : Slot), s.live = true → part < 64 → slot < 2 ^ 32 →
    s.slotAt (slotKey part slot) = some x → x.part = part → x.slot = slot → x.state = 1 →
    ∀ c, (c = .slotWaitExpiry part slot ∧ ∃ t0, x.pendAt = some t0 ∧ s.since t0 (usR (s.param 0x7000 6)) = true) ∨
        (c = .slotCloseFtc part slot ∧ ∃ d, x.decl = some d ∧ d.closeFtc = s.clk.ftc) →
      ((x.openOps ≠ [] ∨ x.expect = 0 ∨ x.expect * x.n ≤ x.cApp) →
        Completes c s [.wsk] fun t =>
          t.slotAt (slotKey part slot) = some { x with state := 2, pendAt := none } ∧ t.wsk.resv = s.wsk.resv) ∧
      (x.openOps = [] → x.expect ≠ 0 → x.cApp < x.expect * x.n →
        Completes c s [.mem, .frm, .rgn, .wsk, .mc, .syn, .sch, .pwr, .evt, .att, .par, .obs, .cls, .tally] fun t =>
          (∃ y, t.slotAt (slotKey part slot) = some y ∧ y.state = 4 ∧ y.acc = []) ∧ t.mem.bytes = s.mem.bytes)) ∧
  (∀ (s : State) (ep seq code orig : Nat) (f : OrigFrame) (x : Slot) (n : Nat), s.live = true → ep < 2 ^ 20 →
    seq < 2 ^ 32 → code < 256 → orig < 256 → mapFind s.frm.orig (opKey ep seq) = some f → f.dead = false →
    f.purpose = .partialSum x.key n → s.slotAt x.key = some x → x.state = 2 →
    (verdict code orig f.att false = .done → x.close ≠ n →
      Completes (.partialAnswer ep seq code orig) s [.frm, .att] fun t => t.wsk = s.wsk) ∧
    (verdict code orig f.att false = .failed → x.close ≠ n →
      Completes (.partialAnswer ep seq code orig) s [.frm, .att] fun t => t.wsk = s.wsk) ∧
    (verdict code orig f.att false = .done → x.close = n → x.partials ≠ 1 →
      Completes (.partialAnswer ep seq code orig) s [.frm, .wsk, .att] fun t =>
        t.slotAt x.key = some { x with partials := x.partials - 1 }) ∧
    (verdict code orig f.att false = .done → x.close = n → x.partials = 1 →
      Completes (.partialAnswer ep seq code orig) s
        [.mem, .frm, .rgn, .wsk, .mc, .syn, .sch, .pwr, .att, .par, .obs, .cls, .tally] fun t =>
        t.mem.bytes = s.mem.bytes ∧ ∃ y, t.slotAt x.key = some y ∧ y.state = 3 ∧ y.acc = []) ∧
    (verdict code orig f.att false = .resend → s.blockEp ≠ 0 →
      Completes (.partialAnswer ep seq code orig) s [.frm] fun t =>
        mapFind t.frm.orig (opKey ep seq) = some { f with att := f.att + 1 } ∧ t.frm.next = s.frm.next) ∧
    (verdict code orig f.att false = .waiting → exec (.partialAnswer ep seq code orig) s = .next s) ∧
    (verdict code orig f.att false = .failed → x.close = n →
      Completes (.partialAnswer ep seq code orig) s
        [.mem, .frm, .rgn, .wsk, .mc, .syn, .sch, .pwr, .evt, .att, .par, .obs, .cls, .tally] fun t =>
        t.mem.bytes = s.mem.bytes ∧ ∃ y, t.slotAt x.key = some y ∧ y.state = 4 ∧ y.acc = []))

/-! ### Multicast (03 R105 to R111) -/

/-- 03 R106, R107, R108, R111; 12 R365: an MCAST whose source reads good copies its range into the retention buffer of
its group, where that is another region and no attempt before has finished the copy, and one frame for each piece of
524,272 bytes of every member stands in its list; with every member's port up it stays open until they have left; one
whose source has a failing granule, or whose copy meets one, or whose source's tables fail, ends with that granule's
code and delivers nothing. -/
def Obligations.MulticastRetainsAndDelivers : Prop :=
  ∀ (s u v : State) (req seq keep : Nat) (o : OpRec) (d : Desc) (copy : Bool), s.live = true → req < 2 ^ 20 →
    seq < 2 ^ 32 → s.ready req seq opMcast = some o → o.req = req → o.seq = seq → d = s.descOf (hdDesc (hHandle o.hdr)) →
    u = s.rheal d (hOfs o.hdr) (hLen o.hdr) → keep = u.groupRetain (hArg o.hdr 40 4) →
    copy = (decide (keep ≠ hHandle o.hdr) && (decide (o.att = 0) || !s.mc.copied.contains o.key)) →
    (∀ g, u.tablesFail d (hOfs o.hdr) (hLen o.hdr) = some g →
      Completes (.mcast req seq) s [.mem, .frm, .rgn, .wsk, .mc, .syn, .sch, .pwr, .att, .par, .obs, .cls,
        .tally] fun t =>
        Answered s t o (u.failAt o g) (2 ^ 32 - 1) [] ∧ t.mem.bytes = u.mem.bytes) ∧
    (u.tablesFail d (hOfs o.hdr) (hLen o.hdr) = none →
      (∀ code i, u.rreadFail o d (hOfs o.hdr) (hLen o.hdr) = some (code, i) →
        Completes (.mcast req seq) s [.mem, .frm, .rgn, .wsk, .mc, .syn, .sch, .pwr, .att, .par, .obs, .cls,
          .tally] fun t =>
          Answered s t o code i [] ∧ t.mem.bytes = u.mem.bytes) ∧
      (∀ g, u.rreadFail o d (hOfs o.hdr) (hLen o.hdr) = none → copy = true →
        u.rwriteFail (u.descOf (hdDesc keep)) (hOfs o.hdr) (hLen o.hdr) = some g →
        Completes (.mcast req seq) s [.mem, .frm, .rgn, .wsk, .mc, .syn, .sch, .pwr, .att, .par, .obs, .cls,
          .tally] fun t =>
          Answered s t o (u.failAt o g) (u.failIndex (u.descOf (hdDesc keep)) (hOfs o.hdr) (hLen o.hdr) g) []) ∧
      (u.rreadFail o d (hOfs o.hdr) (hLen o.hdr) = none →
        (copy = false ∨ u.rwriteFail (u.descOf (hdDesc keep)) (hOfs o.hdr) (hLen o.hdr) = none) →
        v = (if copy then u.rwrite keep (hOfs o.hdr) (u.rreadFor o d (hOfs o.hdr) (hLen o.hdr)) false else u) →
        v.mcDelivs o ≠ [] → (∀ x ∈ v.mcDelivs o, v.memberUp x = true) →
        Completes (.mcast req seq) s [.mem, .frm, .rgn, .mc, .obs, .cls, .tally] fun t =>
          t.mem = v.mem ∧ t.op o.key = some { o with phase := 1 } ∧ (∀ k, k ≠ o.key → t.op k = s.op k) ∧
          t.mc.list = s.mc.list ++ v.mcDelivs o ∧ t.mc.copied = o.key :: s.mc.copied.erase o.key ∧
          mapFind t.mc.ops o.key = some { members := s.groupCount (hArg o.hdr 40 4) }))

/-- 03 R107 to R111; 02 R53: the events of a delivery. The next frame of a member enters the queue of its class on the
member's port, where that is up, and takes the next delivery number of its endpoint as its header cell leaves; after
OWE_WAIT without that it is owed, and the MCAST is answered with the members that no frame is owed to once none of its
frames waits; an owed entry is retried every OWE_RETRY on PORT and then ALT_PORT; on the multicast deadline's
edge the owed entries of a step are dropped, each of an unscheduled step is logged, and a scheduled step is marked; one
that would be owed only after its deadline is dropped at once, with the same consequence. -/
def Obligations.EventsOfADelivery : Prop :=
  (∀ (s : State) (group step member ofs p : Nat) (d x : Deliv) (l : List Deliv) (c : Instr), s.live = true →
    group < 1024 → step < 2 ^ 64 → member < 4096 → ofs < 2 ^ 40 → s.findDeliv group step member ofs = some d →
    d.staged = none →
    ((c = .mcastDelivery group step member ofs ∧ d.owed = false ∧ p = mbPort (s.member group member) ∧
        s.portTakes p = true ∧ s.isNext d = true ∧ s.since d.at_ (usR (s.param 0x7000 8)) = false ∧
        x = { d with staged := some s.mc.marks, since := d.at_, alt := false } ∧ l = s.mc.list.replace d x) ∨
      (∃ w, c = .oweRetry group step member ofs ∧ d.owed = true ∧ s.since d.at_ (usR (s.param 0x7000 9)) = true ∧
        ([mbPort (s.member group member)] ++ (mbAlt (s.member group member)).toList).find? s.portTakes = some p ∧
        w = { d with at_ := d.at_ + (s.clk.now - d.at_) / usR (s.param 0x7000 9) * usR (s.param 0x7000 9) } ∧
        x = { w with
          staged := some s.mc.marks, since := s.clk.now, alt := !s.portTakes (mbPort (s.member group member)) } ∧
        l = (s.mc.list.replace d w).replace w x)) →
    d.eq < (s.port p).queues.length →
    Completes c s [.frm, .mc, .obs, .cls, .tally] fun t =>
      t.mc.list = l ∧ t.mc.ops = s.mc.ops ∧ t.frm.delivery = s.frm.delivery ∧
      ∃ f, (t.port p).queues.getD d.eq [] = (s.port p).queues.getD d.eq [] ++ [f] ∧ f.resp.req = d.ep ∧ f.resp.kind = 5 ∧
        f.resp.op = 0x98 ∧ f.resp.deliv = some x ∧ f.resp.payload = s.delivPayload d) ∧
  (∀ (s : State) (y : Port) (f : EgFrame), f.resp.kind = 5 → f.resp.op = 0x98 → f.resp.home = none →
    (s.headerLeaves y f).2.resp.seq = mapGet 0 s.frm.delivery f.resp.req ∧
    mapGet 0 (s.headerLeaves y f).1.frm.delivery f.resp.req = (mapGet 0 s.frm.delivery f.resp.req + 1) % 2 ^ 32) ∧
  (∀ (s : State) (group step member ofs : Nat) (d : Deliv), s.live = true → group < 1024 → step < 2 ^ 64 →
    member < 4096 → ofs < 2 ^ 40 → s.findDeliv group step member ofs = some d →
    (d.owed = true → d.staged = none → s.since d.at_ (usR (s.param 0x7000 9)) = true →
      ([mbPort (s.member group member)] ++ (mbAlt (s.member group member)).toList).find? s.portTakes = none →
      Completes (.oweRetry group step member ofs) s [.mc] fun t =>
        t.mc.list = s.mc.list.replace d
          { d with at_ := d.at_ + (s.clk.now - d.at_) / usR (s.param 0x7000 9) * usR (s.param 0x7000 9) } ∧
        t.mc.ops = s.mc.ops) ∧
    (d.owed = true → d.staged.isSome = true → s.since d.since (usR (s.param 0x7000 8)) = true →
      (d.alt = true ∨ mbAlt (s.member d.group d.member) = none) →
      Completes (.oweWaitExpiry group step member ofs) s [.frm, .mc] fun t =>
        t.mc.list = s.mc.list.replace d { d with staged := none } ∧ t.mc.ops = s.mc.ops) ∧
    (d.owed = false → s.isNext d = true →
      ((d.staged = none ∧ s.memberUp d = false) ∨ s.since d.at_ (usR (s.param 0x7000 8)) = true) →
      (s.past d = true → s.schedules d = false →
        Completes (.oweWaitExpiry group step member ofs) s
          [.mem, .frm, .rgn, .wsk, .mc, .syn, .sch, .pwr, .evt, .att, .par, .obs, .cls, .tally] fun t =>
          t.mc.list.length + 1 = s.mc.list.length ∧ t.evt.newest = s.evt.newest + 1 ∧ t.mem.bytes = s.mem.bytes) ∧
      (s.past d = false → (s.mc.list.filter (·.owed)).length < 65536 → ∀ l,
      l = s.mc.list.replace d { d with owed := true, staged := none, at_ := s.clk.now } →
      Completes (.oweWaitExpiry group step member ofs) s
        [.mem, .frm, .rgn, .wsk, .mc, .syn, .sch, .pwr, .att, .par, .obs, .cls, .tally] fun t =>
        { d with owed := true, staged := none, at_ := s.clk.now } ∈ t.mc.list ∧ t.mem.bytes = s.mem.bytes ∧
        ∀ o m, s.op d.op = some o → o.key = d.op → mapFind s.mc.ops d.op = some m →
          (l.any fun e => decide (e.op = d.op) && !e.owed) = false →
          Concludes s t o cDone
            (m.members - (m.short ++ (l.filter fun e => decide (e.op = d.op)).map (·.member)).eraseDups.length) []))) ∧
  (∀ (s : State) (part step : Nat) (late : Deliv → Bool), s.live = true → part < 64 → step < 2 ^ 64 →
    (∀ d, late d = (d.owed && decide (d.part = part) && decide (d.step = step) && s.dueNow d)) →
    ((s.mc.list.filter late).any s.schedules = false →
      Completes (.mcastDeadline part step) s [.frm, .mc, .evt] fun t =>
        t.mc.list = s.mc.list.filter (fun d => !late d) ∧
        t.evt.newest = s.evt.newest + (s.mc.list.filter late).length) ∧
    ((s.mc.list.filter late).any s.schedules = true →
      Completes (.mcastDeadline part step) s
        [.mem, .frm, .rgn, .wsk, .mc, .syn, .sch, .pwr, .evt, .att, .par, .obs, .cls, .tally] fun t =>
        (∀ d ∈ t.mc.list, late d = false) ∧ t.mem.bytes = s.mem.bytes ∧
        ∀ i, s.ctxOf part step = some i → (s.ctx i).voted = false → (s.ctx i).committed = false →
          (t.ctx i).marked = true))

/-! ### The attention service (06) -/

/-- 06 R184, R185; 12 R365: a KV_APPEND that waits for nothing stores its tokens as its page's slot lays them out and
is answered DONE with their number (once the digest that it asks for shows what was written before it); one that waits
changes nothing; a failing granule of the directory or of the slot's bitmap ends it with that granule's code. -/
def Obligations.AppendsStoreTheirTokens : Prop :=
  ∀ (s : State) (req seq p : Nat) (o : OpRec) (d : Desc), s.live = true → req < 2 ^ 20 → seq < 2 ^ 32 →
    s.ready req seq opKvAppend = some o → o.req = req → o.seq = seq → d = s.descOf (hdDesc (hHandle o.hdr)) →
    p = kvPage o.hdr - kcFirst (s.kvCtx d (hArg o.hdr 40 4)) →
    (s.kvWaits o = true → exec (.kvAppend req seq) s = .next s) ∧
    (s.kvWaits o = false → ∀ code, s.dirFail o d p 1 = some code →
      Completes (.kvAppend req seq) s [.mem, .frm, .rgn, .wsk, .mc, .syn, .sch, .pwr, .att, .par, .obs, .cls,
        .tally] fun t =>
        Answered s t o code (2 ^ 32 - 1) [] ∧ t.mem.bytes = s.mem.bytes) ∧
    (s.kvWaits o = false → s.dirFail o d p 1 = none →
      s.poisonIn (d.bpa0 + kvBm (s.kvHdr d) + 512 * s.appendSlot o d p) 512 = none →
      Completes (.kvAppend req seq) s [.mem, .frm, .rgn, .wsk, .mc, .syn, .sch, .pwr, .att, .par, .obs, .cls,
        .tally] fun t =>
        Concludes s t o cDone (hArg o.hdr 52 4) [] ∧
        t.mem.bytes = (s.appendPage o d p).mem.bytes ∧ t.mem.poison = (s.appendPage o d p).mem.poison) ∧
    (∀ g, s.kvWaits o = false → s.dirFail o d p 1 = none →
      s.poisonIn (d.bpa0 + kvBm (s.kvHdr d) + 512 * s.appendSlot o d p) 512 = some g →
      Completes (.kvAppend req seq) s [.mem, .frm, .rgn, .wsk, .mc, .syn, .sch, .pwr, .att, .par, .obs, .cls,
        .tally] fun t =>
        Answered s t o (s.failAt o g) (2 ^ 32 - 1) [] ∧ t.mem.bytes = (s.appendPage o d p).mem.bytes) ∧
    (∀ (a n row at_ bm eo : Nat), d.kind = kKv → d.mirror = false → n = hArg o.hdr 52 4 → row = kvRow (s.kvHdr d) →
      at_ = s.appendAt o d p → bm = kvBm (s.kvHdr d) + 512 * s.appendSlot o d p →
      eo = kvPtOfs (s.kvHdr d) (hArg o.hdr 40 4) (hArg o.hdr 38 2) (hArg o.hdr 44 2) p →
      (s.opPayload o).length = 2 * (n * row) → hArg o.hdr 48 4 % 4096 + n ≤ 4096 →
      ((a < d.bpa0 ∨ d.bpa0 + 64 ≤ a) → (a < d.bpa0 + eo ∨ d.bpa0 + eo + 8 ≤ a) →
        (a < d.bpa0 + bm ∨ d.bpa0 + bm + 512 ≤ a) → (a < d.bpa0 + at_ ∨ d.bpa0 + at_ + n * row ≤ a) →
        (a < d.bpa0 + at_ + 4096 * row ∨ d.bpa0 + at_ + 4096 * row + n * row ≤ a) →
        (s.appendPage o d p).mbyte a = s.mbyte a) ∧
      (s.mem.poison = [] → (∀ g, s.lost g = false) → 64 ≤ at_ → eo + 8 ≤ at_ → bm + 512 ≤ at_ →
        (s.appendPage o d p).mread (d.bpa0 + at_) (n * row) = (s.opPayload o).take (n * row) ∧
        (s.appendPage o d p).mread (d.bpa0 + at_ + 4096 * row) (n * row) = (s.opPayload o).drop (n * row)))

/-- 06 R187 to R190, R200: an ATTN_QUERY whose forwards have gone and that waits for nothing begins where its pages
are there and is answered REFUSED_STATE where they are not; a ready set starts the query at the head of its queue on
every tile of its run (one queued on this TCLK edge starts no earlier than the next, 08 R255), the entry bundles of a
custom image issuing on that edge (04 R150); a run of a shipped image ends it with the answer that the merge gives, an
answer of the length that R190 gives; a faulted tile with REFUSED_STATE. -/
def Obligations.QueriesRunOnTheirSets : Prop :=
  (∀ (s : State) (req seq : Nat) (o : OpRec) (q : Query) (d : Desc), s.live = true → req < 2 ^ 20 → seq < 2 ^ 32 →
    s.ready req seq opAttnQuery = some o → o.req = req → o.seq = seq → mapFind s.att.queries o.key = some q →
    q.forwarded = true → d = s.descOf (hdDesc (hHandle o.hdr)) → s.kvWaits o = false →
    s.dirFail o d 0 (kvLocals (s.kvHdr d) (s.kvCtx d (hArg o.hdr 40 4)) (kvG o.hdr)) = none →
    (s.pagesThere o = true →
      Completes (.attnQuery req seq) s [.frm] fun t =>
        t.op o.key = some { o with phase := 1 } ∧ (∀ k, k ≠ o.key → t.op k = s.op k)) ∧
    (s.pagesThere o = false → (s.attSet q.set).running ≠ some o.key →
      Completes (.attnQuery req seq) s [.mem, .frm, .rgn, .wsk, .mc, .syn, .sch, .pwr, .att, .par, .obs, .cls,
        .tally] fun t =>
        Answered s t o cState 0 [] ∧ t.mem.bytes = s.mem.bytes)) ∧
  (∀ (s : State) (set k : Nat) (r : List Nat) (o : OpRec) (q : Query), s.live = true → set < 64 →
    (s.attSet set).state = 2 → (s.attSet set).queue = k :: r → s.op k = some o → o.phase = 1 →
    o.adm / 8 < s.clk.now / 8 → mapFind s.att.queries k = some q → (s.wakeRun (s.attRun set)).2 = true →
    ((s.attRun set).all fun t => [2, 4].contains (s.tile t).c.state) = true →
    ∃ u, exec (.queryStart set) s = .next (u.issueEntry (s.attRun set)) ∧
      SameExcept [.tl, .pwr, .stress, .evt, .att, .obs, .arb, .tally] s u ∧
      u.attSet set = { s.attSet set with state := 3, queue := r, running := some k } ∧
      (∀ i ∈ s.attRun set, (u.tile i).c.state = 3 ∧ (u.tile i).cr.part = o.part) ∧
      ((∀ i ∈ s.attRun set, (s.tile i).c.lib ≠ 0) → u.issueEntry (s.attRun set) = u)) ∧
  (∀ (s u : State) (set k want : Nat) (o : OpRec) (q : Query) (d : Desc), s.live = true → set < 64 →
    (s.attSet set).running = some k → s.op k = some o → o.key = k → mapFind s.att.queries k = some q →
    d = s.descOf (hdDesc (hHandle o.hdr)) →
    (((s.attRun set).any fun t => decide ((s.tile t).c.state = 5)) = true →
      Completes (.queryComplete set) s
        [.mem, .frm, .rgn, .wsk, .mc, .tl, .syn, .sch, .pwr, .evt, .att, .par, .obs, .cls, .tally] fun t =>
        Answered s t o cState 0 [] ∧ (t.attSet set).state = 4 ∧ (t.attSet set).running = none ∧
        t.mem.bytes = s.mem.bytes) ∧
    (((s.attRun set).any fun t => decide ((s.tile t).c.state = 5)) = false → s.runsLib (s.attRun set) = true →
      (q.spills.all fun x => x.data.isSome) = true →
      u = ((s.queryHeal o).haltRun (s.attRun set)).modTile (s.attFirst set)
        (fun x => { x with r := x.r.setCtr 47 (x.r.getCtr 47 + 2 ^ 32 - q.spills.length) }) →
      libDim (u.tile (s.attFirst set)).c.lib = kvDim (s.kvHdr d) → u.queryFail o = none →
      want = (if kcSpill (s.kvCtx d (hArg o.hdr 40 4)) then recSize (hArg o.hdr 37 1) (hArg o.hdr 46 2)
        else hArg o.hdr 37 1 * hArg o.hdr 46 2 * castWidth (hArg o.hdr 36 1)) →
      (u.queryAnswer o (u.queryHeads o q)).length = want → want ≤ 0x1CB00 →
      Completes (.queryComplete set) s
        [.mem, .frm, .rgn, .wsk, .mc, .tl, .syn, .sch, .pwr, .att, .par, .obs, .cls, .tally, .free] fun t =>
        Concludes s t o cDone (kvG o.hdr) (u.queryAnswer o (u.queryHeads o q)) ∧
        (t.attSet set).state = 2 ∧ (t.attSet set).running = none ∧ t.mem.bytes = u.mem.bytes))

/-- 06 R200, R202, R186: the answer of a spill block is kept with its query, sends the forward again, or ends the
query with the error of the lowest failing granule of its home pages and that answer (R201; that another spill block's
answer is not waited for is the model's choice, log 89); SPILL_WAIT, counted from the first send, ends it with
REFUSED_CAPACITY; run-ahead reads a
piece of the next query into a tile of a busy set; a context whose operations have completed is free again under its
next generation. -/
def Obligations.EventsOfAQuery : Prop :=
  (∀ (s : State) (ep seq code orig aux k i : Nat) (nh : Bool) (b : List Byte) (f : OrigFrame) (q : Query) (o : OpRec)
      (x : Spill), s.live = true → ep < 2 ^ 20 → seq < 2 ^ 32 → code < 256 → orig < 256 → aux < 2 ^ 32 →
    b.length < 2 ^ 24 → mapFind s.frm.orig (opKey ep seq) = some f → f.dead = false → f.purpose = .spill k i →
    mapFind s.att.queries k = some q → s.op k = some o → o.key = k → q.spills[i]? = some x →
    (s.attSet q.set).running ≠ some k → (∀ w ∈ s.frm.waiting, w.ep ≠ ep) →
    ((code = cDone ∨ code = cDoneLate) → recFits o.hdr x.srec b = true →
      Completes (.spillAnswer ep seq code orig aux nh b) s [.frm, .att, .obs, .tally] fun t =>
        mapFind t.att.queries k = some { q with spills := q.spills.set i { x with data := some b } } ∧
        mapFind t.frm.orig (opKey ep seq) = none) ∧
    ((code = cRed ∨ code = cCapacity ∨ code = cEpoch ∨ code = cIncomplete) → f.att < 15 → s.blockEp ≠ 0 →
      Completes (.spillAnswer ep seq code orig aux nh b) s [.frm, .obs, .tally] fun t =>
        mapFind t.frm.orig (opKey ep seq) = some { f with att := f.att + 1 }) ∧
    ((code = cUncorrectable ∨ code = cPoison) →
      Completes (.spillAnswer ep seq code orig aux nh b) s
        [.mem, .frm, .rgn, .wsk, .mc, .syn, .sch, .pwr, .att, .par, .obs, .cls, .tally] fun t =>
        Answered s t o (s.lowestFail k code aux).1 (s.lowestFail k code aux).2 [] ∧ t.mem.bytes = s.mem.bytes) ∧
    (code = cDupInProgress → exec (.spillAnswer ep seq code orig aux nh b) s = .next s)) ∧
  (∀ (s : State) (req seq n : Nat) (q : Query) (x : Spill) (o : OpRec), s.live = true → req < 2 ^ 20 → seq < 2 ^ 32 →
    n < 4 → mapFind s.att.queries (opKey req seq) = some q → q.spills[n]? = some x → x.data = none →
    (∀ t0, x.sent = some t0 → s.since t0 (usR (s.param 0x6800 5)) = true → s.op (opKey req seq) = some o → o.req = req →
      o.seq = seq →
    Completes (.spillWaitExpiry req seq n) s
      [.mem, .frm, .rgn, .wsk, .mc, .tl, .syn, .sch, .pwr, .evt, .att, .par, .obs, .cls, .tally] fun t =>
      Answered s t o cCapacity 0 [] ∧ t.mem.bytes = s.mem.bytes) ∧
    (x.sent = none → exec (.spillWaitExpiry req seq n) s = .next s)) ∧
  (∀ (s : State) (set k : Nat) (r : List Nat) (o : OpRec) (q : Query) (d : Desc) (e : Nat), s.live = true → set < 64 →
    (s.attSet set).state = 3 → (s.attSet set).queue = k :: r → s.op k = some o → o.key = k →
    mapFind s.att.queries k = some q → q.pieces = [] → d = s.descOf (hdDesc (hHandle o.hdr)) →
    kcSpill (s.kvCtx d (hArg o.hdr 40 4)) = false → 0 < kvG o.hdr → 0 < s.param 0x6800 4 → 1 < s.attTiles set →
    65536 ≤ kvPageBytes (s.kvHdr d) → 0 < kvPages (s.kvHdr d) → e = s.kvEntry d o.hdr 0 → kpValid e = true →
    Completes (.runaheadFetch set 1) s [.tl, .att, .obs, .tally] fun t =>
      (∃ v, mapFind t.att.queries k = some { q with pieces := [(s.clk.ftc, v)] }) ∧
      t.tile (s.attFirst set + 1) = { s.tile (s.attFirst set + 1) with
        r := (s.tile (s.attFirst set + 1)).r.setDm 0x1CB00 (s.rread d (kvSlotOfs (s.kvHdr d) (kpSlot e)) 65536) } ∧
      (∀ i, i ≠ s.attFirst set + 1 → t.tile i = s.tile i)) ∧
  (∀ (s : State) (handle ctx : Nat) (d : Desc), s.live = true → handle < 2 ^ 24 → ctx < 2 ^ 32 →
    s.activeDesc handle = some d → d.kind = kKv → ctx < kvContexts (s.kvHdr d) → kcRole (s.kvCtx d ctx) = 3 →
    s.ctxBusy (hdDesc handle) ctx = false → mapFind s.att.cleaned (hdDesc handle * 65536 + ctx) = none →
    kcSpill (s.kvCtx d ctx) = false → d.mirror = false → s.poisonIn (d.bpa0 + 64 + 16 * ctx) 16 = none →
    Completes (.contextFreed handle ctx) s [.mem, .sch] fun t =>
      t.kvCtx d ctx = (kcGen (s.kvCtx d ctx) + 1) % 2 ^ 32 ∧ ∀ g, s.poisoned g = false → t.poisoned g = false)

/-! ### The parameter service and two-phase commit (07) -/

/-- 07 R223, R224: an OPT_STEP waits while its region folds or discards, or is OPEN for another step; it is refused
where its step has been committed meanwhile (the model's choice, log 83), and otherwise opens an IDLE region for its
step; with its gradient logged it records its update and enters the queue of an update set, and without one it waits
on. -/
def Obligations.OptStepsAreRecordedAndQueued : Prop :=
  ∀ (s v : State) (req seq : Nat) (o : OpRec) (d : Desc), s.live = true → req < 2 ^ 20 → seq < 2 ^ 32 →
    s.ready req seq opOptStep = some o → o.req = req → o.seq = seq → d = s.descOf (hdDesc (hHandle o.hdr)) →
    ((prmState (s.prmHdr d) = 2 ∨ prmState (s.prmHdr d) = 3 ∨
        (prmState (s.prmHdr d) = 1 ∧ prmPend (s.prmHdr d) ≠ hArg o.hdr 44 8)) →
      exec (.optStep req seq) s = .next s) ∧
    (prmState (s.prmHdr d) ≠ 2 → prmState (s.prmHdr d) ≠ 3 →
      (prmState (s.prmHdr d) = 1 → prmPend (s.prmHdr d) = hArg o.hdr 44 8) →
      (hArg o.hdr 44 8 ≤ prmCommitted (s.prmHdr d) →
        Completes (.optStep req seq) s [.mem, .frm, .rgn, .wsk, .mc, .syn, .sch, .pwr, .att, .par, .obs, .cls,
          .tally] fun t =>
          Answered s t o cState 0 [] ∧ t.mem.bytes = s.mem.bytes) ∧
      (prmCommitted (s.prmHdr d) < hArg o.hdr 44 8 → v = s.openParam o →
        (∀ c, s.claimOf o = some c → c.opened = false → (d.mirror = true → d.mirrorBase ≠ d.base) →
          s.lost (d.bpa0 / 64) = false → prmState (s.prmHdr d) = 0 →
          prmState (v.prmHdr d) = 1 ∧ prmPend (v.prmHdr d) = hArg o.hdr 44 8 ∧ prmNupdate (v.prmHdr d) = 1) ∧
        (v.gradReady o = false → exec (.optStep req seq) s = .next v) ∧
        (v.gradReady o = true → v.updReady o.part = none → exec (.optStep req seq) s = .next v) ∧
        (∀ u, v.gradReady o = true → v.updReady o.part = some u →
          Completes (.optStep req seq) s [.mem, .frm, .par] fun t =>
            t.updSet u = { s.updSet u with queue := (s.updSet u).queue ++ [o.key] } ∧
            t.op o.key = some { o with phase := 1 } ∧ (∀ k, k ≠ o.key → t.op k = s.op k) ∧
            mapFind t.par.ops o.key = some { set := u, at_ := s.clk.now } ∧ t.mem = (v.recordUpdate o).mem)))

/-- 07 R225, R226, R229: a ready set starts the update at the head of its queue on every tile of its run, with the
image that its record names (an operation queued on this TCLK edge starts no earlier than the next, 08 R255; the entry
bundles of a custom image issue on the start edge, 04 R150); a run of a shipped optimizer updates every page of its
record and is answered DONE with the elements updated; the completion record of a custom image decides otherwise, and
a faulted tile ends it with REFUSED_STATE. -/
def Obligations.UpdatesRunOnTheirSets : Prop :=
  (∀ (s : State) (set k : Nat) (q : List Nat) (o : OpRec), s.live = true → set < 16 →
    ((s.updSet set).state = 2 ∨ (s.updSet set).state = 4) → (s.updSet set).queue = k :: q → s.op k = some o →
    ((mapFind s.par.ops k).any fun p => decide (s.clk.now / 8 ≤ p.at_ / 8)) = false →
      (s.wakeRun (s.updRun set)).2 = true → (s.loadOpt set (urOpt (s.urecOf o))).2 = true →
    ∃ u, exec (.updateStart set) s = .next (u.issueEntry (s.updRun set)) ∧
      SameExcept [.rgn, .tl, .evt, .par, .obs, .tally] s u ∧
      u.updSet set = { s.updSet set with queue := q, state := 3, running := some k } ∧
      (∀ i ∈ s.updRun set, (u.tile i).c.state = 3 ∧ (u.tile i).cr.part = o.part ∧
        (u.tile i).cr.step = hArg o.hdr 44 8) ∧
      (optLib (urOpt (s.urecOf o)) ≠ 0 → u.issueEntry (s.updRun set) = u)) ∧
  (∀ (s u : State) (set k : Nat) (o : OpRec) (r : List Byte), s.live = true → set < 16 →
    (s.updSet set).running = some k → s.op k = some o → o.key = k → r = s.urecOf o →
    (s.runsLib (s.updRun set) = true →
      u = (s.optHeal (hHandle o.hdr) (hArg o.hdr 44 8) (urFirst r) (urNpg r)).haltRun (s.updRun set) →
      u.optFail (hHandle o.hdr) (urOpt r) (hArg o.hdr 44 8) (urFirst r) (urNpg r) = none →
      Completes (.updateComplete set) s
        [.mem, .frm, .rgn, .wsk, .mc, .tl, .syn, .sch, .pwr, .att, .par, .obs, .cls, .tally] fun t =>
        Answered s t o cDone (urNpg r * 16384) [] ∧ (t.updSet set).state = 2 ∧ (t.updSet set).running = none ∧
        t.mem.bytes = ((List.range (urNpg r)).foldl
          (fun x i => x.updatePage (hHandle o.hdr) (urOpt r) (hArg o.hdr 44 8) (s.tile (s.updFirst set)).cr.seed
            (urFirst r + i) (urHset r)) u).mem.bytes) ∧
    (s.runsLib (s.updRun set) = false → s.runFaulted (s.updRun set) = false → s.runBusy (s.updRun set) = true →
      exec (.updateComplete set) s = .next s) ∧
    (s.runsLib (s.updRun set) = false → s.runFaulted (s.updRun set) = false → s.runBusy (s.updRun set) = false →
      natAt (s.completion (s.updFirst set)) 0 1 = 0 →
      Completes (.updateComplete set) s
        [.mem, .frm, .rgn, .wsk, .mc, .syn, .sch, .pwr, .att, .par, .obs, .cls, .tally] fun t =>
        Answered s t o cDone (natAt (s.completion (s.updFirst set)) 4 4) [] ∧ (t.updSet set).state = 2 ∧
        t.mem.bytes = s.mem.bytes) ∧
    (s.runsLib (s.updRun set) = false → s.runFaulted (s.updRun set) = true → s.ctxOf o.part (hArg o.hdr 44 8) = none →
      Completes (.updateComplete set) s
        [.mem, .frm, .rgn, .wsk, .mc, .tl, .syn, .sch, .pwr, .evt, .att, .par, .obs, .cls, .tally] fun t =>
        Answered s t o cState 0 [] ∧ (t.updSet set).state = 4 ∧ t.mem.bytes = s.mem.bytes))

/-- 07 R219, R221: the answer to a frame of a mirror copy is counted, the last one makes its pages mirrored, a retry
sends the frame again, and a failure or the mirror wait fails the copy and marks its step. -/
def Obligations.MirrorCopiesAreCounted : Prop :=
  (∀ (s : State) (ep seq code orig id : Nat) (f : OrigFrame) (m : Mirror), s.live = true → ep < 2 ^ 20 → seq < 2 ^ 32 →
    code < 256 → orig < 256 → mapFind s.frm.orig (opKey ep seq) = some f → f.dead = false → f.purpose = .mirror id →
    mapFind s.par.mirrors id = some m →
    (verdict code orig f.att true = .done → (1 < m.left ∨ m.failed = true) →
      Completes (.mirrorAnswer ep seq code orig) s [.frm, .att, .par] fun t =>
        mapFind t.par.mirrors id = some { m with left := m.left - 1 } ∧ t.par.mirrored = s.par.mirrored) ∧
    (∀ first n, verdict code orig f.att true = .done → m.left ≤ 1 → m.failed = false → m.pages = some (first, n) →
      Completes (.mirrorAnswer ep seq code orig) s [.frm, .att, .par] fun t =>
        mapFind t.par.mirrors id = none ∧
        (∀ i, i < n → mapFind t.par.mirrored (entKey m.desc m.entry * 16384 + first + i) = some 1)) ∧
    (verdict code orig f.att true = .waiting → exec (.mirrorAnswer ep seq code orig) s = .next s) ∧
    (verdict code orig f.att true = .resend → s.blockEp ≠ 0 →
      Completes (.mirrorAnswer ep seq code orig) s [.frm, .obs, .tally] fun t =>
        mapFind t.frm.orig (opKey ep seq) = some { f with att := f.att + 1 }) ∧
    (verdict code orig f.att true = .failed → m.failed = false →
      Completes (.mirrorAnswer ep seq code orig) s
        [.mem, .frm, .rgn, .wsk, .mc, .syn, .sch, .pwr, .evt, .att, .par, .obs, .cls, .tally] fun t =>
        mapFind t.par.mirrors id = some { m with failed := true } ∧ t.mem.bytes = s.mem.bytes)) ∧
  (∀ (s : State) (id : Nat) (m : Mirror), s.live = true → id < 2 ^ 32 → mapFind s.par.mirrors id = some m →
    m.failed = false → s.since m.since (usR (s.param 0x6900 5)) = true →
    Completes (.mirrorWaitExpiry id) s
      [.mem, .frm, .rgn, .wsk, .mc, .syn, .sch, .pwr, .evt, .att, .par, .obs, .cls, .tally] fun t =>
      mapFind t.par.mirrors id = some { m with failed := true } ∧ t.mem.bytes = s.mem.bytes ∧
      (s.ctxOf m.part m.step = none → t.evt.newest = s.evt.newest + 1) ∧
      (∀ i, s.ctxOf m.part m.step = some i → (s.ctx i).voted = false → (s.ctx i).committed = false →
        (t.ctx i).marked = true))

/-- 07 R221, R230 to R236: a ready participant votes once, the home without a frame and any other with a BARRIER frame
to the home; the answer to its vote releases it at a commit point, aborts it, sends the vote again, or leaves it in
doubt. -/
def Obligations.ParticipantsVote : Prop :=
  (∀ (s u : State) (part step i : Nat) (e : List Byte), s.live = true → s.served 3 = true → part < 64 → step < 2 ^ 64 →
    s.ctxOf part step = some i → (s.ctx i).voted = false → (s.ctx i).commitEntry = some e → s.isReady (s.ctx i) = true →
    u = s.sealEntries (s.ctx i) → u.ctx i = s.ctx i → u.isReady (s.ctx i) = true →
    (u.headersMirrored (s.ctx i) = false → exec (.vote part step) s = .next u) ∧
    (u.headersMirrored (s.ctx i) = true → u.isHome (s.ctx i) = true →
      Completes (.vote part step) s
        [.mem, .frm, .rgn, .wsk, .mc, .syn, .sch, .pwr, .evt, .att, .par, .obs, .cls, .tally] fun t =>
        t.ctx i = { s.ctx i with voted := true, own := true } ∧ t.frm.orig = u.frm.orig ∧ t.mem.bytes = u.mem.bytes) ∧
    (u.headersMirrored (s.ctx i) = true → u.isHome (s.ctx i) = false →
      (u.findPeer (cmHome e)).isSome = true → u.mayOriginate (cmHome e) = true → (∀ w ∈ u.frm.waiting, w.ep ≠ cmHome e) →
      Completes (.vote part step) s
        [.mem, .frm, .rgn, .wsk, .mc, .syn, .sch, .pwr, .evt, .att, .par, .obs, .cls, .tally] fun t =>
        t.ctx i = { s.ctx i with voted := true } ∧ t.mem.bytes = u.mem.bytes ∧
        ∃ f, mapFind t.frm.orig (opKey (cmHome e) (mapGet 0 u.frm.next (cmHome e))) = some f ∧ f.op = opBarrier ∧
          f.purpose = .vote (s.ctx i).part (s.ctx i).step)) ∧
  (∀ (s : State) (ep seq code orig aux part step i : Nat) (f : OrigFrame), s.live = true → ep < 2 ^ 20 → seq < 2 ^ 32 →
    code < 256 → orig < 256 → aux < 2 ^ 32 → mapFind s.frm.orig (opKey ep seq) = some f → f.dead = false →
      f.purpose = .vote part step →
    s.ctxOf part step = some i → (s.ctx i).committed = false → (s.ctx i).aborted = false →
    (∀ k, verdict code orig f.att false = .done → k = (aux + 2 ^ 32 - step % 2 ^ 32) % 2 ^ 32 →
      s.clk.ftc ≤ s.commitPoint (s.ctx i) k →
      Completes (.voteAnswer ep seq code orig aux) s [.frm, .sch, .att] fun t =>
        t.ctx i = { s.ctx i with point := some k, inDoubt := false }) ∧
    (verdict code orig f.att false = .waiting → exec (.voteAnswer ep seq code orig aux) s = .next s) ∧
    (verdict code orig f.att false = .resend → s.blockEp ≠ 0 →
      Completes (.voteAnswer ep seq code orig aux) s [.frm] fun t =>
        mapFind t.frm.orig (opKey ep seq) = some { f with att := f.att + 1 } ∧ t.frm.next = s.frm.next) ∧
    (verdict code orig f.att false = .failed → (if code = cDupAnswered then orig else code) = cReplay →
      Completes (.voteAnswer ep seq code orig aux) s
        [.mem, .frm, .rgn, .wsk, .mc, .syn, .sch, .pwr, .evt, .att, .par, .obs, .cls, .tally] fun t =>
        (t.ctx i).aborted = true ∧ t.par.lastStep = (s.ctx i).step ∧ t.par.lastAction = 2 ∧
        (s.openRegions (s.ctx i).part (s.ctx i).step = [] → s.stepLogs (s.ctx i).part (s.ctx i).step = [] →
          t.mem.bytes = s.mem.bytes)) ∧
    (verdict code orig f.att false = .failed → (if code = cDupAnswered then orig else code) ≠ cReplay →
      Completes (.voteAnswer ep seq code orig aux) s [.frm, .sch, .evt, .att] fun t =>
        t.ctx i = { s.ctx i with inDoubt := true } ∧ t.evt.newest = s.evt.newest + 1))

/-- 07 R233, R234: with every vote counted on a decision edge the home releases the step at that edge's commit point
and answers every vote; past the last decision edge it aborts the step. On the one edge of its commit point a
participant commits: its OPEN regions fold. R213, R215: a fold exchanges the frames of every page that the step wrote
and a discard keeps them; either clears W of every page and returns the region to IDLE; a mirrored region's poisoned
granules may be repaired on the way (R241). (That NUPDATE keeps its value while the region is IDLE is the model's
choice, log 82.) -/
def Obligations.StepsCommitAbortAndFold : Prop :=
  (∀ (s : State) (i : Nat), s.live = true → s.served 3 = true → i < 16 → (s.ctx i).state = 3 →
    s.isHome (s.ctx i) = true → (s.ctx i).released = none → (s.ctx i).aborted = false →
    (∀ k, ((List.range (s.param 0x6900 4)).find? fun k => decide (s.decisionEdge (s.ctx i) k = s.clk.ftc)) = some k →
      (s.ctx i).allVotes = true → (∀ v ∈ (s.ctx i).votes, ∀ o, s.op v = some o → o.opcode = opBarrier) →
      Completes (.commitDecisionEdge i) s
        [.mem, .frm, .rgn, .wsk, .mc, .syn, .sch, .pwr, .att, .par, .obs, .cls, .tally] fun t =>
        (t.ctx i).released = some k ∧ (t.ctx i).point = some k ∧ (∀ v ∈ (s.ctx i).votes, t.op v = none) ∧
        t.par.lastStep = (s.ctx i).step ∧ t.par.lastAction = 1 ∧ t.par.lastK = k ∧ t.mem.bytes = s.mem.bytes) ∧
    (∀ k, ((List.range (s.param 0x6900 4)).find? fun k => decide (s.decisionEdge (s.ctx i) k = s.clk.ftc)) = some k →
      (s.ctx i).allVotes = false → exec (.commitDecisionEdge i) s = .next s) ∧
    (((List.range (s.param 0x6900 4)).find? fun k => decide (s.decisionEdge (s.ctx i) k = s.clk.ftc)) = none →
      s.decisionEdge (s.ctx i) (s.param 0x6900 4 - 1) < s.clk.ftc →
      Completes (.commitDecisionEdge i) s
        [.mem, .frm, .rgn, .wsk, .mc, .syn, .sch, .pwr, .evt, .att, .par, .obs, .cls, .tally] fun t =>
        (t.ctx i).aborted = true ∧ (t.ctx i).marked = true ∧ t.par.lastAction = 2 ∧
        (s.openRegions (s.ctx i).part (s.ctx i).step = [] → s.stepLogs (s.ctx i).part (s.ctx i).step = [] →
          t.mem.bytes = s.mem.bytes))) ∧
  (∀ (s : State) (part step i k : Nat), s.live = true → part < 64 → step < 2 ^ 64 → s.ctxOf part step = some i →
    (s.ctx i).point = some k → (s.ctx i).committed = false → (s.ctx i).aborted = false →
    s.commitPoint (s.ctx i) k = s.clk.ftc →
    Completes (.commitEdge part step) s [.mem, .sch, .par, .obs, .tally] fun t =>
      t.ctx i = { s.ctx i with committed := true, inDoubt := false } ∧ t.par.lastStep = (s.ctx i).step ∧
      t.par.lastAction = 1 ∧ t.par.lastK = k ∧
      mapFind t.par.committed ((s.ctx i).part * 2 ^ 64 + (s.ctx i).step) = some 1 ∧
      (s.openRegions (s.ctx i).part (s.ctx i).step = [] → t.mem = s.mem) ∧
      (∀ desc, s.openRegions (s.ctx i).part (s.ctx i).step = [desc] →
        ((s.descOf desc).mirror = true → (s.descOf desc).mirrorBase ≠ (s.descOf desc).base) →
        s.lost ((s.descOf desc).bpa0 / 64) = false →
        prmState (t.prmHdr (s.descOf desc)) = 2 ∧
        prmCommitted (t.prmHdr (s.descOf desc)) = (s.ctx i).step % 2 ^ 64 ∧ prmStale (t.prmHdr (s.descOf desc)) = false ∧
        ∀ a, (a < (s.descOf desc).bpa0 ∨ (s.descOf desc).bpa0 + 64 ≤ a) →
          ((s.descOf desc).mirror = true → a < (s.descOf desc).mbpa0 ∨ (s.descOf desc).mbpa0 + 64 ≤ a) →
          t.mbyte a = s.mbyte a)) ∧
  (∀ (s : State) (desc : Nat) (d : Desc) (fold : Bool), s.live = true → desc < 16384 → d = s.descOf desc →
    (d.state = 1 ∨ d.state = 2) → d.kind = kParam →
    (d.mirror = true → d.mirrorBase ≠ d.base) → prmState (s.prmHdr d) = (if fold then 2 else 3) →
    (∀ i, i < 0x10000 + 8 * prmPages (s.prmHdr d) → s.lost ((d.bpa0 + i) / 64) = false) →
    Completes (.foldComplete desc) s [.mem, .rgn, .obs, .tally] fun t =>
      prmState (t.prmHdr d) = 0 ∧ prmNupdate (t.prmHdr d) = prmNupdate (s.prmHdr d) ∧
        prmCommitted (t.prmHdr d) = prmCommitted (s.prmHdr d) ∧
      (∀ p, p < prmPages (s.prmHdr d) → t.pageEntry d p =
        (if peW (s.pageEntry d p) then
          setBit (if fold then setBit (s.pageEntry d p) 15 (!peSel (s.pageEntry d p)) else s.pageEntry d p) 14 false
        else s.pageEntry d p)) ∧
      (∀ a, (∀ b, b = d.bpa0 ∨ (d.mirror = true ∧ b = d.mbpa0) → (a < b ∨ b + 64 ≤ a) ∧
        (a < b + 0x10000 ∨ b + 0x10000 + 8 * prmPages (s.prmHdr d) ≤ a)) →
        (d.mirror = true → s.poisoned (a / 64) = false) → t.mbyte a = s.mbyte a))

/-! ### Synchronisation and schedules (08, 09) -/

/-- 08 R245, R246, R250: a SYNC to an awake target adds its amount modulo 2^32 and is answered DONE with the value
that it leaves, the ledger included for a saved tile; one that its target refuses is answered REFUSED_STATE and
changes no counter (for a counter address that names no counter that code is the model's choice, log 74); one to a
gated Skillet is held by its doorkeeper, which it wakes, in a queue of 16 behind which further ones wait (14 R415). -/
def Obligations.SyncAddsAndAnswers : Prop :=
  ∀ (s : State) (req seq a : Nat) (o : OpRec), s.live = true → req < 2 ^ 20 → seq < 2 ^ 32 →
    s.ready req seq opSync = some o → o.req = req → o.seq = seq → a = hArg o.hdr 36 3 →
    (s.awake (a / 64 / 32) = true → s.sigAccepts a o.part = true → (s.tile (a / 64)).c.state ≠ 6 →
      Completes (.sync req seq) s [.mem, .frm, .rgn, .wsk, .mc, .tl, .syn, .sch, .pwr, .stress, .att, .par, .obs, .cls,
        .arb, .tally] fun t =>
        Answered s t o cDone (((s.tile (a / 64)).r.getCtr (a % 64) + hArg o.hdr 40 4) % 2 ^ 32) [] ∧
        (t.tile (a / 64)).r.getCtr (a % 64) =
          ((s.tile (a / 64)).r.getCtr (a % 64) + hArg o.hdr 40 4) % 2 ^ 32 ∧
        (∀ i, i ≠ a % 64 → (t.tile (a / 64)).r.getCtr i = (s.tile (a / 64)).r.getCtr i) ∧
        (∀ i, i ≠ a / 64 → t.tile i = s.tile i) ∧ t.tl.ledger = s.tl.ledger ∧ t.mem.bytes = s.mem.bytes) ∧
    (s.awake (a / 64 / 32) = true → s.sigAccepts a o.part = true → (s.tile (a / 64)).c.state = 6 →
      Completes (.sync req seq) s [.mem, .frm, .rgn, .wsk, .mc, .tl, .syn, .sch, .pwr, .stress, .att, .par, .obs, .cls,
        .arb, .tally] fun t =>
        mapGet 0 t.tl.ledger a = (mapGet 0 s.tl.ledger a + hArg o.hdr 40 4) % 2 ^ 32 ∧
        (∀ x, x ≠ a → mapGet 0 t.tl.ledger x = mapGet 0 s.tl.ledger x) ∧ (∀ i, t.tile i = s.tile i) ∧
        (∀ v, mapFind s.tl.saves (a / 64) = some v → Answered s t o cDone
          ((v.r.getCtr (a % 64) + (mapGet 0 s.tl.ledger a + hArg o.hdr 40 4) % 2 ^ 32) % 2 ^ 32) []) ∧
        t.mem.bytes = s.mem.bytes) ∧
    (s.awake (a / 64 / 32) = false →
      Completes (.sync req seq) s [.frm, .pwr, .stress] fun t =>
        t.op o.key = some { o with phase := 1 } ∧
        (∀ g, g = ({ addr := a, amount := hArg o.hdr 40 4, part := o.part, path := 4, op := some o.key } : HeldSig) →
          ((s.dom (a / 64 / 32)).held.length < 16 →
            (t.dom (a / 64 / 32)).held = (s.dom (a / 64 / 32)).held ++ [g] ∧
            (t.dom (a / 64 / 32)).wait = (s.dom (a / 64 / 32)).wait) ∧
          (16 ≤ (s.dom (a / 64 / 32)).held.length →
            (t.dom (a / 64 / 32)).held = (s.dom (a / 64 / 32)).held ∧
            (t.dom (a / 64 / 32)).wait = (s.dom (a / 64 / 32)).wait ++ [g])) ∧
        (t.dom (a / 64 / 32)).wake.isSome = true ∧ (∀ i, i ≠ a / 64 / 32 → t.dom i = s.dom i)) ∧
    (s.awake (a / 64 / 32) = true → s.sigAccepts a o.part = false →
      Completes (.sync req seq) s [.mem, .frm, .rgn, .wsk, .mc, .syn, .sch, .pwr, .stress, .evt, .att, .par, .obs,
        .cls, .arb, .tally] fun t =>
        Answered s t o cState 0 [] ∧ t.mem.bytes = s.mem.bytes)

/-- 08 R257, R258, R259: at the home a frame of an earlier generation is answered DONE with its g, one of the current
generation is counted, and the one that completes the generation releases it: every counted frame is answered, the
generation goes up by one and BAR_RCTR of each awake tile of the range that belongs to BAR_PART goes up by one (a
barrier that expects neither arrivals nor frames is left out: that it is never released is the model's choice, log
77). A commit barrier counts a vote, or answers one that comes after the decision with the decision. -/
def Obligations.BarrierFramesAreCounted : Prop :=
  ∀ (s : State) (req seq b : Nat) (o : OpRec), s.live = true → req < 2 ^ 20 → seq < 2 ^ 32 →
    s.ready req seq opBarrier = some o → o.req = req → o.seq = seq → b = hArg o.hdr 36 2 →
    (s.commitBarrier b = false → later 32 (s.bar b).gen (hArg o.hdr 40 4) = true →
      Completes (.barrier req seq) s [.mem, .frm, .rgn, .wsk, .mc, .syn, .sch, .pwr, .att, .par, .obs, .cls,
        .tally] fun t =>
        Answered s t o cDone (hArg o.hdr 40 4) [] ∧ (t.bar b).gen = (s.bar b).gen ∧
        (t.bar b).arrived = (s.bar b).arrived ∧ t.mem.bytes = s.mem.bytes) ∧
    (s.commitBarrier b = false → later 32 (s.bar b).gen (hArg o.hdr 40 4) = false → (s.bar b).gen = hArg o.hdr 40 4 →
      s.barHome b = 0 →
      (((s.bar b).arrived < s.barLocal b ∨ (s.bar b).frames.length + 1 < s.barRemote b) →
        Completes (.barrier req seq) s [.frm, .syn] fun t =>
          t.bar b = { s.bar b with frames := (s.bar b).frames ++ [o.key] } ∧ (∀ i, i ≠ b → t.bar i = s.bar i) ∧
          t.op o.key = some { o with phase := 1 } ∧ (∀ k, k ≠ o.key → t.op k = s.op k)) ∧
      (s.barLocal b ≤ (s.bar b).arrived → s.barRemote b ≤ (s.bar b).frames.length + 1 →
        0 < s.barLocal b + s.barRemote b → s.barRctr b < 48 →
        (∀ k ∈ (s.bar b).frames, ∀ x, s.op k = some x → x.opcode = opBarrier) →
        Completes (.barrier req seq) s
          [.mem, .frm, .rgn, .wsk, .mc, .tl, .syn, .sch, .pwr, .stress, .evt, .att, .par, .obs, .cls, .arb,
            .tally] fun t =>
          t.bar b = { gen := ((s.bar b).gen + 1) % 2 ^ 32, freed := s.clk.now } ∧ t.op o.key = none ∧
          (∀ k ∈ (s.bar b).frames, t.op k = none) ∧
          (∀ n, s.barFirst b ≤ n → n < s.barFirst b + s.barTiles b → n < s.build.tiles → (s.tile n).c.state ≠ 0 →
            (s.tile n).c.state ≠ 6 → (s.tile n).c.owner = s.barPart b → s.awake (n / 32) = true →
            (t.tile n).r.getCtr (s.barRctr b) = ((s.tile n).r.getCtr (s.barRctr b) + 1) % 2 ^ 32) ∧
          t.mem.bytes = s.mem.bytes)) ∧
    (∀ i, s.commitBarrier b = true → s.voteCtx o.hdr = some i →
      (∀ k, (s.ctx i).released = some k →
        Completes (.barrier req seq) s [.mem, .frm, .rgn, .wsk, .mc, .syn, .sch, .pwr, .att, .par, .obs, .cls,
          .tally] fun t =>
          Answered s t o cDone ((hArg o.hdr 40 4 + k) % 2 ^ 32) [] ∧ t.mem.bytes = s.mem.bytes) ∧
      ((s.ctx i).released = none → (s.ctx i).aborted = true →
        Completes (.barrier req seq) s [.mem, .frm, .rgn, .wsk, .mc, .syn, .sch, .pwr, .att, .par, .obs, .cls,
          .tally] fun t =>
          Answered s t o cReplay (hArg o.hdr 44 8) [] ∧ t.mem.bytes = s.mem.bytes) ∧
      ((s.ctx i).released = none → (s.ctx i).aborted = false →
        Completes (.barrier req seq) s [.frm, .sch] fun t =>
          t.ctx i = { s.ctx i with votes := (s.ctx i).votes ++ [o.key] } ∧ (∀ j, j ≠ i → t.ctx j = s.ctx j) ∧
          t.op o.key = some { o with phase := 1 }))

/-- 08 R249, R257: DONE with its own g releases a remote barrier; DONE with another AUX abandons the frame. A retry
sends a frame again with ATTEMPT raised; a failure abandons it: an event, and its step is marked. The oldest remote
signal, pushed on an earlier edge (R255), leaves as a SYNC of the next sequence number once its destination has room;
a tile whose SIG found the queue full pushes into the freed place on that edge. -/
def Obligations.HubFramesAreSentAndTaken : Prop :=
  (∀ (s : State) (ep seq code orig aux b g : Nat) (f : OrigFrame), s.live = true → ep < 2 ^ 20 → seq < 2 ^ 32 →
    code < 256 → orig < 256 → aux < 2 ^ 32 → mapFind s.frm.orig (opKey ep seq) = some f → f.dead = false →
      f.purpose = .barrier b g →
    (verdict code orig f.att true = .done → aux = g → (s.bar b).gen = g → (s.bar b).sent = true →
      Completes (.barrierAnswer ep seq code orig aux) s
        [.mem, .frm, .rgn, .wsk, .mc, .tl, .syn, .sch, .pwr, .stress, .evt, .att, .par, .obs, .cls, .arb, .tally] fun t =>
        (t.bar b).gen = (g + 1) % 2 ^ 32 ∧ (t.bar b).arrived = 0 ∧ (∀ i, i ≠ b → (t.bar i).gen = (s.bar i).gen) ∧
        t.mem.bytes = s.mem.bytes) ∧
    ((verdict code orig f.att true = .failed ∨ (verdict code orig f.att true = .done ∧ aux ≠ g)) →
      Completes (.barrierAnswer ep seq code orig aux) s
        [.mem, .frm, .rgn, .wsk, .mc, .syn, .sch, .pwr, .evt, .att, .par, .obs, .cls, .tally] fun t =>
        (t.bar b).gen = (s.bar b).gen ∧ s.evt.newest < t.evt.newest ∧ t.mem.bytes = s.mem.bytes ∧
        (∀ i, bodyStep f.body ≠ 0 → s.ctxOf f.part (bodyStep f.body) = some i → (s.ctx i).voted = false →
          (s.ctx i).committed = false → (t.ctx i).marked = true)) ∧
    (verdict code orig f.att true = .waiting → exec (.barrierAnswer ep seq code orig aux) s = .next s) ∧
    (verdict code orig f.att true = .resend → s.blockEp ≠ 0 →
      Completes (.barrierAnswer ep seq code orig aux) s [.frm, .obs, .tally] fun t =>
        mapFind t.frm.orig (opKey ep seq) = some { f with att := f.att + 1 } ∧ t.frm.next = s.frm.next)) ∧
  (∀ (s v : State) (q : RemoteSig) (r : List RemoteSig), s.live = true → s.syn.queue = q :: r →
    v = (s.modSyn fun y => { y with queue := r }).remoteFreed →
    ((s.mayOriginate (reEp (s.remoteEntry q.entry)) = false ∨ s.clk.now / 8 ≤ q.at_ / 8) →
      exec .remoteSignalSend s = .next s) ∧
    ((∀ p ∈ s.tl.tiles, p.2.x.blocked ≠ some .remoteQueue) → SameExcept [.syn] s v ∧ v.syn = { s.syn with queue := r }) ∧
    (s.mayOriginate (reEp (s.remoteEntry q.entry)) = true → q.at_ / 8 < s.clk.now / 8 →
      ((v.findPeer (reEp (s.remoteEntry q.entry))).isSome = true → v.mayOriginate (reEp (s.remoteEntry q.entry)) = true →
        (∀ w ∈ v.frm.waiting, w.ep ≠ reEp (s.remoteEntry q.entry)) →
        ∃ t, exec .remoteSignalSend s = .next t ∧ SameExcept [.frm, .obs, .tally] v t ∧
          ∃ f, mapFind t.frm.orig (opKey (reEp (s.remoteEntry q.entry))
              (mapGet 0 v.frm.next (reEp (s.remoteEntry q.entry)))) = some f ∧
            f.op = opSync ∧ f.part = q.part ∧ f.cls = q.cls ∧ f.att = 0 ∧ f.purpose = .signal q.entry q.amount) ∧
      ((v.findPeer (reEp (s.remoteEntry q.entry))).isSome = false →
        ∃ t, exec .remoteSignalSend s = .next t ∧
          SameExcept [.mem, .frm, .rgn, .wsk, .mc, .syn, .sch, .pwr, .evt, .att, .par, .obs, .cls, .tally] v t ∧
          t.syn.queue = v.syn.queue ∧ v.evt.newest + 2 ≤ t.evt.newest ∧ t.mem.bytes = v.mem.bytes))) ∧
  (∀ (s : State) (ep seq code orig e n : Nat) (f : OrigFrame), s.live = true → ep < 2 ^ 20 → seq < 2 ^ 32 →
    code < 256 → orig < 256 → mapFind s.frm.orig (opKey ep seq) = some f → f.dead = false → f.purpose = .signal e n →
    (verdict code orig f.att true = .done → (∀ w ∈ s.frm.waiting, w.ep ≠ ep) →
      Completes (.remoteSignalAnswer ep seq code orig) s [.frm] fun t =>
        mapFind t.frm.orig (opKey ep seq) = none ∧
        (∀ k, k ≠ opKey ep seq → mapFind t.frm.orig k = mapFind s.frm.orig k)) ∧
    (verdict code orig f.att true = .waiting → exec (.remoteSignalAnswer ep seq code orig) s = .next s) ∧
    (verdict code orig f.att true = .resend → s.blockEp ≠ 0 →
      Completes (.remoteSignalAnswer ep seq code orig) s [.frm, .obs, .tally] fun t =>
        mapFind t.frm.orig (opKey ep seq) = some { f with att := f.att + 1 } ∧ t.frm.next = s.frm.next) ∧
    (verdict code orig f.att true = .failed →
      Completes (.remoteSignalAnswer ep seq code orig) s
        [.mem, .frm, .rgn, .wsk, .mc, .syn, .sch, .pwr, .evt, .att, .par, .obs, .cls, .tally] fun t =>
        s.evt.newest < t.evt.newest ∧ t.mem.bytes = s.mem.bytes ∧
        (∀ i, bodyStep f.body ≠ 0 → s.ctxOf f.part (bodyStep f.body) = some i → (s.ctx i).voted = false →
          (s.ctx i).committed = false → (t.ctx i).marked = true)))

/-- 09 R277, R278: a LAUNCH executes while its context arms. With the image checked, the programs loaded and the slots
reserved the context is armed and the LAUNCH is answered DONE; an image that is no active RDONLY CODE region of the
partition answers it REFUSED_STATE and frees a fresh context that holds no mark; at LAUNCH_FTC − 1 a context that is
not armed is abandoned, and an arming that ends later abandons it too: its step is marked, and its LAUNCH is answered
RETRY_REPLAY (that the context stays in use for the mark is the model's choice, log 30). -/
def Obligations.LaunchArmsAContext : Prop :=
  (∀ (s : State) (req seq : Nat) (o : OpRec), s.live = true → req < 2 ^ 20 → seq < 2 ^ 32 →
    s.ready req seq opLaunch = some o → o.req = req → o.seq = seq →
    Completes (.launch req seq) s [.frm] fun t =>
      t.op o.key = some { o with phase := 1 } ∧ (∀ k, k ≠ o.key → t.op k = s.op k)) ∧
  (∀ (s : State) (ctx k : Nat) (c : Ctx) (a : Arm) (o : OpRec), s.live = true → s.served 3 = true → ctx < 16 →
    c = s.ctx ctx → c.arm = some a → a.ready = false → a.op = some k → s.op k = some o → o.key = k → o.phase = 1 →
    o.opcode = opLaunch →
    (a.launch ≤ s.clk.ftc →
      Completes (.armingComplete ctx) s
        [.mem, .frm, .rgn, .wsk, .mc, .syn, .sch, .pwr, .evt, .att, .par, .obs, .cls, .tally] fun t =>
        (t.ctx ctx).arm = none ∧ (t.ctx ctx).marked = true ∧ (t.ctx ctx).state = c.state ∧
        t.evt.newest = s.evt.newest + 1 ∧ t.mem.bytes = s.mem.bytes) ∧
    (s.clk.ftc < a.launch → s.imgRegion a.handle c.part = none →
      Completes (.armingComplete ctx) s
        [.mem, .frm, .rgn, .wsk, .mc, .tl, .syn, .sch, .pwr, .evt, .att, .par, .obs, .cls, .tally] fun t =>
        Answered s t o cState 0 [] ∧ (c.state = 1 → c.marked = false → c.aborted = false → t.ctx ctx = {}) ∧
          (t.ctx ctx).arm = none ∧
        t.evt.newest = s.evt.newest + 1 ∧ t.mem.bytes = s.mem.bytes) ∧
    (∀ (d : Desc) (u x v : State) (b : List Byte) (es : List (List Byte)) (a1 : Arm),
      s.clk.ftc < a.launch → s.imgRegion a.handle c.part = some d →
      u = (s.schedCheck a.handle a.ofs d).chargeOp k (granulesIn a.ofs a.length) → b = u.rread d a.ofs a.length →
      u.schedOf (hdDesc a.handle) a.ofs = some true → u.schedHdrOk c.part a b = true → es = shEntries b →
      a1 = { a with
        span := shSpan b, mcastDl := natAt b 28 4, digest := natAt b 32 16, entries := es,
        args := es.map fun e =>
          if enKind e = 1 ∧ pgArgs e ≠ 0 then sliceBytes b (pgArgs e) 256 else List.replicate 256 0 } →
      (u.wakeRun ((es.filter fun e => enKind e = 1).map enTiles).flatten).2 = true →
      x = (es.filter fun e => enKind e = 1).foldl (fun y e => match y.imgRegion (pgImage e) c.part with
        | some g => y.imgCheck (pgImage e) (pgOfs e) g
        | none => y) u →
      x.armEntries ctx c a1 (x.takenTiles c.part) (if c.state = 1 then x else x.freeSlots c.part c.step) es 0 = .inl v →
      Completes (.armingComplete ctx) s
        [.mem, .frm, .rgn, .wsk, .mc, .tl, .syn, .sch, .pwr, .evt, .att, .par, .obs, .cls, .tally] fun t =>
        Concludes s t o cDone 0 [] ∧ (t.ctx ctx).arm = some { a1 with ready := true, op := none } ∧
        t.mem.bytes = s.mem.bytes ∧
        (c.state = 1 → t.ctx ctx =
          { c with state := 2, arm := some { a1 with ready := true, op := none }, span := shSpan b,
                   mcastDl := natAt b 28 4, digest := natAt b 32 16, entries := es, args := a1.args }))) ∧
  (∀ (s : State) (ctx : Nat) (a : Arm), s.live = true → ctx < 16 → (s.ctx ctx).arm = some a → a.ready = false →
    a.launch = s.clk.ftc + 1 →
    Completes (.armingDeadline ctx) s
      [.mem, .frm, .rgn, .wsk, .mc, .syn, .sch, .pwr, .evt, .att, .par, .obs, .cls, .tally] fun t =>
      (t.ctx ctx).arm = none ∧ (t.ctx ctx).marked = true ∧ (t.ctx ctx).state = (s.ctx ctx).state ∧
      t.evt.newest = s.evt.newest + 1 ∧
      (∀ k ∈ s.framesOf (s.ctx ctx).part (s.ctx ctx).step, t.op k = none) ∧ t.mem.bytes = s.mem.bytes)

/-- 09 R279, R280, R273: on its launch edge, the one on which FTC is LAUNCH_FTC (R265), an armed context runs what it
has armed under the next run number; a PROGRAM entry of a running context fires on the one edge of its REL, after
those before it in the image that are due on it, and gives every tile of its set its start; a context whose span has
passed and whose programs, slots and commit are done is free. -/
def Obligations.ContextsRunAndEnd : Prop :=
  (∀ (s : State) (ctx : Nat) (a : Arm), s.live = true → ctx < 16 → (s.ctx ctx).arm = some a → a.ready = true →
    a.launch = s.clk.ftc →
    Completes (.launchEdge ctx) s [.mem, .wsk, .tl, .sch, .evt, .att, .par, .obs, .tally] fun t =>
      t.ctx ctx =
        { state := 3, part := (s.ctx ctx).part, step := (s.ctx ctx).step, launch := a.launch, sched := a.sched,
          run := ((s.ctx ctx).run + 1) % 256, span := a.span, mcastDl := a.mcastDl, digest := a.digest,
          entries := a.entries, args := a.args } ∧
      (∀ i, i ≠ ctx → t.ctx i = s.ctx i) ∧ mapFind t.sch.edges (s.ctx ctx).part = some a.launch ∧
      ((s.ctx ctx).state ≠ 3 → t.wsk.slots = s.wsk.slots ∧ t.tl = s.tl) ∧
      ((∀ e ∈ a.entries, enKind e ≠ 3) → t.mem.bytes = s.mem.bytes ∧ t.sch.spills = s.sch.spills)) ∧
  (∀ (s : State) (ctx entry : Nat) (e : List Byte), s.live = true → ctx < 16 → entry < 2048 →
    (s.ctx ctx).entries[entry]? = some e → (s.ctx ctx).state = 3 → enKind e = 1 →
    (s.ctx ctx).fired.contains entry = false → (s.ctx ctx).launch + pgRel e = s.clk.ftc → s.inTurn ctx entry = true →
    Completes (.programEntryFire ctx entry) s [.tl, .sch, .pwr, .stress, .evt, .arb] fun t =>
      t.ctx ctx = { s.ctx ctx with fired := (s.ctx ctx).fired ++ [entry] } ∧ (∀ i, i ≠ ctx → t.ctx i = s.ctx i) ∧
      (∀ i, i < natAt e 10 2 → s.setTiles.contains (natAt e 8 2 + i) = false →
        (s.tile (natAt e 8 2 + i)).c.start = none →
        [0, 1, 5, 6].contains (s.tile (natAt e 8 2 + i)).c.state = false →
        (t.tile (natAt e 8 2 + i)).c.start = some
          { args := (s.ctx ctx).args.getD entry [], part := (s.ctx ctx).part, cls := natAt e 12 1 % 64, setpos := i,
            setsize := natAt e 10 2, step := (s.ctx ctx).step, sched := true, ftc := (s.ctx ctx).launch + pgRel e }) ∧
      (∀ n, n < natAt e 8 2 ∨ natAt e 8 2 + natAt e 10 2 ≤ n → t.tile n = s.tile n)) ∧
  (∀ (s : State) (ctx : Nat), s.live = true → ctx < 16 → (s.ctx ctx).state = 3 → (s.ctx ctx).arm = none →
    (s.ctx ctx).launch + (s.ctx ctx).span ≤ s.clk.ftc →
    (s.ctx ctx).fired.length = ((s.ctx ctx).entries.filter fun e => enKind e = 1).length →
    (∀ e ∈ (s.ctx ctx).entries, enKind e = 1 → ∀ n ∈ enTiles e, (s.tile n).c.state ≠ 3 ∧ (s.tile n).c.start = none) →
    (∀ p ∈ s.wsk.slots, ∀ d, p.2.decl = some d → d.ctx = ctx → p.2.step = (s.ctx ctx).step → 3 ≤ p.2.state) →
    (∀ p ∈ s.wsk.resv, p.1 / 4096 ≠ ctx) →
    ((s.ctx ctx).commitEntry = none ∨ (s.ctx ctx).committed = true ∨ (s.ctx ctx).aborted = true) →
    Completes (.contextEnd ctx) s [.sch] fun t => t.ctx ctx = {} ∧ (∀ i, i ≠ ctx → t.ctx i = s.ctx i))

/-- 08 R262, R263: a set that is stuck and that nothing has moved since its last report is snapshot in the ring of 8 and
raises an event; one that is not stuck, or was reported, changes nothing. -/
def Obligations.EggTimerReportsStuckSets : Prop :=
  ∀ (s : State) (l r : List EggSet) (g : EggSet), s.eggSets = l ++ g :: r → (∀ x ∈ l ++ r, s.stuck x = false) →
    (s.stuck g = true → s.eggKnown g = false →
      Completes .eggTimerEvaluate s [.syn, .evt] fun t =>
        t.syn.eggs = s.syn.eggs + 1 ∧ mapFind t.syn.snaps (s.syn.eggs % 8) = some ⟨s.eggSnap g⟩ ∧
        (∀ i, i ≠ s.syn.eggs % 8 → mapFind t.syn.snaps i = mapFind s.syn.snaps i) ∧
        mapFind t.syn.reported g.key = some s.clk.now ∧ t.syn.bars = s.syn.bars ∧
        t.evt.newest = s.evt.newest + 1) ∧
    ((s.stuck g = false ∨ s.eggKnown g = true) →
      exec .eggTimerEvaluate s = .next s)

/-- 09 R267, R268, R269: an accepted pulse in FREE loads V + 6 and begins ACQUIRE; in ACQUIRE it steers the trim, and
the fourth in a row within 8 begins TRACK; past FTC_MAX_ERR a pulse faults the discipline; in TRACK it steers; in
HOLDOVER one within FTC_HOLD_ERR goes back. A pulse without a value, an early one, or one while the PLL is unlocked is
ignored; three missing pulses begin HOLDOVER, and HOLDOVER past its limit faults. R270: FTC_RESYNC is refused while a
schedule context is in use; otherwise, whatever the value written, the next accepted pulse loads the FTC as
at the end of FREE and begins ACQUIRE. -/
def Obligations.FabricTimeDiscipline : Prop :=
  (∀ (s : State) (src : MgmtSrc) (value : Nat) (b : Access) (o : Obj), value < 256 →
    Accepted s src { kind := 2, idx := 0xD000, sub := 11, data := beBytes 1 value } b o →
    ((∃ p ∈ s.sch.ctxs, p.2.state ≠ 0) → TurnedAway (.ftcResync src value) s src b cState 0) ∧
    ((∀ p ∈ s.sch.ctxs, p.2.state = 0) →
      Does (.ftcResync src value) s src b [.sch] fun t =>
        t.sch = { s.sch with disc := { s.sch.disc with resync := true } })) ∧
  (∀ (s : State) (valid : Bool) (v ph : Nat) (e : Int), v < 2 ^ 64 → ph < 8 →
    e = 8 * (s.clk.ftc : Int) + ph - 8 * (v : Int) →
    ((valid = false ∨ s.clk.locked = false ∨
        ∃ x, s.sch.disc.last = some x ∧ s.clk.now < x + tclkR (s.param 0xD000 7) / 2) →
      Completes (.ftcPulse valid v ph) s [.obs, .tally] fun t => t.clk = s.clk) ∧
    (valid = true → s.clk.locked = true →
      (∀ x, s.sch.disc.last = some x → x + tclkR (s.param 0xD000 7) / 2 ≤ s.clk.now) →
      ((s.sch.disc.state = 0 ∨ s.sch.disc.resync = true) →
        Completes (.ftcPulse valid v ph) s [.clk, .sch, .evt, .obs, .tally] fun t =>
          t.clk = { s.clk with ftc := (v + 6) % 2 ^ 64 } ∧ t.sch.disc.state = 1 ∧ t.sch.disc.acc = 0 ∧
          t.sch.disc.resync = false ∧ t.sch.disc.last = some s.clk.now ∧
          (s.sch.disc.state ≠ 1 → t.evt.newest = s.evt.newest + 1)) ∧
      (s.sch.disc.state ≠ 0 → s.sch.disc.resync = false →
        Completes (.ftcPulse valid v ph) s [.sch, .evt, .obs, .tally] fun t =>
          t.clk = s.clk ∧ t.sch.disc.last = some s.clk.now ∧ t.sch.ctxs = s.sch.ctxs ∧
          t.sch.disc.err = clampI (-(2 ^ 31)) (2 ^ 31 - 1) e ∧
          ((s.sch.disc.state = 1 ∨ s.sch.disc.state = 2) → s.param 0xD000 6 < e.natAbs →
            t.sch.disc.state = 4 ∧ t.sch.disc.trim = s.sch.disc.trim) ∧
          ((s.sch.disc.state = 1 ∨ s.sch.disc.state = 2) → e.natAbs ≤ s.param 0xD000 6 →
            t.sch.disc.acc = clampI (-(2 ^ 31)) (2 ^ 31 - 1) (s.sch.disc.acc + e) ∧
            t.sch.disc.trim = clampI (-109951163) 109951163 (s.sch.disc.trim - (s.param 0xD000 9 : Int) * e -
              (s.param 0xD000 10 : Int) * clampI (-(2 ^ 31)) (2 ^ 31 - 1) (s.sch.disc.acc + e)) ∧
            (s.sch.disc.state = 1 → t.sch.disc.state = if e.natAbs ≤ 8 ∧ 3 ≤ s.sch.disc.close then 2 else 1) ∧
            (s.sch.disc.state = 2 → t.sch.disc.state = 2)) ∧
          (s.sch.disc.state = 3 →
            t.sch.disc.state = if e.natAbs ≤ s.param 0xD000 5 then s.sch.disc.from_ else 4) ∧
          (s.sch.disc.state = 4 → t.sch.disc.state = 4)))) ∧
  (∀ (s : State) (x : Nat), s.sch.disc.last = some x → s.since x (3 * tclkR (s.param 0xD000 7)) = true →
    (s.sch.disc.state = 1 ∨ s.sch.disc.state = 2) →
    Completes .pulseTimeout s [.sch, .evt, .obs, .tally] fun t =>
      t.sch.disc = { s.sch.disc with from_ := s.sch.disc.state, holdAt := s.clk.now, state := 3, close := 0 } ∧
      t.sch.ctxs = s.sch.ctxs ∧ t.evt.newest = s.evt.newest + 1) ∧
  (∀ (s : State), s.sch.disc.state = 3 → s.since s.sch.disc.holdAt (usR (s.param 0xD000 8)) = true →
    Completes .holdoverMaxExpiry s [.sch, .evt, .obs, .tally] fun t =>
      t.sch.disc = { s.sch.disc with state := 4, close := 0 } ∧ t.sch.ctxs = s.sch.ctxs ∧
      t.evt.newest = s.evt.newest + 1)

/-- 09 R284, R294 and 10 R312, R313, R322 to R325: a wheel table takes effect on its one edge; a rehash pass replaces
ROOT by the root of the range where no admitted write has yet to change it, and answers the operations whose digest
waited for it; the budget window's edge makes OVER exactly the classes past their budget and empties the counts; a
round of an arbiter grants the request of least priority, eligible ones before all others, and counts up every other;
a request for a gated domain wakes it, and one for a domain about to be gated aborts that; a frozen instance holds no
round. -/
def Obligations.WheelDigestBudgetAndRounds : Prop :=
  (∀ (s : State) (l : List Nat), s.live = true →
    ((s.sch.skillet.next.find? fun p => decide (p.2 = s.clk.ftc)) = some (l, s.clk.ftc) →
      Completes (.wheelTableEffect 1) s [.sch] fun t =>
        t.sch.wheelFtc = s.clk.ftc ∧ t.sch.skillet.table = some l ∧
        (∀ p, p ∈ t.sch.skillet.next ↔ p ∈ s.sch.skillet.next ∧ s.clk.ftc < p.2) ∧
        t.sch.whisk = s.sch.whisk ∧ t.sch.stockpot = s.sch.stockpot ∧ t.sch.disc = s.sch.disc ∧
        t.sch.ctxs = s.sch.ctxs ∧ t.sch.spills = s.sch.spills ∧ t.sch.edges = s.sch.edges) ∧
    ((s.sch.whisk.next.find? fun p => decide (p.2 = s.clk.ftc)) = some (l, s.clk.ftc) →
      Completes (.wheelTableEffect 2) s [.sch] fun t =>
        t.sch.wheelFtc = s.clk.ftc ∧ t.sch.whisk.table = some l ∧
        (∀ p, p ∈ t.sch.whisk.next ↔ p ∈ s.sch.whisk.next ∧ s.clk.ftc < p.2) ∧
        t.sch.skillet = s.sch.skillet ∧ t.sch.stockpot = s.sch.stockpot ∧ t.sch.disc = s.sch.disc ∧
        t.sch.ctxs = s.sch.ctxs ∧ t.sch.spills = s.sch.spills ∧ t.sch.edges = s.sch.edges) ∧
    ((s.sch.stockpot.next.find? fun p => decide (p.2 = s.clk.ftc)) = some (l, s.clk.ftc) →
      Completes (.wheelTableEffect 3) s [.sch] fun t =>
        t.sch.wheelFtc = s.clk.ftc ∧ t.sch.stockpot.table = some l ∧
        (∀ p, p ∈ t.sch.stockpot.next ↔ p ∈ s.sch.stockpot.next ∧ s.clk.ftc < p.2) ∧
        t.sch.skillet = s.sch.skillet ∧ t.sch.whisk = s.sch.whisk ∧ t.sch.disc = s.sch.disc ∧
        t.sch.ctxs = s.sch.ctxs ∧ t.sch.spills = s.sch.spills ∧ t.sch.edges = s.sch.edges)) ∧
  (∀ (s u : State) (desc : Nat), s.live = true → desc < 16384 → (s.descOf desc).digest = true →
    (s.descOf desc).kind ≠ kParam → ((s.descOf desc).state = 1 ∨ (s.descOf desc).state = 2) → s.dirtyCount desc ≠ 0 →
    ((∀ p ∈ s.frm.ops, p.2.region ≠ some desc ∧ p.2.wait = none) →
      Completes (.rehashPass desc) s [.rgn, .obs, .tally] fun t =>
        t.descOf desc = { s.descOf desc with root := s.rangeRoot (s.descOf desc) } ∧
        (∀ i, i ≠ desc → t.descOf i = s.descOf i) ∧
        (∀ p ∈ t.rgn.dirty, p.1 / 2 ^ 20 ≠ desc) ∧ (∀ p ∈ s.rgn.dirty, p.1 / 2 ^ 20 ≠ desc → p ∈ t.rgn.dirty)) ∧
    (u = (s.frm.ops.filter fun p => decide (p.2.region = some desc)).foldl (fun x p => x.markTouched p.2.ord p.2.hdr)
        (s.modRgn fun g => { g with dirty := g.dirty.filter fun p => decide (p.1 / 2 ^ 20 ≠ desc) }) →
      Completes (.rehashPass desc) s
        [.mem, .frm, .rgn, .wsk, .mc, .syn, .sch, .pwr, .att, .par, .obs, .cls, .tally] fun t =>
        t.rgn.dirty = u.rgn.dirty ∧ t.mem.bytes = s.mem.bytes ∧
        (t.descOf desc).root = (if u.dirtyCount desc = 0 then s.rangeRoot (s.descOf desc) else (s.descOf desc).root) ∧
        (∀ k o f, s.op k = some o → o.wait = some f →
          (u.rgn.dirty.any fun p => decide (p.1 / 2 ^ 20 = hdDesc (hHandle o.hdr)) && decide (p.2 < o.ord)) = false →
          t.op k = none))) ∧
  (∀ (s : State), s.live = true → s.clk.ftc % s.param 0x5000 2 = 0 → s.cls.edge ≠ some s.clk.ftc →
    Completes .budgetWindowEdge s [.obs, .cls, .tally] fun t =>
      t.cls.bytes = [] ∧ t.cls.edge = some s.clk.ftc ∧ t.cls.meters = s.cls.meters ∧
      (∀ c, c < 64 → (t.isOver c = true ↔
        s.classParam c 9 ≠ 0 ∧ s.classParam c 9 < mapGet 0 s.cls.bytes c))) ∧
  (∀ (s : State) (kind inst : Nat) (reqs : List ArbReq) (bids l1 l2 : List Bid) (b : Bid), s.live = true →
    s.build.hasArb kind inst = true → (∀ x ∈ reqs, x.idx < 65536 ∧ s.build.hasOrigin x.src = true) →
    bids = reqs.filterMap (s.bid kind) →
    ((kind = 3 ∨ kind = 4) → exec (.arbiterRound kind inst reqs) s = .next s) ∧
    (∀ d, kind ≠ 3 → kind ≠ 4 → bids ≠ [] → arbDomain kind inst = some d → s.settled d = false →
      exec (.arbiterRound kind inst reqs) s = .next (s.wakeDom d)) ∧
    (kind ≠ 3 → kind ≠ 4 → (∀ d, arbDomain kind inst = some d → s.settled d = true) →
      ((s.arbAt kind inst).freeze ≠ 0 →
        Completes (.arbiterRound kind inst reqs) s [.obs, .arb, .tally] fun t =>
          t.arbAt kind inst = (s.arbAt kind inst).released bids) ∧
      ((s.arbAt kind inst).freeze = 0 → bids = l1 ++ b :: l2 →
        (∀ x ∈ bids, x.last = true ∨ (s.arbAt kind inst).holder ≠ some x.idx) →
        (∀ x ∈ l1 ++ l2, x.idx ≠ b.idx ∧ b.prio < x.prio) →
        (b.eligible = true ∨ ∀ x ∈ bids, x.eligible = false ∧ (s.arbAt kind inst).waitOf x.idx < s.waitLimit kind) →
        Completes (.arbiterRound kind inst reqs) s [.obs, .arb, .tally] fun t =>
          (t.arbAt kind inst).holder = some b.idx ∧ mapGet 0 (t.arbAt kind inst).waits b.idx = 0 ∧
          (∀ x ∈ l1 ++ l2,
            mapGet 0 (t.arbAt kind inst).waits x.idx = min 1023 ((s.arbAt kind inst).waitOf x.idx + 1)))))

/-! ### The management port and the dictionary (15, 16) -/

/-- 15 R432, R444: what the control words of the port answer and do. STATUS and EVENT_PEEK are answered at every
stage, HOLD at stages 0x01 and 0x02, the others at 0x02; elsewhere they are refused with REFUSED_STATE, and an
argument out of its range is refused as a format fault. -/
def Obligations.ControlWordsOfThePort : Prop :=
  (∀ (s : State) (tag : Nat), tag < 16 → s.mgtUp = true →
    (Completes (.status tag) s [.obs, .tally, .mgtRsp] fun t =>
      t.mgtRsp = rspWords 8 tag cDone 8
        (beBytes 1 s.ldl.stage ++ beBytes 1 s.ldl.slot ++ beBytes 2 s.ldl.cause ++ beBytes 4 s.fwVersion)) ∧
    (Completes (.eventPeek tag) s [.obs, .tally, .mgtRsp] fun t =>
      ∃ d, d = ((s.evt.ring.drop (s.evt.ring.length - 8)).map EvRec.bytes).flatten ∧
        t.mgtRsp = rspWords 8 tag cDone d.length d) ∧
    (∀ arg, arg ≤ 1 → (s.ldl.stage = 1 ∨ (s.ldl.stage = 2 ∧ arg = 1)) →
      Completes (.hold tag arg) s [.ldl, .obs, .tally, .mgtRsp] fun t =>
        t.ldl = { s.ldl with held := decide (arg = 1) } ∧ t.mgtRsp = rspWords 8 tag cDone 0 []) ∧
    (s.ldl.stage = 2 → s.ldl.bootSel = 3 →
      Completes (.hold tag 0) s
        [.mem, .dict, .frm, .rgn, .wsk, .mc, .tl, .syn, .sch, .ldl, .per, .pwr, .stress, .evt, .att, .par, .obs, .cls,
         .stk, .pin, .arb, .tally, .mgtRsp, .free] fun t =>
        t.ldl.held = false ∧ t.ldl.slot = 2 ∧ t.mgtRsp = rspWords 8 tag cDone 0 [] ∧
        ((∀ k, s.pin.start = some k → k = .cold) → t.mem.bytes = s.mem.bytes) ∧
        (s.pin.en = [false, false, false] → s.pin.good = [false, false, false] →
          t.ldl.stage = 4 ∧ t.pin.en = [true, false, false])) ∧
    (∀ arg, 1 < arg → arg < 256 → (s.ldl.stage = 1 ∨ s.ldl.stage = 2) →
      Completes (.hold tag arg) s [.obs, .tally, .mgtRsp] fun t => t.mgtRsp = rspWords 8 tag cFormat 64 []) ∧
    (∀ arg, arg < 256 → s.ldl.stage ≠ 1 → s.ldl.stage ≠ 2 →
      Completes (.hold tag arg) s [.obs, .tally, .mgtRsp] fun t => t.mgtRsp = rspWords 8 tag cState 0 []) ∧
    (s.ldl.stage = 2 → s.ldl.bootSel = 1 → s.slotValid 0 = false →
      Completes (.hold tag 0) s [.ldl, .pwr, .stress, .obs, .pin, .arb, .tally, .mgtRsp] fun t =>
        t.ldl.stage = 255 ∧ t.ldl.cause = 3 ∧ t.pwr.parked = true)) ∧
  (∀ (s : State) (tag : Nat), tag < 16 → s.mgtUp = true → s.ldl.stage = 2 →
    (∀ arg, arg ≤ 3 → Completes (.bootSelect tag arg) s [.ldl, .obs, .tally, .mgtRsp] fun t =>
      t.ldl = { s.ldl with bootSel := arg } ∧ t.mgtRsp = rspWords 8 tag cDone 0 []) ∧
    (∀ addr len, addr < 2 ^ 32 → len ≤ 4096 → Completes (.flashRead tag addr len) s [.obs, .tally, .mgtRsp] fun t =>
      t.mgtRsp = rspWords 8 tag cDone len (s.flashRead addr len)) ∧
    (∀ addr, addr < 2 ^ 32 → Completes (.flashErase tag addr) s [.ldl, .per, .evt, .obs, .tally, .mgtRsp] fun t =>
      t.mgtRsp = rspWords 8 tag cDone 0 [] ∧
      (∀ a, mapGet 0xFF t.ldl.flash a = if a / 4096 = addr / 4096 then 0xFF else mapGet 0xFF s.ldl.flash a) ∧
      (addr < 0x2000000 → mapGet 0 t.per.wear (wearIndex addr) = mapGet 0 s.per.wear (wearIndex addr) + 1) ∧
      (∀ k, k ≠ wearIndex addr → mapGet 0 t.per.wear k = mapGet 0 s.per.wear k)) ∧
    (∀ addr data, addr < 2 ^ 32 → addr % 256 + data.length ≤ 256 → s.ldl.fitted = true →
      Completes (.flashProgram tag addr data) s [.ldl, .obs, .tally, .mgtRsp] fun t =>
        (∀ i b, data[i]? = some b → mapGet 0xFF t.ldl.flash (addr + i) = mapGet 0xFF s.ldl.flash (addr + i) &&& b) ∧
        (∀ a, (a < addr ∨ addr + data.length ≤ a) → mapGet 0xFF t.ldl.flash a = mapGet 0xFF s.ldl.flash a) ∧
        t.mgtRsp = if t.flashRead addr data.length = data ∧ s.verifies (wearIndex addr) = true then
            rspWords 8 tag cDone data.length []
          else rspWords 8 tag cState 0 []) ∧
    (∀ addr data, addr < 2 ^ 32 → addr % 256 + data.length ≤ 256 → s.ldl.fitted = false →
      Completes (.flashProgram tag addr data) s [.obs, .tally, .mgtRsp] fun t => t.mgtRsp = rspWords 8 tag cState 0 [])) ∧
  (∀ (s : State) (tag addr len arg : Nat) (data : List Byte), tag < 16 → s.mgtUp = true → addr < 2 ^ 32 → len < 2 ^ 32 →
    arg < 256 →
    (s.ldl.stage ≠ 2 → ∀ c, (c = .flashRead tag addr len ∨ c = .flashErase tag addr ∨ c = .bootSelect tag arg ∨
        c = .flashProgram tag addr data) →
      Completes c s [.obs, .tally, .mgtRsp] fun t => t.mgtRsp = rspWords 8 tag cState 0 []) ∧
    (s.ldl.stage = 2 → 4096 < len →
      Completes (.flashRead tag addr len) s [.obs, .tally, .mgtRsp] fun t => t.mgtRsp = rspWords 8 tag cFormat 12 []) ∧
    (s.ldl.stage = 2 → 256 < addr % 256 + data.length →
      Completes (.flashProgram tag addr data) s [.obs, .tally,
        .mgtRsp] fun t => t.mgtRsp = rspWords 8 tag cFormat 12 []) ∧
    (s.ldl.stage = 2 → 3 < arg →
      Completes (.bootSelect tag arg) s [.obs, .tally, .mgtRsp] fun t => t.mgtRsp = rspWords 8 tag cFormat 64 []))

/-- 15 R430, R431 and 16 R454: a read that passes its checks answers what the object reads as, one that fails a check
is refused with the check's code and AUX; a read changes nothing but MAX_DEBT, which starts its maximum anew, the free
values that a window of the system area uses up, and the header of a mirrored region, which its read repairs (07
R241). -/
def Obligations.ObjectsReadAsTheyStand : Prop :=
  ∀ (s : State) (src : MgmtSrc) (bulk : Bool) (idx sub ofs len : Nat) (a b : Access) (c : Instr),
    c = (if bulk then .bulkRead src idx sub ofs len else .readObject src idx sub ofs len) →
    a = { kind := if bulk then 3 else 1, idx := idx, sub := sub, ofs := ofs, len := len } → idx < 2 ^ 16 → sub < 256 →
    ofs < 2 ^ 32 → len < 2 ^ 32 → Taken s src a b →
    (∀ e, s.checkRead bulk idx sub ofs len = .error e → TurnedAway c s src b e.code e.aux) ∧
    (∀ o, s.checkRead bulk idx sub ofs len = .ok o → o.ty ≠ .blob → ¬(o.base = 0x8F00 ∧ o.sub = 4 ∧ s.obs.unlock = none) →
      (¬(o.base = 0x3000 ∧ o.sub = 10) →
        Completes c s (answerGroups src) fun t =>
          Replied s t src b.kind cDone o.ty.bytes (beBytes o.ty.bytes (s.scalar idx sub)) ∧ t.mem.bytes = s.mem.bytes) ∧
      (o.base = 0x3000 → o.sub = 10 →
        Completes c s (.stk :: answerGroups src) fun t =>
          Replied s t src b.kind cDone o.ty.bytes (beBytes o.ty.bytes (s.scalar idx sub)) ∧
          (t.pot (idx / 256 % 16)).maxDebt =
            (List.range 64).foldl (fun m i => max m (((s.pot (idx / 256 % 16)).pc i).debt)) 0 ∧
          t.mem.bytes = s.mem.bytes)) ∧
    (∀ o, s.checkRead bulk idx sub ofs len = .ok o → o.ty = .blob → o.base ≠ 0x8F10 → ¬(o.base = 0x8F00 ∧ o.sub = 1) →
      (∀ d, s.blobRead (reader src) o idx ofs (if bulk then len else s.blobSize o idx) = some d →
        Completes c s (.mem :: answerGroups src) fun t =>
          Replied s t src b.kind cDone d.length d ∧ t.mem.bytes = (s.healSel (reader src) idx o.sub).mem.bytes ∧
          (idx ≠ 0x6B00 → t.mem.bytes = s.mem.bytes ∧ t.mem.poison = s.mem.poison)) ∧
      (s.blobRead (reader src) o idx ofs (if bulk then len else s.blobSize o idx) = none →
        TurnedAway c s src b cState 0)) ∧
    (∀ o, s.checkRead bulk idx sub ofs len = .ok o → o.base = 0x8F10 → bulk = true →
      (s.mayWindow (reader src) = false → TurnedAway c s src b cState 0) ∧
      (s.mayWindow (reader src) = true → s.poisonIn (s.build.sysBase + (idx - 0x8F10) * 2 ^ 30 + ofs) len = none →
        Completes c s (.free :: answerGroups src) fun t =>
          Replied s t src b.kind cDone len (s.sysRead ((idx - 0x8F10) * 2 ^ 30 + ofs) len) ∧ t.free = s.free + 1 ∧
          t.mem.bytes = s.mem.bytes))

/-- 15 R430, R435, R437, R438 and 16 R454, R457: a write of an RW or RWS object is in force at once, and marks an RWS
object dirty; a write of an RWL object, among them the pattern generator, sweep and comparison words and TEST_HOLD, is
staged under the lock of its domain, within 256 writes and 256 KiB; a write that fails a check is refused with the
check's code and AUX. -/
def Obligations.WritesTakeEffectOrAreStaged : Prop :=
  (∀ (s : State) (src : MgmtSrc) (bulk : Bool) (idx sub ofs : Nat) (data : List Byte) (a b : Access) (c : Instr),
    c = (if bulk then .bulkWrite src idx sub ofs data else .writeObject src idx sub ofs data) →
    a = { kind := if bulk then 4 else 2, idx := idx, sub := sub, ofs := ofs, data := data } → idx < 2 ^ 16 → sub < 256 →
    ofs < 2 ^ 32 → data.length < 2 ^ 32 →
    (∀ e, Taken s src a b → s.checkWrite (reader src) bulk idx sub ofs data = .error e →
      TurnedAway c s src b e.code e.aux) ∧
    (∀ o, Accepted s src a b o → (o.acc = .rw ∨ o.acc = .rws) → o.ty ≠ .blob → ¬(o.base = 0xB000 ∧ o.sub = 4) →
      o.base ≠ 0x9400 → o.base ≠ 0x9200 →
      (s.crossOk o idx (beNat data) = true →
        Does c s src b [.dict] fun t =>
          t.param idx sub = beNat data ∧ (∀ i j, okey i j ≠ okey idx sub → t.param i j = s.param i j) ∧
          mapFind t.dict.dirty (okey idx sub) = some 1 ∧ t.dict.blob = s.dict.blob ∧ t.dict.locks = s.dict.locks) ∧
      (s.crossOk o idx (beNat data) = false → TurnedAway c s src b cState 0)) ∧
    (∀ o, Accepted s src a b o → (o.acc = .rw ∨ o.acc = .rws) → o.ty = .blob →
      Does c s src b [.dict] fun t =>
        t.blob idx sub ofs data.length = data ∧ t.dict.vals = s.dict.vals ∧ t.dict.locks = s.dict.locks ∧
        (∀ k, (k < bkey idx sub ofs ∨ bkey idx sub ofs + data.length ≤ k) →
          mapGet 0 t.dict.blob k = mapGet 0 s.dict.blob k) ∧
        (o.acc = .rws → mapFind t.dict.dirty (okey idx sub) = some 1)) ∧
    (∀ o, Accepted s src a b o → o.base = 0x2F00 → o.sub = 2 →
      Does c s src b [.ldl] fun t =>
        mapGetList 0 t.ldl.staging ofs data.length = data ∧ t.ldl.flash = s.ldl.flash ∧
        (∀ k, (k < ofs ∨ ofs + data.length ≤ k) → mapGet 0 t.ldl.staging k = mapGet 0 s.ldl.staging k)) ∧
    (∀ o l, Accepted s src a b o → o.acc = .rwl → mapFind s.dict.locks (idx / 4096) = some l →
      ((256 ≤ l.staged.length ∨ 262144 < (l.staged.map fun w => w.data.length).foldl (· + ·) 0 + data.length) →
        TurnedAway c s src b cCapacity 0) ∧
      (l.staged.length < 256 → (l.staged.map fun w => w.data.length).foldl (· + ·) 0 + data.length ≤ 262144 →
        Does c s src b [.dict] fun t =>
          t.dict.vals = s.dict.vals ∧ t.dict.blob = s.dict.blob ∧
          mapFind t.dict.locks (idx / 4096) =
            some { l with staged := l.staged ++ [{ idx := idx, sub := sub, ofs := ofs, data := data }] } ∧
          (∀ k, k ≠ idx / 4096 → mapFind t.dict.locks k = mapFind s.dict.locks k)))) ∧
  (∀ (s : State) (src : MgmtSrc) (stack ch w sub n : Nat) (c : Instr) (b : Access) (o : Obj) (l : Lock), stack < 8 →
    ch < 32 →
    ((w < 2 ^ 64 ∧ n = 8 ∧ ((sub = 10 ∧ c = .patgenCtl src stack ch w) ∨ (sub = 11 ∧ c = .sweepCtl src stack ch w) ∨
        (sub = 12 ∧ c = .cmpCtl src stack ch w))) ∨
      (w < 256 ∧ n = 1 ∧ sub = 15 ∧ c = .testHold src stack ch w)) →
    Accepted s src { kind := 2, idx := 0x4000 + 256 * stack + ch, sub := sub, data := beBytes n w } b o →
    mapFind s.dict.locks 4 = some l → l.staged.length < 256 →
    (l.staged.map fun w => w.data.length).foldl (· + ·) 0 + n ≤ 262144 →
    Does c s src b [.dict] fun t =>
      t.dict.vals = s.dict.vals ∧ t.dict.blob = s.dict.blob ∧
      mapFind t.dict.locks 4 = some { l with
        staged := l.staged ++ [{ idx := 0x4000 + 256 * stack + ch, sub := sub, ofs := 0, data := beBytes n w }] } ∧
      (∀ k, k ≠ 4 → mapFind t.dict.locks k = mapFind s.dict.locks k))

/-- 15 R435, R436 and 09 R287: a free lock is granted to its requester, the lock of the block-wide modes only without
live work; a commit by the owner that passes every check puts every staged write in force on one edge and ends the
lock, one that fails a check names the first failing write and changes nothing; an abort, or LOCK_HOLD without a
commit, ends the lock without effect. -/
def Obligations.LocksStageAndCommit : Prop :=
  (∀ (s : State) (src : MgmtSrc) (digit : Nat) (b : Access) (o : Obj), digit < 256 →
    Accepted s src { kind := 2, idx := 0x2E00, sub := 1, data := beBytes 1 digit } b o →
    (mapFind s.dict.locks digit = none → (digit = 2 → s.modesBusy = false) →
      Does (.lockReq src digit) s src b [.dict, .obs, .tally] fun t =>
        mapFind t.dict.locks digit = some { owner := lockHolder (reader src), at_ := s.clk.now } ∧
        (∀ k, k ≠ digit → mapFind t.dict.locks k = mapFind s.dict.locks k) ∧ t.dict.vals = s.dict.vals ∧
        t.dict.blob = s.dict.blob) ∧
    (∀ l, mapFind s.dict.locks digit = some l → l.owner = lockHolder (reader src) →
      Does (.lockReq src digit) s src b [] fun t => t.dict = s.dict) ∧
    (((∃ l, mapFind s.dict.locks digit = some l ∧ l.owner ≠ lockHolder (reader src)) ∨
        (mapFind s.dict.locks digit = none ∧ digit = 2 ∧ s.modesBusy = true)) →
      Completes (.lockReq src digit) s (([.obs, .tally] : List Group) ++ answerGroups src) fun t =>
        Replied s t src b.kind cState 0 [] ∧ t.mem.bytes = s.mem.bytes)) ∧
  (∀ (s u : State) (src : MgmtSrc) (digit : Nat) (b : Access) (o : Obj) (l : Lock), digit < 256 →
    Accepted s src { kind := 2, idx := 0x2E00, sub := 2, data := beBytes 1 digit } b o →
    mapFind s.dict.locks digit = some l →
    (l.owner ≠ lockHolder (reader src) → TurnedAway (.lockCommit src digit) s src b cState 0) ∧
    (∀ p, l.owner = lockHolder (reader src) →
      firstFail (s.commitChecks (s.putAll l.staged) digit l.staged) l.staged = some p →
      TurnedAway (.lockCommit src digit) s src b cState p) ∧
    (l.owner = lockHolder (reader src) →
      firstFail (s.commitChecks (s.putAll l.staged) digit l.staged) l.staged = none →
      u = s.commitUnits (l.staged.foldl (State.commitHook s) (s.putAll l.staged)) l.staged →
      Completes (.lockCommit src digit) s
        (([.mem, .dict, .frm, .rgn, .wsk, .mc, .tl, .syn, .sch, .pwr, .stress, .evt, .att, .par, .cls, .stk, .obs, .arb,
          .tally, .free] : List Group) ++
          answerGroups src) fun t =>
        Replied u t src b.kind cDone l.staged.length [] ∧ mapFind t.dict.locks digit = none ∧
        t.dict.lockEdge = s.clk.ftc ∧ t.dict.vals = u.dict.vals ∧ t.dict.blob = u.dict.blob ∧ t.sch = u.sch ∧
        t.att = u.att ∧ t.par = u.par ∧ { t.cls with bytes := u.cls.bytes } = u.cls ∧ t.stk = u.stk ∧ t.syn = u.syn ∧
        t.tl = u.tl ∧ t.mem.bytes = u.mem.bytes ∧
        ((∀ w ∈ l.staged, ¬(w.idx = 0x3F00 ∧ w.sub = 2)) → t.mem.bytes = s.mem.bytes) ∧
        (∀ w x, l.staged = [w] → findObj s.build w.idx w.sub = some x → x.ty ≠ .blob → w.idx ≠ 0xD100 →
          ¬(0x4000 ≤ w.idx ∧ w.idx < 0x4F00) → t.param w.idx w.sub = beNat w.data) ∧
        (∀ w x, l.staged = [w] → findObj s.build w.idx w.sub = some x → x.ty = .blob → w.idx ≠ 0xD100 →
          w.idx ≠ 0xC000 → t.blob w.idx w.sub w.ofs w.data.length = w.data))) ∧
  (∀ (s : State) (src : MgmtSrc) (digit : Nat) (b : Access) (o : Obj), digit < 256 →
    Accepted s src { kind := 2, idx := 0x2E00, sub := 3, data := beBytes 1 digit } b o →
    (∀ l, mapFind s.dict.locks digit = some l → l.owner = lockHolder (reader src) →
      Does (.lockAbort src digit) s src b [.dict] fun t => t.dict = { s.dict with locks := mapDel s.dict.locks digit }) ∧
    ((∀ l, mapFind s.dict.locks digit = some l → l.owner ≠ lockHolder (reader src)) →
      TurnedAway (.lockAbort src digit) s src b cState 0)) ∧
  (∀ (s : State) (digit : Nat) (l : Lock), lockDomains.contains digit = true → mapFind s.dict.locks digit = some l →
    s.since l.at_ (usR (s.param 0x2E00 4)) = true → s.served 4 = true →
    Completes (.lockExpired digit) s [.dict, .evt, .obs, .tally] fun t =>
      t.dict = { s.dict with locks := mapDel s.dict.locks digit } ∧ t.evt.newest = s.evt.newest + 1)

/-- 16 R464 to R466, R455, R461 and 01 R26, R29, R30; 04 R148; 09 R272; 06 R186: a creation record that passes every
check makes an active region in the lowest free range; a region that nothing names retires, drains and is zeroed with
its mirror; a change of RDONLY on a CODE region starts its checks anew; a selector names an active region of its kind
for its reader; a KV context is released (the record that made it a spill context of another block ends with it, log
88; those of a home context serve its admitted queries first). -/
def Obligations.RegionsAreMadeAndRetired : Prop :=
  (∀ (s : State) (src : MgmtSrc) (r : List Byte) (b : Access) (o : Obj), r.length < 2 ^ 32 →
    Accepted s src { kind := 2, idx := 0xC400, sub := 1, data := r, loose := true } b o →
    (∀ code aux ofs, s.crRefusal r = some (code, aux, ofs) →
      Completes (.regionCreate src r) s (([.dict, .free] : List Group) ++ answerGroups src) fun t =>
        Replied s t src b.kind code aux [] ∧ t.rgn.hash = s.rgn.hash ∧ t.mem.bytes = s.mem.bytes ∧
        mapFind t.dict.result (reader src) = some (crResult code ofs 0 0)) ∧
    (s.crRefusal r = none →
      (crKind r = kParam → ∀ l, s.activeDesc (crGeo r 8 3) = some l →
        l.mirror = false ∧ some l.base ≠ s.placeRegion (crLength r)) →
      Does (.regionCreate src r) s src b [.mem, .dict, .rgn] fun t =>
        (∃ base, s.placeRegion (crLength r) = some base ∧ ∃ mbase, (crMirror r = false → mbase = 0) ∧
          (crMirror r = true → s.placeMirror base (crLength r) = some mbase) ∧
          t.descOf s.freeDesc =
            { state := 1, kind := crKind r, owner := crPart r, mirror := crMirror r, rdonly := crRdonly r,
              digest := crDigest r, classMask := natAt r 8 8, base := base, mirrorBase := mbase, length := crLength r,
              handle := crPart r * 2 ^ 18 + s.freeDesc, createFtc := s.clk.ftc,
              root := if crDigest r then zeroRoot (crSpace r) else 0, tag := natAt r 16 8 }) ∧
        mapFind t.dict.result (reader src) = some (crResult cDone 0xFFFF (crPart r * 2 ^ 18 + s.freeDesc) s.clk.ftc) ∧
        (crMirror r = false → ∀ d, d = t.descOf s.freeDesc → t.lost (d.bpa0 / 64) = false →
          (crKind r = kParam → t.rawRead d 0 64 = beBytes 64 (crPrmHdr r)) ∧
          (crKind r = kKv → t.rawRead d 0 64 = beBytes 64 (crKvHdr r)) ∧
          (crKind r = kLog → t.rawRead d 0 64 = beBytes 64 (crLogHdr r)) ∧
          (crKind r ≠ kParam → crKind r ≠ kKv → crKind r ≠ kLog → t.mem.bytes = s.mem.bytes)))) ∧
  (∀ (s : State) (src : MgmtSrc) (handle : Nat) (b : Access) (o : Obj), handle < 2 ^ 24 →
    Accepted s src { kind := 2, idx := 0xC400, sub := 3, data := beBytes 3 handle ++ [0], loose := true } b o →
    ((s.activeDesc handle = none ∨ s.regionNamed handle = true) →
      TurnedAway (.regionRetire src handle) s src b cState 0) ∧
    (∀ d, s.activeDesc handle = some d → s.regionNamed handle = false → s.stepNames handle = true →
      TurnedAway (.regionRetire src handle) s src b cCapacity 0) ∧
    (∀ d, s.activeDesc handle = some d → s.regionNamed handle = false → s.stepNames handle = false →
      (∀ req seq x, src = .frame req seq → s.op (opKey req seq) = some x → x.region = none) →
      Does (.regionRetire src handle) s src b [.rgn] fun t =>
        t.descOf (hdDesc handle) = { d with state := 2 } ∧ (∀ i, i ≠ hdDesc handle → t.descOf i = s.descOf i) ∧
        mapFind t.rgn.drainAt (hdDesc handle) = some s.clk.now)) ∧
  (∀ (s : State) (desc : Nat), desc < 16384 → s.live = true →
    (s.served 2 = true → (s.descOf desc).state = 2 → (s.descOf desc).outstanding = 0 →
      (∀ x, mapFind s.rgn.drainAt desc = some x → x / 8 < s.clk.now / 8) →
      Completes (.regionDrained desc) s [.rgn] fun t =>
        t.descOf desc = { s.descOf desc with state := 3 } ∧ (∀ i, i ≠ desc → t.descOf i = s.descOf i)) ∧
    ((s.descOf desc).state = 3 →
      Completes (.zeroingComplete desc) s [.mem, .rgn, .att, .par] fun t =>
        t.descOf desc = {} ∧ (∀ i, i ≠ desc → t.descOf i = s.descOf i) ∧
        (∀ a, (((s.descOf desc).bpa0 ≤ a ∧ a < (s.descOf desc).bpa0 + (s.descOf desc).capacity) ∨
          ((s.descOf desc).mirror = true ∧ (s.descOf desc).mbpa0 ≤ a ∧
            a < (s.descOf desc).mbpa0 + (s.descOf desc).capacity)) → t.mbyte a = 0) ∧
        (∀ a, ¬((s.descOf desc).bpa0 ≤ a ∧ a < (s.descOf desc).bpa0 + (s.descOf desc).capacity) →
          ¬((s.descOf desc).mirror = true ∧ (s.descOf desc).mbpa0 ≤ a ∧
            a < (s.descOf desc).mbpa0 + (s.descOf desc).capacity) → t.mbyte a = s.mbyte a))) ∧
  (∀ (s : State) (src : MgmtSrc) (handle value : Nat) (b : Access) (o : Obj) (d : Desc), handle < 2 ^ 24 → value < 256 →
    Accepted s src
      { kind := 2, idx := 0xC400, sub := 4, data := beBytes 3 handle ++ beBytes 1 value, loose := true } b o →
    s.activeDesc handle = some d → (∀ req seq x, src = .frame req seq → s.op (opKey req seq) = some x → x.region = none) →
    Does (.regionRdonly src handle value) s src b [.rgn] fun t =>
      t.descOf (hdDesc handle) = { d with rdonly := decide (value = 1) } ∧
      (∀ i, i ≠ hdDesc handle → t.descOf i = s.descOf i) ∧
      (d.kind = kCode → d.rdonly = false → value = 1 →
        (∀ r ∈ t.rgn.hash, r.desc ≠ hdDesc handle) ∧ (∀ r ∈ t.rgn.sched, r.desc ≠ hdDesc handle)) ∧
      ((d.kind ≠ kCode ∨ d.rdonly = true ∨ value = 0) → t.rgn.hash = s.rgn.hash ∧ t.rgn.sched = s.rgn.sched)) ∧
  (∀ (s : State) (desc ofs : Nat) (d : Desc), s.live = true → s.served 2 = true → desc < 16384 → ofs < 2 ^ 40 →
    d = s.descOf desc → d.state = 1 → d.kind = kCode → d.rdonly = true → s.hashOf (hdDesc d.handle) ofs = none →
    Completes (.imageHashCheck desc ofs) s [.rgn, .evt] fun t =>
      t.rgn = { s.rgn with hash := s.rgn.hash ++ [⟨hdDesc d.handle, ofs, (s.imgFault d ofs).isNone⟩] } ∧
      t.evt.newest = s.evt.newest + if (s.imgFault d ofs).isNone then 0 else 1) ∧
  (∀ (s : State) (src : MgmtSrc) (handle : Nat) (b : Access) (o : Obj), handle < 2 ^ 24 →
    Accepted s src { kind := 2, idx := 0xD000, sub := 15, data := beBytes 3 handle ++ [0] ++ beBytes 4 0, loose := true }
      b o →
    (s.imgRegion handle (hdPart handle) = none → TurnedAway (.schedVerify src handle) s src b cState 0) ∧
    (∀ d, s.imgRegion handle (hdPart handle) = some d → s.schedOf (hdDesc handle) 0 = none →
      Does (.schedVerify src handle) s src b [.rgn, .evt] fun t =>
        t.rgn.sched = s.rgn.sched ++ [⟨hdDesc handle, 0, s.schedHashGood d 0⟩] ∧
        t.evt.newest = s.evt.newest + if s.schedHashGood d 0 then 0 else 1)) ∧
  (∀ (s : State) (src : MgmtSrc) (handle idx sub : Nat) (c : Instr) (b : Access) (o : Obj), handle < 2 ^ 24 →
    ((idx = 0x6B00 ∧ sub = 7 ∧ c = .regionHeader src handle) ∨ (idx = 0xD200 ∧ sub = 1 ∧ c = .digestStatus src handle) ∨
      (idx = 0xC400 ∧ sub = 5 ∧ c = .regionDesc src handle)) →
    Accepted s src { kind := 2, idx := idx, sub := sub, data := beBytes 3 handle ++ [0] } b o →
    (∀ d, s.selected idx handle = some d →
      Does c s src b [.dict] fun t =>
        t.dict = { s.dict with sel := mapPut s.dict.sel (selKey idx sub (reader src)) handle }) ∧
    (s.selected idx handle = none → TurnedAway c s src b cState 0)) ∧
  (∀ (s : State) (src : MgmtSrc) (handle ctx : Nat) (b : Access) (o : Obj) (d : Desc), handle < 2 ^ 24 → ctx < 2 ^ 32 →
    Accepted s src
      { kind := 2, idx := 0x6880, sub := 1, data := beBytes 3 handle ++ [0] ++ beBytes 4 ctx, loose := true } b o →
    s.activeDesc handle = some d → d.kind = kKv →
    ((kvContexts (s.kvHdr d) ≤ ctx ∨ kcRole (s.kvCtx d ctx) = 0 ∨ kcRole (s.kvCtx d ctx) = 3) →
      TurnedAway (.ctxRelease src handle ctx) s src b cState 0) ∧
    (d.mirror = false → ctx < kvContexts (s.kvHdr d) → (kcRole (s.kvCtx d ctx) = 1 ∨ kcRole (s.kvCtx d ctx) = 2) →
      Does (.ctxRelease src handle ctx) s src b [.mem, .sch] fun t =>
        (s.failing ((d.bpa0 + 64 + 16 * ctx) / 64) = false → t.kvCtx d ctx = putBits (s.kvCtx d ctx) 127 126 3) ∧
        (∀ a, (a < d.bpa0 + 64 + 16 * ctx ∨ d.bpa0 + 80 + 16 * ctx ≤ a) → t.mbyte a = s.mbyte a) ∧
        t.sch.spills = s.sch.spills.filter fun r =>
          !decide (srSpillEp r.bytes = s.blockEp ∧ srHomeEp r.bytes ≠ s.blockEp ∧ srSpillHandle r.bytes = handle ∧
            srSpillCtx r.bytes = ctx)))

/-- 07 R233, R236, R238, R239, R240: SET_CKPT and SET_COMMITTED write their field of a LOG or an IDLE PARAM region;
STEP_DECIDE settles the lowest context that fits; RESTORE_LOG copies sealed entries, or fails at the first that is not;
RESTORE_RUN replays the steps past COMMITTED_STEP, or fails at the first that does not. -/
def Obligations.ParameterRecordsAct : Prop :=
  (∀ (s : State) (src : MgmtSrc) (handle step : Nat) (b : Access) (o : Obj), handle < 2 ^ 24 → step < 2 ^ 64 →
    (Accepted s src
        { kind := 2, idx := 0x6B00, sub := 1, data := beBytes 3 handle ++ [0] ++ beBytes 4 0 ++ beBytes 8 step,
          loose := true } b o →
      ((∀ d, s.activeDesc handle = some d → d.kind ≠ kLog) → TurnedAway (.setCkpt src handle step) s src b cState 0) ∧
      (∀ d, s.activeDesc handle = some d → d.kind = kLog → d.mirror = false →
        Does (.setCkpt src handle step) s src b [.mem] fun t =>
          (s.lost (d.bpa0 / 64) = false → t.logHdr d = putBits (s.logHdr d) 382 319 step) ∧
          (∀ a, (a < d.bpa0 ∨ d.bpa0 + 64 ≤ a) → t.mbyte a = s.mbyte a))) ∧
    (Accepted s src
        { kind := 2, idx := 0x6B00, sub := 6, data := beBytes 3 handle ++ [0] ++ beBytes 4 0 ++ beBytes 8 step,
          loose := true } b o →
      ((∀ d, s.activeDesc handle = some d → d.kind ≠ kParam ∨ prmState (s.prmHdr d) ≠ 0) →
        TurnedAway (.setCommitted src handle step) s src b cState 0) ∧
      (∀ d, s.activeDesc handle = some d → d.kind = kParam → prmState (s.prmHdr d) = 0 →
        (d.mirror = true → d.mirrorBase ≠ d.base) →
        Does (.setCommitted src handle step) s src b [.mem, .par] fun t =>
          (s.lost (d.bpa0 / 64) = false → t.prmHdr d = putBits (s.prmHdr d) 319 256 step) ∧
          (∀ a, (a < d.bpa0 ∨ d.bpa0 + 64 ≤ a) → (d.mirror = true → a < d.mbpa0 ∨ d.mbpa0 + 64 ≤ a) →
            t.mbyte a = s.mbyte a) ∧
          (∀ x ∈ t.par.committed, x.1 / 2 ^ 64 = d.owner → x.1 % 2 ^ 64 ≤ step)))) ∧
  (∀ (s : State) (src : MgmtSrc) (step action k i : Nat) (b : Access) (o : Obj) (l r : List (Nat × Ctx)) (c : Ctx),
    step < 2 ^ 64 → action < 256 → k < 256 →
    Accepted s src
      { kind := 2, idx := 0x6B00, sub := 2, data := beBytes 8 step ++ beBytes 1 action ++ beBytes 1 k ++ beBytes 6 0,
        loose := true } b o →
    s.sch.ctxs = l ++ (i, c) :: r → (∀ p ∈ l, p.1 ≠ i ∧ (p.2.state = 0 ∨ p.2.step ≠ step)) → c.state ≠ 0 →
    c.step = step → c.commitEntry.isSome = true → c.committed = false → c.aborted = false →
    (∀ req seq, src = .frame req seq → opKey req seq ∉ c.votes ∧ opKey req seq ∉ s.framesOf c.part c.step) →
    (action = 1 → c.inDoubt = true →
      Does (.stepDecide src step action k) s src b [.mem, .sch, .evt, .par, .obs, .tally] fun t =>
        (t.ctx i).point = some k ∧ (t.ctx i).inDoubt = false ∧
        (s.commitPoint c k < s.clk.ftc → (t.ctx i).committed = true ∧ t.evt.newest = s.evt.newest + 1) ∧
        (s.clk.ftc ≤ s.commitPoint c k → t.ctx i = { c with point := some k, inDoubt := false } ∧
          t.mem.bytes = s.mem.bytes)) ∧
    (action = 2 → s.isHome c = true → c.released = none →
      Completes (.stepDecide src step action k) s
        (([.mem, .frm, .rgn, .wsk, .mc, .syn, .sch, .pwr, .evt, .att, .par, .obs, .cls,
          .tally] : List Group) ++ answerGroups src) fun t =>
        (∀ tag, src = .port tag → Replied s t src b.kind cDone 16 []) ∧
        (∀ req seq, src = .frame req seq → t.op (opKey req seq) = none) ∧ (t.ctx i).aborted = true ∧
        (t.ctx i).marked = true ∧ (∀ v ∈ c.votes, t.op v = none) ∧ t.par.lastStep = step ∧ t.par.lastAction = 2 ∧
        (s.openRegions c.part c.step = [] → s.stepLogs c.part c.step = [] → t.mem.bytes = s.mem.bytes)) ∧
    (action = 2 → s.isHome c = false → c.point = none →
      Completes (.stepDecide src step action k) s
        (([.mem, .frm, .rgn, .wsk, .mc, .syn, .sch, .pwr, .evt, .att, .par, .obs, .cls,
          .tally] : List Group) ++ answerGroups src) fun t =>
        (∀ tag, src = .port tag → Replied s t src b.kind cDone 16 []) ∧
        (∀ req seq, src = .frame req seq → t.op (opKey req seq) = none) ∧ (t.ctx i).aborted = true ∧
        t.par.lastStep = step ∧ t.par.lastAction = 2 ∧
        (s.openRegions c.part c.step = [] → s.stepLogs c.part c.step = [] → t.mem.bytes = s.mem.bytes))) ∧
  (∀ (s : State) (src : MgmtSrc) (handle ep srcHandle first last n w : Nat) (data bytes : List Byte) (b : Access)
      (o : Obj) (d : Desc), handle < 2 ^ 24 → ep < 2 ^ 20 → srcHandle < 2 ^ 24 → first < 2 ^ 64 → last < 2 ^ 64 →
    Accepted s src
      { kind := 2, idx := 0x6B00, sub := 3, loose := true,
        data := beBytes 3 handle ++ [0] ++ beBytes 4 ep ++ beBytes 3 srcHandle ++ beBytes 5 0 ++ beBytes 8 first ++
          beBytes 8 last } b o →
    s.activeDesc handle = some d → d.kind = kLog → d.mirror = false → n = last + 1 - first →
    w = lgEntryBytes (s.logHdr d) → 9 ≤ w →
    bytes = (if ep = s.blockEp then
        ((List.range n).map fun i => s.rread (s.descOf (hdDesc srcHandle)) (lgEntryOfs (s.logHdr d) (first + i)) w).flatten
      else data) →
    (ep ≠ s.blockEp → (s.blockEp = 0 ∨ (s.findPeer ep).isSome = false) →
      Does (.restoreLog src handle ep srcHandle first last data) s src b [.evt, .par] fun t =>
        t.par = { s.par with restore := 4 } ∧ t.evt.newest = s.evt.newest + 2) ∧
    ((ep = s.blockEp ∨ (s.blockEp ≠ 0 ∧ (s.findPeer ep).isSome = true)) →
      (n * w ≤ bytes.length → (∀ i, i < n → natAt bytes (i * w) 8 = first + i ∧ natAt bytes (i * w + 8) 1 = 2) →
        Does (.restoreLog src handle ep srcHandle first last data) s src b [.mem, .frm, .par, .obs, .tally] fun t =>
          t.par = { s.par with restore := 3 } ∧
          (n ≤ lgEntries (s.logHdr d) → (∀ g, d.bpa0 / 64 ≤ g → s.failing g = false) → ∀ i, i < n →
            t.rawRead d (lgEntryOfs (s.logHdr d) (first + i)) w = sliceBytes bytes (i * w) w)) ∧
      (0 < n → (bytes.length < w ∨ natAt bytes 0 8 ≠ first ∨ natAt bytes 8 1 ≠ 2) →
        Does (.restoreLog src handle ep srcHandle first last data) s src b [.frm, .evt, .par] fun t =>
          t.par = { s.par with restore := 4 } ∧ t.evt.newest = s.evt.newest + 1))) ∧
  (∀ (s : State) (src : MgmtSrc) (handle last : Nat) (b : Access) (o : Obj), handle < 2 ^ 24 → last < 2 ^ 64 →
    Accepted s src
      { kind := 2, idx := 0x6B00, sub := 4, loose := true,
        data := beBytes 3 handle ++ [0] ++ beBytes 4 0 ++ beBytes 8 last } b o →
    ((∀ d, s.activeDesc handle = some d → d.kind ≠ kParam ∨ prmState (s.prmHdr d) ≠ 0) →
      TurnedAway (.restoreRun src handle last) s src b cState 0) ∧
    (∀ d, s.activeDesc handle = some d → d.kind = kParam → prmState (s.prmHdr d) = 0 →
      (last ≤ prmCommitted (s.prmHdr d) →
        Does (.restoreRun src handle last) s src b [.par, .obs, .tally] fun t =>
          t.par = { s.par with restore := 3 }) ∧
      (∀ u g, last = prmCommitted (s.prmHdr d) + 1 → s.replayStep handle last = (u, g) →
        Completes (.restoreRun src handle last) s
          (([.clk, .mem, .frm, .rgn, .wsk, .mc, .tl, .syn, .sch, .pwr, .stress, .evt, .att, .par, .obs, .cls, .arb,
            .tally,
            .free] : List Group) ++ answerGroups src) fun t =>
          Replied u t src b.kind cDone b.data.length [] ∧ t.par = { u.par with restore := if g.isNone then 3 else 4 } ∧
          t.mem.bytes = u.mem.bytes ∧ t.evt.newest = u.evt.newest + if g.isNone then 0 else 1)))

/-- 08 R245, R264; 12 R372, R376; 13 R396 to R401: a LADEL_SIGNAL adds to a counter of a tile of any partition, or to
the ledger of a saved tile; RETIRE_RANK queues a rank, starts its migration or fills it, or blocks; a trigger of a
retrain merges, waits, or starts a stand-in or a split retrain; a RETRAIN that no sender asks for starts nothing where
its trigger has not come (the model's choice, log 38). -/
def Obligations.UnitRecordsAct : Prop :=
  (∀ (s : State) (src : MgmtSrc) (ctr amount : Nat) (b : Access) (o : Obj), ctr < 2 ^ 32 → amount < 2 ^ 32 →
    Accepted s src { kind := 2, idx := 0x8000, sub := 5, data := beBytes 4 ctr ++ beBytes 4 amount, loose := true } b o →
    ((s.belongs (ctr / 64) = none ∨ s.ctrOk ctr = false) →
      Completes (.ladelSignal src ctr amount) s (([.evt, .obs, .tally] : List Group) ++ answerGroups src) fun t =>
        Replied s t src b.kind cState 0 [] ∧ t.mem.bytes = s.mem.bytes ∧ t.mem.poison = s.mem.poison ∧
        t.evt.newest = s.evt.newest + if s.ctrOk ctr then 0 else 1) ∧
    (s.ctrOk ctr = true → (s.tile (ctr / 64)).c.state ≠ 0 → (s.tile (ctr / 64)).c.state ≠ 6 →
      s.awake (ctr / 64 / 32) = true →
      Does (.ladelSignal src ctr amount) s src b [.tl, .pwr, .stress, .obs, .arb, .tally] fun t =>
        (t.tile (ctr / 64)).r.getCtr (ctr % 64) = ((s.tile (ctr / 64)).r.getCtr (ctr % 64) + amount) % 2 ^ 32 ∧
        (∀ i, i ≠ ctr / 64 → t.tile i = s.tile i)) ∧
    (∀ v, (s.tile (ctr / 64)).c.state = 6 → mapFind s.tl.saves (ctr / 64) = some v → s.ctrOk ctr = true →
      s.awake (ctr / 64 / 32) = true →
      Does (.ladelSignal src ctr amount) s src b [.tl, .pwr, .stress, .obs, .arb, .tally] fun t =>
        mapGet 0 t.tl.ledger ctr = (mapGet 0 s.tl.ledger ctr + amount) % 2 ^ 32 ∧ (∀ i, t.tile i = s.tile i)) ∧
    (∀ part, s.belongs (ctr / 64) = some part → s.ctrOk ctr = true → s.awake (ctr / 64 / 32) = false →
      Does (.ladelSignal src ctr amount) s src b [.pwr, .stress] fun t =>
        (t.dom (ctr / 64 / 32)).wake.isSome = true ∧
        (∀ g, g = ({ addr := ctr, amount := amount, part := part, path := 3 } : HeldSig) →
          ((s.dom (ctr / 64 / 32)).held.length < 16 →
            (t.dom (ctr / 64 / 32)).held = (s.dom (ctr / 64 / 32)).held ++ [g] ∧
            (t.dom (ctr / 64 / 32)).wait = (s.dom (ctr / 64 / 32)).wait) ∧
          (16 ≤ (s.dom (ctr / 64 / 32)).held.length →
            (t.dom (ctr / 64 / 32)).held = (s.dom (ctr / 64 / 32)).held ∧
            (t.dom (ctr / 64 / 32)).wait = (s.dom (ctr / 64 / 32)).wait ++ [g])))) ∧
  (∀ (s : State) (src : MgmtSrc) (stack v sid : Nat) (b : Access) (o : Obj), stack < 256 → v < 256 → sid < 256 →
    Accepted s src
      { kind := 2, idx := 0x3F10, sub := 11, data := beBytes 1 stack ++ beBytes 1 v ++ beBytes 1 sid ++ [0],
        loose := true } b o →
    (((s.pot stack).mover v sid).isSome = true ∨ (s.pot stack).queue.contains (v, sid) = true →
      Does (.retireRank src stack v sid) s src b [] fun t => t.stk = s.stk) ∧
    (∀ p : Pot, (s.pot stack).mover v sid = none → (s.pot stack).queue.contains (v, sid) = false →
      p = (s.pot stack).failHome (v, sid) → (∀ r ∈ p.queue, p.deadRank r = false) →
      (p.deadRank (v, sid) = false → p.mig.isSome = true →
        Does (.retireRank src stack v sid) s src b [.stk] fun t =>
          t.pot stack = { p with queue := p.queue ++ [(v, sid)] } ∧
          (∀ i, i ≠ stack → t.pot i = s.pot i)) ∧
      (∀ k, p.deadRank (v, sid) = false → p.mig = none → p.queue = [] → p.chooseSlot = some k →
        Does (.retireRank src stack v sid) s src b [.stk] fun t =>
          (t.pot stack).mig = some { v := v, sid := sid, slot := k, mark := 0 } ∧
          (t.pot stack).slot k = { state := 1, srcV := v, srcSid := sid } ∧ (t.pot stack).queue = [] ∧
          (∀ i, i ≠ stack → t.pot i = s.pot i)) ∧
      (∀ k, p.deadRank (v, sid) = true → p.queue = [] → p.chooseSlot = some k →
        Does (.retireRank src stack v sid) s src b [.stk] fun t =>
          (t.pot stack).fills = p.fills ++ [{ v := v, sid := sid, slot := k, mark := 0, fill := true }] ∧
          (t.pot stack).slot k = { state := 1, srcV := v, srcSid := sid } ∧ (t.pot stack).mig = p.mig ∧
          (t.pot stack).queue = [] ∧ (∀ i, i ≠ stack → t.pot i = s.pot i)) ∧
      (p.mig = none → p.queue = [] → p.anyFree = false →
        Does (.retireRank src stack v sid) s src b [.stk, .evt, .obs, .tally] fun t =>
          (t.pot stack).mig = none ∧ (t.pot stack).queue = [] ∧ s.evt.newest < t.evt.newest ∧
          ((t.pot stack).emptied ((p.rankOf v sid).1 / 2) = false → t.evt.newest = s.evt.newest + 1) ∧
          (∀ i, i ≠ stack → t.pot i = s.pot i)))) ∧
  (∀ (s : State) (stack ch trig : Nat) (c : Instr) (l : List Group) (more : State → Prop),
    (((c = .retrain none stack ch 7 ∨ c = .retrainPeriodExpiry stack ch) ∧ l = [] ∧ trig = 7 ∧ stack < s.build.S ∧
      ch < 32 ∧ s.live = true ∧
        s.served (s.stackDuty stack) = true ∧ s.param 0x4F00 14 ≠ 0 ∧
        s.since (s.chan stack ch).trained (secR (s.param 0x4F00 14)) = true ∧ more = fun _ => True) ∨
      (∃ src b o, c = .retrain (some src) stack ch trig ∧ l = answerGroups src ∧ trig = 8 ∧ stack < 8 ∧ ch < 32 ∧
        Accepted s src { kind := 2, idx := 0x4000 + 256 * stack + ch, sub := 14, loose := true, anyData := true } b o ∧
        more = fun t => Replied s t src b.kind cDone b.data.length [])) →
    (2 ≤ (s.chan stack ch).state → (s.chan stack ch).state ≤ 6 →
      Completes c s (.stk :: l) fun t => more t ∧
        t.chan stack ch = { s.chan stack ch with merged := (s.chan stack ch).merged + 1 }) ∧
    ((s.chan stack ch).state = 1 → 30 ≤ ch → (s.pot stack).lent ch = true →
      Completes c s (.stk :: l) fun t => more t ∧
        ((s.chan stack ch).deferred = none → t.chan stack ch = { s.chan stack ch with deferred := some trig }) ∧
        ((s.chan stack ch).deferred ≠ none →
          t.chan stack ch = { s.chan stack ch with merged := (s.chan stack ch).merged + 1 })) ∧
    ((s.chan stack ch).state = 1 →
      ((30 ≤ ch ∧ (s.pot stack).lent ch = false) ∨ (ch < 30 ∧ (s.pot stack).standSpare = none)) →
      Completes c s (.stk :: .evt :: l) fun t => more t ∧
        t.chan stack ch = { s.chan stack ch with
          state := 2, windows := 0, turn := s.mclk, retrains := (s.chan stack ch).retrains + 1 } ∧
        t.evt.newest = s.evt.newest + 1) ∧
    (∀ q, (s.chan stack ch).state = 1 → ch < 30 → (s.pot stack).standSpare = some q →
      Completes c s (.stk :: .evt :: l) fun t => more t ∧
        t.chan stack ch = { s.chan stack ch with state := 3, retrains := (s.chan stack ch).retrains + 1 } ∧
        (t.pot stack).stands = (s.pot stack).stands ++
          [{ ch := ch, spare := q, since := s.clk.now, rate := s.param 0x4F00 18 }] ∧
        (t.pot stack).lent q = true ∧ t.evt.newest = s.evt.newest + 1) ∧
    (∀ t, exec c s = .next t → ∀ i, i ≠ stack → t.pot i = s.pot i)) ∧
  (∀ (s : State) (stack ch trig : Nat), stack < s.build.S → ch < 32 → 1 ≤ trig →
    (trig ≤ 5 ∨ (trig = 6 ∧ s.newPoint stack ch = none) ∨ (trig = 7 ∧ s.periodOver stack ch = false)) →
    exec (.retrain none stack ch trig) s = .next s)

/-- 17 R471, R473 to R477: a write of a control word sets it and starts its counter or its countdown anew; CTR_CLEAR
and SAMPLE_CLEAR empty a unit's counters and a Skillet's samples; on a capture edge every counter is captured at the
next place of the ring. -/
def Obligations.CountersSamplesAndSnapshots : Prop :=
  (∀ (s : State) (src : MgmtSrc) (d k w : Nat) (b : Access) (o : Obj),
    (∀ req seq x, src = .frame req seq → s.op (opKey req seq) = some x → hDigest x.hdr = false) →
    (d < 88 → k < 8 → w < 2 ^ 64 →
      Accepted s src { kind := 2, idx := 0x9400 + d, sub := k + 1, data := beBytes 8 w } b o →
      Does (.ctrCtl src d k w) s src b [.dict, .obs] fun t =>
        t.param (0x9400 + d) (k + 1) = w ∧ mapGet 0 t.obs.ctrs (8 * d + k) = 0 ∧
        (∀ x, x ≠ 8 * d + k → mapGet 0 t.obs.ctrs x = mapGet 0 s.obs.ctrs x) ∧ t.obs.samples = s.obs.samples) ∧
    (d < 88 →
      Accepted s src { kind := 2, idx := 0x9400 + d, sub := 10, loose := true, anyData := true } b o →
      Does (.ctrClear src d) s src b [.obs] fun t =>
        ∀ x, mapGet 0 t.obs.ctrs x = if x / 8 = d then 0 else mapGet 0 s.obs.ctrs x) ∧
    (d < 64 → w < 2 ^ 64 →
      Accepted s src { kind := 2, idx := 0x9200 + d, sub := 1, data := beBytes 8 w } b o →
      Does (.sampleCtl src d w) s src b [.dict, .obs] fun t =>
        t.param (0x9200 + d) 1 = w ∧ mapGet 0 t.obs.countdown d = bits w 55 32 ∧ t.obs.samples = s.obs.samples) ∧
    (d < 64 →
      Accepted s src { kind := 2, idx := 0x9200 + d, sub := 4, loose := true, anyData := true } b o →
      Does (.sampleClear src d) s src b [.obs] fun t =>
        mapGet [] t.obs.samples d = [] ∧ (∀ x, x ≠ d → mapGet [] t.obs.samples x = mapGet [] s.obs.samples x) ∧
        t.obs.ctrs = s.obs.ctrs)) ∧
  (∀ (s : State) (missed : Nat), s.pwr.parked = false → s.ldl.stage = 6 → s.clk.ftc % (s.param 0x9000 1 * 1200) = 0 →
    s.obs.snapFtc ≠ some s.clk.ftc → (∀ p, p < 64 → s.grantOf p = none) →
    missed = (match s.obs.snapFtc with
      | some f => (s.clk.ftc - 1) / (s.param 0x9000 1 * 1200) - f / (s.param 0x9000 1 * 1200)
      | none => 0) →
    Completes .snapshotCapture s [.obs, .tally] fun t =>
      mapFind t.obs.snaps (s.obs.snapSeq % 1024) = some (s.snapRecord missed none) ∧
      (∀ i, i ≠ s.obs.snapSeq % 1024 → mapFind t.obs.snaps i = mapFind s.obs.snaps i) ∧
      t.obs.snapSeq = s.obs.snapSeq + 1 ∧ t.obs.resetMask = 0 ∧ t.obs.snapFtc = some s.clk.ftc ∧
      t.obs.ctrs = s.obs.ctrs)

/-- 17 R478 to R484: a challenge is drawn afresh for its reader; a response that proves the debug key unlocks, any other
uses up the challenge and closes the window for 10 s; the owner alone locks again, and sets counters, stops and resumes
tiles, sets breakpoints and freezes arbiters within its level and scope; an unlock ends with its duration. -/
def Obligations.DebugNeedsItsUnlock : Prop :=
  (∀ (s : State) (src : MgmtSrc) (b : Access), Taken s src { kind := 1, idx := 0x8F00, sub := 1, loose := true } b →
    s.checkRead (decide (b.kind = 3)) 0x8F00 1 b.ofs b.len = .ok ⟨0x8F00, .one, 1, .blob, .ro, 0, 0, 48, 0⟩ →
    (s.clk.now < s.obs.refuse → TurnedAway (.debugChallenge src) s src b cState 0) ∧
    (s.obs.refuse ≤ s.clk.now →
      Completes (.debugChallenge src) s (([.obs, .free] : List Group) ++ answerGroups src) fun t =>
        ∃ x, x = beBytes 32 (Config.nonce s.free).toNat ++ beBytes 8 s.clk.ftc ++ beBytes 4 s.blockEp ++ beBytes 4 0 ∧
          Replied s t src b.kind cDone (if b.kind = 3 then b.len else 48)
            (sliceBytes x b.ofs (if b.kind = 3 then b.len else 48)) ∧
          mapFind t.obs.chal (reader src) = some ⟨x, s.clk.now⟩ ∧ t.free = s.free + 1 ∧ t.mem.bytes = s.mem.bytes ∧
          t.obs.unlock = s.obs.unlock)) ∧
  (∀ (s : State) (src : MgmtSrc) (data : List Byte) (b : Access) (o : Obj), data.length < 2 ^ 32 →
    Accepted s src { kind := 2, idx := 0x8F00, sub := 2, data := data, loose := true } b o →
    ((∀ u, s.obs.unlock = some u → u.owner = reader src) →
      Completes (.debugResponse src data) s (.obs :: answerGroups src) fun t =>
        mapFind t.obs.chal (reader src) = none ∧ t.mem.bytes = s.mem.bytes ∧
        if s.responseOk (reader src) data = true then
          Replied s t src b.kind cDone data.length [] ∧
          t.obs.unlock = some ⟨reader src, natAt data 0 1, natAt data 1 1, s.clk.now + secR (natAt data 4 4)⟩ ∧
          t.obs.refuse = s.obs.refuse
        else
          Replied s t src b.kind cState 0 [] ∧ t.obs.unlock = s.obs.unlock ∧ t.obs.refuse = s.clk.now + secR 10) ∧
    (∀ u, s.obs.unlock = some u → u.owner ≠ reader src →
      Completes (.debugResponse src data) s (.obs :: answerGroups src) fun t =>
        Replied s t src b.kind cState 0 [] ∧ t.obs.unlock = s.obs.unlock ∧ mapFind t.obs.chal (reader src) = none ∧
        t.mem.bytes = s.mem.bytes)) ∧
  (∀ (s : State) (src : MgmtSrc) (b : Access) (o : Obj),
    Accepted s src { kind := 2, idx := 0x8F00, sub := 5, loose := true, anyData := true } b o →
    (∀ u, s.obs.unlock = some u → u.owner = reader src →
      Does (.debugLock src) s src b [.obs, .arb] fun t =>
        t.obs.unlock = none ∧ t.obs.brks = [] ∧ (∀ p ∈ t.arb, bit p.2.freeze 2 = false)) ∧
    ((∀ u, s.obs.unlock = some u → u.owner ≠ reader src) → TurnedAway (.debugLock src) s src b cState 0)) ∧
  (∀ (s : State) (u : Unlock), s.obs.unlock = some u → u.ends ≤ s.clk.now →
    Completes .unlockDurationExpiry s [.obs, .arb] fun t =>
      t.obs = { s.obs with unlock := none, brks := [] } ∧ (∀ p ∈ t.arb, bit p.2.freeze 2 = false)) ∧
  (∀ (s : State) (src : MgmtSrc) (data : List Byte) (b : Access) (o : Obj) (a : Nat), data.length < 2 ^ 32 →
    Accepted s src { kind := 2, idx := 0x8F00, sub := 7, data := data, loose := true } b o → a = natAt data 0 4 →
    (s.ctrOk a = false →
      Completes (.counterSet src data) s (([.evt, .obs, .tally] : List Group) ++ answerGroups src) fun t =>
        Replied s t src b.kind cState 0 [] ∧ t.evt.newest = s.evt.newest + 1 ∧ t.mem.bytes = s.mem.bytes) ∧
    (s.ctrOk a = true → (s.mayControl (reader src) (some (s.tile (a / 64)).c.owner) = false ∨
        [0, 1, 6].contains (s.tile (a / 64)).c.state = true) → TurnedAway (.counterSet src data) s src b cState 0) ∧
    (s.ctrOk a = true → s.mayControl (reader src) (some (s.tile (a / 64)).c.owner) = true →
      [0, 1, 6].contains (s.tile (a / 64)).c.state = false →
      (s.awake (a / 64 / 32) = true →
        Does (.counterSet src data) s src b [.tl, .pwr, .stress, .arb] fun t =>
          (t.tile (a / 64)).r.getCtr (a % 64) =
            (natAt data 4 4 + mapGet 0 ((s.tile (a / 64)).x.netNow s.clk.now) (a % 64)) % 2 ^ 32 ∧ (∀ i, i ≠ a / 64 →
              t.tile i = s.tile i)) ∧
      (s.awake (a / 64 / 32) = false →
        Does (.counterSet src data) s src b [.pwr, .stress] fun t =>
          (t.dom (a / 64 / 32)).wake.isSome = true ∧
          (∀ g, g = (
              { addr := a, amount := natAt data 4 4, part := (s.tile (a / 64)).c.owner, path := 3,
                hand := true } : HeldSig) →
            ((s.dom (a / 64 / 32)).held.length < 16 →
              (t.dom (a / 64 / 32)).held = (s.dom (a / 64 / 32)).held ++ [g] ∧
              (t.dom (a / 64 / 32)).wait = (s.dom (a / 64 / 32)).wait) ∧
            (16 ≤ (s.dom (a / 64 / 32)).held.length →
              (t.dom (a / 64 / 32)).held = (s.dom (a / 64 / 32)).held ∧
              (t.dom (a / 64 / 32)).wait = (s.dom (a / 64 / 32)).wait ++ [g]))))) ∧
  (∀ (s : State) (src : MgmtSrc) (data : List Byte) (b : Access) (o : Obj) (n : Nat), data.length < 2 ^ 32 →
    Accepted s src { kind := 2, idx := 0x8F00, sub := 8, data := data, loose := true } b o → n = natAt data 0 2 →
    (s.mayControl (reader src) (some (s.tile n).c.owner) = false → TurnedAway (.tileControl src data) s src b cState 0) ∧
    (s.mayControl (reader src) (some (s.tile n).c.owner) = true →
      (natAt data 2 1 = 1 → (s.tile n).c.state = 3 →
        ((s.tile n).c.failing = none ∨ (s.tile n).drained = false) →
        Does (.tileControl src data) s src b [.tl] fun t =>
          (t.tile n).c.byHand = true ∧ ((t.tile n).c.frozen = true ∨ (t.tile n).c.state = 4) ∧
          (t.tile n).r = (s.tile n).r ∧ (∀ i, i ≠ n → t.tile i = s.tile i)) ∧
      (natAt data 2 1 = 2 → (((s.tile n).c.state = 5 ∧ (s.tile n).cr.fault / 2 ^ 56 = fDebugStop) ∨
          ((s.tile n).c.state = 4 ∧ (s.tile n).c.byHand = true)) →
        Does (.tileControl src data) s src b [.tl, .pwr, .stress, .arb] fun t =>
          (t.tile n).c.state = 3 ∧ (t.tile n).c.byHand = false ∧ (t.tile n).x.passBp = true ∧
          (t.tile n).r = (s.tile n).r ∧ (∀ i, i ≠ n → t.tile i = s.tile i)))) ∧
  (∀ (s : State) (src : MgmtSrc) (data : List Byte) (b : Access) (o : Obj), data.length < 2 ^ 32 →
    (Accepted s src { kind := 2, idx := 0x8F00, sub := 10, data := data, loose := true } b o →
      (∀ u, s.obs.unlock = some u → u.owner = reader src → u.level = 2 →
        Does (.bpSet src data) s src b [.obs] fun t =>
          mapGet {} t.obs.brks (4 * natAt data 0 2 + natAt data 2 1) =
            ⟨decide (natAt data 3 1 = 1), natAt data 4 4, natAt data 8 2⟩ ∧ t.obs.unlock = some u) ∧
      ((∀ u, s.obs.unlock = some u → u.owner ≠ reader src ∨ u.level ≠ 2) →
        TurnedAway (.bpSet src data) s src b cState 0)) ∧
    (Accepted s src { kind := 2, idx := 0x8F00, sub := 12, data := data, loose := true } b o →
      (s.mayControl (reader src) none = true →
        Does (.arbFreeze src data) s src b [.arb] fun t =>
          t.arbAt (natAt data 0 1) (natAt data 1 2) = { s.arbAt (natAt data 0 1) (natAt data 1 2) with
            freeze := ((s.arbAt (natAt data 0 1) (natAt data 1 2)).freeze &&& 11) + 4 * natAt data 3 1 } ∧
          (∀ k, k ≠ akey (natAt data 0 1) (natAt data 1 2) → mapGet {} t.arb k = mapGet {} s.arb k)) ∧
      (s.mayControl (reader src) none = false → TurnedAway (.arbFreeze src data) s src b cState 0)))

/-! ### The stacked memory (11 to 13) -/

/-- 11 R335, R336, R344 and 12 R361 to R365; 10 R312, R315: an accepted write is what every later read returns, whole
or by its mask, and a whole one ends a poison; a read takes a pool entry at the level of what it serves and charges
its class; where the merge buffer holds its granule, the entry serves it, once its bytes are known; behind others it
waits in the staging FIFO, and where that is full nothing of it happens; a request outside the memory faults. A
retired write leaves its pool; an entry of the merge buffer whose bytes are known goes back; a waiting request ages
under policy 1. -/
def Obligations.GranuleRequestsAreServed : Prop :=
  (∀ (s : State) (stack bpa mask unit tag : Nat) (w : Bool) (data : List Byte) (src : Origin), stack < s.build.S →
    mask < 2 ^ 64 → data.length = 64 → s.build.hasOrigin src = true → unit < 65536 → bpa % 64 = 0 →
    (s.inSpace bpa 64 = false →
      exec (.granuleRequestAccept stack w bpa mask data src unit tag) s = .fault (.outsideMemory bpa)) ∧
    (∀ (y : Place) (k : Standing) (x : Pc), s.inSpace bpa 64 = true → s.live = true → s.standing src = some k →
      s.places (bpa / 64) w = [y] → y.st = stack → s.lost (bpa / 64) = false → s.xbarShut stack = false →
      x = s.pc stack y.pc →
      (w = true → x.fifo = [] → (∀ r : PotReq, r.who = [k] → r.sid = y.sid → r.bank = y.bank → s.poolRoom x r = true) →
        (mask = 2 ^ 64 - 1 ∨ x.mergeOf (bpa / 64) ≠ none ∨ x.merges.length < 32) →
        Completes (.granuleRequestAccept stack w bpa mask data src unit tag) s [.mem, .frm, .tl, .pwr, .stress, .obs,
          .cls, .stk, .arb, .tally]
          fun t =>
          (mask = 2 ^ 64 - 1 → t.mread bpa 64 = data ∧ t.poisoned (bpa / 64) = false) ∧
          (mask ≠ 2 ^ 64 - 1 → t.mem.poison = s.mem.poison ∧
            (s.poisoned (bpa / 64) = false → t.mread bpa 64 = overlay (s.mread bpa 64) data mask) ∧
            (s.poisoned (bpa / 64) = true → t.mem = s.mem)) ∧
          (∀ a, (a < bpa ∨ bpa + 64 ≤ a) → t.mbyte a = s.mbyte a) ∧
          (∀ g, g ≠ bpa / 64 → t.poisoned g = s.poisoned g)) ∧
      (∀ m, w = false → x.fifo = [] → x.mergeOf (bpa / 64) = some m →
        Completes (.granuleRequestAccept stack w bpa mask data src unit tag) s [.frm, .tl, .pwr, .stress, .obs, .cls,
          .stk, .arb, .tally]
          fun t =>
          (∀ c, k.cls = some c → mapGet 0 t.cls.bytes c = mapGet 0 s.cls.bytes c + 64) ∧
          (m.known = true → t.stk = s.stk) ∧
          (m.known = false → ∃ r : PotReq, r.gran = bpa / 64 ∧ r.write = false ∧ r.who = [k] ∧ r.tag = tag ∧
            t.pc stack y.pc = { x with merges := x.merges.replace m { m with waits := m.waits ++ [r] } } ∧
            (∀ c, c ≠ y.pc → t.pc stack c = s.pc stack c))) ∧
      (w = false → x.fifo = [] → x.mergeOf (bpa / 64) = none →
        (∀ r : PotReq, r.who = [k] → r.sid = y.sid → r.bank = y.bank → s.poolRoom x r = true) →
        Completes (.granuleRequestAccept stack w bpa mask data src unit tag) s [.frm, .tl, .pwr, .stress, .obs, .cls,
          .stk, .arb, .tally]
          fun t =>
          (t.pc stack y.pc).pool =
            (x.pool.map fun q =>
              if q.write = true ∧ q.bankIx = 16 * y.sid + y.bank ∧ q.row = y.row then { q with cause := true } else q) ++
            [{ id := x.nextId, write := false, gran := bpa / 64, data := [], level := min 3 (s.levelOf k), src := src,
               who := [k], unit := unit, tag := tag, at_ := s.mclk, sid := y.sid, bank := y.bank, row := y.row,
                 col := y.col }] ∧
          (t.pc stack y.pc).nextId = x.nextId + 1 ∧
          (∀ c, k.cls = some c → mapGet 0 t.cls.bytes c = mapGet 0 s.cls.bytes c + 64) ∧
          (∀ c, c ≠ y.pc → t.pc stack c = s.pc stack c)) ∧
      (x.fifo ≠ [] → x.fifo.length < 8 →
        Completes (.granuleRequestAccept stack w bpa mask data src unit tag) s [.pwr, .stress, .stk, .arb] fun t =>
          (∃ r : PotReq, (t.pc stack y.pc).fifo = x.fifo ++ [r] ∧ r.gran = bpa / 64 ∧ r.write = w ∧ r.who = [k] ∧
            (w = true → r.data = data ∧ r.mask = mask)) ∧
          (t.pc stack y.pc).pool = x.pool ∧ (∀ c, c ≠ y.pc → t.pc stack c = s.pc stack c)) ∧
      (8 ≤ x.fifo.length →
        Completes (.granuleRequestAccept stack w bpa mask data src unit tag) s [.pwr, .stress, .arb] fun _ => True))) ∧
  (∀ (s : State) (stack pc id τ : Nat) (r : PotReq), s.live = true → s.build.hasPc stack pc = true →
    ((s.pc stack pc).pool.find? fun q => decide (q.id = id) && q.write) = some r → r.issued = some τ →
    τ + s.tpar 6 + 2 * s.tpar 7 ≤ s.mclk →
    ((s.pc stack pc).fifo = [] → (s.pc stack pc).own = [] →
      Completes (.writeRetire stack pc id) s [.stk] fun t =>
        (t.pc stack pc).pool = ((s.pc stack pc).pool.filter fun q => q.id ≠ id) ∧
        (∀ c, c ≠ pc → t.pc stack c = s.pc stack c)) ∧
    Completes (.writeRetire stack pc id) s [.mem, .frm, .tl, .evt, .obs, .cls, .stk, .tally] fun t =>
      ∀ c, c ≠ pc → t.pc stack c = s.pc stack c) ∧
  (∀ (s : State) (stack pc id : Nat), s.live = true → s.build.hasPc stack pc = true → s.param 0x3F00 2 = 1 →
    Completes (.ageLimitAged stack pc id) s [.stk] fun t =>
      t.pc stack pc = { s.pc stack pc with
        pool := (s.pc stack pc).pool.map fun r =>
          { r with aged := r.aged || (decide (r.id = id) && decide (s.levelNow (s.pc stack pc) r ≠ 0) &&
              decide (r.at_ + s.param 0x3F00 4 < s.mclk)) } } ∧
      (∀ c, c ≠ pc → t.pc stack c = s.pc stack c)) ∧
  (∀ (s : State) (stack pc gran : Nat) (m : MergeEnt) (y : Place), s.live = true → s.build.hasPc stack pc = true →
    (s.pc stack pc).mergeOf gran = some m → (m.mask = 2 ^ 64 - 1 ∨ m.back = true) →
    y = ((s.places gran true).find? fun z => decide (z.st = stack ∧ z.pc = pc)).getD (s.physical (s.visible gran)) →
    ((28 ≤ (s.pc stack pc).merges.length ∧ (s.pc stack pc).merges.find? MergeEnt.known = some m) ∨
      ((s.pc stack pc).merges.length < 28 ∧ ((s.arbAt 3 (64 * stack + pc)).freeze ≠ 0 ∨
        (s.arbAt 0 (0x200 + stack)).freeze ≠ 0 ∨ m.last + s.param 0x3F10 7 ≤ s.mclk))) →
    (∀ r : PotReq, r.who = m.who → r.sid = y.sid → r.bank = y.bank → s.poolRoom (s.pc stack pc) r = true) →
    ((s.pc stack pc).fifo = [] → (s.pc stack pc).own = [] →
      Completes (.mergeWriteBack stack pc gran) s [.obs, .stk, .tally] fun t =>
        (t.pc stack pc).merges = (s.pc stack pc).merges.erase m ∧
        (∃ r : PotReq, (t.pc stack pc).pool.getLast? = some r ∧ r.write = true ∧ r.gran = gran ∧
          r.data = m.data ∧ r.mask = 2 ^ 64 - 1 ∧ r.copy = true ∧ r.who = m.who ∧ r.sid = y.sid ∧ r.bank = y.bank ∧
          r.row = y.row ∧ r.col = y.col) ∧
        (t.pc stack pc).pool.length = (s.pc stack pc).pool.length + 1 ∧ (∀ c, c ≠ pc → t.pc stack c = s.pc stack c)) ∧
    Completes (.mergeWriteBack stack pc gran) s [.mem, .frm, .tl, .evt, .obs, .cls, .stk, .tally] fun t =>
      ∀ c, c ≠ pc → t.pc stack c = s.pc stack c)

/-- 10 R325; 11 R337 to R345, R347, R349: where the refresh engine does not take the bus, the one request of a
pseudo-channel that can issue a command issues it: the activate of its row, the precharge of another, its column
command, or its rank's exit from power-down; a frozen bus serves only the level that holds it. 13 R397: a bus that
answers an alert issues nothing for 64 MCLK, then has every bank closed and the commands of the span before the alert to
reissue. -/
def Obligations.TheBusIssuesCommands : Prop :=
  (∀ (s : State) (stack pc : Nat) (r : PotReq) (k : BusCmd) (a : Arb), s.live = true → s.build.hasPc stack pc = true →
    s.issuable stack pc = [(r, k)] → (s.pot stack).state = 2 → s.awake (64 + stack) = true →
    (s.pc stack pc).calm = true → s.refreshFirst stack (s.pc stack pc) = false → a = s.arbAt 3 (64 * stack + pc) →
    ((a.freeze = 0 ∨ a.holder = some (s.levelNow (s.pc stack pc) r)) →
      Completes (.stackCommandIssue stack pc) s [.obs, .stk, .arb, .tally] fun t =>
        (k = .act → ((t.pc stack pc).bank r.bankIx).row = some r.row ∧
          ((t.pc stack pc).bank r.bankIx).act = some s.mclk ∧
          ((t.pc stack pc).bank r.bankIx).raa = (((s.pc stack pc).bank r.bankIx).raa + 1) % 2 ^ 16 ∧
          (t.pc stack pc).pool = (s.pc stack pc).pool) ∧
        (k = .pre → ((t.pc stack pc).bank r.bankIx).row = none ∧
          ((t.pc stack pc).bank r.bankIx).pre = some s.mclk ∧ (t.pc stack pc).pool = (s.pc stack pc).pool) ∧
        (k = .col → (t.pc stack pc).pool = (s.pc stack pc).pool.map (fun q =>
            if q.id = r.id then { q with issued := some s.mclk } else q) ∧
          ((t.pc stack pc).bank r.bankIx).row = ((s.pc stack pc).bank r.bankIx).row ∧
          (r.write = true → (t.pc stack pc).driven = scramble (s.lanesOf stack pc) r.bank r.row r.col r.codeword)) ∧
        (k = .exit → ((t.pc stack pc).rank r.sid).down = false ∧ (t.pc stack pc).pool = (s.pc stack pc).pool) ∧
        (t.pc stack pc).bus.contains s.mclk = true ∧
        (∀ i, i ≠ r.bankIx → k ≠ .exit → (t.pc stack pc).bank i = (s.pc stack pc).bank i) ∧
        (∀ c, c ≠ pc → t.pc stack c = s.pc stack c)) ∧
    (a.freeze ≠ 0 → a.holder ≠ some (s.levelNow (s.pc stack pc) r) →
      Completes (.stackCommandIssue stack pc) s [.obs, .arb, .tally] fun t =>
        ∀ i, i ≠ akey 3 (64 * stack + pc) → mapGet {} t.arb i = mapGet {} s.arb i)) ∧
  (∀ (s : State) (stack pc τ : Nat) (l : List PastCmd), s.live = true → s.build.hasPc stack pc = true →
    (s.pot stack).state = 2 → s.awake (64 + stack) = true → (s.pc stack pc).alert = some τ →
    l = ((s.pc stack pc).hist.filter fun k => decide (τ ≤ k.at_ + 64)).reverse →
    (s.mclk < τ + 64 → exec (.stackCommandIssue stack pc) s = .next s) ∧
    (τ + 64 ≤ s.mclk → Completes (.stackCommandIssue stack pc) s [.stk, .arb] fun t =>
      (t.pc stack pc).alert = none ∧ (t.pc stack pc).replay = l ∧ (∀ i, ((t.pc stack pc).bank i).row = none) ∧
      (t.pc stack pc).pool = (s.pc stack pc).pool.map (fun q =>
        if l.any (fun k => decide (k.id = some q.id)) = true then { q with issued := none } else q) ∧
      (l = [] → bit (t.arbAt 3 (64 * stack + pc)).freeze 3 = false) ∧ (l ≠ [] → t.arb = s.arb) ∧
      (∀ c, c ≠ pc → t.pc stack c = s.pc stack c)))

/-- 11 R337, R342, R343, R347 to R352 and 12 R366; 14 R415: on a free bus an idle row is closed, or the next one
opened in its place; the refresh debt rises, and a refresh pays it and lowers RAA, in a rank that it wakes where it
must, or wakes its Stockpot; an RFM lowers RAA by RAA_MAX; an idle rank enters power-down with its rows closed; a
temperature poll sets the rate of refresh; the error counts start again with their window. -/
def Obligations.BanksRefreshAndRest : Prop :=
  (∀ (s : State) (stack pc i row : Nat) (b : Bank), s.live = true → s.build.hasPc stack pc = true → i < 64 →
    b = (s.pc stack pc).bank i → s.busFree (s.pc stack pc) = true → (s.pc stack pc).calm = true →
    (s.pc stack pc).debt < 8 →
    (b.row = some row → max (b.col.getD 0) (b.act.getD 0) + s.param 0x3F00 5 ≤ s.mclk →
      (s.pc stack pc).noHit i row = true → s.mayClose b = true →
      Completes (.pageIdlePrecharge stack pc i) s [.stk] fun t =>
        ((b.spec = false ∨ s.param 0x3F00 10 ≠ 1 ∨ 16384 ≤ row + 1 ∨ ∃ r ∈ (s.pc stack pc).pool, r.bankIx = i) →
          (t.pc stack pc).bank i = { b with row := none, pre := some s.mclk, spec := false, next := none }) ∧
        (b.spec = true → (∀ r ∈ (s.pc stack pc).pool, r.bankIx ≠ i) → s.param 0x3F00 10 = 1 → row + 1 < 16384 →
          (t.pc stack pc).bank i = { b with row := none, pre := some s.mclk, spec := false, next := some (row + 1) }) ∧
        (∀ j, j ≠ i → (t.pc stack pc).bank j = (s.pc stack pc).bank j) ∧ (t.pc stack pc).pool = (s.pc stack pc).pool) ∧
    (b.row = none → b.next = some row →
      ((∃ r ∈ (s.pc stack pc).pool, r.bankIx = i) →
        Completes (.pageIdlePrecharge stack pc i) s [.stk] fun t =>
          (t.pc stack pc).bank i = { b with next := none } ∧ (t.pc stack pc).pool = (s.pc stack pc).pool) ∧
      ((∀ r ∈ (s.pc stack pc).pool, r.bankIx ≠ i) → s.mayOpen (s.pc stack pc) i = true → b.raa + 1 < s.raaMax stack →
        ((s.pc stack pc).rank (i / 16)).down = false →
        Completes (.pageIdlePrecharge stack pc i) s [.obs, .stk, .tally] fun t =>
          (t.pc stack pc).bank i = { b with
            row := some row, act := some s.mclk, raa := (b.raa + 1) % 2 ^ 16, spec := false, next := none } ∧
          (∀ j, j ≠ i → (t.pc stack pc).bank j = (s.pc stack pc).bank j) ∧
          (t.pc stack pc).pool = (s.pc stack pc).pool)) ∧
    (s.rfmDue stack (s.pc stack pc) i = true → (s.pot stack).state = 2 → s.mayRefresh b = true →
      Completes (.rfm stack pc i) s [.obs, .stk, .tally] fun t =>
        (t.pc stack pc).bank i = { b with
          row := none, ready := s.mclk + s.tpar 17, raa := b.raa - s.raaMax stack, spec := false } ∧
        (∀ j, j ≠ i → (t.pc stack pc).bank j = (s.pc stack pc).bank j))) ∧
  (∀ (s : State) (stack pc : Nat), s.live = true → s.build.hasPc stack pc = true → (s.pot stack).refreshes = true →
    ((s.pc stack pc).tick + (s.pc stack pc).step ≤ 128 * s.mclk →
      Completes (.refreshDebtTick stack pc) s [.stk] fun t =>
        t.pc stack pc = { s.pc stack pc with
          debt := (s.pc stack pc).debt + 1, tick := (s.pc stack pc).tick + (s.pc stack pc).step,
          step := 2 * s.tpar 20 / (s.pot stack).rate } ∧
        (t.pot stack).maxDebt = max (s.pot stack).maxDebt ((s.pc stack pc).debt + 1)) ∧
    (0 < (s.pc stack pc).debt → s.awake (64 + stack) = false →
      Completes (.refpb stack pc) s [.pwr, .stress, .arb] fun t => t = s.wakeDom (64 + stack)) ∧
    (0 < (s.pc stack pc).debt → s.awake (64 + stack) = true → s.busFree (s.pc stack pc) = true →
      s.mayRefresh ((s.pc stack pc).bank (s.pc stack pc).refNext) = true →
      (4 < (s.pc stack pc).debt ∨ ∀ p ∈ s.issuable stack pc, s.levelNow (s.pc stack pc) p.1 ≠ 0) →
      Completes (.refpb stack pc) s [.obs, .stk, .tally] fun t =>
        (t.pc stack pc).debt = (s.pc stack pc).debt - 1 ∧
        (t.pc stack pc).refNext = ((s.pc stack pc).refNext + 1) % 64 ∧
        (t.pc stack pc).bank (s.pc stack pc).refNext = { (s.pc stack pc).bank (s.pc stack pc).refNext with
          row := none,
          ready := s.mclk +
            (if ((s.pc stack pc).rank ((s.pc stack pc).refNext / 16)).down then s.tpar 18 else 0) + s.tpar 16,
          raa := ((s.pc stack pc).bank (s.pc stack pc).refNext).raa - s.param (0x3000 + 256 * stack) 8, spec := false } ∧
        (t.pc stack pc).pool = (s.pc stack pc).pool) ∧
    (∀ p ∈ s.issuable stack pc, (s.pc stack pc).debt ≤ 4 → s.awake (64 + stack) = true →
      s.levelNow (s.pc stack pc) p.1 = 0 → exec (.refpb stack pc) s = .next s)) ∧
  (∀ (s : State) (stack pc sid : Nat), s.live = true → s.build.hasPc stack pc = true → sid < 4 →
    ((s.pc stack pc).rank sid).down = false → (∀ q ∈ (s.pc stack pc).pool, q.sid ≠ sid) →
    s.busFree (s.pc stack pc) = true → (s.pc stack pc).calm = true → (s.pc stack pc).debt < 8 →
    (∀ i, i < 16 → ((s.pc stack pc).bank (16 * sid + i)).row = none ∨
      s.mayClose ((s.pc stack pc).bank (16 * sid + i)) = true) →
    ((s.pc stack pc).rank sid).idle + s.param 0x3F00 6 ≤ s.mclk →
    Completes (.powerDownEntry stack pc sid) s [.stk] fun t =>
      (t.pc stack pc).rank sid = { down := true, idle := s.mclk } ∧
      (∀ i, i < 16 → ((t.pc stack pc).bank (16 * sid + i)).row = none) ∧
      (∀ j, j / 16 ≠ sid → (t.pc stack pc).bank j = (s.pc stack pc).bank j) ∧
      (∀ q, q ≠ sid → (t.pc stack pc).rank q = (s.pc stack pc).rank q)) ∧
  (∀ (s : State) (stack : Nat) (x : Int), s.polls stack = true → stack < s.build.S → -2147483648 ≤ x → x < 2147483648 →
    (x < -273 → Completes (.tempPoll stack x) s [.evt, .stk] fun t =>
      t.pot stack = { s.pot stack with rate := 2, tempBad := true } ∧ t.evt.newest = s.evt.newest + 1) ∧
    (-273 ≤ x → Completes (.tempPoll stack x) s [.evt, .stk] fun t =>
      (t.pot stack).temp = x ∧ (t.pot stack).tempBad = false ∧ (t.pot stack).tempFtc = s.clk.ftc ∧
      ((s.param 0x3F00 7 : Int) ≤ x → (t.pot stack).rate = 2) ∧
      (x < (s.param 0x3F00 7 : Int) - s.param 0x3F00 8 → (t.pot stack).rate = 1) ∧
      ((s.param 0x3F00 7 : Int) - s.param 0x3F00 8 ≤ x → x < s.param 0x3F00 7 →
        (t.pot stack).rate = (s.pot stack).rate) ∧
      (∀ i, i ≠ stack → t.pot i = s.pot i))) ∧
  (∀ (s : State), s.live = true → s.clk.ftc % (s.param 0x3F10 5 * 1200000000) = 0 → s.stk.errEdge ≠ some s.clk.ftc →
    Completes .errWindowEdge s [.stk] fun t =>
      t.stk.errEdge = some s.clk.ftc ∧
      (∀ st c, t.pc st c = { s.pc st c with rowCe := [], rowUe := [], rankCe := [] }))

/-- 12 R357 to R375; 13 R380; 03 R94: a read's word is descrambled and judged; an UNCORRECTABLE one poisons its
granule unless a write has entered since, and names the reading operation; the patrol goes on granule by granule; a
failing row takes a remap entry, which becomes active and may be repaired; a migration copies a row, and its last row
ends it in the slot; a fill writes a row of poison words. -/
def Obligations.MemoryIntegrityIsKept : Prop :=
  (∀ (s : State) (stack pc id lost req seq τ : Nat) (word w b : List Byte) (r : PotReq) (v : Verdict72) (quiet : Prop),
    s.live = true → s.build.hasPc stack pc = true → word.length = 72 → lost < 4 → seq < 2 ^ 32 →
    ((s.pc stack pc).pool.find? fun q => decide (q.id = id) && !q.write && q.issued.isSome) = some r →
    r.issued = some τ → τ + s.tpar 5 ≤ s.mclk → w = scramble (s.lanesOf stack pc) r.bank r.row r.col word →
    v = judgeWord w (s.pc stack pc).erased lost → b = decodedData w (s.pc stack pc).erased v →
    quiet = ((s.pc stack pc).fifo = [] ∧ (s.pc stack pc).own = [] ∧ r.remap = none) →
    (v = .clean →
      Completes (.granuleReadDecode stack pc id word lost req seq) s [.mem, .frm, .tl, .evt, .obs, .cls, .stk, .tally]
        fun t => quiet →
          t.frm = s.frm ∧ t.tl = s.tl ∧ t.cls = s.cls ∧
          ((t.pc stack pc).pool = (s.pc stack pc).pool.filter fun q => q.id ≠ id) ∧
          (r.merge = false → (r.passed = true ∨ b = s.mread (64 * r.gran) 64) → t.mem = s.mem) ∧
          (r.merge = false → r.passed = false → b ≠ s.mread (64 * r.gran) 64 →
            t.mem = { s.mem with misreads := s.mem.misreads ++ [⟨req, seq, r.gran, b⟩] }) ∧
          (∀ m, r.merge = true → (s.pc stack pc).mergeOf r.gran = some m →
            t.mread (64 * r.gran) 64 = overlay b m.data m.mask ∧ t.mem.poison = s.mem.poison ∧
            (t.pc stack pc).merges = (s.pc stack pc).merges.replace m
              { m with back := true, data := overlay b m.data m.mask, waits := [] })) ∧
    (v = .poisoned → s.inSpill r.gran = false →
      Completes (.granuleReadDecode stack pc id word lost req seq) s [.mem, .frm, .tl, .evt, .obs, .cls, .stk, .tally]
        fun t => quiet →
          t.mem = s.mem ∧ (t.pc stack pc).pool = ((s.pc stack pc).pool.filter fun q => q.id ≠ id) ∧
          (∀ m, r.merge = true → (s.pc stack pc).mergeOf r.gran = some m →
            (t.pc stack pc).merges = (s.pc stack pc).merges.erase m)) ∧
    (∀ l k, v = .corrected l → k = (16 * r.sid + r.bank) * 16384 + r.row →
      Completes (.granuleReadDecode stack pc id word lost req seq) s [.mem, .frm, .tl, .evt, .obs, .cls, .stk, .tally]
        fun t => (t.pc stack pc).rowCount k = (s.pc stack pc).rowCount k + 1 ∧
          (quiet → t.mem.poison = s.mem.poison ∧
            (∀ a, (a < 64 * r.gran ∨ 64 * r.gran + 64 ≤ a) → t.mbyte a = s.mbyte a) ∧
            (s.param 0x3F10 9 = 1 → r.merge = false → r.passed = false → (s.pc stack pc).mergeOf r.gran = none →
              (s.pc stack pc).pool.length < 16 → t.mread (64 * r.gran) 64 = b))) ∧
    (v = .uncorrectable → s.inSpill r.gran = false →
      Completes (.granuleReadDecode stack pc id word lost req seq) s [.mem, .frm, .tl, .evt, .obs, .cls, .stk, .tally]
        fun t => (t.pot stack).uncorr = (s.pot stack).uncorr + 1 ∧ (⟨req, seq, r.gran⟩ : ReadFail) ∈ t.mem.fails ∧
          (r.merge = false → t.mem.fails = s.mem.fails ++ [⟨req, seq, r.gran⟩]) ∧
          (quiet →
            (r.passed = true → t.mem.bytes = s.mem.bytes ∧ t.mem.poison = s.mem.poison) ∧
            (r.passed = false → (s.pc stack pc).pool.length < 16 →
              t.poisoned r.gran = true ∧ s.evt.newest < t.evt.newest) ∧
            (∀ a, (a < 64 * r.gran ∨ 64 * r.gran + 64 ≤ a) → t.mbyte a = s.mbyte a)))) ∧
  (∀ (s : State) (stack pc at_ : Nat) (word w : List Byte) (y : Place) (v : Verdict72), s.live = true →
    s.build.hasPc stack pc = true → wordOk72 word = true → (s.pot stack).patrolPlace stack pc = some y →
    at_ = ((y.sid * 16 + y.bank) * 16384 + y.row) * 16 + y.col →
    w = scramble (s.lanesOf stack pc) y.bank y.row y.col word →
    v = judgeWord w (s.pc stack pc).erased (lostOf word) →
    (s.awake (64 + stack) = false →
      Completes (.patrolScrub stack pc word) s [.pwr, .stress, .arb] fun t => t = s.wakeDom (64 + stack)) ∧
    (s.awake (64 + stack) = true → (s.pot stack).visibleRank pc y.sid = none →
      Completes (.patrolScrub stack pc word) s [.evt, .obs, .stk, .tally] fun t =>
        (t.pc stack pc).patrol = (at_ + 1) % 2 ^ 24 ∧ t.mem = s.mem) ∧
    (∀ p d g, s.awake (64 + stack) = true → (s.pot stack).visibleRank pc y.sid = some (p, d) →
      g = s.granAt ⟨stack, p, d, y.bank, y.row, y.col⟩ → s.mirroredAt g = none →
      ((v = .clean ∨ v = .poisoned ∨ (s.pc stack pc).written g = true) →
        Completes (.patrolScrub stack pc word) s [.evt, .obs, .stk, .tally] fun t =>
          (t.pc stack pc).patrol = (at_ + 1) % 2 ^ 24 ∧ t.mem = s.mem) ∧
      ((s.pc stack pc).written g = false → (s.pc stack pc).own = [] → (s.pc stack pc).pool.length < 16 →
        Completes (.patrolScrub stack pc word) s [.mem, .evt, .obs, .stk, .tally] fun t =>
          (t.pc stack pc).patrol = (at_ + 1) % 2 ^ 24 ∧
          ((s.places g false).contains y = false → t.mem = s.mem) ∧
          (v = .uncorrectable → s.places g false = [y] → t.poisoned g = true) ∧
          (∀ l, v = .corrected l → s.places g false = [y] →
            t.mread (64 * g) 64 = decodedData w (s.pc stack pc).erased v) ∧
          (∀ a, (a < 64 * g ∨ 64 * g + 64 ≤ a) → t.mbyte a = s.mbyte a)))) ∧
  (∀ (s : State) (stack pc : Nat), s.live = true → s.served (s.stackDuty stack) = true → s.build.hasPc stack pc = true →
    (∀ sid bank row i g, sid < 4 → bank < 16 → row < 16384 →
      (s.param 0x3F10 2 ≤ (s.pc stack pc).rowCount ((16 * sid + bank) * 16384 + row) ∨
        0 < mapGet 0 (s.pc stack pc).rowUe ((16 * sid + bank) * 16384 + row)) →
      (∀ p ∈ (s.pc stack pc).remaps, p.2.state = 0 ∨ p.2.sid ≠ sid ∨ p.2.bank ≠ bank ∨ p.2.row ≠ row) →
      (s.pot stack).moving pc sid = false →
      ((List.range 8).find? fun i => decide ((mapGet {} (s.pc stack pc).remaps i : Remap).state = 0)) = some i →
      s.chooseTarget stack pc = some g →
      (∀ x ∈ s.remapsUsed, ∀ y ∈ s.targetPlaces x.target,
        y.st ≠ stack ∨ y.pc ≠ pc ∨ y.sid ≠ sid ∨ y.bank ≠ bank ∨ y.row ≠ row) →
      Completes (.remapRow stack pc sid bank row) s [.obs, .stk, .tally] fun t =>
        mapFind (t.pc stack pc).remaps i = some
          { state := 1, sid := sid, bank := bank, row := row, target := g,
            copied := if (s.pot stack).visibleRank pc sid = none then List.range 16 else [] } ∧
        ((s.pot stack).visibleRank pc sid ≠ none → ∀ k, k < 16 →
          ∃ q ∈ (t.pc stack pc).pool ++ (t.pc stack pc).own, q.remap = some i ∧ q.col = k) ∧
        (∀ j, j ≠ i → mapFind (t.pc stack pc).remaps j = mapFind (s.pc stack pc).remaps j)) ∧
    (∀ e x, e < 8 → x = (mapGet {} (s.pc stack pc).remaps e : Remap) →
      (x.state = 1 → s.rowWrites stack pc x.sid x.bank x.row = false → (∃ k, k < 16 ∧ k ∉ x.copied) →
        Completes (.remapActive stack pc e) s [.obs, .stk, .tally] fun t =>
          (t.pc stack pc).remaps = (s.pc stack pc).remaps ∧
          ((s.pot stack).visibleRank pc x.sid ≠ none → ∀ k, k < 16 → k ∉ x.copied →
            ∃ q ∈ (t.pc stack pc).pool ++ (t.pc stack pc).own, q.remap = some e ∧ q.col = k)) ∧
      (x.state = 1 → s.rowWrites stack pc x.sid x.bank x.row = false → (∀ k, k < 16 → k ∈ x.copied) →
        Completes (.remapActive stack pc e) s [.obs, .stk, .tally] fun t =>
          mapFind (t.pc stack pc).remaps e = some { x with state := 2 } ∧
          (∀ j, j ≠ e → mapFind (t.pc stack pc).remaps j = mapFind (s.pc stack pc).remaps j)) ∧
      (2 ≤ x.state → ((s.ldl.stage ≠ 6 ∧ s.param 0x3F10 12 = 1) ∨ (s.pot stack).visibleRank pc x.sid = none) →
        Completes (.postPackageRepair stack pc e true) s [.obs, .stk, .tally] fun t =>
          mapFind (t.pc stack pc).remaps e = none ∧
          (∀ j, j ≠ e → mapFind (t.pc stack pc).remaps j = mapFind (s.pc stack pc).remaps j)))) ∧
  (∀ (s : State) (stack c q : Nat) (words : List (List Byte)) (m : Migration) (mine : Nat → Nat), s.live = true →
    s.served (s.stackDuty stack) = true → stack < s.build.S → words.length = 16 → (∀ w ∈ words, wordOk72 w = true) →
    mine = (fun i => s.granAt ⟨stack, m.v, m.sid, m.mark / 16384, m.mark % 16384, i⟩) →
    ((s.pot stack).fills = [] → (s.pot stack).mig = some m → (s.pot stack).rankOf m.v m.sid = (c, q) →
      s.rowWrites stack c q (m.mark / 16384) (m.mark % 16384) = false → (s.pot stack).paused m = false →
      (m.mark ≠ 262143 →
        Completes (.migrationRowCopy stack words) s [.mem, .evt, .obs, .stk, .tally] fun t =>
          (t.pot stack).mig = some { m with mark := m.mark + 1 } ∧ (t.pot stack).rankMap = (s.pot stack).rankMap ∧
          (∀ a, (∀ i, i < 16 → a / 64 ≠ mine i) → t.mbyte a = s.mbyte a)) ∧
      (m.mark = 262143 → (s.pc stack c).serves q = true →
        Completes (.migrationRowCopy stack words) s [.arb] fun t =>
          bit (t.arbAt 0 (0x200 + stack)).freeze 0 = true) ∧
      (m.mark = 262143 → (s.pc stack c).serves q = false →
        Completes (.migrationRowCopy stack words) s [.mem, .evt, .obs, .stk, .arb, .tally] fun t =>
          mapFind (t.pot stack).rankMap (4 * m.v + m.sid) = some (4 * (60 + m.slot / 4) + m.slot % 4) ∧
          ((t.pot stack).slot m.slot).state = 2 ∧ s.evt.newest < t.evt.newest ∧
          (∀ a, (∀ i, i < 16 → a / 64 ≠ mine i) → t.mbyte a = s.mbyte a))) ∧
    ((s.pot stack).fills = [m] → (s.pot stack).mig = none → m.mark + 1 ≠ 262144 →
      Completes (.migrationRowCopy stack words) s [.mem, .evt, .obs, .stk, .tally] fun t =>
        (t.pot stack).fills = [{ m with mark := m.mark + 1 }] ∧
        ((s.pc stack (60 + m.slot / 4)).pool = [] → (s.pc stack (60 + m.slot / 4)).own = [] →
          ∀ i, i < 16 → t.poisoned (mine i) = true) ∧
        (∀ a, (∀ i, i < 16 → a / 64 ≠ mine i) → t.mbyte a = s.mbyte a)))

/-- 13 R382 to R404: a training that finds a working setting puts it in force and into the nearest point of the
calibration set, one that finds none leaves the channel with its widest runs and says so; a sweep's maps enter
CMP_RESULT; a histogram moves a lane's target, or is rejected; a tap moves one step; a parity alert stops the bus for
64 MCLK and freezes it till it is answered; stand-ins go through FILL and RETURN; a window of a split retrain opens in
turn, in which the bus takes no command for a request. -/
def Obligations.ChannelsTrainAndTrack : Prop :=
  (∀ (s : State) (stack ch : Nat) (ok : Bool) (maps verify : List Nat) (c : Chan) (sieve : Nat), s.live = true →
    s.served (s.stackDuty stack) = true → s.build.hasChan stack ch = true → maps.length = 322 → verify.length = 152 →
    (∀ m ∈ maps, m < 2 ^ 64) → c = s.chan stack ch →
    (c.state = 0 ∨ c.state = 4 ∨
      (c.state = 2 ∧ s.splitTotal stack ch maps ≤ c.windows ∧ s.inExit stack ch = true)) →
    sieve = s.repairAll stack ch maps c.set.sieve →
    (ok = true → (∀ i, i < 18 → s.wideEnough (caBest maps i).2 = true) →
      (∀ j, j < 2 → (s.badLanes maps sieve j).length < 2) →
      Completes (.training stack ch ok maps verify) s [.evt, .obs, .stk, .tally] fun t =>
        (t.chan stack ch).set = s.applyMaps c.set maps sieve false ∧
        (t.chan stack ch).state = (if (s.pot stack).standOf ch = none then 1 else 5) ∧
        (t.chan stack ch).calCount = c.calCount + 1 ∧ (t.chan stack ch).calFtc = s.clk.ftc ∧
        mapFind (t.chan stack ch).points (nearPoint (s.pot stack).temp) = some
          { ftc := s.clk.ftc, lanes := (s.applyMaps c.set maps sieve false).lanes,
            ca := (s.applyMaps c.set maps sieve false).ca, valid := true } ∧
        (∀ j l r, j < 2 → s.badLanes maps sieve j = l :: r → (t.pc stack (2 * ch + j)).erased = some l)) ∧
    ((ok = false ∨ (∃ i, i < 18 ∧ s.wideEnough (caBest maps i).2 = false) ∨
        (∃ j, j < 2 ∧ 2 ≤ (s.badLanes maps sieve j).length)) → s.binFallback stack = none →
      Completes (.training stack ch ok maps verify) s [.evt, .obs, .stk, .tally] fun t =>
        ((∃ i, i < 18 ∧ s.wideEnough (caBest maps i).2 = false) → (t.chan stack ch).state = 9) ∧
        ((∀ i, i < 18 → s.wideEnough (caBest maps i).2 = true) →
          ((t.chan stack ch).state = 8 ∨ (t.chan stack ch).state = 7)) ∧
        (((s.pot stack).stands.filter fun n => decide (n.ch = ch)).length ≤ 1 → ∀ n ∈ (t.pot stack).stands, n.ch ≠ ch) ∧
        (t.chan stack ch).set = s.applyMaps c.set maps sieve true ∧
        (∀ j, j < 2 → (t.pc stack (2 * ch + j)).erased = some (worstLane maps sieve j)) ∧
        s.evt.newest < t.evt.newest)) ∧
  (∀ (s : State) (stack ch w gen mode : Nat) (maps : List Nat), s.live = true → s.build.hasChan stack ch = true →
    gen = s.param (0x4000 + 256 * stack + ch) 10 → mode = bits (s.param (0x4000 + 256 * stack + ch) 12) 63 62 →
    maps.length = 282 → (∀ m ∈ maps, m < 2 ^ 64) → (s.chan stack ch).state = 6 →
    w = s.param (0x4000 + 256 * stack + ch) 11 → bit w 29 = true →
    Completes (.sweepComplete stack ch maps) s [.dict, .stk, .free] fun t =>
      t.param (0x4000 + 256 * stack + ch) 11 = setBit w 29 false ∧
      (∀ i, i < 94 → sliceBytes (t.chan stack ch).result (32 * i) 24 =
        beBytes 8 (passMap w gen mode maps i 0) ++ beBytes 8 (passMap w gen mode maps i 1) ++
          beBytes 8 (passMap w gen mode maps i 2)) ∧
      (t.chan stack ch).state = 6 ∧ (∀ i, i ≠ stack → t.pot i = s.pot i)) ∧
  (∀ (s : State) (stack ch lane n : Nat) (bins : List Nat) (c : Chan) (gap : Nat × Nat) (target : Nat), s.live = true →
    s.served (s.stackDuty stack) = true → s.build.hasChan stack ch = true → lane < 76 → bins.length = 32 →
    c = s.chan stack ch → c.state = 1 → s.param 0x4F00 7 ≤ bins.foldl (· + ·) 0 →
    (s.param 0x4F00 6 ≤ bins.foldl (· + ·) 0 ∨ s.since (mapGet 0 c.cleared lane) (usR (s.param 0x4F00 8)) = true) →
    gap = circularGap bins (bins.foldl (· + ·) 0 / 2 ^ s.param 0x4F00 9) →
    target = (if 16 ≤ runMid gap % 32 then runMid gap % 32 else runMid gap % 32 + 32) → n = mapGet 0 c.rejects lane + 1 →
    (s.wideEnough gap.2 = true →
      (tapDist target (mapGet (elRd (c.set.lane lane)) c.centre lane)).natAbs ≤ s.param 0x4F00 5 →
      Completes (.histogramComplete stack ch lane bins) s [.obs, .stk, .tally] fun t =>
        mapFind (t.chan stack ch).target lane = some target ∧ mapFind (t.chan stack ch).centre lane = some target ∧
        mapFind (t.chan stack ch).takenAt lane = some s.clk.now ∧ mapFind (t.chan stack ch).rejects lane = none ∧
        (t.chan stack ch).set = c.set ∧ (t.chan stack ch).calFtc = s.clk.ftc) ∧
    ((s.wideEnough gap.2 = false ∨
        s.param 0x4F00 5 < (tapDist target (mapGet (elRd (c.set.lane lane)) c.centre lane)).natAbs) →
      n < s.param 0x4F00 12 →
      Completes (.histogramComplete stack ch lane bins) s [.obs, .stk, .tally] fun t =>
        t.chan stack ch = { c with
          cleared := mapPut c.cleared lane s.clk.now, rejects := mapPut c.rejects lane n })) ∧
  (∀ (s : State) (stack ch lane : Nat) (bins : List Nat), s.live = true → s.served (s.stackDuty stack) = true →
    s.build.hasChan stack ch = true → lane < 76 → bins.length = 32 → bins.foldl (· + ·) 0 < s.param 0x4F00 6 →
    s.since (mapGet 0 (s.chan stack ch).cleared lane) (usR (s.param 0x4F00 8)) = false →
    exec (.histogramComplete stack ch lane bins) s = .next s) ∧
  (∀ (s : State) (stack ch lane : Nat) (c : Chan) (x : Int), s.live = true → s.served (s.stackDuty stack) = true →
    s.build.hasChan stack ch = true → c = s.chan stack ch → c.state = 1 → s.clk.ftc % 1200000 = 0 →
    mapFind c.moved lane ≠ some s.clk.ftc → x = (s.pot stack).temp →
    (∀ v, lane < 76 → s.readTarget c x lane = some v → ∀ w, c.lerpLane x lane = some w →
      Completes (.tapMove stack ch lane) s [.obs, .stk, .tally] fun t =>
        (t.chan stack ch).set = c.set.moveTo lane (stepTap (elRd (c.set.lane lane)) v)
          (elSm (c.set.lane lane)) (stepTap (elWr (c.set.lane lane)) w.2) ∧
        mapFind (t.chan stack ch).moved lane = some s.clk.ftc) ∧
    (∀ v, 76 ≤ lane → lane < 94 → c.lerpCa x (lane - 76) = some v →
      Completes (.tapMove stack ch lane) s [.obs, .stk, .tally] fun t =>
        (t.chan stack ch).set = c.set.setCa (lane - 76)
          (if c.set.caTap (lane - 76) < v then c.set.caTap (lane - 76) + 1
           else if v < c.set.caTap (lane - 76) then c.set.caTap (lane - 76) - 1 else c.set.caTap (lane - 76)) ∧
        mapFind (t.chan stack ch).moved lane = some s.clk.ftc)) ∧
  (∀ (s : State) (stack ch : Nat), s.live = true → s.build.hasChan stack ch = true →
    ((s.chan stack ch).state = 2 → s.mclk < (s.pc stack (2 * ch)).shut →
      Completes (.caParityAlert stack ch) s [.obs, .tally] fun t => t.stk = s.stk) ∧
    ((s.chan stack ch).state = 1 → ch < 30 →
      Completes (.caParityAlert stack ch) s [.evt, .obs, .stk, .arb, .tally] fun t =>
        ((t.chan stack ch).state = 2 ∨ (t.chan stack ch).state = 3) ∧
        (∀ j, j < 2 → t.pc stack (2 * ch + j) = { s.pc stack (2 * ch + j) with
          halt := max (s.pc stack (2 * ch + j)).halt (s.mclk + 64), alert := some s.mclk }) ∧
        (∀ j, j < 2 → bit (t.arbAt 3 (64 * stack + 2 * ch + j)).freeze 3 = true) ∧
        (∀ p, p / 2 ≠ ch → t.pc stack p = s.pc stack p) ∧ s.evt.newest < t.evt.newest)) ∧
  (∀ (s : State) (stack : Nat) (n : StandIn), s.live = true → s.served (s.stackDuty stack) = true → stack < s.build.S →
    (((s.pot stack).stands.find? fun n => decide (n.phase = 0) && decide (s.fillMark n = 1048576)) = some n →
      Completes (.standinFillEnd stack) s [.evt, .obs, .stk, .tally] fun t =>
        (∀ m, m = { n with phase := 1, since := s.clk.now } →
          ((s.chan stack n.ch).test ≠ some false → (t.pot stack).stands = (s.pot stack).stands.replace n m) ∧
          ((s.chan stack n.ch).test = some false → (t.pot stack).stands =
            ((s.pot stack).stands.replace n m).replace m { m with phase := 2, rate := s.param 0x4F00 18 })) ∧
        ((s.chan stack n.ch).test = none → (t.chan stack n.ch).state = 4) ∧
        ((s.chan stack n.ch).test = some true → (t.chan stack n.ch).state = 6 ∧
          (t.chan stack n.ch).saved = some (s.chan stack n.ch).set) ∧
        ((s.chan stack n.ch).test = some false → (t.chan stack n.ch).state = 5)) ∧
    (((s.pot stack).stands.find? fun n =>
        decide (n.phase = 2) && (n.dirty.map Prod.fst).all (s.returned n) && !s.standWrites stack n) = some n →
      n.ch ≠ n.spare →
      ((s.chan stack n.spare).deferred = none →
        Completes (.standinReturnEnd stack) s [.evt, .obs, .stk, .tally] fun t =>
          (t.pot stack).stands = (s.pot stack).stands.erase n ∧ (t.chan stack n.ch).state = 1 ∧
          (30 ≤ n.spare → (t.pot stack).lent n.spare = false)) ∧
      (∀ k, (s.chan stack n.spare).deferred = some k → 30 ≤ n.spare → (s.chan stack n.spare).state = 1 →
        Completes (.standinReturnEnd stack) s [.evt, .obs, .stk, .tally] fun t =>
          (t.pot stack).stands = (s.pot stack).stands.erase n ∧ (t.chan stack n.ch).state = 1 ∧
          (t.chan stack n.spare).state = 2 ∧ (t.chan stack n.spare).deferred = none))) ∧
  (∀ (s : State) (stack ch : Nat), s.live = true → s.served (s.stackDuty stack) = true →
    s.build.hasChan stack ch = true → s.splitTurn = some (stack, ch) →
    (∀ j, j < 2 → (s.pc stack (2 * ch + j)).calm = true) →
    (∀ e, s.stk.splitAt = some e → s.since e (usR (s.param 0x4F00 17)) = true) →
    Completes (.splitWindow stack ch) s [.obs, .stk, .tally] fun t =>
      t.chan stack ch = { s.chan stack ch with windows := (s.chan stack ch).windows + 1 } ∧
      t.stk.splitAt = some (s.clk.now + mclkR 4800) ∧
      (∀ j b, j < 2 → ((t.pc stack (2 * ch + j)).bank b).row = none) ∧
      (∀ j, j < 2 → (t.pc stack (2 * ch + j)).shut = s.mclk + 4800 ∧
        (t.pc stack (2 * ch + j)).pool = (s.pc stack (2 * ch + j)).pool))

/-! ### Power, starts, firmware and events (14, 15, 18) -/

/-- 14 R407, R411 to R413, R415, R426; 10 R325; 04 R154: an idle domain whose idle time has passed first has its
arbiters frozen, and on a later edge moves down one state, a Stockpot taking its stack along and a Skillet saving its
HALTED tiles at P4; work that comes in between aborts the entry. Work wakes a domain, which is back at P0 after its
exit time, from P2 or deeper not before the code on pwr_vid is confirmed, with its arbiters, its stack, the tiles
saved for P4 and its held signals. The time in each state is counted. -/
def Obligations.DomainsStepDownAndWake : Prop :=
  (∀ (s : State) (d e : Nat), s.live = true → s.build.hasDomain d = true → (s.dom d).idle = some e →
    (s.dom d).wake = none → (s.dom d).state < s.domDeepest d →
    s.since e (s.idleTime ((s.dom d).state + 1)) = true →
    (s.domIdle d = true → (s.dom d).entering = false →
      Completes (.domainStepDown d) s [.pwr, .arb] fun t =>
        (∀ k ∈ arbsInto d, (t.arbAt k.1 k.2).freeze = (s.arbAt k.1 k.2).freeze ||| 2) ∧
        t.dom d = { s.dom d with entering := true } ∧ (∀ i, i ≠ d → t.dom i = s.dom i)) ∧
    (s.domIdle d = true → (s.dom d).entering = true → (d < 64 → (s.dom d).state = 3 → s.mayP4 d = true) →
      Completes (.domainStepDown d) s [.tl, .pwr, .stress, .obs, .stk, .tally] fun t =>
        t.dom d = { s.dom d with
          state := (s.dom d).state + 1, entering := false, idle := some s.clk.now, since := s.clk.now } ∧
        (∀ i, i ≠ d → t.dom i = s.dom i) ∧
        mapGet 0 t.stress.resid (16 * d + 6) = mapGet 0 s.stress.resid (16 * d + 6) + 1 ∧
        mapGet 0 t.stress.resid (16 * d + (s.dom d).state) =
          mapGet 0 s.stress.resid (16 * d + (s.dom d).state) + (s.clk.now - (s.dom d).since) ∧
        (¬(d < 64 ∧ (s.dom d).state = 3) → t.tl = s.tl) ∧ (¬(64 ≤ d ∧ d < 72) → t.stk = s.stk) ∧
        (64 ≤ d → d < 72 →
          ((s.pot (d - 64)).state = 2 → 1 ≤ (s.dom d).state → (t.pot (d - 64)).state = 3) ∧
          (∀ c q, c < 64 → q < 4 → ((t.pc (d - 64) c).rank q).down = true) ∧
          (∀ c b, c < 64 → ((t.pc (d - 64) c).bank b).row = none)) ∧
        (d < 64 → (s.dom d).state = 3 → ∀ k, k / 32 = d → (s.tile k).c.state = 4 →
          (t.tile k).c.state = 6 ∧ mapFind t.tl.saves k =
            some { r := (s.tile k).r, cr := { (s.tile k).cr with ftcHi := 0 }, c := (s.tile k).c, forP4 := true })) ∧
    (s.domIdle d = false →
      Completes (.domainStepDown d) s [.pwr, .stress, .arb] fun t =>
        (t.dom d).state = (s.dom d).state ∧ (t.dom d).entering = false ∧
        ((s.dom d).state = 0 → (t.dom d).idle = none) ∧
        ((s.dom d).state ≠ 0 → (t.dom d).wake = some (s.clk.now + tclkR (exitTime (s.dom d).state))) ∧
        ((s.dom d).entering = true →
          mapGet 0 t.stress.resid (16 * d + 7) = mapGet 0 s.stress.resid (16 * d + 7) + 1) ∧
        (∀ i, i ≠ d → t.dom i = s.dom i))) ∧
  (∀ (s : State) (d : Nat), s.live = true → s.build.hasDomain d = true →
    Completes (.domainWake d) s [.pwr, .stress, .arb] fun t =>
      ((s.dom d).state = 0 → t.dom d = { s.dom d with idle := none, entering := false }) ∧
      ((s.dom d).state ≠ 0 → (s.dom d).wake = none →
        t.dom d = { s.dom d with
          wake := some (s.clk.now + tclkR (exitTime (s.dom d).state)), entering := false }) ∧
      ((s.dom d).state ≠ 0 → (s.dom d).wake ≠ none → t.dom d = { s.dom d with entering := false }) ∧
      ((s.dom d).entering = true → (s.dom d).state = 0 → s.pwr.frozen = false →
        ∀ k ∈ arbsInto d, (t.arbAt k.1 k.2).freeze = (s.arbAt k.1 k.2).freeze &&& 13) ∧
      ((s.dom d).entering = false → t.stress = s.stress ∧ t.arb = s.arb) ∧ (∀ i, i ≠ d → t.dom i = s.dom i)) ∧
  (∀ (s : State) (d e : Nat), s.live = true → s.build.hasDomain d = true → (s.dom d).wake = some e → e ≤ s.clk.now →
    (2 ≤ (s.dom d).state → s.pwr.vidOk = false → exec (.domainExit d) s = .next s) ∧
    (((s.dom d).state < 2 ∨ s.pwr.vidOk = true) → (s.dom d).wait = [] →
      ((s.dom d).held = [] → (d < 64 → s.tl.saves = []) →
        Completes (.domainExit d) s [.pwr, .stress, .obs, .stk, .arb, .tally] fun t =>
          (s.pwr.frozen = false →
            ∀ k ∈ arbsInto d, (t.arbAt k.1 k.2).freeze = (s.arbAt k.1 k.2).freeze &&& 13) ∧
          t.dom d = { s.dom d with
            state := 0, wake := none, held := [], idle := none, entering := false, since := s.clk.now } ∧
          (∀ i, i ≠ d → t.dom i = s.dom i) ∧
          ((s.dom d).state < 6 →
            mapGet 0 t.stress.resid (16 * d + 8) = mapGet 0 s.stress.resid (16 * d + 8) + 1 ∧
            mapGet 0 t.stress.resid (16 * d + (s.dom d).state) =
              mapGet 0 s.stress.resid (16 * d + (s.dom d).state) + (s.clk.now - (s.dom d).since)) ∧
          (64 ≤ d → d < 72 → (s.dom d).state ≠ 0 →
            ((s.pot (d - 64)).state = 3 → (t.pot (d - 64)).state = 2) ∧
            (∀ c q, c < 64 → q < 4 → ((t.pc (d - 64) c).rank q).down = false)) ∧
          (¬(64 ≤ d ∧ d < 72) → t.stk = s.stk)) ∧
      (∀ k v, (s.dom d).held = [] → k / 32 = d → d < 64 → s.tl.saves = [(k, v)] → v.forP4 = true → v.stale = false →
        (s.dom d).state = 4 → (s.tile k).c.state = 6 →
        Completes (.domainExit d) s [.tl, .pwr, .stress, .arb] fun t =>
          (t.tile k).c = { v.c with state := 4 } ∧ (t.tile k).cr = { v.cr with ftcHi := (s.tile k).cr.ftcHi } ∧
            t.tl.saves = [] ∧ (∀ j, j ≠ k → t.tile j = s.tile j)) ∧
      (∀ h, (s.dom d).held = [h] → d < 64 → s.tl.saves = [] → h.op = none → h.hand = false →
        s.sigAccepts h.addr h.part = true → (s.tile (h.addr / 64)).c.state ≠ 6 →
        Completes (.domainExit d) s [.tl, .pwr, .stress, .obs, .arb, .tally] fun t =>
          (t.tile (h.addr / 64)).r.getCtr (h.addr % 64) =
            ((s.tile (h.addr / 64)).r.getCtr (h.addr % 64) + h.amount) % 2 ^ 32 ∧
          (t.dom d).state = 0 ∧ (t.dom d).held = [])))

/-- 14 R416 to R418: a write of DOMAIN_RESET drains a domain that holds work and resets one that is idle; at the drain
limit the reset goes ahead. The management fabric hub and the shared PHY services are not reset. -/
def Obligations.DomainsAreDrainedAndReset : Prop :=
  (∀ (s : State) (src : MgmtSrc) (d : Nat) (b : Access) (o : Obj), d < 88 →
    Accepted s src { kind := 2, idx := 0xA100 + d, sub := 4, loose := true, anyData := true } b o →
    (86 ≤ d → TurnedAway (.domainReset src d) s src b cState 0) ∧
    (∀ e, d < 86 → (s.dom d).drain = some e → Does (.domainReset src d) s src b [] fun _ => True) ∧
    (d < 86 → (s.dom d).drain = none → s.domIdle d = false →
      Does (.domainReset src d) s src b [.pwr, .arb] fun t =>
        t.dom d = { s.dom d with drain := some s.clk.now } ∧ (∀ i, i ≠ d → t.dom i = s.dom i) ∧
        (∀ k ∈ arbsInto d, (t.arbAt k.1 k.2).freeze = (s.arbAt k.1 k.2).freeze ||| 1)) ∧
    (d < 86 → (s.dom d).drain = none → s.domIdle d = true →
      ((∃ tag, src = .port tag) ∨ (80 ≤ d ∧ d < 84) ∨
        (72 ≤ d ∧ d < 80 ∧ ∀ p, p / 4 = d - 72 → (s.port p).up = false)) →
      Does (.domainReset src d) s src b
        [.mem, .frm, .rgn, .wsk, .mc, .tl, .syn, .sch, .pwr, .stress, .evt, .att, .par, .obs, .cls, .stk, .arb, .tally,
          .free]
        fun t => DomReset s t d)) ∧
  (∀ (s : State) (d e : Nat), s.live = true → s.build.hasDomain d = true → d < 86 → (s.dom d).drain = some e →
    (s.since e (usR (s.param 0xA000 9)) = true ∨ s.domIdle d = true) →
    Completes (.drainLimitExpiry d) s
      [.mem, .frm, .rgn, .wsk, .mc, .tl, .syn, .sch, .pwr, .stress, .evt, .att, .par, .obs, .cls, .stk, .arb, .tally,
        .free]
      fun t => DomReset s t d)

/-- 14 R408, R409, R414; 18 R501; 01 R19; 09 R268: the block enters P5 on BLOCK_PARK, on main power failure and on the
loss of a rail, after which only a cold start is accepted; the keep rail switches over; the loss of PLL lock leaves
only management served, and the discipline of fabric time in HOLDOVER. -/
def Obligations.SuppliesFailAndReturn : Prop :=
  (∀ (s : State) (src : MgmtSrc) (b : Access) (o : Obj),
    Accepted s src { kind := 2, idx := 0xA000, sub := 14, loose := true, anyData := true } b o →
    ((∃ p ∈ s.sch.ctxs, p.2.state ≠ 0) → TurnedAway (.blockPark src) s src b cState 0) ∧
    ((∀ p ∈ s.sch.ctxs, p.2.state = 0) → s.pwr.parked = true → Does (.blockPark src) s src b [] fun _ => True) ∧
    ((∀ p ∈ s.sch.ctxs, p.2.state = 0) → s.pwr.parked = false → s.egressIdle →
      Does (.blockPark src) s src b
        [.mem, .frm, .tl, .pwr, .stress, .evt, .obs, .cls, .stk, .pin, .arb, .tally] fun t => InP5 s t) ∧
    ((∀ p ∈ s.sch.ctxs, p.2.state = 0) → s.pwr.parked = false → (∃ tag, src = .port tag) →
      Does (.blockPark src) s src b
        [.mem, .frm, .rgn, .wsk, .mc, .tl, .syn, .sch, .pwr, .stress, .evt, .att, .par, .obs, .cls, .stk, .pin, .arb,
          .tally]
        fun t => InP5 s t)) ∧
  (∀ (s : State), s.pwr.mainFail = false →
    (s.pwr.parked = false →
      Completes .mainPowerFail s
        [.mem, .frm, .rgn, .wsk, .mc, .tl, .syn, .sch, .pwr, .stress, .evt, .att, .par, .obs, .cls, .stk, .pin, .arb,
          .tally] fun t =>
        InP5 s t ∧ t.pwr.mainFail = true ∧ s.evt.newest < t.evt.newest) ∧
    (s.pwr.parked = true →
      Completes .mainPowerFail s [.pwr, .evt] fun t =>
        t.pwr = { s.pwr with mainFail := true } ∧ t.evt.newest = s.evt.newest + 1)) ∧
  (∀ (s : State) (rail : Nat), rail < 3 →
    (s.pin.good.getD rail false = true → s.pin.en.getD rail false = true → s.pwr.mainFail = false →
      Completes (.railGoodLost rail) s
        [.mem, .frm, .rgn, .wsk, .mc, .tl, .syn, .sch, .pwr, .stress, .evt, .att, .par, .obs, .cls, .stk, .pin, .arb,
          .tally] fun t =>
        InP5 s t ∧ t.pwr.coldOnly = true ∧ t.pin.good = listSet s.pin.good rail false ∧ s.evt.newest < t.evt.newest) ∧
    ((s.pin.good.getD rail false = false ∨ s.pin.en.getD rail false = false ∨ s.pwr.mainFail = true) →
      Completes (.railGoodLost rail) s [.pin] fun t =>
        t.pin = { s.pin with good := listSet s.pin.good rail false })) ∧
  (∀ s : State,
    (s.pwr.keep ≠ 1 → Completes .keepSwitch s [.pwr, .evt, .obs, .tally] fun t =>
      t.pwr = { s.pwr with keep := 1 } ∧ t.evt.newest = s.evt.newest + 1) ∧
    (s.pwr.keep ≠ 0 → Completes .keepReturn s [.pwr, .evt, .obs, .tally] fun t =>
      t.pwr = { s.pwr with keep := 0 } ∧ t.evt.newest = s.evt.newest + 1) ∧
    (Completes .keepLost s
      [.clk, .mem, .dict, .frm, .rgn, .wsk, .mc, .tl, .syn, .sch, .ldl, .per, .pwr, .stress, .evt, .att, .par, .obs, .cls,
       .stk, .pin, .arb, .tally, .mgtRsp] fun t =>
      t.pin.keepLost = true ∧ t.per = {} ∧ t.stk = {} ∧ t.mem = {} ∧ t.evt = {} ∧ t.clk.ftc = 0 ∧
        t.ldl.flash = s.ldl.flash ∧
      t.ldl.stage = 0) ∧
    (s.clk.locked = true → Completes .pllLockLost s
        [.clk, .mem, .frm, .tl, .sch, .pwr, .evt, .obs, .cls, .stk, .tally] fun t =>
      t.clk = { s.clk with locked := false } ∧
      t.pwr = { s.pwr with stalled := true, parked := s.pwr.parked || (s.pin.start.isSome && s.pin.reached) } ∧
      t.live = false ∧ s.evt.newest < t.evt.newest ∧
      ((s.sch.disc.state = 1 ∨ s.sch.disc.state = 2) →
        t.sch.disc.state = 3 ∧ t.sch.disc.from_ = s.sch.disc.state ∧ t.sch.disc.holdAt = s.clk.now) ∧
      (s.sch.disc.state ≠ 1 → s.sch.disc.state ≠ 2 → t.sch = s.sch) ∧
      (∀ st, st < s.build.S → ((s.pot st).state = 2 → (t.pot st).state = 3) ∧
        (∀ c, (t.pc st c).pool = []) ∧ (∀ ch, (s.chan st ch).state ≠ 2 → t.chan st ch = s.chan st ch) ∧
        (∀ ch, (s.chan st ch).state = 2 → t.chan st ch = { s.chan st ch with state := 1, windows := 0 }))))

/-- 18 R491, R493 to R501; 02 R73; 07 R234: rst_cold_n stops the block and starts it anew, keeping the flash, the
erase counts and the spare map; the PLL's lock begins stage 0x01; rails rise in order, each 10 µs after the good
before it, and one that is late ends the start; a warm start is taken, deferred, merged or ignored as the pins and the
stage say, and releases the domains under their next epochs. -/
def Obligations.StartsRunInOrder : Prop :=
  (∀ (s : State),
    (Completes .coldReset s [.ldl, .pin] fun t =>
      t.ldl = { s.ldl with stage := 0, stageAt := s.clk.now, bootSel := 0, held := false } ∧
      t.pin = { s.pin with coldN := false, en := [false, false, false], start := none, reached := false }) ∧
    (∀ bins, s.pin.coldN = false → bins.length = s.build.S → (∀ x ∈ bins, x < 8) →
      Completes (.coldStart bins) s
        [.clk, .mem, .dict, .frm, .rgn, .wsk, .mc, .tl, .syn, .sch, .ldl, .per, .pwr, .stress, .evt, .att, .par, .obs,
         .cls, .stk, .pin, .arb, .tally, .mgtRsp] fun t =>
        t.pin.coldN = true ∧ t.pin.start = some .cold ∧ t.pin.bins = bins ∧ t.ldl.stage = 0 ∧
        t.ldl.flash = s.ldl.flash ∧ t.clk = { now := s.clk.now, ftc := 0, locked := false } ∧ t.mem = {} ∧ t.dict = {} ∧
        t.evt = {} ∧ t.tl = {} ∧ t.sch = {} ∧ t.wsk = {} ∧ t.par = {} ∧ t.rgn = {} ∧
        (s.pin.keepLost = false → t.per.wear = s.per.wear ∧
          (mapSorted s.stk.pots = true → ∀ st, (t.pot st).rankMap = (s.pot st).rankMap ∧ (t.pot st).mig = (s.pot st).mig ∧
            (t.pot st).fills = (s.pot st).fills ∧ (t.pot st).queue = (s.pot st).queue)) ∧
        (s.pin.keepLost = true → t.per = {} ∧ t.stk = {})) ∧
    (s.clk.locked = false → s.ldl.stage = 0 → s.pin.start = some .cold →
      (s.since s.ldl.stageAt (usR 1000 + 1) = false →
        Completes .pllLock s [.clk, .ldl] fun t =>
          t.clk = { now := roundUp s.clk.now 48, ftc := 0, locked := true } ∧ t.ldl.stage = 1) ∧
      (s.since s.ldl.stageAt (usR 1000 + 1) = true →
        Completes .pllLock s [.ldl, .pwr, .pin] fun t => t.ldl.stage = 255 ∧ t.ldl.cause = 2)) ∧
    (s.clk.locked = false → s.ldl.stage ≠ 0 → (s.pin.start = none ∨ s.pin.start = some .cold) →
      Completes .pllLock s [.clk, .pwr] fun t =>
        t.clk.locked = true ∧ t.clk.now = roundUp s.clk.now 96 ∧
        (s.pin.start = none → t.pwr = s.pwr) ∧ (s.pin.start = some .cold → t.pwr = { s.pwr with stalled := false }))) ∧
  (∀ (s : State) (rail : Nat), rail < 3 →
    (s.awaitsRails = false →
      Completes (.railGoodRise rail) s [.pin] fun t =>
        t.pin = if s.pin.good.getD rail false then s.pin else
          { s.pin with good := listSet s.pin.good rail true, goodAt := listSet s.pin.goodAt rail s.clk.now }) ∧
    (s.awaitsRails = true → rail < 2 → s.pin.goodAt.length = 3 →
      s.pin.en = (List.range 3).map (fun r => decide (r ≤ rail)) →
      (s.pin.good = (List.range 3).map (fun r => decide (r < rail)) →
        Completes (.railGoodRise rail) s [.pin] fun t =>
          t.pin = { s.pin with
            good := (List.range 3).map (fun r => decide (r ≤ rail)), goodAt := listSet s.pin.goodAt rail s.clk.now }) ∧
      (s.pin.good = (List.range 3).map (fun r => decide (r ≤ rail)) → s.since (s.pin.goodAt.getD rail 0) (usR 10) = true →
        s.startStep = { s with pin := { s.pin with
          en := (List.range 3).map (fun r => decide (r ≤ rail + 1)), enAt := s.clk.now } })) ∧
    (s.awaitsRails = true → s.pin.en.getD rail false = true → s.pin.good.getD rail false = false →
      s.since s.pin.enAt (usR (s.param 0x2000 5)) = true →
      Completes (.railTimeoutExpiry rail) s [.ldl, .pwr, .pin] fun t =>
        t.ldl.stage = 255 ∧ t.ldl.cause = 0x0010 + rail ∧ t.pwr.parked = true ∧ t.pin.en = [false, false, false])) ∧
  (∀ (s : State), s.awaitsRails = true → s.pin.start = some .cold → s.pin.good = [true, true, false] →
    s.pin.en = [true, true, true] →
    (∀ st, ((List.range s.build.S).find? fun st => decide (s.pin.bins.getD st 0 = 0)) = some st →
      Completes (.railGoodRise 2) s [.ldl, .pwr, .stress, .evt, .stk, .pin, .arb] fun t =>
        t.ldl.stage = 255 ∧ t.ldl.cause = 0x0020 + st ∧ (t.pot st).state = 4) ∧
    ((∀ st, st < s.build.S → s.pin.bins.getD st 0 ≠ 0) →
      Completes (.railGoodRise 2) s [.dict, .ldl, .stk, .pin] fun t =>
        t.ldl.stage = 5 ∧ t.param 0x3F00 11 = binOf s.pin.bins ∧
        (∀ st ch, st < s.build.S → ch < 32 → (t.pot st).state = 1 ∧ (t.chan st ch).state = 0))) ∧
  (∀ (s : State) (k : StartKind) (src : Option MgmtSrc) (c : Instr) (l : List Group) (more : State → Prop),
    ((src = none ∧ c = .warmStart none ∧ k = .warmPin ∧ l = [] ∧ more = fun _ => True) ∨
      (∃ r b o, src = some r ∧ c = .warmStart (some r) ∧ k = .warmObject ∧ l = answerGroups r ∧
        Accepted s r { kind := 2, idx := 0x2000, sub := 2, loose := true, anyData := true } b o ∧
        more = fun t => Replied s t r b.kind cDone b.data.length [])) →
    ((s.pwr.trip = true ∨ s.pin.reached = false ∨ s.ldl.stage = 255 ∨ s.pwr.coldOnly = true) →
      Completes c s (.evt :: l) fun t => more t ∧ t.evt.newest = s.evt.newest + 1) ∧
    (s.pwr.trip = false → s.pin.reached = true → s.ldl.stage ≠ 255 → s.pwr.coldOnly = false →
      (s.pin.start ≠ none → Completes c s (.pin :: l) fun t =>
        more t ∧ t.pin = { s.pin with merged := s.pin.merged + 1 }) ∧
      (s.pin.start = none → s.pwr.mainFail = true →
        Completes c s (.pin :: l) fun t => more t ∧ t.pin = { s.pin with start := some k }) ∧
      (s.pin.start = none → s.pwr.mainFail = false → s.clk.locked = false → s.pwr.parked = false → s.egressIdle →
        Completes c s
          (([.mem, .frm, .tl, .pwr, .stress, .evt, .obs, .cls, .stk, .pin, .arb, .tally] : List Group) ++ l) fun t =>
          more t ∧ InP5 s t ∧ t.pin.start = some k) ∧
      (s.pin.start = none → s.pwr.mainFail = false → s.clk.locked = true → s.pwr.parked = false → s.egressIdle →
        s.pin.good = [false, false, false] →
        Completes c s
          (([.mem, .frm, .tl, .pwr, .stress, .evt, .obs, .cls, .stk, .pin, .arb, .tally] : List Group) ++ l) fun t =>
          more t ∧ t.pwr.parked = true ∧ t.pin.start = some k ∧ t.pin.en = [true, false, false]) ∧
      (s.pin.start = none → s.pwr.mainFail = false → s.clk.locked = true → s.pin.good = [true, true, true] →
        (∀ r, r < 2 → s.since (s.pin.goodAt.getD r 0) (usR 10) = true) →
        ((s.pwr.parked = true ∧ s.pin.en.length = 3) ∨ (s.pwr.parked = false ∧ s.egressIdle)) →
        (∀ req seq, src ≠ some (.frame req seq)) →
        Completes c s
          (([.mem, .dict, .frm, .rgn, .wsk, .mc, .tl, .syn, .sch, .ldl, .pwr, .stress, .evt, .att, .par, .obs, .cls, .stk,
            .pin, .arb, .tally] : List Group) ++ l) fun t => more t ∧ Released s t))) ∧
  (∀ (s : State) (k : StartKind), k ≠ .cold → s.pin.start = some k → s.pwr.parked = true →
    s.pin.good = [true, true, true] → s.pin.en.length = 3 →
    (∀ r, r < 2 → s.since (s.pin.goodAt.getD r 0) (usR 10) = true) →
    (s.pwr.mainFail = true → s.clk.locked = true →
      Completes .pwrMainFailClear s
        [.mem, .dict, .frm, .rgn, .wsk, .mc, .tl, .syn, .sch, .ldl, .pwr, .stress, .evt, .att, .par, .obs, .cls, .stk,
         .pin, .arb, .tally] fun t => Released s t ∧ t.pwr.mainFail = false) ∧
    (s.pwr.mainFail = false → s.clk.locked = false → s.ldl.stage ≠ 0 →
      Completes .pllLock s
        [.clk, .mem, .dict, .frm, .rgn, .wsk, .mc, .tl, .syn, .sch, .ldl, .pwr, .stress, .evt, .att, .par, .obs, .cls,
         .stk, .pin, .arb, .tally] fun t => Released s t ∧ t.clk.locked = true ∧ t.clk.now = roundUp s.clk.now 96)) ∧
  (∀ s : State, s.pwr.mainFail = true → (s.pin.start = none ∨ s.pin.start = some .cold) →
    Completes .pwrMainFailClear s [.pwr] fun t => t.pwr = { s.pwr with mainFail := false })

/-- 14 R407, R419 to R425: an interval takes its sensors, moves the boost account and the budget by the estimate, and
sets every Skillet's duty, and counts stress but for P5; a die sensor at its limit parks the block, and the trip ends
15 °C below; VDD_CORE moves one code at a time, up where the margin falls short of VMARGIN. Whether the code below keeps
the margin is a free value, the model's choice (log 106). -/
def Obligations.TrivetHoldsTheBudget : Prop :=
  (∀ (s : State) (temps : List Int), temps.length = s.build.domains.length + 1 →
    (∀ x ∈ temps, -2147483648 ≤ x ∧ x < 2147483648) →
    ((s.clk.ftc % 12000 ≠ 0 ∨ s.clk.ftc = s.pwr.edge.getD 0) → exec (.trivetInterval temps) s = .next s) ∧
    (s.clk.ftc % 12000 = 0 → s.clk.ftc ≠ s.pwr.edge.getD 0 →
      (∀ p pp cap u' low : Nat, s.pwr.trip = false → s.pwr.hotDie = false → s.pwr.hotStack = false →
        s.pwr.hotFail = false →
        (∀ x ∈ temps, x < 4 * (s.param 0xA200 1 : Int) ∧ x < 4 * (s.param 0xA200 2 : Int)) →
        (∀ st, st < s.build.S → (s.pot st).tempBad = false ∧ 4 * (s.pot st).temp < 4 * (s.param 0xA200 3 : Int) ∧
          4 * (s.pot st).temp < 4 * (s.param 0xA200 4 : Int)) →
        p = (Config.powerActivity s.free).toNat → pp = 32 * p →
        Completes (.trivetInterval temps) s [.pwr, .stress, .evt, .obs, .arb, .tally, .free] fun t =>
          t.pwr.est = p ∧ t.free = s.free + 1 ∧ t.pwr.edge = some s.clk.ftc ∧
          (∀ (i d : Nat) (x : Int), s.build.domains[i]? = some d → temps[i]? = some x → (t.dom d).temp = x) ∧
          t.pwr.boost = min (s.param 0xA000 4)
            (if 10 * s.param 0xA000 2 < p then s.pwr.boost - 10
             else if p < 10 * s.param 0xA000 2 then s.pwr.boost + 1 else s.pwr.boost) ∧
          (t.pwr.boost = 0 → t.pwr.exhausted = true) ∧
          (t.pwr.boost = s.param 0xA000 4 → t.pwr.boost ≠ 0 → t.pwr.exhausted = false) ∧
          (cap = 320 * (if t.pwr.exhausted then s.param 0xA000 2 else s.param 0xA000 3) →
            u' = (if cap < pp then max (s.uMax * s.param 0xA000 10 / 16) (s.uNow - ceilDiv (s.uNow * (pp - cap)) pp)
              else if 32 * pp < 31 * cap then min s.uMax (s.uNow + s.uMax / 64) else s.uNow) →
            low = max (s.param 0xA000 10) (min 16 (u' / max s.awakeTiles 1)) →
            t.pwr.u = some u' ∧
            ∀ n, n < s.build.K → mapGet 16 t.pwr.duty n = if s.throttled n = true then low else 16) ∧
          t.stress.resid = s.stress.resid ∧ (s.pwr.parked = true → t.stress.hours = s.stress.hours) ∧
          (s.pwr.parked = false →
            ∃ key, t.stress.hours = mapSet 0 s.stress.hours key (mapGet 0 s.stress.hours key + 1))) ∧
      (∀ x ∈ temps, s.pwr.trip = false → 4 * (s.param 0xA200 2 : Int) ≤ x →
        Completes (.trivetInterval temps) s
          [.mem, .frm, .rgn, .wsk, .mc, .tl, .syn, .sch, .ldl, .pwr, .stress, .evt, .att, .par, .obs, .cls, .stk, .pin,
           .arb, .tally, .free] fun t =>
          t.pwr.trip = true ∧ t.pwr.parked = true ∧ s.evt.newest < t.evt.newest ∧
          (s.pwr.parked = true → t.mem = s.mem) ∧
          (s.pwr.parked = false → InP5 s t) ∧ (s.pin.start = some .cold → t.ldl.stage = 255 ∧ t.ldl.cause = 0x0040)) ∧
      (s.pwr.trip = true → s.pwr.hotDie = false → s.pwr.hotStack = false → s.pwr.hotFail = false →
        (∀ x ∈ temps, x ≤ 4 * (s.param 0xA200 2 : Int) - 60 ∧ x < 4 * (s.param 0xA200 1 : Int)) →
        (∀ st, st < s.build.S → (s.pot st).tempBad = false ∧
          4 * (s.pot st).temp ≤ 4 * (s.param 0xA200 4 : Int) - 60 ∧ 4 * (s.pot st).temp < 4 * (s.param 0xA200 3 : Int)) →
        Completes (.trivetInterval temps) s [.pwr, .stress, .evt, .obs, .arb, .tally, .free] fun t =>
          t.pwr.trip = false ∧ t.pwr.tripped = none))) ∧
  (∀ (s : State) (margin : Nat), exec (.vidStep false margin) s = .next s) ∧
  (∀ (s : State) (margin floor : Nat), floor = min 80 (max 20 Config.fusedVmin.toNat) → s.live = true →
    (s.since s.pwr.vidAt (tclkR 600) = false →
      Completes (.vidStep true margin) s [.pwr] fun t =>
        t.pwr = { s.pwr with vidOk := s.pwr.vidOk || decide (s.param 0xA000 12 ≤ margin) }) ∧
    (s.since s.pwr.vidAt (tclkR 600) = true →
      ((margin < s.param 0xA000 12 ∨ s.pwr.vid < floor) →
        Completes (.vidStep true margin) s [.pwr] fun t =>
          (s.pwr.vid < 80 →
            t.pwr = { s.pwr with vid := s.pwr.vid + 1, vidAt := s.clk.now, vidOk := false }) ∧
          (80 ≤ s.pwr.vid → t.pwr = s.pwr)) ∧
      (s.param 0xA000 12 ≤ margin → floor < s.pwr.vid →
        Completes (.vidStep true margin) s [.pwr, .free] fun t =>
          t.free = s.free + 1 ∧
          ((Config.freeValue 17 s.free).toNat % 2 = 1 →
            t.pwr = { s.pwr with vid := s.pwr.vid - 1, vidAt := s.clk.now, vidOk := false }) ∧
          ((Config.freeValue 17 s.free).toNat % 2 = 0 → t.pwr = { s.pwr with vidOk := true })) ∧
      (s.param 0xA000 12 ≤ margin → floor = s.pwr.vid →
        Completes (.vidStep true margin) s [.pwr] fun t => t.pwr = { s.pwr with vidOk := true })))

/-- 15 R428, R429, R438, R441, R443 to R448; 14 R425: a failed core's duty goes to the standby, or is not served;
IMAGE_PROGRAM fills the other slot from the staging area; FW_UPDATE hands the duties over one by one; after probation
the programmed slot is the boot slot; image commits keep their gap; LIB_INSTALL copies an image into a CODE region. -/
def Obligations.CoresAndImages : Prop :=
  (∀ (s : State) (core : Nat), core < 6 → (s.core core).state ≠ 3 →
    (s.ldl.updState ≠ 2 → s.ldl.updState ≠ 3 →
      Completes (.coreWatchdogExpiry core) s [.ldl, .evt] fun t =>
        ((s.core core).duty = 5 →
          t.ldl.cores = listSet s.ldl.cores core { s.core core with state := 3, newImage := false }) ∧
        (∀ q, (s.core core).duty ≠ 5 →
          (s.setCore core { s.core core with state := 3, newImage := false }).spareCore = some q →
          t.core q = { s.core q with state := 0, duty := (s.core core).duty } ∧ t.core core = ⟨3, 5, false⟩) ∧
        ((s.core core).duty ≠ 5 → (s.setCore core { s.core core with state := 3, newImage := false }).spareCore = none →
          t.core core = ⟨3, (s.core core).duty, false⟩) ∧
        s.evt.newest < t.evt.newest) ∧
    ((s.ldl.updState = 2 ∨ s.ldl.updState = 3) →
      Completes (.coreWatchdogExpiry core) s [.ldl, .evt] fun t =>
        t.ldl.updState = 5 ∧ t.ldl.updStep = 0 ∧ (∀ c ∈ t.ldl.cores, c.newImage = false ∧ c.state ≠ 2))) ∧
  (∀ (s : State) (src : MgmtSrc) (b : Access) (o : Obj) (x : Nat), x = s.otherSlot →
    Accepted s src { kind := 2, idx := 0x2F00, sub := 3, loose := true, anyData := true } b o →
    ((s.ldl.updState = 2 ∨ s.ldl.updState = 3) → TurnedAway (.imageProgram src) s src b cState 0) ∧
    (s.ldl.updState ≠ 2 → s.ldl.updState ≠ 3 →
      Completes (.imageProgram src) s (([.ldl, .per, .evt, .obs, .tally] : List Group) ++ answerGroups src) fun t =>
        t.mem.bytes = s.mem.bytes ∧
        (s.stagedOk = false → t.ldl = s.ldl ∧ t.per = s.per ∧ t.evt = s.evt ∧ Replied s t src b.kind cState 0 []) ∧
        (s.stagedOk = true → Replied s t src b.kind cDone b.data.length [] ∧
          t.ldl.imgState = (if s.ldl.fitted && !Config.flashFails (512 + x) (mapGet 0 s.per.wear (512 + x) + 1) then 3 else 4) ∧
          (∀ i, i < 4096 → mapGet 0xFF t.ldl.flash (slotBase x + 0x1000 + i) = mapGet 0 s.ldl.staging (0x1000 + i)) ∧
          (∀ i, i < natAt (s.stagingRead 0x1000 272) 16 4 →
            mapGet 0xFF t.ldl.flash (slotBase x + 0x2000 + i) = mapGet 0 s.ldl.staging (0x2000 + i)) ∧
          (∀ a, (a < slotBase x + 0x1000 ∨ slotBase x + 0xF00000 ≤ a) →
            mapGet 0xFF t.ldl.flash a = mapGet 0xFF s.ldl.flash a) ∧
          mapGet 0 t.per.wear (512 + x) = mapGet 0 s.per.wear (512 + x) + 1))) ∧
  (∀ (s : State) (src : MgmtSrc) (b : Access) (o : Obj),
    Accepted s src { kind := 2, idx := 0x2F00, sub := 5, loose := true, anyData := true } b o →
    ((s.ldl.updState = 2 ∨ s.ldl.updState = 3) → Does (.fwUpdate src) s src b [] fun t => t.ldl = s.ldl) ∧
    (s.ldl.updState ≠ 2 → s.ldl.updState ≠ 3 →
      (s.ldl.imgState ≠ 3 ∨ (∀ c ∈ s.ldl.cores, c.state ≠ 1)) → TurnedAway (.fwUpdate src) s src b cState 0) ∧
    (∀ c i, s.ldl.updState ≠ 2 → s.ldl.updState ≠ 3 → s.ldl.imgState = 3 →
      (s.ldl.cores.zipIdx.find? fun p => decide (p.1.state = 1)) = some (c, i) →
      Does (.fwUpdate src) s src b [.ldl, .evt] fun t =>
        t.ldl = { s.ldl with cores := listSet s.ldl.cores i ⟨2, 5, true⟩, updStep := 0, updState := 2 } ∧
        t.evt.newest = s.evt.newest + 1)) ∧
  (∀ (s : State) (i j k : Nat), s.ldl.updState = 2 → k = s.ldl.updStep → s.spareCore = some i → s.coreOf k = some j →
    i ≠ j →
    s.quiet k = true →
    (k ≠ 4 → Completes .dutyHandover s [.ldl] fun t =>
      t.core i = ⟨0, k, true⟩ ∧ t.core j = ⟨2, 5, true⟩ ∧ t.ldl.updStep = k + 1 ∧ t.ldl.updState = 2) ∧
    (k = 4 → Completes .dutyHandover s [.ldl, .evt] fun t =>
      t.core i = ⟨0, 4, true⟩ ∧ t.core j = ⟨1, 5, true⟩ ∧ t.ldl.updState = 3 ∧ t.ldl.probAt = s.clk.now ∧
      t.evt.newest = s.evt.newest + 1)) ∧
  (∀ (s : State), s.ldl.updState = 3 → s.since s.ldl.probAt (secR (s.param 0x2F00 7)) = true →
    Completes .probationEnd s [.dict, .ldl, .per, .evt, .obs, .tally] fun t =>
      t.ldl.slot = s.otherSlot ∧ t.ldl.updState = 4 ∧ (∀ c ∈ t.ldl.cores, c.newImage = false) ∧
      t.bootSeq s.otherSlot = (s.bootSeq (1 - s.otherSlot) + 1) % 2 ^ 32) ∧
  (∀ (s : State) (c : Instr) (l : List Group) (more : State → Prop),
    ((c = .stressSave ∧ l = [.stress] ∧ s.since s.stress.saved (secR (s.param 0xA300 3)) = true ∧
        (s.coreOf 4).isSome = true ∧ more = fun t => t.stress = { s.stress with saved := s.clk.now }) ∨
      (∃ src b o, c = .imageCommit src ∧ l = answerGroups src ∧
        Accepted s src { kind := 2, idx := 0x2F00, sub := 8, loose := true, anyData := true } b o ∧
        more = fun t => Replied s t src b.kind cDone b.data.length [])) →
    (∀ e, s.per.last = some e → s.since e (secR (s.param 0x2F00 9)) = false →
      Completes c s (.per :: l) fun t => more t ∧ t.per = { s.per with queued := true }) ∧
    ((s.per.last = none ∨ ∃ e, s.per.last = some e ∧ s.since e (secR (s.param 0x2F00 9)) = true) →
      ((2 ≤ s.ldl.slot ∨ s.ldl.fitted = false ∨ s.per.stopped = true) →
        Completes c s (.per :: l) fun t => more t ∧ t.per = { s.per with queued := false }) ∧
      (s.ldl.slot < 2 → s.ldl.fitted = true → s.per.stopped = false →
        Completes c s (([.dict, .ldl, .per, .evt, .obs, .tally] : List Group) ++ l) fun t => more t ∧ Committed s t))) ∧
  (∀ (s : State) (e : Nat), s.per.last = some e → s.per.queued = true → s.since e (secR (s.param 0x2F00 9)) = true →
    (s.coreOf 4).isSome = true → s.ldl.slot < 2 → s.ldl.fitted = true → s.per.stopped = false →
    Completes .commitMinGapExpiry s [.dict, .ldl, .per, .evt, .obs, .tally] fun t => Committed s t) ∧
  (∀ (s : State) (src : MgmtSrc) (number handle ofs : Nat) (b : Access) (o : Obj), number < 256 → handle < 2 ^ 24 →
    ofs < 2 ^ 64 →
    Accepted s src
      { kind := 2, idx := 0x2F00, sub := 15,
        data := beBytes 1 number ++ beBytes 3 handle ++ beBytes 4 0 ++ beBytes 8 ofs, loose := true } b o →
    ((s.activeDesc handle = none ∨ ∃ d, s.activeDesc handle = some d ∧ (d.kind ≠ kCode ∨ d.rdonly = true)) →
      TurnedAway (.libInstall src number handle ofs) s src b cState 0) ∧
    (∀ d, s.activeDesc handle = some d → d.kind = kCode → d.rdonly = false → d.mirror = false → s.mem.poison = [] →
      (∀ g, s.lost g = false) →
      Completes (.libInstall src number handle ofs) s (.mem :: .rgn :: answerGroups src) fun t =>
        (d.capacity < ofs + (Config.libImage number).length → Replied s t src b.kind cState 0 [] ∧
          t.mem.bytes = s.mem.bytes) ∧
        (ofs + (Config.libImage number).length ≤ d.capacity → Replied s t src b.kind cDone b.data.length [] ∧
          t.mread (d.bpa0 + ofs) (Config.libImage number).length = Config.libImage number ∧
          (∀ a, (a < d.bpa0 + ofs ∨ d.bpa0 + ofs + (Config.libImage number).length ≤ a) → t.mbyte a = s.mbyte a) ∧
          (hdDesc handle, ofs, number) ∈ t.rgn.libs)))

/-- 15 R451, 01 R33 and 18 R490: EVENT_ACK moves the acknowledged position; qualifying records go out in a
notification frame, by FTC and then by source, and are marked; the test access port takes BYPASS and IDCODE at any
time, and the others only while rst_cold_n is low; while it is high they are replaced by BYPASS and no wrapper port is
linked. -/
def Obligations.EventsAndTestPort : Prop :=
  (∀ (s : State) (src : MgmtSrc) (pos : Nat) (a b : Access), pos < 2 ^ 64 →
    a = { kind := 2, idx := 0xB000, sub := 4, data := beBytes 8 pos } →
    (∀ o, Accepted s src a b o → pos ≤ s.evt.newest ∧
      Does (.eventAck src pos) s src b [.evt] fun t => t.evt = { s.evt with ack := pos }) ∧
    (Taken s src a b → s.evt.newest < pos → TurnedAway (.eventAck src pos) s src b cFormat 64)) ∧
  (∀ (s : State), s.live = true → s.served 4 = true → s.param 0xB000 6 ≠ 0 → s.ldl.stage = 6 → s.toNotify ≠ [] →
    s.toNotify.length ≤ 32 →
    Completes .eventNotification s [.frm, .evt, .obs, .tally] fun t =>
      t.toNotify = [] ∧ t.evt.newest = s.evt.newest ∧ t.evt.ack = s.evt.ack ∧
      t.evt.ring = s.evt.ring.map (fun r =>
        if (s.toNotify.map fun x => x.pos).contains r.pos then { r with inband := true } else r) ∧
      mapGet 0 t.frm.notif (s.param 0xB000 6) = (mapGet 0 s.frm.notif (s.param 0xB000 6) + 1) % 2 ^ 32 ∧
      ∃ x : Resp, x.req = s.param 0xB000 6 ∧ x.seq = mapGet 0 s.frm.notif (s.param 0xB000 6) ∧ x.op = 0xBF ∧
        x.aux = s.toNotify.length ∧
        (∃ (rs : List EvRec) (lost : Bool), rs.Perm s.toNotify ∧
          rs.Pairwise (fun a b => a.ftc < b.ftc ∨ (a.ftc = b.ftc ∧ a.src ≤ b.src)) ∧
          x.payload = (rs.mapIdx fun i r =>
            ({ r with inband := true, gap := r.gap || (lost && decide (i = 0)) } : EvRec).bytes).flatten) ∧
        (s.upPorts = [] → t.frm.noPort = s.frm.noPort ++ [x]) ∧
        (s.upPorts ≠ [] → s.egressQ s.sysClass < 16 → (∀ p, (s.port p).queues.length = 16) →
          ∃ p ∈ s.upPorts, ∃ q ∈ (t.port p).queues.flatten, q.resp = x)) ∧
  (∀ (s : State) (word stack : Nat), stack < s.build.S →
    (Completes .bypass s [.pin] fun t => t.pin = { s.pin with tap := 0, tapReg := 0, tapStack := none }) ∧
    (Completes .idcode s [.pin] fun t =>
      t.pin = { s.pin with tap := 1, tapReg := t.pin.tapReg, tapStack := none } ∧ t.pin.tapReg % 2 = 1 ∧
      t.pin.tapReg / 2 % 2 ^ 11 = Config.idCode.toNat / 2 % 2 ^ 11 ∧ t.pin.tapReg / 4096 = 0x34B57) ∧
    (s.pin.coldN = true → ∀ c, (c = .samplePreload word ∨ c = .extest ∨ c = .stack1500 stack) →
      Completes c s [.pin] fun t => t.pin = { s.pin with tap := 0, tapReg := 0, tapStack := none }) ∧
    (s.pin.coldN = false →
      (Completes (.samplePreload word) s [.pin, .free] fun t =>
        t.pin.tap = 2 ∧ t.pin.boundary = word ∧ t.pin.tapStack = none) ∧
      (Completes .extest s [.pin, .free] fun t => t.pin.tap = 3 ∧ t.pin.boundary = s.pin.boundary) ∧
      (Completes (.stack1500 stack) s [.pin] fun t =>
        t.pin = { s.pin with tap := 4, tapReg := stack, tapStack := some stack })))

/-! ### Tiles (04, 05) -/

/-- 04 R115 to R117, R124 to R126, R144: the sixteen operations of the move slot; each leaves every other register,
all other data memory and every other tile as they were, and the PC at the next bundle. G0 and M0 discard what is
written to them. -/
def Obligations.MoveSlotOperations : Prop :=
  ∀ (s : State) (k w a : Nat) (o : Tile), w < 2 ^ 64 → Runs s k { mv := w } → o = s.tile k →
    a = (o.r.getG (mvS1 w) + mvImm w) % 2 ^ 32 →
    (∀ (c : Instr) (r : TileRegs),
      ((c = .ldv k w ∧ mvOp w = 1 ∧ r = o.r.setV (mvD w) ((List.range 64).map fun i =>
          if 4 * i < mvSize w then beNat (o.r.getDm (a + 4 * i) 4) else 0)) ∨
        (c = .lds k w ∧ mvOp w = 3 ∧ r = o.r.setG (mvD w) (beNat (o.r.getDm a 4))) ∨
        (c = .movi k w ∧ mvOp w = 5 ∧ r = o.r.setG (mvD w) (mvImm w)) ∨
        (c = .alu k w ∧ mvOp w = 6 ∧ r = o.r.setG (mvD w) (aluFn (mvFn w) (o.r.getG (mvS1 w)) (o.r.getG (mvS2 w)))) ∨
        (c = .alui k w ∧ mvOp w = 7 ∧ r = o.r.setG (mvD w) (aluFn (mvFn w) (o.r.getG (mvS1 w)) (mvImm w))) ∨
        (c = .bcast k w ∧ mvOp w = 8 ∧ r = o.r.setV (mvD w) (List.replicate 64 (o.r.getG (mvS1 w)))) ∨
        (c = .vtog k w ∧ mvOp w = 9 ∧ r = o.r.setG (mvD w) (mapGet 0 o.r.v (64 * mvS1 w + mvImm w % 64))) ∨
        (c = .ldm k w ∧ mvOp w = 10 ∧ r = o.r.setM (mvD w) (beNat (o.r.getDm a 8))) ∨
        (c = .rdctr k w ∧ mvOp w = 13 ∧ r = o.r.setG (mvD w) (o.r.getCtr (mvImm w % 64))) ∨
        (c = .setl k w ∧ mvOp w = 15 ∧ r = o.r.setL (mvD w) a)) →
      Completes c s [.tl, .obs, .tally] fun t =>
        t.tile k = o.onward s.clk.now (o.r.pc + 1) r ∧ Alone s t [k]) ∧
    (∀ (c : Instr) (r : TileRegs),
      ((c = .stv k w ∧ mvOp w = 2 ∧ r = o.r.setDm a ((laneBytes (o.r.getV (mvS2 w))).take (mvSize w))) ∨
        (c = .sts k w ∧ mvOp w = 4 ∧ r = o.r.setDm a (beBytes 4 (o.r.getG (mvS2 w)))) ∨
        (c = .stm k w ∧ mvOp w = 11 ∧ r = o.r.setDm a (beBytes 8 (o.r.getM (mvS2 w))))) →
      Completes c s [.tl, .obs, .tally] fun t =>
        t.tile k = { o.onward s.clk.now (o.r.pc + 1) r with c := { o.c with dirty := true } } ∧ Alone s t [k]) ∧
    (mvOp w = 12 →
      Completes (.xfer k w) s [.tl, .obs, .tally] fun t =>
        (t.tile k).r = { o.r with pc := o.r.pc + 1 } ∧ (t.tile k).cr = o.cr ∧
        (t.tile k).c = { o.c with
          xq := o.c.xq ++ [beNat (o.r.getDm a 32)], dirty := o.c.dirty || xdOut (beNat (o.r.getDm a 32)) } ∧
        Alone s t [k]) ∧
    (mvOp w = 14 →
      Completes (.rdcr k w) s [.tl, .obs, .tally] fun t =>
        (t.tile k).r = { o.r.setG (mvD w)
            (match mvImm w % 256 with
              | 0x00 => k
              | 0x01 => o.cr.part
              | 0x02 => o.cr.cls
              | 0x03 => o.cr.setpos
              | 0x04 => o.cr.setsize
              | 0x05 => o.cr.step % 2 ^ 32
              | 0x06 => o.cr.step / 2 ^ 32 % 2 ^ 32
              | 0x07 => o.cr.seed % 2 ^ 32
              | 0x08 => o.cr.seed / 2 ^ 32 % 2 ^ 32
              | 0x09 => s.clk.ftc % 2 ^ 32
              | 0x0A => o.cr.ftcHi
              | 0x0B => o.cr.status
              | 0x0C => o.cr.poisonOfs
              | 0x0D => (s.dom (k / 32)).epoch
              | 0x10 => o.cr.ebase % 2 ^ 32
              | 0x11 => o.cr.ebase / 2 ^ 32 % 2 ^ 32
              | _ => 0) with
          pc := o.r.pc + 1 } ∧
        (t.tile k).cr = (if mvImm w % 256 = 9 then { o.cr with ftcHi := s.clk.ftc / 2 ^ 32 % 2 ^ 32 } else o.cr) ∧
        (t.tile k).c = o.c ∧ Alone s t [k]) ∧
    (mvOp w = 16 →
      Completes (.wrcr k w) s [.tl, .obs, .tally] fun t =>
        (t.tile k).r = { o.r with pc := o.r.pc + 1 } ∧
        (t.tile k).cr = { o.cr with
          ebase := if mvImm w % 256 = 0x10 then o.cr.ebase / 2 ^ 32 * 2 ^ 32 + o.r.getG (mvS1 w)
            else o.cr.ebase % 2 ^ 32 + o.r.getG (mvS1 w) * 2 ^ 32 } ∧
        (t.tile k).c = o.c ∧ Alone s t [k])

/-- 04 R131 to R140 and 05 R161 to R175: an MMA adds its exact products, rounded by group, to the rows of its bank, or
waits behind the one that runs; ACZERO clears a bank; every vector operation writes the lanes that its mask selects
from the lanes of its operands as they stood, and nothing else. -/
def Obligations.ArrayAndVectorOperations : Prop :=
  (∀ (s : State) (k w a b c : Nat) (o : Tile), w < 2 ^ 56 → Runs s k { ar := w } → o = s.tile k →
    a = o.r.getG (arGa w) → b = o.r.getG (arGb w) → c = o.r.getG (arGs w) →
    (arOp w = 1 → o.x.mmaWait = none → o.x.arrayFree ≤ s.clk.now →
      Completes (.mma k w) s [.tl, .obs, .tally] fun t =>
        (∀ i, i < 16 → (t.tile k).r.getAc (arBank w) i =
          (if arZero w then List.replicate 64 0 else o.r.getAc (arBank w) i).mapIdx
            fun j p => mmaOut o.r w a b c i j p) ∧
        (∀ i, i < 16 → (t.tile k).r.getAc (1 - arBank w) i = o.r.getAc (1 - arBank w) i) ∧
        (t.tile k).r.dm = o.r.dm ∧ (t.tile k).r.v = o.r.v ∧ (t.tile k).r.pc = o.r.pc + 1 ∧
        (arAinc w = true → arGa w ≠ 0 → arGa w ≠ arGb w → (t.tile k).r.getG (arGa w) = (a + mmaFootA w) % 2 ^ 32) ∧
        (arBinc w = true → arGb w ≠ 0 → arGa w ≠ arGb w → (t.tile k).r.getG (arGb w) = (b + mmaFootB w) % 2 ^ 32) ∧
        (∀ g, (g ≠ arGa w ∨ arAinc w = false) → (g ≠ arGb w ∨ arBinc w = false) → (t.tile k).r.getG g = o.r.getG g) ∧
        (t.tile k).x.arrayFree = s.clk.now + 8 + mmaSpan w (s.duty k) ∧ (t.tile k).x.mmaWait = none ∧
        (t.tile k).x.mmaRun = some (w, a, b, c) ∧
        mapGet 0 (t.tile k).x.banks (arBank w) =
          s.clk.now + 8 + mmaSpan w (s.duty k) + tclkR (if arAt w || arBt w then 13 else 9) ∧
        (t.tile k).c = o.c ∧ Alone s t [k]) ∧
    (∀ w' a' b' c', arOp w = 1 → o.x.mmaWait = some (w', a', b', c') → o.x.arrayFree ≤ s.clk.now →
      s.clk.now < o.x.arrayFree + mmaSpan w' (s.duty k) →
      Completes (.mma k w) s [.tl, .obs, .tally] fun t =>
        (∀ i, i < 16 → (t.tile k).r.getAc (arBank w') i =
          (if arZero w' then List.replicate 64 0 else o.r.getAc (arBank w') i).mapIdx
            fun j p => mmaOut o.r w' a' b' c' i j p) ∧
        (t.tile k).x.arrayFree = o.x.arrayFree + mmaSpan w' (s.duty k) ∧ (t.tile k).x.mmaWait = some (w, a, b, c) ∧
        (t.tile k).r.pc = o.r.pc + 1 ∧ Alone s t [k]) ∧
    (arOp w = 1 → s.clk.now < o.x.arrayFree →
      Completes (.mma k w) s [.tl, .obs, .tally] fun t =>
        (t.tile k).r.ac = o.r.ac ∧ (t.tile k).x.mmaWait = some (w, a, b, c) ∧ (t.tile k).r.pc = o.r.pc + 1 ∧
        Alone s t [k]) ∧
    (arOp w = 2 →
      Completes (.aczero k w) s [.tl, .obs, .tally] fun t =>
        (∀ n, mapGet 0 (t.tile k).r.ac n = if n / 1024 = arBank w then 0 else mapGet 0 o.r.ac n) ∧
        mapGet 0 (t.tile k).x.banks (arBank w) = s.clk.now + tclkR 2 ∧
        (t.tile k).r.g = o.r.g ∧ (t.tile k).r.v = o.r.v ∧ (t.tile k).r.dm = o.r.dm ∧ (t.tile k).r.pc = o.r.pc + 1 ∧
        Alone s t [k])) ∧
  (∀ (s : State) (k w : Nat) (o : Tile) (va vb vc : Nat → Nat) (put : (Nat → Nat) → TileRegs), w < 2 ^ 72 →
    Runs s k { ve := w } → o = s.tile k →
    va = (fun i => mapGet 0 o.r.v (64 * veA w + i)) → vb = (fun i => mapGet 0 o.r.v (64 * veB w + i)) →
    vc = (fun i => mapGet 0 o.r.v (64 * veC w + i)) →
    put = (fun f => o.r.setV (veD w) ((List.range 64).map fun i =>
      if bit (o.r.getM (veMsk w)) i then f i else mapGet 0 o.r.v (64 * veD w + i))) →
    (∀ (c : Instr) (f : Nat → Nat),
      ((c = .fadd k w ∧ veOp w = 0x01 ∧ f = fun i => f32add (va i) (vb i)) ∨
        (c = .fsub k w ∧ veOp w = 0x02 ∧ f = fun i => f32sub (va i) (vb i)) ∨
        (c = .fmul k w ∧ veOp w = 0x03 ∧ f = fun i => f32mul (va i) (vb i)) ∨
        (c = .ffma k w ∧ veOp w = 0x04 ∧ f = fun i => f32fma (va i) (vb i) (vc i)) ∨
        (c = .fmax k w ∧ veOp w = 0x05 ∧ f = fun i => f32max (va i) (vb i)) ∨
        (c = .fmin k w ∧ veOp w = 0x06 ∧ f = fun i => f32min (va i) (vb i)) ∨
        (c = .fsgn k w ∧ veOp w = 0x07 ∧ f = fun i => f32sgn (veFn w) (va i) (vb i)) ∨
        (c = .sel k w ∧ veOp w = 0x09 ∧ f = fun i => if bit (o.r.getM (veC w % 8)) i then va i else vb i) ∨
        (c = .fexp k w ∧ veOp w = 0x0A ∧ f = fun i => f32exp (va i)) ∨
        (c = .frcp k w ∧ veOp w = 0x0C ∧ f = fun i => f32rcp (va i)) ∨
        (c = .fsqrt k w ∧ veOp w = 0x0D ∧ f = fun i => f32sqrt (va i)) ∨
        (c = .fmuli k w ∧ veOp w = 0x0E ∧ f = fun i => f32mul (va i) (veImm w)) ∨
        (c = .faddi k w ∧ veOp w = 0x0F ∧ f = fun i => f32add (va i) (veImm w)) ∨
        (c = .iadd k w ∧ veOp w = 0x10 ∧ f = fun i => (va i + vb i) % 2 ^ 32) ∨
        (c = .isub k w ∧ veOp w = 0x11 ∧ f = fun i => (va i + 2 ^ 32 - vb i % 2 ^ 32) % 2 ^ 32) ∨
        (c = .imul k w ∧ veOp w = 0x12 ∧ f = fun i => (va i * vb i) % 2 ^ 32) ∨
        (c = .logic k w ∧ veOp w = 0x13 ∧ f = fun i => logicFn (veFn w) (va i) (vb i)) ∨
        (c = .shift k w ∧ veOp w = 0x14 ∧ f = fun i => shiftFn (veFn w) (va i) (veImm w % 32)) ∨
        (c = .iminmax k w ∧ veOp w = 0x15 ∧ f = fun i => iminmaxFn (veFn w) (va i) (vb i)) ∨
        (c = .red k w ∧ veOp w = 0x18 ∧ f = fun _ => redFn (veFn w) ((List.range 64).map va)) ∨
        (c = .perm k w ∧ veOp w = 0x19 ∧
          f = fun i => va (if veFn w = 0 then i ^^^ (veImm w % 64) else (i + veImm w % 64) % 64)) ∨
        (c = .cvti k w ∧ veOp w = 0x1D ∧ f = fun i => cvtiFn (veFn w) (va i)) ∨
        (c = .cvtw k w ∧ veOp w = 0x1C ∧ veImm w % 256 ≠ 5 ∧ f = fun i => frne fp32 (dtypeValue (veImm w % 256)
          (packedAt (cvtBytes (veImm w % 256)) ((List.range 64).map va) (64 * veFn w + i)))) ∨
        (((c = .cvtn k w ∧ veOp w = 0x1A) ∨ (c = .cvts k w ∧ veOp w = 0x1B) ∨ (c = .cvtw k w ∧ veOp w = 0x1C)) ∧
          veImm w % 256 = 5 ∧ f = fun i => if fdecode fp32 (va i) = .nan then fp32.nanCode else va i) ∨
        (c = .acrd k w ∧ veOp w = 0x1E ∧
          f = fun i => mapGet 0 o.r.ac (1024 * bits (veImm w) 4 4 + 64 * (veImm w % 16) + i))) →
      Completes c s [.tl, .obs, .tally] fun t =>
        t.tile k = o.onward s.clk.now (o.r.pc + 1) (put f) ∧ Alone s t [k]) ∧
    (veOp w = 0x08 →
      Completes (.fcmp k w) s [.tl, .obs, .tally] fun t =>
        (veD w % 8 ≠ 0 → ∀ i, i < 64 → bit ((t.tile k).r.getM (veD w % 8)) i =
          if bit (o.r.getM (veMsk w)) i then f32cmp (veFn w) (va i) (vb i) else bit (o.r.getM (veD w % 8)) i) ∧
        (veD w % 8 = 0 → (t.tile k).r.m = o.r.m) ∧
        (t.tile k).r.v = o.r.v ∧ (t.tile k).r.g = o.r.g ∧ (t.tile k).r.dm = o.r.dm ∧ (t.tile k).r.pc = o.r.pc + 1 ∧
        Alone s t [k]) ∧
    (veOp w = 0x0B →
      Completes (.fexpa k w) s [.tl, .obs, .tally, .free] fun t =>
        (∀ i, i < 64 → bit (o.r.getM (veMsk w)) i = true → (∀ n m e, fdecode fp32 (va i) ≠ .fin n m e) →
          mapGet 0 (t.tile k).r.v (64 * veD w + i) = f32exp (va i)) ∧
        (∀ i n m e, i < 64 → bit (o.r.getM (veMsk w)) i = true → fdecode fp32 (va i) = .fin n m e →
          (f32normal (f32exp (va i)) = true → f32normal (mapGet 0 (t.tile k).r.v (64 * veD w + i)) = true) ∧
          (mapGet 0 (t.tile k).r.v (64 * veD w + i) = f32exp (va i) ∨
            (fdecode fp32 (mapGet 0 (t.tile k).r.v (64 * veD w + i)) = .nan →
              mapGet 0 (t.tile k).r.v (64 * veD w + i) = fp32.nanCode) ∧
            (f32normal (mapGet 0 (t.tile k).r.v (64 * veD w + i)) = true →
              nearExp (mapGet 0 (t.tile k).r.v (64 * veD w + i)) n m e = true))) ∧
        (∀ i, i < 64 → bit (o.r.getM (veMsk w)) i = false →
          mapGet 0 (t.tile k).r.v (64 * veD w + i) = mapGet 0 o.r.v (64 * veD w + i)) ∧
        (∀ n, n / 64 ≠ veD w → mapGet 0 (t.tile k).r.v n = mapGet 0 o.r.v n) ∧ (t.tile k).r.g = o.r.g ∧
        (t.tile k).r.dm = o.r.dm ∧ (t.tile k).r.pc = o.r.pc + 1 ∧ Alone s t [k]) ∧
    (∀ (c : Instr) (rnd : Nat → Rnd), veImm w % 256 ≠ 5 →
      ((c = .cvtn k w ∧ veOp w = 0x1A ∧ rnd = fun _ => .rne) ∨
        (c = .cvts k w ∧ veOp w = 0x1B ∧
          rnd = fun i => .stoch (randomWord o.cr.seed o.cr.step ((o.cr.ebase + vb i) % 2 ^ 64)))) →
      Completes c s [.tl, .obs, .tally] fun t =>
        t.tile k = o.onward s.clk.now (o.r.pc + 1) (o.r.setV (veD w)
          (packNarrow (cvtBytes (veImm w % 256)) (o.r.getM (veMsk w)) (o.r.getV (veD w))
            ((List.range 64).map fun i =>
              dtypeRound (veImm w % 256) (rnd i) (bit (veImm w) 8) (fdecode fp32 (va i))))) ∧ Alone s t [k]) ∧
    (veOp w = 0x1F →
      Completes (.acwr k w) s [.tl, .obs, .tally] fun t =>
        (∀ n, mapGet 0 (t.tile k).r.ac n =
          if n / 64 = 16 * bits (veImm w) 4 4 + veImm w % 16 ∧ bit (o.r.getM (veMsk w)) (n % 64) = true then va (n % 64)
          else mapGet 0 o.r.ac n) ∧
        (t.tile k).r.v = o.r.v ∧ (t.tile k).r.g = o.r.g ∧ (t.tile k).r.dm = o.r.dm ∧ (t.tile k).r.pc = o.r.pc + 1 ∧
        Alone s t [k]))

/-- 04 R123, R124, R143 to R146 and 08 R243 to R252: the operations of the sync slot; and what holds or stops a
bundle: a tile that does not run issues nothing, a stall is remembered, and an illegal or faulting bundle changes
nothing but its tile: with nothing under way the tile enters FAULTED with its record and an event, otherwise it stops
until its work has run out. A branch that is taken, and a LOOP that falls through, cost the next TCLK. -/
def Obligations.SyncSlotAndFaults : Prop :=
  (∀ (s : State) (k w n : Nat) (o : Tile), w < 2 ^ 64 → Runs s k { sy := w } → o = s.tile k →
    n = (if syGr w = 0 then syImm w else o.r.getG (syGr w)) →
    (syOp w = 2 →
      Completes (.subCtr k w) s [.tl, .obs, .tally] fun t =>
        (t.tile k).r = { o.r.setCtr (syCtr w) (o.r.getCtr (syCtr w) - n) with pc := o.r.pc + 1 } ∧ (t.tile k).cr = o.cr ∧
        (t.tile k).c = o.c ∧ Alone s t [k]) ∧
    (∀ (c : Instr) (r : TileRegs) (pc : Nat) (hold : Bool),
      ((c = .wait k w ∧ syOp w = 3 ∧ pc = o.r.pc + 1 ∧ r = o.r ∧ hold = false) ∨
        (c = .br k w ∧ syOp w = 5 ∧ pc = syTgt w ∧ r = o.r ∧ hold = true) ∨
        (c = .brz k w ∧ syOp w = 6 ∧ r = o.r ∧
          (pc, hold) = if (o.r.getG (syGr w) = 0 ↔ bit (syFn w) 0 = false) then (syTgt w, true) else (o.r.pc + 1,
            false)) ∨
        (c = .loop k w ∧ syOp w = 7 ∧
          r = o.r.setL (syFn w % 4) ((o.r.getL (syFn w % 4) + 2 ^ 32 - 1) % 2 ^ 32) ∧
          (pc, hold) = if (o.r.getL (syFn w % 4) + 2 ^ 32 - 1) % 2 ^ 32 ≠ 0 then (syTgt w, false)
            else (o.r.pc + 1, true))) →
      Completes c s [.tl, .obs, .tally] fun t => t.tile k = o.onward s.clk.now pc r hold ∧ Alone s t [k]) ∧
    (syOp w = 8 → bit (syFn w) 0 = false →
      Completes (.halt k w) s [.tl, .obs, .tally] fun t =>
        t.tile k = { o.onward s.clk.now (o.r.pc + 1) o.r with c := { o.c with state := 4 } } ∧ Alone s t [k]) ∧
    (syOp w = 4 →
      Completes (.fence k w) s [.tl, .obs, .tally] fun t =>
        (outbound o.c = 0 →
          t.tile k = { o.onward s.clk.now (o.r.pc + 1) o.r with c := { o.c with dirty := false } }) ∧
        (outbound o.c ≠ 0 → t.tile k = { o.onward s.clk.now (o.r.pc + 1) o.r with
          c := { o.c with fences := o.c.fences ++ [{ left := outbound o.c, sig := none }] } }) ∧ Alone s t [k]) ∧
    (∀ (c : Instr) (halt : Bool),
      ((c = .sig k w ∧ syOp w = 1 ∧ bit (syFn w) 1 = false ∧ halt = false) ∨
        (c = .halt k w ∧ syOp w = 8 ∧ halt = true)) → bit (syFn w) 0 = true →
      (outbound o.c ≠ 0 →
        Completes c s [.tl, .obs, .tally] fun t =>
          (t.tile k).r = { o.r with pc := o.r.pc + 1 } ∧
          (t.tile k).c = { o.c with
            fences := o.c.fences ++ [{ left := outbound o.c, sig := some ⟨if halt then 0 else syFn w, syCtr w, n,
              halt⟩ }] } ∧
          Alone s t [k]) ∧
      (outbound o.c = 0 → s.awake (syCtr w / 64 / 32) = true → (s.tile (syCtr w / 64)).c.state ≠ 6 →
        Completes c s [.tl, .pwr, .stress, .obs, .arb, .tally] fun t =>
          ((s.dom (syCtr w / 64 / 32)).entering = false → t.pwr = s.pwr ∧ t.stress = s.stress ∧ t.arb = s.arb) ∧
          (t.tile (syCtr w / 64)).r.getCtr (syCtr w % 64) =
            ((s.tile (syCtr w / 64)).r.getCtr (syCtr w % 64) + n) % 2 ^ 32 ∧
          (t.tile k).r.pc = o.r.pc + 1 ∧ (t.tile k).c = { o.c with dirty := false, state := if halt then 4 else 3 } ∧
          Alone s t [k, syCtr w / 64])) ∧
    (syOp w = 1 → bit (syFn w) 0 = false → bit (syFn w) 1 = false →
      (s.awake (syCtr w / 64 / 32) = true →
        Completes (.sig k w) s [.tl, .pwr, .stress, .obs, .arb, .tally] fun t =>
          ((s.dom (syCtr w / 64 / 32)).entering = false → t.pwr = s.pwr ∧ t.stress = s.stress ∧ t.arb = s.arb) ∧
          (t.dom (syCtr w / 64 / 32)).entering = false ∧
          ((s.tile (syCtr w / 64)).c.state ≠ 6 →
            (t.tile (syCtr w / 64)).r.getCtr (syCtr w % 64) =
              ((s.tile (syCtr w / 64)).r.getCtr (syCtr w % 64) + n) % 2 ^ 32 ∧ t.tl.ledger = s.tl.ledger) ∧
          ((s.tile (syCtr w / 64)).c.state = 6 →
            mapGet 0 t.tl.ledger (syCtr w) = (mapGet 0 s.tl.ledger (syCtr w) + n) % 2 ^ 32) ∧
          (t.tile k).r.pc = o.r.pc + 1 ∧ (t.tile k).c = o.c ∧
          (o.c.dirty = true → bit (t.tile k).cr.status 2 = true) ∧
          (∀ j, j ≠ k → j ≠ syCtr w / 64 → t.tile j = s.tile j) ∧ t.tl.saves = s.tl.saves) ∧
      (s.awake (syCtr w / 64 / 32) = false →
        Completes (.sig k w) s [.tl, .pwr, .stress, .obs, .arb, .tally] fun t =>
          (∀ h : HeldSig,
            h = { addr := syCtr w, amount := n, part := o.cr.part, path := sigPath k (syCtr w), tile := some k } →
            ((s.dom (syCtr w / 64 / 32)).held.length < 16 →
              (t.dom (syCtr w / 64 / 32)).held = (s.dom (syCtr w / 64 / 32)).held ++ [h] ∧
              (t.dom (syCtr w / 64 / 32)).wait = (s.dom (syCtr w / 64 / 32)).wait) ∧
            (16 ≤ (s.dom (syCtr w / 64 / 32)).held.length →
              (t.dom (syCtr w / 64 / 32)).held = (s.dom (syCtr w / 64 / 32)).held ∧
              (t.dom (syCtr w / 64 / 32)).wait = (s.dom (syCtr w / 64 / 32)).wait ++ [h])) ∧
          (t.tile k).r.pc = o.r.pc + 1 ∧ Alone s t [k])) ∧
    (syOp w = 1 → bit (syFn w) 0 = false → bit (syFn w) 1 = true → reKind (s.remoteEntry (syCtr w % 4096)) = 1 →
      reEp (s.remoteEntry (syCtr w % 4096)) ≠ s.blockEp → (∀ q ∈ s.syn.queue, q.entry ≠ syCtr w % 4096) →
      Completes (.sig k w) s [.tl, .syn, .obs, .tally] fun t =>
        t.syn = { s.syn with
          queue := s.syn.queue ++
            [{ entry := syCtr w % 4096, amount := n, part := o.cr.part, cls := o.cr.cls,
               step := if o.cr.sched then o.cr.step else 0, tile := k, eq := o.cr.eq, at_ := s.clk.now }] } ∧
        (t.tile k).r.pc = o.r.pc + 1 ∧ Alone s t [k])) ∧
  (∀ (s : State) (c : Instr) (k : Nat) (b : Slots), tileOp c = some (k, b) → c.wellFormed s.build = true →
    s.live = true →
    (s.issues k = false → exec c s = .next s) ∧
    (s.issues k = true →
      (∀ code slot,
        (((s.tile k).c.nbundle ≤ (s.tile k).r.pc ∧ code = 8 ∧ slot = 3) ∨
          ((s.tile k).r.pc < (s.tile k).c.nbundle ∧ b.illegal = some slot ∧ code = 2) ∨
          ((s.tile k).r.pc < (s.tile k).c.nbundle ∧ b.illegal = none ∧ s.stall k b = none ∧ s.breaks k = true ∧
            code = 9 ∧ slot = 0) ∨
          ((s.tile k).r.pc < (s.tile k).c.nbundle ∧ b.illegal = none ∧ s.stall k b = none ∧ s.breaks k = false ∧
            s.bundleFault k b = some (code, slot))) →
        Completes c s [.tl, .evt, .obs, .tally] fun t =>
          ((s.tile k).drained = true →
            t.tile k = (s.tile k).faulted code slot s.clk.ftc ∧ t.evt.newest = s.evt.newest + 1) ∧
          ((s.tile k).drained = false → t.tile k = (s.tile k).failed code slot ∧ t.evt = s.evt) ∧ Alone s t [k]) ∧
      (∀ e why, (s.tile k).r.pc < (s.tile k).c.nbundle → b.illegal = none → s.stall k b = some (e, why) →
        Completes c s [.tl, .obs, .tally] fun t =>
          (t.tile k).r = (s.tile k).r ∧ (t.tile k).c = (s.tile k).c ∧ (t.tile k).x.blocked = why ∧ Alone s t [k]))) ∧
  (∀ (s : State) (k w a : Nat), a = ((s.tile k).r.getG (mvS1 w) + mvImm w) % 2 ^ 32 →
    (mvOp w = 1 ∨ mvOp w = 2 → (a % 64 ≠ 0 ∨ 0x30000 < a + mvSize w) → s.bundleFault k { mv := w } = some (1, 0)) ∧
    (mvOp w = 3 ∨ mvOp w = 4 → (a % 4 ≠ 0 ∨ 0x30000 < a + 4) → s.bundleFault k { mv := w } = some (1, 0)) ∧
    (mvOp w = 10 ∨ mvOp w = 11 → (a % 8 ≠ 0 ∨ 0x30000 < a + 8) → s.bundleFault k { mv := w } = some (1, 0)) ∧
    (mvOp w = 12 → (a % 32 ≠ 0 ∨ 0x30000 < a + 32) → s.bundleFault k { mv := w } = some (1, 0)) ∧
    (mvOp w = 13 → 48 ≤ mvImm w % 64 → s.bundleFault k { mv := w } = some (5, 0)) ∧
    (syOp w = 2 → syCtr w < 48 → (s.tile k).r.getCtr (syCtr w) < syAmount (s.tile k).r w →
      s.bundleFault k { sy := w } = some (4, 3)))

/-- 04 R116, R127 to R130, R136, R144, R145, R147 to R154; 07 R214, R226 and 08 R251, R255: a load fills a run of tiles
from a checked image, or changes no tile; a start, a stop, a save, a restore and a discard change one tile, and on a
TCLK edge a start issues the entry bundle at once; the transfer engine takes, checks and completes descriptors, lets an
XFER that has found the queue full issue, and marks in STATUS what it has found failing; a waiting MMA starts, a fence
ends, and a tile that waits long enough sleeps. The values with which a FAULTED tile starts anew are the model's choice
(log 100). -/
def Obligations.TilesAreLoadedRunAndSaved : Prop :=
  (∀ (s : State) (first count handle ofs part : Nat), s.live = true → 0 < count → first + count ≤ s.build.tiles →
    handle < 2 ^ 24 → part < 64 → ofs < 2 ^ 64 →
    (∀ j ∈ tileRun first count, s.awake (j / 32) = true) →
    (∀ d, s.imgRegion handle part = some d →
      (s.hashOf (hdDesc handle) ofs = some true ∨ (s.hashOf (hdDesc handle) ofs = none ∧ s.imgFault d ofs = none)) →
      (∀ j ∈ tileRun first count, s.takesLoad j = true) → s.imgValid d ofs = true →
      Completes (.tileLoad first count handle ofs part) s [.rgn, .tl, .att] fun t =>
        (∀ j ∈ tileRun first count, t.tile j =
          { s.loadedTile d handle ofs part with
            cr := { fault := (s.tile j).cr.fault, ftcHi := (s.tile j).cr.ftcHi }
            x := { moved := (s.tile j).x.moved } }) ∧ Alone s t (tileRun first count) ∧
        (∀ i, i < 64 → s.param (0x6810 + i) 2 = first → s.param (0x6810 + i) 3 = count →
          s.param (0x6810 + i) 4 % 2 ^ 24 = handle → s.param (0x6810 + i) 5 = ofs →
          ((mapGet {} s.att.sets i : AttSet).state = 1 ∨ (mapGet {} s.att.sets i : AttSet).state = 4) →
          (mapGet {} t.att.sets i : AttSet).state = 2)) ∧
    ((s.imgRegion handle part = none ∨ s.hashOf (hdDesc handle) ofs = some false ∨
        (∃ j ∈ tileRun first count, s.takesLoad j = false)) →
      Completes (.tileLoad first count handle ofs part) s [.rgn, .evt, .att] fun t => t.tl = s.tl)) ∧
  (∀ (s : State) (k : Nat), s.live = true → k < s.build.tiles →
    (∀ g, s.awake (k / 32) = true → (s.tile k).c.failing = none →
      (((s.tile k).c.start = some g ∧ g.ftc ≤ s.clk.ftc ∧ ((s.tile k).c.state = 2 ∨ (s.tile k).c.state = 4) ∧
          s.setTiles.contains k = false) ∨
        ((s.tile k).c.start = some g ∧ (s.tile k).c.state = 5) ∨
        ((s.tile k).c.start = none ∧ (s.tile k).c.state = 5 ∧ g.late = false ∧
          g.args = (s.tile k).r.getDm 0x2FF00 256 ∧ g.part = (s.tile k).cr.part ∧ g.cls = (s.tile k).cr.cls ∧
          g.setpos = (s.tile k).cr.setpos ∧ g.setsize = (s.tile k).cr.setsize ∧ g.step = (s.tile k).cr.step ∧
          g.sched = (s.tile k).cr.sched)) →
      ∃ t, SameExcept [.tl, .obs, .tally] s t ∧
        exec (.tileStart k) s = .next (if s.clk.now % 8 = 0 then t.issueTiles [k] else t) ∧
        (t.tile k).c =
          { (s.tile k).c with state := 3, start := none, frozen := false, byHand := false, stopped := false } ∧
        (t.tile k).r.pc = (s.tile k).c.entry ∧ (t.tile k).r.getDm 0x2FF00 256 = fitBytes 256 g.args ∧
        (∀ i, (t.tile k).r.getG i = 0 ∧ (t.tile k).r.getL i = 0 ∧ (i ≠ 0 → (t.tile k).r.getM i = 0)) ∧
        (∀ a, (a < 0x2FF00 ∨ 0x30000 ≤ a) → mapGet 0 (t.tile k).r.dm a = mapGet 0 (s.tile k).r.dm a) ∧
        (t.tile k).r.v = (s.tile k).r.v ∧ (t.tile k).r.ac = (s.tile k).r.ac ∧ (t.tile k).r.ctr = (s.tile k).r.ctr ∧
        (t.tile k).cr = { (s.tile k).cr with
          part := g.part, cls := g.cls, prio := s.param (0x5200 + g.cls) 4, level := s.param (0x5200 + g.cls) 3,
          eq := s.param (0x5200 + g.cls) 2, setpos := g.setpos, setsize := g.setsize, step := g.step,
          seed := s.partSeed g.part, sched := g.sched, status := 0, poisonOfs := 0, poisonSet := false } ∧
        (g.late = false → t.tally = s.tally) ∧ Alone s t [k]) ∧
    (∀ g, (s.tile k).c.start = some g → s.awake (k / 32) = true → g.ftc ≤ s.clk.ftc → (s.tile k).c.failing = none →
      ((s.tile k).c.state = 2 ∨ (s.tile k).c.state = 4) → s.setTiles.contains k = true →
      Completes (.tileStart k) s [.tl, .evt] fun t =>
        t.tile k = { s.tile k with c := { (s.tile k).c with start := none } } ∧ t.evt.newest = s.evt.newest + 1 ∧
        Alone s t [k]) ∧
    ((s.tile k).c.start = none → s.awake (k / 32) = true → (s.tile k).c.failing = none → (s.tile k).c.state = 4 →
      (s.tile k).c.stopped = true → (s.tile k).c.byHand = false →
      Completes (.tileStart k) s [.tl] fun t =>
        (t.tile k).c = { (s.tile k).c with state := 3, frozen := false, byHand := false, stopped := false } ∧
        (t.tile k).r = (s.tile k).r ∧ (t.tile k).cr = (s.tile k).cr ∧ Alone s t [k]) ∧
    ((s.tile k).c.state = 3 → (s.tile k).c.failing = none →
      Completes (.tileStop k) s [.tl] fun t =>
        (t.tile k).r = (s.tile k).r ∧
        ((s.tile k).c.xq = [] → (s.tile k).c.xrun = none → (s.tile k).c.fences = [] → (s.tile k).x.mmaWait = none →
          (t.tile k).c = { (s.tile k).c with state := 4, frozen := false, stopped := true }) ∧
        ((s.tile k).c.xq ≠ [] ∨ (s.tile k).c.xrun ≠ none ∨ (s.tile k).c.fences ≠ [] ∨ (s.tile k).x.mmaWait ≠ none →
          (t.tile k).c = { (s.tile k).c with frozen := true }) ∧ Alone s t [k]) ∧
    ((s.tile k).c.state = 4 → mapFind s.tl.saves k = none → (s.tile k).drained = true → (s.tile k).c.failing = none →
      Completes (.tileSave k) s [.tl] fun t =>
        t.tile k =
          { cr := { fault := (s.tile k).cr.fault, ftcHi := (s.tile k).cr.ftcHi },
            c := { state := 6, owner := (s.tile k).c.owner, ctrMask := (s.tile k).c.ctrMask },
            x := { moved := (s.tile k).x.moved } } ∧
        mapFind t.tl.saves k =
          some { r := (s.tile k).r, cr := { (s.tile k).cr with ftcHi := 0 }, c := (s.tile k).c } ∧
        (∀ j, j ≠ k → t.tile j = s.tile j ∧ mapFind t.tl.saves j = mapFind s.tl.saves j)) ∧
    (∀ v, mapFind s.tl.saves k = some v → v.stale = false → (s.tile k).c.state = 6 →
      Completes (.tileRestore k) s [.tl] fun t =>
        (t.tile k).c = { v.c with state := 4 } ∧
        (t.tile k).cr = { v.cr with ftcHi := (s.tile k).cr.ftcHi } ∧ (t.tile k).r.dm = v.r.dm ∧
        (t.tile k).r.g = v.r.g ∧ (t.tile k).r.v = v.r.v ∧ (t.tile k).r.ac = v.r.ac ∧ (t.tile k).r.pc = v.r.pc ∧
        (∀ i, i < 48 → mapGet 0 s.tl.ledger (64 * k + i) ≠ 0 →
          (t.tile k).r.getCtr i = (v.r.getCtr i + mapGet 0 s.tl.ledger (64 * k + i)) % 2 ^ 32) ∧
        (∀ i, i < 48 → mapGet 0 s.tl.ledger (64 * k + i) = 0 → (t.tile k).r.getCtr i = v.r.getCtr i) ∧
        mapFind t.tl.saves k = none ∧ (∀ i, i < 64 → mapGet 0 t.tl.ledger (64 * k + i) = 0) ∧
        (∀ j, j ≠ k → t.tile j = s.tile j)) ∧
    (∀ v, mapFind s.tl.saves k = some v → v.stale = true →
      Completes (.tileRestore k) s
        [.mem, .frm, .rgn, .wsk, .mc, .syn, .sch, .pwr, .evt, .att, .par, .obs, .cls, .tally] fun t =>
        t.tl = s.tl ∧ t.mem.bytes = s.mem.bytes) ∧
    (((mapFind s.tl.saves k).isSome = true ∧ (s.tile k).c.state = 6) ∨
        (mapFind s.tl.saves k = none ∧ (s.tile k).c.state = 5) →
      Completes (.tileDiscard k) s [.tl] fun t =>
        t.tile k =
          { cr := { fault := (s.tile k).cr.fault, ftcHi := (s.tile k).cr.ftcHi },
            x := { moved := (s.tile k).x.moved } } ∧
        mapFind t.tl.saves k = none ∧ (∀ j, j ≠ k → t.tile j = s.tile j)) ∧
    (s.sleepDue k = true →
      Completes (.tileSleep k) s [.tl, .obs, .tally] fun t =>
        t.tile k = { s.tile k with x := { (s.tile k).x with asleep := true } } ∧ Alone s t [k]) ∧
    (∀ d q, (s.tile k).c.xq = d :: q → (s.tile k).c.xrun = none → (s.tile k).xferSeen s.clk.now = true →
      (s.xferOk k d = true →
        ∃ t, SameExcept [.tl] s t ∧
          exec (.transferStart k) s = .next (if (s.tile k).x.blocked = some .xferQueue ∧ q.length < 16 ∧
            mvOp (s.bundleAt k).mv = 12 then t.issueTiles [k] else t) ∧
          t.tile k = { s.tile k with
            c := { (s.tile k).c with xq := q, xrun := some d, xopt := s.optGrant k d } } ∧ Alone s t [k]) ∧
      (s.xferOk k d = false → ((s.tile k).c.state = 3 ∨ (s.tile k).c.state = 4) → (s.tile k).c.failing = none →
        Completes (.transferStart k) s [.tl, .evt, .obs, .tally] fun t =>
          (t.tile k).c.xq = q ∧ (t.tile k).r = (s.tile k).r ∧
          (q = [] → (s.tile k).c.fences = [] → (s.tile k).x.mmaWait = none →
            (t.tile k).c.state = 5 ∧ (t.tile k).cr.fault = (s.tile k).record 7 0 s.clk.ftc ∧
            t.evt.newest = s.evt.newest + 1) ∧
          (q ≠ [] ∨ (s.tile k).c.fences ≠ [] ∨ (s.tile k).x.mmaWait ≠ none →
            (t.tile k).c.state = (s.tile k).c.state ∧
            (t.tile k).c.failing = some ⟨7, (s.tile k).r.pc % 1024, 0⟩ ∧ t.evt = s.evt) ∧ Alone s t [k])) ∧
    (∀ w a b c, (s.tile k).x.mmaWait = some (w, a, b, c) → (s.tile k).x.arrayFree ≤ s.clk.now →
      (s.tile k).c.failing = none →
      Completes (.mmaStart k) s [.tl, .obs, .tally] fun t =>
        (∀ i, i < 16 → (t.tile k).r.getAc (arBank w) i =
          (if arZero w then List.replicate 64 0 else (s.tile k).r.getAc (arBank w) i).mapIdx
            fun j p => mmaOut (s.tile k).r w a b c i j p) ∧
        (t.tile k).r.dm = (s.tile k).r.dm ∧ (t.tile k).x.mmaWait = none ∧
        (t.tile k).x.arrayFree = (s.tile k).x.arrayFree + mmaSpan w (s.duty k) ∧ Alone s t [k]) ∧
    (∀ f r, (s.tile k).c.fences = f :: r → f.left = 0 → (s.tile k).c.frozen = false → (s.tile k).c.failing = none →
      (f.sig = none →
        Completes (.fenceComplete k) s [.tl] fun t =>
          t.tile k = { s.tile k with c := { (s.tile k).c with fences := r, dirty := false } } ∧ Alone s t [k]) ∧
      (∀ g, f.sig = some g → bit g.fn 1 = false → g.halt = false → s.awake (g.ctr / 64 / 32) = true →
        s.sigAccepts g.ctr (s.tile k).cr.part = true → (s.tile (g.ctr / 64)).c.state ≠ 6 →
        Completes (.fenceComplete k) s [.tl, .pwr, .stress, .obs, .arb, .tally] fun t =>
          ((s.dom (g.ctr / 64 / 32)).entering = false → t.pwr = s.pwr ∧ t.stress = s.stress ∧ t.arb = s.arb) ∧
          (t.tile (g.ctr / 64)).r.getCtr (g.ctr % 64) =
            ((s.tile (g.ctr / 64)).r.getCtr (g.ctr % 64) + g.amount) % 2 ^ 32 ∧
          (t.tile k).c = { (s.tile k).c with fences := r, dirty := false } ∧ Alone s t [k, g.ctr / 64]))) ∧
  (∀ (s : State) (k d : Nat) (g : Desc), s.live = true → k < s.build.tiles → (s.tile k).c.xrun = some d →
    (s.tile k).c.frozen = false → (s.tile k).c.failing = none → s.mem.poison = [] → (∀ a, s.lost a = false) →
    g = s.descOf (hdDesc (xdHandle d)) → g.mirror = false →
    (xdKind d = 1 → xdSigAmt d = 0 →
      Completes (.transferComplete k) s [.tl, .obs, .cls, .tally] fun t =>
        (t.tile k).r.getDm (xdDm d) (s.rread g (xdOfs d) (xdLen d)).length = s.rread g (xdOfs d) (xdLen d) ∧
        (t.tile k).c.xrun = none ∧
        (∀ a, (a < xdDm d ∨ xdDm d + (s.rread g (xdOfs d) (xdLen d)).length ≤ a) →
          mapGet 0 (t.tile k).r.dm a = mapGet 0 (s.tile k).r.dm a) ∧ Alone s t [k]) ∧
    (∀ x, xdKind d = 2 → xdSigAmt d = 0 → (s.tile k).c.xopt = some x → s.optGrant k d ≠ some x →
      Completes (.transferComplete k) s [.tl, .obs, .cls, .tally] fun t =>
        (t.tile k).r = (s.tile k).r ∧ (t.tile k).c.xrun = none ∧ Alone s t [k]) ∧
    (xdKind d = 2 → xdSigAmt d = 0 → g.kind ≠ kParam → (s.tile k).c.xopt = none →
      Completes (.transferComplete k) s [.mem, .rgn, .tl, .obs, .cls, .tally] fun t =>
        t.mread (g.bpa0 + xdOfs d) (xdLen d) = (s.tile k).r.getDm (xdDm d) (xdLen d) ∧
        (∀ a, (a < g.bpa0 + xdOfs d ∨ g.bpa0 + xdOfs d + xdLen d ≤ a) → t.mbyte a = s.mbyte a) ∧
        (t.tile k).r = (s.tile k).r ∧ (t.tile k).c.xrun = none ∧ Alone s t [k]) ∧
    (xdKind d = 3 → xdSigAmt d = 0 →
      Completes (.transferComplete k) s [.tl, .obs, .cls, .tally] fun t =>
        (t.tile (xdRtile d)).r.getDm (xdRdm d) (xdLen d) = (s.tile k).r.getDm (xdDm d) (xdLen d) ∧
        (t.tile k).c.xrun = none ∧ Alone s t [k, xdRtile d]) ∧
    (xdKind d = 4 → xdSigAmt d = 0 →
      Completes (.transferComplete k) s [.tl, .obs, .cls, .tally] fun t =>
        (∀ j ∈ xferTargets k d, (t.tile j).r.getDm (xdRdm d) (s.rread g (xdOfs d) (xdLen d)).length =
          s.rread g (xdOfs d) (xdLen d)) ∧ (t.tile k).c.xrun = none ∧ Alone s t (k :: xferTargets k d)) ∧
    (xdKind d = 3 → xdSigAmt d ≠ 0 → s.awake (xdSigCtr d / 64 / 32) = true →
      s.sigAccepts (xdSigCtr d) (s.tile k).cr.part = true → (s.tile (xdSigCtr d / 64)).c.state ≠ 6 →
      Completes (.transferComplete k) s [.tl, .pwr, .stress, .obs, .cls, .arb, .tally] fun t =>
        ((s.dom (xdSigCtr d / 64 / 32)).entering = false → t.pwr = s.pwr ∧ t.stress = s.stress ∧ t.arb = s.arb) ∧
        (t.tile (xdSigCtr d / 64)).r.getCtr (xdSigCtr d % 64) =
          ((s.tile (xdSigCtr d / 64)).r.getCtr (xdSigCtr d % 64) + xdSigAmt d) % 2 ^ 32)) ∧
  (∀ (s : State) (k d p : Nat) (g : Desc), s.live = true → k < s.build.tiles → (s.tile k).c.xrun = some d →
    (s.tile k).c.frozen = false → (s.tile k).c.failing = none → (∀ a, s.lost a = false) →
    g = s.descOf (hdDesc (xdHandle d)) → g.mirror = false → g.kind ≠ kParam → xdKind d = 1 → xdSigAmt d = 0 →
    0 < xdLen d → s.poisonIn (g.bpa0 + xdOfs d) (xdLen d) = some p →
    ((∀ x ∈ s.mem.fails, x.req ≠ 2 ^ 20 + k) →
      Completes (.transferComplete k) s [.mem, .tl, .obs, .cls, .tally] fun t =>
        bit (t.tile k).cr.status 0 = true ∧ bit (t.tile k).cr.status 1 = bit (s.tile k).cr.status 1 ∧
        ((s.tile k).cr.poisonSet = false →
          (t.tile k).cr.poisonOfs = (xdOfs d / 64 * 64 + 64 * (p - (g.bpa0 + xdOfs d) / 64)) % 2 ^ 32) ∧
        ((s.tile k).cr.poisonSet = true → (t.tile k).cr.poisonOfs = (s.tile k).cr.poisonOfs)) ∧
    ((∀ q, s.poisoned q = true → ∃ x ∈ s.mem.fails, x.req = 2 ^ 20 + k ∧ x.gran = q) →
      Completes (.transferComplete k) s [.mem, .tl, .obs, .cls, .tally] fun t =>
        bit (t.tile k).cr.status 1 = true ∧ bit (t.tile k).cr.status 0 = bit (s.tile k).cr.status 0))

/-! ### The machine as a whole -/

/-- The queue is first in, first out: a step takes the command at its front and is that command's effect on the state
with the queue's rest. What a step does on an empty queue is the model's own choice (log 1): one RCLK position passes.
While no start is under way the clock and the FTC go on by it (09 R265; 01 R19); while in addition the switched
domains do not run, nothing else changes. -/
def Obligations.StepsTakeTheFrontCommand : Prop :=
  (∀ (s : State) (c : Instr) (r : List Instr), s.pending = c :: r → step s = exec c { s with pending := r }) ∧
    ∀ s : State, s.pending = [] →
      (∃ t, step s = .next t ∧ t.pending = [] ∧ t.build = s.build) ∧
      (s.ldl.stage = 6 → s.pin.start = none →
        ∃ t, step s = .next t ∧ t.clk.now = s.clk.now + 1 ∧ t.clk.locked = s.clk.locked ∧
          (s.clk.locked = true →
            t.clk.ftc = if (s.clk.now + 1) % 8 = 0 then (s.clk.ftc + 1) % 2 ^ 64 else s.clk.ftc % 2 ^ 64) ∧
          (s.clk.locked = false →
            t.clk.ftc = if (s.clk.now + 1) % 96 = 0 then (s.clk.ftc + 12) % 2 ^ 64 else s.clk.ftc % 2 ^ 64) ∧
          (s.live = false → SameExcept [.clk] s t))

/-- A command is refused exactly where it is ill formed in the build: it names a unit that is absent, or carries an
operand that no wire of its width could. Every other command answers a next state, which keeps the build and the
queue; the one exception is a granule request outside the visible space (01 R21), which faults. -/
def Obligations.OnlyIllFormedCommandsStop : Prop :=
  ∀ (i : Instr) (s : State),
    (i.wellFormed s.build = false → exec i s = .refused .illFormed) ∧
    (i.wellFormed s.build = true →
      (∃ t, exec i s = .next t ∧ t.build = s.build ∧ t.pending = s.pending) ∨
      ∃ stack write bpa mask data src unit tag, i = .granuleRequestAccept stack write bpa mask data src unit tag ∧
        s.inSpace bpa 64 = false ∧ exec i s = .fault (.outsideMemory bpa))

/-- What every step keeps, from every state that has it: the canonical form of the stacked memory, and the event log
of 15 R449: at most 4,096 records, positions that rise by 1 per record up to the newest, none beyond it notified. -/
def Obligations.StepsKeepTheInvariant : Prop :=
  ∀ s t : State, Inv s → step s = .next t → Inv t

/-- The block right after reset: the invariant holds; it has the values that 18 R495, 15 R449, 15 R451 and 14 R412 give:
every granule reads zero, every summary slot is FREE, every done-table entry is zero, no region exists and FREE_UNITS
holds the flagship's allocatable space (16 R461), the event log is empty, every domain is at P0 with epoch 0. That reset
stands where a cold start has reached stage 0x06 is the model's own choice (log 2). -/
def Obligations.ResetLeavesTheBlockEmpty : Prop :=
  Inv State.reset ∧ (∀ a, State.reset.mbyte a = 0) ∧ (∀ g, State.reset.poisoned g = false) ∧
    (∀ r i, i < 64 → (State.reset.summary r).slots[i]? = some 0) ∧ (∀ r i, State.reset.doneEntry r i = {}) ∧
    (∀ d, (State.reset.descOf d).state = 0) ∧ State.reset.freeUnits = 243456 ∧ State.reset.evt = {} ∧
    (∀ d, (State.reset.dom d).state = 0 ∧ (State.reset.dom d).epoch = 0) ∧ State.reset.ldl.stage = 6 ∧
    State.reset.pending = [] ∧ State.reset.live = true
end

