-- ==== Sys2Proof/Laws/Map.lean ====
section
/-! SUPPORT. What each map operation does to one entry, and that each keeps the canonical form. -/

namespace Sys2Proof.Machine

variable {α : Type}

@[simp] theorem mapFind_nil (k : Nat) : mapFind ([] : Map α) k = none := rfl

theorem mapFind_cons (j : Nat) (v : α) (r : Map α) (k : Nat) :
    mapFind ((j, v) :: r) k = if j = k then some v else mapFind r k := rfl

@[simp] theorem mapGet_nil (d : α) (k : Nat) : mapGet d [] k = d := rfl

/-- Every key of the map is greater than `k`. -/
def mapAbove (k : Nat) (m : Map α) : Bool := m.all fun p => decide (k < p.1)

theorem mapSorted_cons (k : Nat) (v : α) (r : Map α) :
    mapSorted ((k, v) :: r) = true ↔ mapAbove k r = true ∧ mapSorted r = true := by
  induction r generalizing k v with
  | nil => simp [mapSorted, mapAbove]
  | cons p r ih =>
    obtain ⟨j, w⟩ := p
    have h := ih j w
    simp only [mapSorted, Bool.and_eq_true, decide_eq_true_eq] at *
    simp only [mapAbove, List.all_cons, Bool.and_eq_true, decide_eq_true_eq, List.all_eq_true] at *
    constructor
    · rintro ⟨hk, hr⟩
      exact ⟨⟨hk, fun x hx => Nat.lt_trans hk ((h.1 hr).1 x hx)⟩, hr⟩
    · rintro ⟨⟨hk, _⟩, hr⟩
      exact ⟨hk, hr⟩

theorem mapFind_above {k : Nat} {m : Map α} (h : mapAbove k m = true) {i : Nat} (hi : i ≤ k) : mapFind m i = none := by
  induction m with
  | nil => rfl
  | cons p r ih =>
    obtain ⟨j, w⟩ := p
    simp only [mapAbove, List.all_cons, Bool.and_eq_true, decide_eq_true_eq] at h
    rw [mapFind_cons, if_neg (by omega)]
    exact ih h.2

/-! ### One entry after a write -/

@[simp] theorem mapFind_mapPut_self (m : Map α) (k : Nat) (v : α) : mapFind (mapPut m k v) k = some v := by
  induction m with
  | nil => simp [mapPut, mapFind]
  | cons p r ih =>
    obtain ⟨j, w⟩ := p
    unfold mapPut
    split
    · simp [mapFind]
    · split
      · simp [mapFind]
      · rw [mapFind_cons, if_neg (by assumption), ih]

theorem mapFind_mapPut_ne (m : Map α) {k i : Nat} (v : α) (h : i ≠ k) : mapFind (mapPut m k v) i = mapFind m i := by
  induction m with
  | nil => simp [mapPut, mapFind, Ne.symm h]
  | cons p r ih =>
    obtain ⟨j, w⟩ := p
    unfold mapPut
    split
    · simp [mapFind, Ne.symm h]
    · split
      · subst j; simp [mapFind, Ne.symm h]
      · rw [mapFind_cons, mapFind_cons, ih]

@[simp] theorem mapFind_mapDel_self (m : Map α) (k : Nat) : mapFind (mapDel m k) k = none := by
  induction m with
  | nil => rfl
  | cons p r ih =>
    obtain ⟨j, w⟩ := p
    by_cases h : j = k
    · subst j; simpa [mapDel] using ih
    · have e : mapDel ((j, w) :: r) k = (j, w) :: mapDel r k := by simp [mapDel, h]
      rw [e, mapFind_cons, if_neg h, ih]

theorem mapFind_mapDel_ne (m : Map α) {k i : Nat} (h : i ≠ k) : mapFind (mapDel m k) i = mapFind m i := by
  induction m with
  | nil => rfl
  | cons p r ih =>
    obtain ⟨j, w⟩ := p
    by_cases hj : j = k
    · subst j
      rw [mapFind_cons, if_neg (Ne.symm h)]
      simpa [mapDel] using ih
    · have e : mapDel ((j, w) :: r) k = (j, w) :: mapDel r k := by simp [mapDel, hj]
      rw [e, mapFind_cons, mapFind_cons, ih]

@[simp] theorem mapGet_mapPut_self (d : α) (m : Map α) (k : Nat) (v : α) : mapGet d (mapPut m k v) k = v := by
  simp [mapGet]

theorem mapGet_mapPut_ne (d : α) (m : Map α) {k i : Nat} (v : α) (h : i ≠ k) :
    mapGet d (mapPut m k v) i = mapGet d m i := by
  simp [mapGet, mapFind_mapPut_ne m v h]

@[simp] theorem mapGet_mapSet_self [DecidableEq α] (d : α) (m : Map α) (k : Nat) (v : α) :
    mapGet d (mapSet d m k v) k = v := by
  unfold mapSet
  split
  · subst v; simp [mapGet]
  · simp

theorem mapGet_mapSet_ne [DecidableEq α] (d : α) (m : Map α) {k i : Nat} (v : α) (h : i ≠ k) :
    mapGet d (mapSet d m k v) i = mapGet d m i := by
  unfold mapSet
  split
  · simp [mapGet, mapFind_mapDel_ne m h]
  · exact mapGet_mapPut_ne d m v h

theorem mapGet_mapSet [DecidableEq α] (d : α) (m : Map α) (k i : Nat) (v : α) :
    mapGet d (mapSet d m k v) i = if i = k then v else mapGet d m i := by
  split
  · subst i; simp
  · exact mapGet_mapSet_ne d m v (by assumption)

/-- Reading one entry after a run of entries was written. -/
theorem mapGet_mapPutList [DecidableEq α] (d : α) (m : Map α) (k i : Nat) (l : List α) :
    mapGet d (mapPutList d m k l) i = if k ≤ i ∧ i < k + l.length then l.getD (i - k) d else mapGet d m i := by
  induction l generalizing m k with
  | nil =>
    rw [mapPutList, if_neg]
    simp only [List.length_nil]
    omega
  | cons v r ih =>
    rw [mapPutList, ih, mapGet_mapSet]
    by_cases h : k + 1 ≤ i ∧ i < k + 1 + r.length
    · rw [if_pos h, if_pos ⟨by omega, by simp; omega⟩]
      have : i - k = (i - (k + 1)) + 1 := by omega
      rw [this, List.getD_cons_succ]
    · rw [if_neg h]
      by_cases e : i = k
      · subst i; simp
      · rw [if_neg e, if_neg (by simp; omega)]

theorem mapFind_filter_key (m : Map α) (p : Nat → Bool) (i : Nat) :
    mapFind (m.filter fun x => p x.1) i = if p i then mapFind m i else none := by
  induction m with
  | nil => simp
  | cons x r ih =>
    obtain ⟨j, w⟩ := x
    by_cases hp : p j
    · have e : ((j, w) :: r).filter (fun x => p x.1) = (j, w) :: r.filter (fun x => p x.1) := by simp [hp]
      rw [e, mapFind_cons, mapFind_cons, ih]
      by_cases h : j = i
      · subst j; simp [hp]
      · simp [h]
    · have e : ((j, w) :: r).filter (fun x => p x.1) = r.filter (fun x => p x.1) := by simp [hp]
      rw [e, ih, mapFind_cons]
      by_cases h : j = i
      · subst j; simp [hp]
      · simp [h]

/-- Reading one entry after a range of keys was cleared. -/
theorem mapGet_mapClear (d : α) (m : Map α) (k n i : Nat) :
    mapGet d (mapClear m k n) i = if k ≤ i ∧ i < k + n then d else mapGet d m i := by
  have e : mapClear m k n = m.filter fun x => decide (x.1 < k ∨ k + n ≤ x.1) := by simp [mapClear]
  unfold mapGet
  rw [e, mapFind_filter_key m (fun j => decide (j < k ∨ k + n ≤ j))]
  by_cases h : k ≤ i ∧ i < k + n
  · rw [if_neg (by simp; omega), if_pos h]; rfl
  · rw [if_pos (by simp; omega), if_neg h]

/-! ### The canonical form -/

theorem mapAbove_mapPut {j k : Nat} {m : Map α} (v : α) (h : mapAbove j m = true) (hj : j < k) :
    mapAbove j (mapPut m k v) = true := by
  induction m with
  | nil => simp [mapPut, mapAbove, hj]
  | cons p r ih =>
    obtain ⟨i, w⟩ := p
    simp only [mapAbove, List.all_cons, Bool.and_eq_true, decide_eq_true_eq] at h
    unfold mapPut
    split
    · simp only [mapAbove, List.all_cons, Bool.and_eq_true, decide_eq_true_eq]; exact ⟨hj, h.1, h.2⟩
    · split
      · simp only [mapAbove, List.all_cons, Bool.and_eq_true, decide_eq_true_eq]; exact ⟨hj, h.2⟩
      · simp only [mapAbove, List.all_cons, Bool.and_eq_true, decide_eq_true_eq]; exact ⟨h.1, ih h.2⟩

theorem mapSorted_mapPut {m : Map α} (k : Nat) (v : α) (h : mapSorted m = true) : mapSorted (mapPut m k v) = true := by
  induction m with
  | nil => simp [mapPut, mapSorted]
  | cons p r ih =>
    obtain ⟨j, w⟩ := p
    rw [mapSorted_cons] at h
    unfold mapPut
    split
    · rw [mapSorted_cons, mapSorted_cons]
      refine ⟨?_, h⟩
      simp only [mapAbove, List.all_cons, Bool.and_eq_true, decide_eq_true_eq, List.all_eq_true] at *
      exact ⟨by assumption, fun x hx => Nat.lt_trans (by assumption) (h.1 x hx)⟩
    · split
      · subst j; rw [mapSorted_cons]; exact h
      · rw [mapSorted_cons]; exact ⟨mapAbove_mapPut v h.1 (by omega), ih h.2⟩

theorem mapAbove_filter {k : Nat} {m : Map α} (p : Nat × α → Bool) (h : mapAbove k m = true) :
    mapAbove k (m.filter p) = true := by
  simp only [mapAbove, List.all_eq_true] at *
  exact fun x hx => h x ((List.mem_filter.mp hx).1)

theorem mapSorted_filter {m : Map α} (p : Nat × α → Bool) (h : mapSorted m = true) : mapSorted (m.filter p) = true := by
  induction m with
  | nil => rfl
  | cons x r ih =>
    obtain ⟨j, w⟩ := x
    rw [mapSorted_cons] at h
    by_cases hp : p (j, w) = true
    · rw [List.filter_cons_of_pos hp, mapSorted_cons]; exact ⟨mapAbove_filter p h.1, ih h.2⟩
    · rw [List.filter_cons_of_neg hp]; exact ih h.2

theorem mapPut_all {m : Map α} {q : Nat × α → Bool} (k : Nat) (v : α) (h : m.all q = true) (hv : q (k, v) = true) :
    (mapPut m k v).all q = true := by
  induction m with
  | nil => simp [mapPut, hv]
  | cons p r ih =>
    obtain ⟨j, w⟩ := p
    simp only [List.all_cons, Bool.and_eq_true] at h
    unfold mapPut
    split
    · simp only [List.all_cons, Bool.and_eq_true]; exact ⟨hv, h⟩
    · split
      · simp only [List.all_cons, Bool.and_eq_true]; exact ⟨hv, h.2⟩
      · simp only [List.all_cons, Bool.and_eq_true]; exact ⟨h.1, ih h.2⟩

theorem mapWf_mapPut [DecidableEq α] {d : α} {m : Map α} (k : Nat) {v : α} (h : mapWf d m = true) (hv : v ≠ d) :
    mapWf d (mapPut m k v) = true := by
  simp only [mapWf, Bool.and_eq_true] at *
  exact ⟨mapSorted_mapPut k v h.1, mapPut_all k v h.2 (by simpa using hv)⟩

theorem mapWf_filter [DecidableEq α] {d : α} {m : Map α} (p : Nat × α → Bool) (h : mapWf d m = true) :
    mapWf d (m.filter p) = true := by
  simp only [mapWf, Bool.and_eq_true, List.all_eq_true] at *
  exact ⟨mapSorted_filter p h.1, fun x hx => h.2 x ((List.mem_filter.mp hx).1)⟩

theorem mapWf_mapSet [DecidableEq α] {d : α} {m : Map α} (k : Nat) (v : α) (h : mapWf d m = true) :
    mapWf d (mapSet d m k v) = true := by
  unfold mapSet
  split
  · exact mapWf_filter _ h
  · exact mapWf_mapPut k h (by assumption)

theorem mapWf_mapPutList [DecidableEq α] {d : α} {m : Map α} (k : Nat) (l : List α) (h : mapWf d m = true) :
    mapWf d (mapPutList d m k l) = true := by
  induction l generalizing m k with
  | nil => exact h
  | cons v r ih => exact ih (k + 1) (mapWf_mapSet k v h)

theorem mapWf_mapClear [DecidableEq α] {d : α} {m : Map α} (k n : Nat) (h : mapWf d m = true) :
    mapWf d (mapClear m k n) = true := mapWf_filter _ h

end Sys2Proof.Machine
end

