-- ==== Sys2Proof/Laws/Frame.lean ====
section
/-! SUPPORT. How frames compose: what a chain of updates leaves unchanged. -/

namespace Sys2Proof

open Sys2Proof.Machine

theorem Group.same_refl (g : Group) (s : State) : g.same s s := by cases g <;> rfl

theorem Group.same_trans {g : Group} {s t u : State} (h : g.same s t) (k : g.same t u) : g.same s u := by
  cases g <;> simp only [Group.same] at * <;> rw [k, h]

theorem SameExcept.refl (l : List Group) (s : State) : SameExcept l s s := ⟨fun g _ => g.same_refl s⟩

/-- One more update at the end of a chain. -/
theorem SameExcept.step {l m : List Group} {s t u : State} (h : SameExcept m t u) (c : m.all l.contains = true)
    (k : SameExcept l s t) : SameExcept l s u := by
  refine ⟨fun g hg => Group.same_trans (k.same g hg) (h.same g ?_)⟩
  rw [List.all_eq_true] at c
  cases hm : m.contains g with
  | false => rfl
  | true =>
    have := c g (by simpa using hm)
    rw [hg] at this
    cases this

theorem SameExcept.mono {l m : List Group} {s t : State} (h : SameExcept m s t) (c : m.all l.contains = true) :
    SameExcept l s t := h.step c (SameExcept.refl l s)

theorem SameExcept.trans {l : List Group} {s t u : State} (h : SameExcept l s t) (k : SameExcept l t u) :
    SameExcept l s u := ⟨fun g hg => Group.same_trans (h.same g hg) (k.same g hg)⟩

/-- An update that may not happen. -/
theorem SameExcept.stepOpt {l m : List Group} {s t u : State} {o : Option State} (h : SameExcept m t (o.getD t))
    (e : o = some u) (c : m.all l.contains = true) (k : SameExcept l s t) : SameExcept l s u := by
  rw [e] at h
  exact SameExcept.step h c k

/-- An update that also answers something. -/
theorem SameExcept.stepPair {α : Type} {l m : List Group} {s t u : State} {p : State × α} {a : α}
    (h : SameExcept m t p.1) (e : p = (u, a)) (c : m.all l.contains = true) (k : SameExcept l s t) :
    SameExcept l s u := by
  rw [e] at h
  exact SameExcept.step h c k

theorem SameExcept.foldl {α : Type} {l : List Group} {s t : State} {f : State → α → State} {xs : List α}
    (h : ∀ u x, SameExcept l u (f u x)) (k : SameExcept l s t) : SameExcept l s (xs.foldl f t) := by
  induction xs generalizing t with
  | nil => exact k
  | cons x xs ih => exact ih (k.trans (h t x))

theorem SameExcept.foldlPair {α β : Type} {l : List Group} {s : State} {p : State × β} {f : State × β → α → State × β}
    {xs : List α} (h : ∀ u x, SameExcept l u.1 (f u x).1) (k : SameExcept l s p.1) :
    SameExcept l s (xs.foldl f p).1 := by
  induction xs generalizing p with
  | nil => exact k
  | cons x xs ih => exact ih (k.trans (h p x))

/-- The state after an outcome: the next state, or the state before where the command stops. -/
def nextState (o : Host.Outcome State Fault Refusal) (s : State) : State :=
  match o with
  | .next t => t
  | .fault _ => s
  | .refused _ => s

@[simp] theorem nextState_next (t s : State) : nextState (.next t) s = t := rfl
@[simp] theorem nextState_fault (r : Fault) (s : State) : nextState (.fault r) s = s := rfl
@[simp] theorem nextState_refused (r : Refusal) (s : State) : nextState (.refused r) s = s := rfl

/-! ### The invariant of the memory's form and the event log along a chain of updates -/

/-- An update keeps the canonical form of memory and a sound event log. -/
structure Keeps (s t : State) : Prop where
  keep : Memory.wf s = true → Memory.wf t = true
  log : s.evt.Sound → t.evt.Sound

theorem Keeps.refl (s : State) : Keeps s s := ⟨id, id⟩

theorem Keeps.step {s t u : State} (h : Keeps t u) (k : Keeps s t) : Keeps s u :=
  ⟨fun x => h.keep (k.keep x), fun x => h.log (k.log x)⟩

/-- An update that leaves memory and the event log unchanged keeps their form. -/
theorem Keeps.frame {l : List Group} {s t u : State} (h : SameExcept l t u)
    (c : (l.contains .mem || l.contains .evt) = false) (k : Keeps s t) : Keeps s u := by
  rw [Bool.or_eq_false_iff] at c
  have e : u.mem = t.mem := h.same .mem c.1
  have e' : u.evt = t.evt := h.same .evt c.2
  refine ⟨fun x => ?_, fun x => ?_⟩
  · unfold Memory.wf at *
    rw [e]
    exact k.keep x
  · rw [e']
    exact k.log x

theorem Keeps.modMem {s : State} {f : Mem → Mem} (hb : ∀ m, mapWf 0 m.bytes = true → mapWf 0 (f m).bytes = true)
    (hp : ∀ m, mapWf 0 m.poison = true → mapWf 0 (f m).poison = true) : Keeps s (s.modMem f) := by
  refine ⟨fun x => ?_, id⟩
  unfold Memory.wf at *
  simp only [Bool.and_eq_true] at *
  exact ⟨hb _ x.1, hp _ x.2⟩

theorem Keeps.modEvt {s : State} {f : Evt → Evt} (h : s.evt.Sound → (f s.evt).Sound) : Keeps s (s.modEvt f) :=
  ⟨id, h⟩

theorem Machine.Evt.Sound.empty : ({} : Evt).Sound := ⟨by decide, by decide, rfl, by decide⟩

/-- Positions stay consecutive when the next is appended. -/
theorem positions_push {l : List Nat} {n : Nat} (h : l.length ≤ n)
    (p : l = (List.range l.length).map fun i => n - l.length + 1 + i) :
    l ++ [n + 1] = (List.range (l.length + 1)).map fun i => n + 1 - (l.length + 1) + 1 + i := by
  rw [List.range_succ, List.map_append]
  have e : n + 1 - (l.length + 1) = n - l.length := by omega
  rw [e, ← p]
  simp only [List.map_cons, List.map_nil, List.cons.injEq, and_true, List.append_cancel_left_eq]
  omega

/-- Positions stay consecutive when the oldest is dropped. -/
theorem positions_drop {l : List Nat} {n o : Nat} (h : l.length + 1 ≤ n)
    (p : o :: l = (List.range (l.length + 1)).map fun i => n - (l.length + 1) + 1 + i) :
    l = (List.range l.length).map fun i => n - l.length + 1 + i := by
  apply List.ext_getElem
  · simp
  · intro i hi _
    have q : (o :: l)[i + 1]'(by simpa using hi) = n - (l.length + 1) + 1 + (i + 1) := by
      rw [List.getElem_of_eq p]
      simp
    simp only [List.getElem_cons_succ] at q
    simp only [List.getElem_map, List.getElem_range]
    omega

/-- Marking records and moving the notified position up to one of them keeps the log sound. -/
theorem Machine.Evt.Sound.notify {e : Evt} {p : EvRec → Bool} {rs : List EvRec} (h : e.Sound)
    (sub : ∀ r ∈ rs, r ∈ e.ring) :
    ({ e with
       ring := e.ring.map fun r => if p r then { r with inband := true } else r,
       notified := max e.notified ((rs.map fun r => r.pos).foldl max 0) } : Evt).Sound := by
  have hpos : ∀ r ∈ e.ring, r.pos ≤ e.newest := by
    intro r hr
    have hm : r.pos ∈ e.ring.map fun r => r.pos := List.mem_map_of_mem hr
    rw [h.positions] at hm
    obtain ⟨i, hi, he⟩ := List.mem_map.mp hm
    have := List.mem_range.mp hi
    have := h.fits
    omega
  have hmax : ∀ (l : List EvRec) (m : Nat), m ≤ e.newest → (∀ r ∈ l, r.pos ≤ e.newest) →
      (l.map fun r => r.pos).foldl max m ≤ e.newest := by
    intro l
    induction l with
    | nil => intro m hm _; exact hm
    | cons r l ih =>
      intro m hm hl
      exact ih _ (Nat.max_le.mpr ⟨hm, hl r (List.mem_cons_self ..)⟩) fun x hx => hl x (List.mem_cons_of_mem _ hx)
  refine ⟨by simpa using h.bound, by simpa using h.fits, ?_, ?_⟩
  · have e1 : (e.ring.map fun r => if p r then { r with inband := true } else r).map (fun r => r.pos) =
        e.ring.map fun r => r.pos := by
      rw [List.map_map]
      apply List.map_congr_left
      intro r _
      simp only [Function.comp]
      split <;> rfl
    simp only [List.length_map]
    rw [e1]
    exact h.positions
  · exact Nat.max_le.mpr ⟨h.notified, hmax rs 0 (Nat.zero_le _) fun r hr => hpos r (sub r hr)⟩

/-- A new record takes the next position; a full ring gives up its oldest (15 R449). -/
theorem Machine.State.raise_keeps (s : State) (src) (code) (data) : Keeps s (State.raise s src code data) := by
  unfold State.raise
  refine Keeps.modEvt fun h => ?_
  obtain ⟨hb, hf, hp, hn⟩ := h
  generalize s.evt = e at *
  obtain ⟨ring, newest, ack, overrun, notified, stamp, counts⟩ := e
  dsimp only at *
  cases ring with
  | nil =>
    have p : ([] : List Nat) ++ [newest + 1] = _ := positions_push (l := []) (n := newest) (Nat.zero_le _) rfl
    exact ⟨by simp, by simp, by simpa using p, by simp; omega⟩
  | cons o r =>
    simp only [List.length_cons, List.map_cons] at *
    have ho : o.pos :: r.map (fun x => x.pos) = _ := hp
    by_cases full : 4096 ≤ r.length + 1
    · have p := positions_drop (l := r.map fun x => x.pos) (n := newest) (o := o.pos) (by simpa using hf)
        (by simpa using hp)
      have q := positions_push (l := r.map fun x => x.pos) (n := newest) (by simp; omega) p
      cases r with
      | nil => simp at full
      | cons x r =>
        simp only [List.length_cons, List.length_map, List.map_cons, List.cons_append] at *
        constructor <;> simp only [full, decide_true, if_true, List.drop_succ_cons, List.drop_zero, List.cons_append,
          List.length_cons, List.length_append, List.length_nil, List.map_cons, List.map_append, List.map_nil] <;> first | exact q | omega
    · have q := positions_push (l := o.pos :: r.map fun x => x.pos) (n := newest) (by simpa using hf) (by simpa using hp)
      simp only [List.length_cons, List.length_map, List.cons_append] at q
      constructor <;> simp only [full, decide_false, Bool.false_eq_true, if_false, List.cons_append,
        List.length_cons, List.length_append, List.length_nil, List.map_cons, List.map_append, List.map_nil] <;>
        first | exact q | omega

theorem Keeps.stepOpt {s t u : State} {o : Option State} (h : Keeps t (o.getD t)) (e : o = some u)
    (k : Keeps s t) : Keeps s u := by
  rw [e] at h
  exact Keeps.step h k

theorem Keeps.stepPair {α : Type} {s t u : State} {p : State × α} {a : α} (h : Keeps t p.1) (e : p = (u, a))
    (k : Keeps s t) : Keeps s u := by
  rw [e] at h
  exact Keeps.step h k

theorem Keeps.foldl {α : Type} {s t : State} {f : State → α → State} {xs : List α}
    (h : ∀ u x, Keeps u (f u x)) (k : Keeps s t) : Keeps s (xs.foldl f t) := by
  induction xs generalizing t with
  | nil => exact k
  | cons x xs ih => exact ih ((h t x).step k)

theorem Keeps.foldlPair {α β : Type} {s : State} {p : State × β} {f : State × β → α → State × β} {xs : List α}
    (h : ∀ u x, Keeps u.1 (f u x).1) (k : Keeps s p.1) : Keeps s (xs.foldl f p).1 := by
  induction xs generalizing p with
  | nil => exact k
  | cons x xs ih => exact ih ((h p x).step k)

end Sys2Proof
end

