-- ==== Sys2Proof/Laws/FrameBase.lean ====
section
/-! SUPPORT. Frames: the groups of the state that each operation may change, one lemma per operation (Update, Ops,
Tile, Frame, Digest, Layout, WhiskBase, Response, Classes, Arbiter, Count, Sync, Mark, Fabric, Bundle, Issue, Regions,
Image, Whisk). -/

namespace Sys2Proof.Machine

theorem State.modMem_frame (s : State) (f) : SameExcept [.mem] s (State.modMem s f) := by
  refine ⟨fun g hg => ?_⟩; cases g <;> first | rfl | cases hg

theorem State.modDict_frame (s : State) (f) : SameExcept [.dict] s (State.modDict s f) := by
  refine ⟨fun g hg => ?_⟩; cases g <;> first | rfl | cases hg

theorem State.modFrm_frame (s : State) (f) : SameExcept [.frm] s (State.modFrm s f) := by
  refine ⟨fun g hg => ?_⟩; cases g <;> first | rfl | cases hg

theorem State.modRgn_frame (s : State) (f) : SameExcept [.rgn] s (State.modRgn s f) := by
  refine ⟨fun g hg => ?_⟩; cases g <;> first | rfl | cases hg

theorem State.modWsk_frame (s : State) (f) : SameExcept [.wsk] s (State.modWsk s f) := by
  refine ⟨fun g hg => ?_⟩; cases g <;> first | rfl | cases hg

theorem State.modMc_frame (s : State) (f) : SameExcept [.mc] s (State.modMc s f) := by
  refine ⟨fun g hg => ?_⟩; cases g <;> first | rfl | cases hg

theorem State.modTl_frame (s : State) (f) : SameExcept [.tl] s (State.modTl s f) := by
  refine ⟨fun g hg => ?_⟩; cases g <;> first | rfl | cases hg

theorem State.modSyn_frame (s : State) (f) : SameExcept [.syn] s (State.modSyn s f) := by
  refine ⟨fun g hg => ?_⟩; cases g <;> first | rfl | cases hg

theorem State.modSch_frame (s : State) (f) : SameExcept [.sch] s (State.modSch s f) := by
  refine ⟨fun g hg => ?_⟩; cases g <;> first | rfl | cases hg

theorem State.modLdl_frame (s : State) (f) : SameExcept [.ldl] s (State.modLdl s f) := by
  refine ⟨fun g hg => ?_⟩; cases g <;> first | rfl | cases hg

theorem State.modPer_frame (s : State) (f) : SameExcept [.per] s (State.modPer s f) := by
  refine ⟨fun g hg => ?_⟩; cases g <;> first | rfl | cases hg

theorem State.modPwr_frame (s : State) (f) : SameExcept [.pwr] s (State.modPwr s f) := by
  refine ⟨fun g hg => ?_⟩; cases g <;> first | rfl | cases hg

theorem State.modStress_frame (s : State) (f) : SameExcept [.stress] s (State.modStress s f) := by
  refine ⟨fun g hg => ?_⟩; cases g <;> first | rfl | cases hg

theorem State.modEvt_frame (s : State) (f) : SameExcept [.evt] s (State.modEvt s f) := by
  refine ⟨fun g hg => ?_⟩; cases g <;> first | rfl | cases hg

theorem State.modAtt_frame (s : State) (f) : SameExcept [.att] s (State.modAtt s f) := by
  refine ⟨fun g hg => ?_⟩; cases g <;> first | rfl | cases hg

theorem State.modPar_frame (s : State) (f) : SameExcept [.par] s (State.modPar s f) := by
  refine ⟨fun g hg => ?_⟩; cases g <;> first | rfl | cases hg

theorem State.modObs_frame (s : State) (f) : SameExcept [.obs] s (State.modObs s f) := by
  refine ⟨fun g hg => ?_⟩; cases g <;> first | rfl | cases hg

theorem State.modCls_frame (s : State) (f) : SameExcept [.cls] s (State.modCls s f) := by
  refine ⟨fun g hg => ?_⟩; cases g <;> first | rfl | cases hg

theorem State.modStk_frame (s : State) (f) : SameExcept [.stk] s (State.modStk s f) := by
  refine ⟨fun g hg => ?_⟩; cases g <;> first | rfl | cases hg

theorem State.modPin_frame (s : State) (f) : SameExcept [.pin] s (State.modPin s f) := by
  refine ⟨fun g hg => ?_⟩; cases g <;> first | rfl | cases hg

theorem State.modArb_frame (s : State) (f) : SameExcept [.arb] s (State.modArb s f) := by
  refine ⟨fun g hg => ?_⟩; cases g <;> first | rfl | cases hg

theorem State.modTally_frame (s : State) (f) : SameExcept [.tally] s (State.modTally s f) := by
  refine ⟨fun g hg => ?_⟩; cases g <;> first | rfl | cases hg

theorem State.modMgtRsp_frame (s : State) (f) : SameExcept [.mgtRsp] s (State.modMgtRsp s f) := by
  refine ⟨fun g hg => ?_⟩; cases g <;> first | rfl | cases hg

theorem State.modFree_frame (s : State) (f) : SameExcept [.free] s (State.modFree s f) := by
  refine ⟨fun g hg => ?_⟩; cases g <;> first | rfl | cases hg

theorem State.modClk_frame (s : State) (f) : SameExcept [.clk] s (State.modClk s f) := by
  refine ⟨fun g hg => ?_⟩; cases g <;> first | rfl | cases hg

theorem State.failStart_frame (s : State) (cause) : SameExcept [.ldl, .pwr, .pin] s (State.failStart s cause) := by
  unfold State.failStart
  repeat' first
    | with_reducible exact SameExcept.refl _ _
    | ((with_reducible apply SameExcept.step); (with_reducible first
          | apply State.modPwr_frame | apply State.modLdl_frame | apply State.modPin_frame); exact rfl)
    | split
    | dsimp only

theorem State.passTime_frame (s : State) (n) : SameExcept [.clk] s (State.passTime s n) := by
  unfold State.passTime
  repeat' first
    | with_reducible exact SameExcept.refl _ _
    | ((with_reducible apply SameExcept.step); (with_reducible apply State.modClk_frame); exact rfl)
    | split
    | dsimp only

theorem State.setParam_frame (s : State) (idx) (sub) (v) : SameExcept [.dict] s (State.setParam s idx sub v) := by
  unfold State.setParam
  repeat' first
    | with_reducible exact SameExcept.refl _ _
    | ((with_reducible apply SameExcept.step); (with_reducible apply State.modDict_frame); exact rfl)
    | split
    | dsimp only

theorem State.setBlob_frame (s : State) (idx) (sub) (ofs) (d) :
    SameExcept [.dict] s (State.setBlob s idx sub ofs d) := by
  unfold State.setBlob
  repeat' first
    | with_reducible exact SameExcept.refl _ _
    | ((with_reducible apply SameExcept.step); (with_reducible apply State.modDict_frame); exact rfl)
    | split
    | dsimp only

theorem State.ctrEvent_frame (s : State) (d) (event) (kind) (n) (part) :
    SameExcept [.obs] s (State.ctrEvent s d event kind n part) := by
  unfold State.ctrEvent
  repeat' first
    | with_reducible exact SameExcept.refl _ _
    | ((with_reducible apply SameExcept.step); (with_reducible apply State.modObs_frame); exact rfl)
    | ((with_reducible apply SameExcept.foldl); intro _ _)
    | ((with_reducible apply SameExcept.foldlPair); intro _ _)
    | split
    | dsimp only

theorem State.bumpP_frame (s : State) (set) (entry) (n) (part) :
    SameExcept [.obs, .tally] s (State.bumpP s set entry n part) := by
  unfold State.bumpP
  repeat' first
    | with_reducible exact SameExcept.refl _ _
    | ((with_reducible apply SameExcept.step); (with_reducible first
          | apply State.ctrEvent_frame | apply State.modTally_frame); exact rfl)
    | split
    | dsimp only

theorem State.bump_frame (s : State) (set) (entry) (n) : SameExcept [.obs, .tally] s (State.bump s set entry n) := by
  unfold State.bump
  repeat' first
    | with_reducible exact SameExcept.refl _ _
    | ((with_reducible apply SameExcept.step); (with_reducible apply State.bumpP_frame); exact rfl)
    | split
    | dsimp only

theorem State.spend_frame (s : State) : SameExcept [.free] s (State.spend s) := by
  unfold State.spend
  repeat' first
    | with_reducible exact SameExcept.refl _ _
    | ((with_reducible apply SameExcept.step); (with_reducible apply State.modFree_frame); exact rfl)
    | split
    | dsimp only

theorem State.raise_frame (s : State) (src) (code) (data) : SameExcept [.evt] s (State.raise s src code data) := by
  unfold State.raise
  repeat' first
    | with_reducible exact SameExcept.refl _ _
    | ((with_reducible apply SameExcept.step); (with_reducible apply State.modEvt_frame); exact rfl)
    | split
    | dsimp only

theorem State.note_frame (s : State) (src) (rule) (item) : SameExcept [.evt] s (State.note s src rule item) := by
  unfold State.note
  repeat' first
    | with_reducible exact SameExcept.refl _ _
    | ((with_reducible apply SameExcept.step); (with_reducible apply State.raise_frame); exact rfl)
    | split
    | dsimp only

theorem State.noteCause_frame (s : State) (src) (rule) (cause) (item) :
    SameExcept [.evt] s (State.noteCause s src rule cause item) := by
  unfold State.noteCause
  repeat' first
    | with_reducible exact SameExcept.refl _ _
    | ((with_reducible apply SameExcept.step); (with_reducible apply State.raise_frame); exact rfl)
    | split
    | dsimp only

theorem State.mwrite_frame (s : State) (a) (d) : SameExcept [.mem] s (State.mwrite s a d) := by
  unfold State.mwrite
  repeat' first
    | with_reducible exact SameExcept.refl _ _
    | ((with_reducible apply SameExcept.step); (with_reducible apply State.modMem_frame); exact rfl)
    | split
    | dsimp only

theorem State.storeLive_frame (s : State) (a) (d) : SameExcept [.mem] s (State.storeLive s a d) := by
  unfold State.storeLive
  repeat' first
    | with_reducible exact SameExcept.refl _ _
    | ((with_reducible apply SameExcept.step); (with_reducible first
          | apply State.mwrite_frame | apply State.modMem_frame); exact rfl)
    | split
    | dsimp only

theorem State.store_frame (s : State) (a) (d) : SameExcept [.mem] s (State.store s a d) := by
  unfold State.store
  repeat' first
    | with_reducible exact SameExcept.refl _ _
    | ((with_reducible apply SameExcept.step); (with_reducible apply State.storeLive_frame); exact rfl)
    | ((with_reducible apply SameExcept.foldl); intro _ _)
    | ((with_reducible apply SameExcept.foldlPair); intro _ _)
    | split
    | dsimp only

theorem State.poisonGranule_frame (s : State) (g) : SameExcept [.mem] s (State.poisonGranule s g) := by
  unfold State.poisonGranule
  repeat' first
    | with_reducible exact SameExcept.refl _ _
    | ((with_reducible apply SameExcept.step); (with_reducible first
          | apply State.mwrite_frame | apply State.modMem_frame); exact rfl)
    | split
    | dsimp only

theorem State.setTile_frame (s : State) (t) (x) : SameExcept [.tl] s (State.setTile s t x) := by
  unfold State.setTile
  repeat' first
    | with_reducible exact SameExcept.refl _ _
    | ((with_reducible apply SameExcept.step); (with_reducible apply State.modTl_frame); exact rfl)
    | split
    | dsimp only

theorem State.modTile_frame (s : State) (t) (f) : SameExcept [.tl] s (State.modTile s t f) := by
  unfold State.modTile
  repeat' first
    | with_reducible exact SameExcept.refl _ _
    | ((with_reducible apply SameExcept.step); (with_reducible apply State.setTile_frame); exact rfl)
    | split
    | dsimp only

theorem State.setDom_frame (s : State) (d) (x) : SameExcept [.pwr] s (State.setDom s d x) := by
  unfold State.setDom
  repeat' first
    | with_reducible exact SameExcept.refl _ _
    | ((with_reducible apply SameExcept.step); (with_reducible apply State.modPwr_frame); exact rfl)
    | split
    | dsimp only

theorem State.modDom_frame (s : State) (d) (f) : SameExcept [.pwr] s (State.modDom s d f) := by
  unfold State.modDom
  repeat' first
    | with_reducible exact SameExcept.refl _ _
    | ((with_reducible apply SameExcept.step); (with_reducible apply State.setDom_frame); exact rfl)
    | split
    | dsimp only

theorem State.setArb_frame (s : State) (kind) (inst) (a) : SameExcept [.arb] s (State.setArb s kind inst a) := by
  unfold State.setArb
  repeat' first
    | with_reducible exact SameExcept.refl _ _
    | ((with_reducible apply SameExcept.step); (with_reducible apply State.modArb_frame); exact rfl)
    | split
    | dsimp only

theorem State.freezeArb_frame (s : State) (kind) (inst) (who) (on) :
    SameExcept [.arb] s (State.freezeArb s kind inst who on) := by
  unfold State.freezeArb
  repeat' first
    | with_reducible exact SameExcept.refl _ _
    | ((with_reducible apply SameExcept.step); (with_reducible apply State.setArb_frame); exact rfl)
    | split
    | dsimp only

theorem State.freezeInto_frame (s : State) (d) (who) (on) : SameExcept [.arb] s (State.freezeInto s d who on) := by
  unfold State.freezeInto
  repeat' first
    | with_reducible exact SameExcept.refl _ _
    | ((with_reducible apply SameExcept.step); (with_reducible apply State.freezeArb_frame); exact rfl)
    | ((with_reducible apply SameExcept.foldl); intro _ _)
    | ((with_reducible apply SameExcept.foldlPair); intro _ _)
    | split
    | dsimp only

theorem State.domBump_frame (s : State) (d) (entry) (n) : SameExcept [.stress] s (State.domBump s d entry n) := by
  unfold State.domBump
  repeat' first
    | with_reducible exact SameExcept.refl _ _
    | ((with_reducible apply SameExcept.step); (with_reducible apply State.modStress_frame); exact rfl)
    | split
    | dsimp only

theorem State.settleDom_frame (s : State) (d) : SameExcept [.pwr, .stress] s (State.settleDom s d) := by
  unfold State.settleDom
  repeat' first
    | with_reducible exact SameExcept.refl _ _
    | ((with_reducible apply SameExcept.step); (with_reducible first
          | apply State.modDom_frame | apply State.domBump_frame); exact rfl)
    | split
    | dsimp only

theorem State.abortEntry_frame (s : State) (d) : SameExcept [.pwr, .stress, .arb] s (State.abortEntry s d) := by
  unfold State.abortEntry
  repeat' first
    | with_reducible exact SameExcept.refl _ _
    | ((with_reducible apply SameExcept.step); (with_reducible first
          | apply State.modDom_frame | apply State.domBump_frame | apply State.freezeInto_frame); exact rfl)
    | split
    | dsimp only

theorem State.wakeDom_frame (s : State) (d) : SameExcept [.pwr, .stress, .arb] s (State.wakeDom s d) := by
  unfold State.wakeDom
  repeat' first
    | with_reducible exact SameExcept.refl _ _
    | ((with_reducible apply SameExcept.step); (with_reducible first
          | apply State.modDom_frame | apply State.abortEntry_frame); exact rfl)
    | split
    | dsimp only

theorem State.holdSig_frame (s : State) (d) (h) : SameExcept [.pwr, .stress, .arb] s (State.holdSig s d h) := by
  unfold State.holdSig
  repeat' first
    | with_reducible exact SameExcept.refl _ _
    | ((with_reducible apply SameExcept.step); (with_reducible first
          | apply State.wakeDom_frame | apply State.modDom_frame); exact rfl)
    | split
    | dsimp only

theorem State.reach_frame (s : State) (d) : SameExcept [.pwr, .stress, .arb] s (State.reach s d) := by
  unfold State.reach
  repeat' first
    | with_reducible exact SameExcept.refl _ _
    | ((with_reducible apply SameExcept.step); (with_reducible apply State.wakeDom_frame); exact rfl)
    | split
    | dsimp only

theorem State.addCtr_frame (s : State) (addr) (amount) : SameExcept [.tl] s (State.addCtr s addr amount) := by
  unfold State.addCtr
  repeat' first
    | with_reducible exact SameExcept.refl _ _
    | ((with_reducible apply SameExcept.step); (with_reducible first
          | apply State.modTl_frame | apply State.modTile_frame); exact rfl)
    | split
    | dsimp only

theorem State.handCtr_frame (s : State) (addr) (v) : SameExcept [.tl] s (State.handCtr s addr v) := by
  unfold State.handCtr
  repeat' first
    | with_reducible exact SameExcept.refl _ _
    | ((with_reducible apply SameExcept.step); (with_reducible apply State.modTile_frame); exact rfl)
    | split
    | dsimp only

theorem State.countSig_frame (s : State) (addr) (path) :
    SameExcept [.obs, .tally] s (State.countSig s addr path) := by
  unfold State.countSig
  repeat' first
    | with_reducible exact SameExcept.refl _ _
    | ((with_reducible apply SameExcept.step); (with_reducible apply State.bump_frame); exact rfl)
    | split
    | dsimp only

theorem State.applySig_frame (s : State) (addr) (amount) (part) (path) :
    SameExcept [.tl, .obs, .tally] s ((State.applySig s addr amount part path).getD s) := by
  unfold State.applySig
  repeat' first
    | with_reducible exact SameExcept.refl _ _
    | ((with_reducible apply SameExcept.step); (with_reducible first
          | apply State.countSig_frame | apply State.addCtr_frame); exact rfl)
    | split
    | dsimp only [Option.getD_some, Option.getD_none]

theorem State.enterFault_frame (s : State) (t) (f) :
    SameExcept [.tl, .evt, .obs, .tally] s (State.enterFault s t f) := by
  unfold State.enterFault
  repeat' first
    | with_reducible exact SameExcept.refl _ _
    | ((with_reducible apply SameExcept.step); (with_reducible first
          | apply State.bump_frame | apply State.setTile_frame | apply State.raise_frame); exact rfl)
    | split
    | dsimp only

theorem State.tileFault_frame (s : State) (t) (code) (slot) :
    SameExcept [.tl, .evt, .obs, .tally] s (State.tileFault s t code slot) := by
  unfold State.tileFault
  repeat' first
    | with_reducible exact SameExcept.refl _ _
    | ((with_reducible apply SameExcept.step); (with_reducible first
          | apply State.enterFault_frame | apply State.setTile_frame); exact rfl)
    | split
    | dsimp only

theorem State.asyncFault_frame (s : State) (t) (code) (slot) :
    SameExcept [.tl, .evt, .obs, .tally] s (State.asyncFault s t code slot) := by
  unfold State.asyncFault
  repeat' first
    | with_reducible exact SameExcept.refl _ _
    | ((with_reducible apply SameExcept.step); (with_reducible apply State.tileFault_frame); exact rfl)
    | split
    | dsimp only

theorem State.sigRefused_frame (s : State) (tile) :
    SameExcept [.tl, .evt, .obs, .tally] s (State.sigRefused s tile) := by
  unfold State.sigRefused
  repeat' first
    | with_reducible exact SameExcept.refl _ _
    | ((with_reducible apply SameExcept.step); (with_reducible first
          | apply State.bump_frame | apply State.asyncFault_frame); exact rfl)
    | split
    | dsimp only

theorem State.sendSig_frame (s : State) (h) :
    SameExcept [.tl, .pwr, .stress, .evt, .obs, .arb, .tally] s (State.sendSig s h) := by
  unfold State.sendSig
  repeat' first
    | with_reducible exact SameExcept.refl _ _
    | ((with_reducible apply SameExcept.step); (with_reducible first
          | apply State.applySig_frame | apply State.sigRefused_frame | apply State.holdSig_frame
          | apply State.reach_frame); exact rfl)
    | ((apply SameExcept.stepOpt (e := by assumption)); (with_reducible apply State.applySig_frame); exact rfl)
    | split
    | dsimp only

theorem State.refusedSig_frame (s : State) (addr) : SameExcept [.evt, .obs, .tally] s (State.refusedSig s addr) := by
  unfold State.refusedSig
  repeat' first
    | with_reducible exact SameExcept.refl _ _
    | ((with_reducible apply SameExcept.step); (with_reducible first
          | apply State.bump_frame | apply State.note_frame); exact rfl)
    | split
    | dsimp only

theorem State.hubSig_frame (s : State) (addr) (amount) (part) :
    SameExcept [.tl, .pwr, .stress, .evt, .obs, .arb, .tally] s (State.hubSig s addr amount part) := by
  unfold State.hubSig
  repeat' first
    | with_reducible exact SameExcept.refl _ _
    | ((with_reducible apply SameExcept.step); (with_reducible apply State.sendSig_frame); exact rfl)
    | split
    | dsimp only

theorem State.setPort_frame (s : State) (p) (x) : SameExcept [.frm] s (State.setPort s p x) := by
  unfold State.setPort
  repeat' first
    | with_reducible exact SameExcept.refl _ _
    | ((with_reducible apply SameExcept.step); (with_reducible apply State.modFrm_frame); exact rfl)
    | split
    | dsimp only

theorem State.modPort_frame (s : State) (p) (f) : SameExcept [.frm] s (State.modPort s p f) := by
  unfold State.modPort
  repeat' first
    | with_reducible exact SameExcept.refl _ _
    | ((with_reducible apply SameExcept.step); (with_reducible apply State.setPort_frame); exact rfl)
    | split
    | dsimp only

theorem State.freeCell_frame (s : State) (p) : SameExcept [.frm] s (State.freeCell s p) := by
  unfold State.freeCell
  repeat' first
    | with_reducible exact SameExcept.refl _ _
    | ((with_reducible apply SameExcept.step); (with_reducible apply State.modPort_frame); exact rfl)
    | split
    | dsimp only

theorem State.freeKey_frame (s : State) (k) : SameExcept [.frm] s (State.freeKey s k) := by
  unfold State.freeKey
  repeat' first
    | with_reducible exact SameExcept.refl _ _
    | ((with_reducible apply SameExcept.step); (with_reducible first
          | apply State.freeCell_frame | apply State.modFrm_frame); exact rfl)
    | ((with_reducible apply SameExcept.foldl); intro _ _)
    | ((with_reducible apply SameExcept.foldlPair); intro _ _)
    | split
    | dsimp only

theorem State.stage_frame (s : State) (p) (r) : SameExcept [.frm] s (State.stage s p r) := by
  unfold State.stage
  repeat' first
    | with_reducible exact SameExcept.refl _ _
    | ((with_reducible apply SameExcept.step); (with_reducible apply State.modPort_frame); exact rfl)
    | split
    | dsimp only

theorem State.stagePick_frame (s : State) (r) : SameExcept [.frm] s (State.stagePick s r) := by
  unfold State.stagePick
  repeat' first
    | with_reducible exact SameExcept.refl _ _
    | ((with_reducible apply SameExcept.step); (with_reducible first
          | apply State.stage_frame | apply State.modFrm_frame); exact rfl)
    | split
    | dsimp only

theorem State.firstSent_frame (s : State) (p) : SameExcept [.att] s (State.firstSent s p) := by
  unfold State.firstSent
  repeat' first
    | with_reducible exact SameExcept.refl _ _
    | ((with_reducible apply SameExcept.step); (with_reducible apply State.modAtt_frame); exact rfl)
    | split
    | dsimp only

theorem State.sendOrig_frame (s : State) (o) : SameExcept [.frm, .att] s (State.sendOrig s o) := by
  unfold State.sendOrig
  repeat' first
    | with_reducible exact SameExcept.refl _ _
    | ((with_reducible apply SameExcept.step); (with_reducible first
          | apply State.firstSent_frame | apply State.modFrm_frame | apply State.stagePick_frame); exact rfl)
    | split
    | dsimp only

theorem State.sendWaiting_frame (fuel) (s : State) (ep) :
    SameExcept [.frm, .att] s (State.sendWaiting fuel s ep) := by
  induction fuel generalizing s ep with
  | zero =>
    simp only [State.sendWaiting]
    repeat' first
      | with_reducible exact SameExcept.refl _ _
      | ((with_reducible apply SameExcept.step); (with_reducible first
            | apply State.sendOrig_frame | apply State.modFrm_frame); exact rfl)
      | split
      | dsimp only
  | succ n ih =>
    simp only [State.sendWaiting]
    repeat' first
      | with_reducible exact SameExcept.refl _ _
      | with_reducible apply SameExcept.trans (k := ih _ _)
      | ((with_reducible apply SameExcept.step); (with_reducible first
            | apply State.sendOrig_frame | apply State.modFrm_frame); exact rfl)
      | split
      | dsimp only

theorem State.originate_frame (s : State) (o) : SameExcept [.frm, .att] s ((State.originate s o).getD s) := by
  unfold State.originate
  repeat' first
    | with_reducible exact SameExcept.refl _ _
    | ((with_reducible apply SameExcept.step); (with_reducible first
          | apply State.modFrm_frame | apply State.sendWaiting_frame); exact rfl)
    | split
    | dsimp only [Option.getD_some, Option.getD_none]

theorem State.noPeer_frame (s : State) (ep) : SameExcept [.evt] s (State.noPeer s ep) := by
  unfold State.noPeer
  repeat' first
    | with_reducible exact SameExcept.refl _ _
    | ((with_reducible apply SameExcept.step); (with_reducible apply State.note_frame); exact rfl)
    | split
    | dsimp only

theorem State.endOrig_frame (s : State) (ep) (seq) : SameExcept [.frm, .att] s (State.endOrig s ep seq) := by
  unfold State.endOrig
  repeat' first
    | with_reducible exact SameExcept.refl _ _
    | ((with_reducible apply SameExcept.step); (with_reducible first
          | apply State.modFrm_frame | apply State.sendWaiting_frame); exact rfl)
    | split
    | dsimp only

theorem State.lateAnswer_frame (s : State) (ep) (seq) (code) :
    SameExcept [.frm, .att] s (State.lateAnswer s ep seq code) := by
  unfold State.lateAnswer
  repeat' first
    | with_reducible exact SameExcept.refl _ _
    | ((with_reducible apply SameExcept.step); (with_reducible apply State.endOrig_frame); exact rfl)
    | split
    | dsimp only

theorem State.abandonOrig_frame (s : State) (ep) (seq) : SameExcept [.frm] s (State.abandonOrig s ep seq) := by
  unfold State.abandonOrig
  repeat' first
    | with_reducible exact SameExcept.refl _ _
    | ((with_reducible apply SameExcept.step); (with_reducible apply State.modFrm_frame); exact rfl)
    | split
    | dsimp only

theorem State.resendOrig_frame (s : State) (ep) (seq) : SameExcept [.frm] s (State.resendOrig s ep seq) := by
  unfold State.resendOrig
  repeat' first
    | with_reducible exact SameExcept.refl _ _
    | ((with_reducible apply SameExcept.step); (with_reducible first
          | apply State.modFrm_frame | apply State.stagePick_frame); exact rfl)
    | split
    | dsimp only

theorem State.leavesHashed_frame (s : State) (d) (l) : SameExcept [.obs, .tally] s (State.leavesHashed s d l) := by
  unfold State.leavesHashed
  repeat' first
    | with_reducible exact SameExcept.refl _ _
    | ((with_reducible apply SameExcept.step); (with_reducible apply State.bump_frame); exact rfl)
    | ((with_reducible apply SameExcept.foldl); intro _ _)
    | ((with_reducible apply SameExcept.foldlPair); intro _ _)
    | split
    | dsimp only

theorem State.rawWrite_frame (s : State) (d) (ofs) (b) : SameExcept [.mem] s (State.rawWrite s d ofs b) := by
  unfold State.rawWrite
  repeat' first
    | with_reducible exact SameExcept.refl _ _
    | ((with_reducible apply SameExcept.step); (with_reducible apply State.store_frame); exact rfl)
    | split
    | dsimp only

theorem State.setPrmHdr_frame (s : State) (d) (h) : SameExcept [.mem] s (State.setPrmHdr s d h) := by
  unfold State.setPrmHdr
  repeat' first
    | with_reducible exact SameExcept.refl _ _
    | ((with_reducible apply SameExcept.step); (with_reducible apply State.rawWrite_frame); exact rfl)
    | split
    | dsimp only

theorem State.setSlotRec_frame (s : State) (x) : SameExcept [.wsk] s (State.setSlotRec s x) := by
  unfold State.setSlotRec
  repeat' first
    | with_reducible exact SameExcept.refl _ _
    | ((with_reducible apply SameExcept.step); (with_reducible apply State.modWsk_frame); exact rfl)
    | split
    | dsimp only

theorem State.dropStorage_frame (s : State) (x) : SameExcept [.wsk] s (State.dropStorage s x) := by
  unfold State.dropStorage
  repeat' first
    | with_reducible exact SameExcept.refl _ _
    | ((with_reducible apply SameExcept.step); (with_reducible first
          | apply State.setSlotRec_frame | apply State.modWsk_frame); exact rfl)
    | split
    | dsimp only

theorem State.takeRoom_frame (s : State) (k) (r) : SameExcept [.wsk] s (State.takeRoom s k r) := by
  unfold State.takeRoom
  repeat' first
    | with_reducible exact SameExcept.refl _ _
    | ((with_reducible apply SameExcept.step); (with_reducible apply State.modWsk_frame); exact rfl)
    | split
    | dsimp only

theorem State.dropRoom_frame (s : State) (k) (kept) : SameExcept [.wsk] s (State.dropRoom s k kept) := by
  unfold State.dropRoom
  repeat' first
    | with_reducible exact SameExcept.refl _ _
    | ((with_reducible apply SameExcept.step); (with_reducible apply State.modWsk_frame); exact rfl)
    | split
    | dsimp only

theorem State.dropAccum_frame (s : State) (k) (part) (h) : SameExcept [.wsk] s (State.dropAccum s k part h) := by
  unfold State.dropAccum
  repeat' first
    | with_reducible exact SameExcept.refl _ _
    | ((with_reducible apply SameExcept.step); (with_reducible first
          | apply State.setSlotRec_frame | apply State.dropRoom_frame); exact rfl)
    | split
    | dsimp only

theorem State.dropOp_frame (s : State) (k) (h) :
    SameExcept [.wsk, .mc, .syn, .sch, .pwr, .att, .par] s (State.dropOp s k h) := by
  unfold State.dropOp
  repeat' first
    | with_reducible exact SameExcept.refl _ _
    | ((with_reducible apply SameExcept.step); (with_reducible first
          | apply State.modPar_frame | apply State.modPwr_frame | apply State.modSch_frame | apply State.modAtt_frame
          | apply State.modSyn_frame | apply State.dropAccum_frame | apply State.modWsk_frame
          | apply State.modMc_frame); exact rfl)
    | split
    | dsimp only

theorem State.classTally_frame (s : State) (c) (entry) (n) :
    SameExcept [.obs, .tally] s (State.classTally s c entry n) := by
  unfold State.classTally
  repeat' first
    | with_reducible exact SameExcept.refl _ _
    | ((with_reducible apply SameExcept.step); (with_reducible apply State.bump_frame); exact rfl)
    | split
    | dsimp only

theorem State.chargeClass_frame (s : State) (c) (n) :
    SameExcept [.obs, .cls, .tally] s (State.chargeClass s c n) := by
  unfold State.chargeClass
  repeat' first
    | with_reducible exact SameExcept.refl _ _
    | ((with_reducible apply SameExcept.step); (with_reducible first
          | apply State.classTally_frame | apply State.modCls_frame); exact rfl)
    | split
    | dsimp only

theorem State.setSummary_frame (s : State) (r) (x) : SameExcept [.frm] s (State.setSummary s r x) := by
  unfold State.setSummary
  repeat' first
    | with_reducible exact SameExcept.refl _ _
    | ((with_reducible apply SameExcept.step); (with_reducible apply State.modFrm_frame); exact rfl)
    | split
    | dsimp only

theorem State.setSlot_frame (s : State) (r) (seq) (st) : SameExcept [.frm] s (State.setSlot s r seq st) := by
  unfold State.setSlot
  repeat' first
    | with_reducible exact SameExcept.refl _ _
    | ((with_reducible apply SameExcept.step); (with_reducible apply State.setSummary_frame); exact rfl)
    | split
    | dsimp only

theorem State.issueDone_frame (s : State) (r) (i) (cls) (e) (resp) :
    SameExcept [.frm] s (State.issueDone s r i cls e resp) := by
  unfold State.issueDone
  repeat' first
    | with_reducible exact SameExcept.refl _ _
    | ((with_reducible apply SameExcept.step); (with_reducible apply State.modFrm_frame); exact rfl)
    | split
    | dsimp only

theorem State.portBump_frame (s : State) (p) (entry) (n) (part) :
    SameExcept [.obs, .tally] s (State.portBump s p entry n part) := by
  unfold State.portBump
  repeat' first
    | with_reducible exact SameExcept.refl _ _
    | ((with_reducible apply SameExcept.step); (with_reducible apply State.bumpP_frame); exact rfl)
    | split
    | dsimp only

theorem State.hold_frame (s : State) (port) (r) (i) (x) :
    SameExcept [.frm, .obs, .cls, .tally] s (State.hold s port r i x).1 := by
  unfold State.hold
  repeat' first
    | with_reducible exact SameExcept.refl _ _
    | ((with_reducible apply SameExcept.step); (with_reducible first
          | apply State.chargeClass_frame | apply State.modFrm_frame | apply State.portBump_frame); exact rfl)
    | split
    | dsimp only

theorem State.dropHeld_frame (s : State) (r) (i) : SameExcept [.frm] s (State.dropHeld s r i) := by
  unfold State.dropHeld
  repeat' first
    | with_reducible exact SameExcept.refl _ _
    | ((with_reducible apply SameExcept.step); (with_reducible apply State.modFrm_frame); exact rfl)
    | split
    | dsimp only

theorem State.setOp_frame (s : State) (k) (o) : SameExcept [.frm] s (State.setOp s k o) := by
  unfold State.setOp
  repeat' first
    | with_reducible exact SameExcept.refl _ _
    | ((with_reducible apply SameExcept.step); (with_reducible apply State.modFrm_frame); exact rfl)
    | split
    | dsimp only

theorem State.chargeOp_frame (s : State) (k) (n) :
    SameExcept [.frm, .obs, .cls, .tally] s (State.chargeOp s k n) := by
  unfold State.chargeOp
  repeat' first
    | with_reducible exact SameExcept.refl _ _
    | ((with_reducible apply SameExcept.step); (with_reducible first
          | apply State.chargeClass_frame | apply State.setOp_frame); exact rfl)
    | split
    | dsimp only

theorem State.wakeFor_frame (s : State) (req) (seq) (opcode) :
    SameExcept [.pwr, .stress, .arb] s (State.wakeFor s req seq opcode) := by
  unfold State.wakeFor
  repeat' first
    | with_reducible exact SameExcept.refl _ _
    | ((with_reducible apply SameExcept.step); (with_reducible apply State.wakeDom_frame); exact rfl)
    | ((with_reducible apply SameExcept.foldl); intro _ _)
    | ((with_reducible apply SameExcept.foldlPair); intro _ _)
    | split
    | dsimp only

theorem State.begin_frame (s : State) (o) : SameExcept [.frm] s (State.begin s o) := by
  unfold State.begin
  repeat' first
    | with_reducible exact SameExcept.refl _ _
    | ((with_reducible apply SameExcept.step); (with_reducible apply State.setOp_frame); exact rfl)
    | split
    | dsimp only

theorem State.release_frame (s : State) (d) : SameExcept [.rgn] s (State.release s d) := by
  unfold State.release
  repeat' first
    | with_reducible exact SameExcept.refl _ _
    | ((with_reducible apply SameExcept.step); (with_reducible apply State.modRgn_frame); exact rfl)
    | split
    | dsimp only

theorem State.unwait_frame (s : State) (req) (seq) : SameExcept [.frm] s (State.unwait s req seq) := by
  unfold State.unwait
  repeat' first
    | with_reducible exact SameExcept.refl _ _
    | ((with_reducible apply SameExcept.step); (with_reducible apply State.modFrm_frame); exact rfl)
    | split
    | dsimp only

theorem State.unwaitKv_frame (s : State) (o) : SameExcept [.frm] s (State.unwaitKv s o) := by
  unfold State.unwaitKv
  repeat' first
    | with_reducible exact SameExcept.refl _ _
    | ((with_reducible apply SameExcept.step); (with_reducible apply State.modFrm_frame); exact rfl)
    | split
    | dsimp only

theorem State.finishNow_frame (s : State) (k) (o) (f) :
    SameExcept [.mem, .frm, .rgn, .wsk, .mc, .syn, .sch, .pwr, .att, .par, .obs, .cls, .tally] s (State.finishNow s k
      o f) := by
  unfold State.finishNow
  repeat' first
    | with_reducible exact SameExcept.refl _ _
    | ((with_reducible apply SameExcept.step); (with_reducible first
          | apply State.bump_frame | apply State.unwait_frame | apply State.issueDone_frame
          | apply State.setSlot_frame | apply State.modFrm_frame | apply State.unwaitKv_frame
          | apply State.dropOp_frame | apply State.freeKey_frame | apply State.modMem_frame | apply State.hold_frame
          | apply State.release_frame); exact rfl)
    | ((apply SameExcept.stepPair (e := by assumption)); (with_reducible apply State.hold_frame); exact rfl)
    | split
    | dsimp only

theorem State.finish_frame (s : State) (k) (f) :
    SameExcept [.mem, .frm, .rgn, .wsk, .mc, .syn, .sch, .pwr, .att, .par, .obs, .cls, .tally] s (State.finish s k f)
      := by
  unfold State.finish
  repeat' first
    | with_reducible exact SameExcept.refl _ _
    | ((with_reducible apply SameExcept.step); (with_reducible first
          | apply State.finishNow_frame | apply State.setOp_frame); exact rfl)
    | split
    | dsimp only

theorem State.done_frame (s : State) (k) (code) (aux) :
    SameExcept [.mem, .frm, .rgn, .wsk, .mc, .syn, .sch, .pwr, .att, .par, .obs, .cls, .tally] s (State.done s k code
      aux) := by
  unfold State.done
  repeat' first
    | with_reducible exact SameExcept.refl _ _
    | ((with_reducible apply SameExcept.step); (with_reducible apply State.finish_frame); exact rfl)
    | split
    | dsimp only

theorem State.doneAll_frame (s : State) (ks) (code) (aux) :
    SameExcept [.mem, .frm, .rgn, .wsk, .mc, .syn, .sch, .pwr, .att, .par, .obs, .cls, .tally] s (State.doneAll s ks
      code aux) := by
  unfold State.doneAll
  repeat' first
    | with_reducible exact SameExcept.refl _ _
    | ((with_reducible apply SameExcept.step); (with_reducible apply State.done_frame); exact rfl)
    | ((with_reducible apply SameExcept.foldl); intro _ _)
    | ((with_reducible apply SameExcept.foldlPair); intro _ _)
    | split
    | dsimp only

theorem State.endEpoch_frame (s : State) (ks) (unit) (dom) :
    SameExcept [.mem, .frm, .rgn, .wsk, .mc, .syn, .sch, .pwr, .att, .par, .obs, .cls, .tally] s (State.endEpoch s ks
      unit dom) := by
  unfold State.endEpoch
  repeat' first
    | with_reducible exact SameExcept.refl _ _
    | ((with_reducible apply SameExcept.step); (with_reducible apply State.finish_frame); exact rfl)
    | ((with_reducible apply SameExcept.foldl); intro _ _)
    | ((with_reducible apply SameExcept.foldlPair); intro _ _)
    | split
    | dsimp only

theorem State.paint_frame (s : State) (p) (c) (b) : SameExcept [.obs, .cls, .tally] s (State.paint s p c b).1 := by
  unfold State.paint
  repeat' first
    | with_reducible exact SameExcept.refl _ _
    | ((with_reducible apply SameExcept.step); (with_reducible first
          | apply State.classTally_frame | apply State.modCls_frame); exact rfl)
    | split
    | dsimp only

theorem State.refillClass_frame (s : State) (c) : SameExcept [.cls] s (State.refillClass s c) := by
  unfold State.refillClass
  repeat' first
    | with_reducible exact SameExcept.refl _ _
    | ((with_reducible apply SameExcept.step); (with_reducible apply State.modCls_frame); exact rfl)
    | split
    | dsimp only

theorem execBudgetWindowEdge_frame (s : State) :
    SameExcept [.obs, .cls, .tally] s (nextState (execBudgetWindowEdge s) s) := by
  unfold execBudgetWindowEdge State.runLive
  repeat' first
    | with_reducible exact SameExcept.refl _ _
    | ((with_reducible apply SameExcept.step); (with_reducible first
          | apply State.classTally_frame | apply State.modCls_frame); exact rfl)
    | ((with_reducible apply SameExcept.foldl); intro _ _)
    | ((with_reducible apply SameExcept.foldlPair); intro _ _)
    | split
    | dsimp only [nextState]

theorem State.arbCount_frame (s : State) (kind) (inst) (what) :
    SameExcept [.obs, .tally] s (State.arbCount s kind inst what) := by
  unfold State.arbCount
  repeat' first
    | with_reducible exact SameExcept.refl _ _
    | ((with_reducible apply SameExcept.step); (with_reducible apply State.bump_frame); exact rfl)
    | split
    | dsimp only

theorem State.reservedCount_frame (s : State) (kind) (rule) :
    SameExcept [.obs, .tally] s (State.reservedCount s kind rule) := by
  unfold State.reservedCount
  repeat' first
    | with_reducible exact SameExcept.refl _ _
    | ((with_reducible apply SameExcept.step); (with_reducible apply State.bump_frame); exact rfl)
    | split
    | dsimp only

theorem execArbiterRound_frame (kind) (inst) (reqs) (s : State) :
    SameExcept [.pwr, .stress, .obs, .arb, .tally] s (nextState (execArbiterRound kind inst reqs s) s) := by
  unfold execArbiterRound State.runLive
  repeat' first
    | with_reducible exact SameExcept.refl _ _
    | ((with_reducible apply SameExcept.step); (with_reducible first
          | apply State.reservedCount_frame | apply State.wakeDom_frame | apply State.setArb_frame
          | apply State.arbCount_frame); exact rfl)
    | split
    | dsimp only [nextState]

theorem State.sample_frame (s : State) (t) (ev) (bundle) (slot) (daddr) (lat) (rofs) :
    SameExcept [.obs, .tally] s (State.sample s t ev bundle slot daddr lat rofs) := by
  unfold State.sample
  repeat' first
    | with_reducible exact SameExcept.refl _ _
    | ((with_reducible apply SameExcept.step); (with_reducible first
          | apply State.modObs_frame | apply State.bumpP_frame); exact rfl)
    | split
    | dsimp only

theorem State.skilletMag_frame (s : State) (t) (ev) (mag) : SameExcept [.obs] s (State.skilletMag s t ev mag) := by
  unfold State.skilletMag
  repeat' first
    | with_reducible exact SameExcept.refl _ _
    | ((with_reducible apply SameExcept.step); (with_reducible apply State.ctrEvent_frame); exact rfl)
    | split
    | dsimp only

theorem State.loadEvent_frame (s : State) (t) (addr) (lat) :
    SameExcept [.obs, .tally] s (State.loadEvent s t addr lat) := by
  unfold State.loadEvent
  repeat' first
    | with_reducible exact SameExcept.refl _ _
    | ((with_reducible apply SameExcept.step); (with_reducible first
          | apply State.sample_frame | apply State.skilletMag_frame); exact rfl)
    | split
    | dsimp only

theorem State.tileBump_frame (s : State) (t) (entry) (n) :
    SameExcept [.obs, .tally] s (State.tileBump s t entry n) := by
  unfold State.tileBump
  repeat' first
    | with_reducible exact SameExcept.refl _ _
    | ((with_reducible apply SameExcept.step); (with_reducible apply State.bumpP_frame); exact rfl)
    | split
    | dsimp only

theorem State.tileCounts_frame (s : State) (t) (cs) : SameExcept [.obs, .tally] s (State.tileCounts s t cs) := by
  unfold State.tileCounts
  repeat' first
    | with_reducible exact SameExcept.refl _ _
    | ((with_reducible apply SameExcept.step); (with_reducible apply State.tileBump_frame); exact rfl)
    | ((with_reducible apply SameExcept.foldl); intro _ _)
    | ((with_reducible apply SameExcept.foldlPair); intro _ _)
    | split
    | dsimp only

theorem State.setBar_frame (s : State) (b) (x) : SameExcept [.syn] s (State.setBar s b x) := by
  unfold State.setBar
  repeat' first
    | with_reducible exact SameExcept.refl _ _
    | ((with_reducible apply SameExcept.step); (with_reducible apply State.modSyn_frame); exact rfl)
    | split
    | dsimp only

theorem State.barSignals_frame (s : State) (b) :
    SameExcept [.tl, .syn, .pwr, .stress, .evt, .obs, .arb, .tally] s (State.barSignals s b) := by
  unfold State.barSignals
  repeat' first
    | with_reducible exact SameExcept.refl _ _
    | ((with_reducible apply SameExcept.step); (with_reducible first
          | apply State.hubSig_frame | apply State.modSyn_frame); exact rfl)
    | ((with_reducible apply SameExcept.foldl); intro _ _)
    | ((with_reducible apply SameExcept.foldlPair); intro _ _)
    | split
    | dsimp only

theorem State.barRelease_frame (s : State) (b) :
    SameExcept [.tl, .syn, .pwr, .stress, .evt, .obs, .arb, .tally] s (State.barRelease s b) := by
  unfold State.barRelease
  repeat' first
    | with_reducible exact SameExcept.refl _ _
    | ((with_reducible apply SameExcept.step); (with_reducible first
          | apply State.bump_frame | apply State.setBar_frame | apply State.barSignals_frame); exact rfl)
    | split
    | dsimp only

theorem State.setCtx_frame (s : State) (i) (c) : SameExcept [.sch] s (State.setCtx s i c) := by
  unfold State.setCtx
  repeat' first
    | with_reducible exact SameExcept.refl _ _
    | ((with_reducible apply SameExcept.step); (with_reducible apply State.modSch_frame); exact rfl)
    | split
    | dsimp only

theorem State.modCtx_frame (s : State) (i) (f) : SameExcept [.sch] s (State.modCtx s i f) := by
  unfold State.modCtx
  repeat' first
    | with_reducible exact SameExcept.refl _ _
    | ((with_reducible apply SameExcept.step); (with_reducible apply State.setCtx_frame); exact rfl)
    | split
    | dsimp only

theorem State.replayFrames_frame (s : State) (part) (step) :
    SameExcept [.mem, .frm, .rgn, .wsk, .mc, .syn, .sch, .pwr, .att, .par, .obs, .cls, .tally] s (State.replayFrames s
      part step) := by
  unfold State.replayFrames
  repeat' first
    | with_reducible exact SameExcept.refl _ _
    | ((with_reducible apply SameExcept.step); (with_reducible apply State.doneAll_frame); exact rfl)
    | split
    | dsimp only

theorem State.markCtx_frame (s : State) (i) (rule) :
    SameExcept [.mem, .frm, .rgn, .wsk, .mc, .syn, .sch, .pwr, .evt, .att, .par, .obs, .cls, .tally] s (State.markCtx
      s i rule) := by
  unfold State.markCtx
  repeat' first
    | with_reducible exact SameExcept.refl _ _
    | ((with_reducible apply SameExcept.step); (with_reducible first
          | apply State.bump_frame | apply State.replayFrames_frame | apply State.raise_frame
          | apply State.setCtx_frame); exact rfl)
    | split
    | dsimp only

theorem State.markCommitted_frame (s : State) (part) (step) (rule) :
    SameExcept [.mem, .frm, .rgn, .wsk, .mc, .syn, .sch, .pwr, .evt, .att, .par, .obs, .cls, .tally] s
      (State.markCommitted s part step rule) := by
  unfold State.markCommitted
  repeat' first
    | with_reducible exact SameExcept.refl _ _
    | ((with_reducible apply SameExcept.step); (with_reducible first
          | apply State.bump_frame | apply State.doneAll_frame | apply State.raise_frame); exact rfl)
    | split
    | dsimp only

theorem State.mark_frame (s : State) (part) (step) (rule) :
    SameExcept [.mem, .frm, .rgn, .wsk, .mc, .syn, .sch, .pwr, .evt, .att, .par, .obs, .cls, .tally] s (State.mark s
      part step rule) := by
  unfold State.mark
  repeat' first
    | with_reducible exact SameExcept.refl _ _
    | ((with_reducible apply SameExcept.step); (with_reducible first
          | apply State.markCommitted_frame | apply State.raise_frame | apply State.markCtx_frame); exact rfl)
    | split
    | dsimp only

theorem State.markStep_frame (s : State) (part) (step) (rule) :
    SameExcept [.mem, .frm, .rgn, .wsk, .mc, .syn, .sch, .pwr, .evt, .att, .par, .obs, .cls, .tally] s (State.markStep
      s part step rule) := by
  unfold State.markStep
  repeat' first
    | with_reducible exact SameExcept.refl _ _
    | ((with_reducible apply SameExcept.step); (with_reducible apply State.mark_frame); exact rfl)
    | split
    | dsimp only

theorem State.abandonSignal_frame (s : State) (entry) (part) (step) :
    SameExcept [.mem, .frm, .rgn, .wsk, .mc, .syn, .sch, .pwr, .evt, .att, .par, .obs, .cls, .tally] s
      (State.abandonSignal s entry part step) := by
  unfold State.abandonSignal
  repeat' first
    | with_reducible exact SameExcept.refl _ _
    | ((with_reducible apply SameExcept.step); (with_reducible first
          | apply State.bump_frame | apply State.note_frame | apply State.markStep_frame); exact rfl)
    | split
    | dsimp only

theorem State.abandonBarrier_frame (s : State) (b) (part) (step) :
    SameExcept [.mem, .frm, .rgn, .wsk, .mc, .syn, .sch, .pwr, .evt, .att, .par, .obs, .cls, .tally] s
      (State.abandonBarrier s b part step) := by
  unfold State.abandonBarrier
  repeat' first
    | with_reducible exact SameExcept.refl _ _
    | ((with_reducible apply SameExcept.step); (with_reducible first
          | apply State.note_frame | apply State.markStep_frame); exact rfl)
    | split
    | dsimp only

theorem State.barFrame_frame (s : State) (b) :
    SameExcept [.mem, .frm, .rgn, .wsk, .mc, .syn, .sch, .pwr, .evt, .att, .par, .obs, .cls, .tally] s (State.barFrame
      s b) := by
  unfold State.barFrame
  repeat' first
    | with_reducible exact SameExcept.refl _ _
    | ((with_reducible apply SameExcept.step); (with_reducible first
          | apply State.originate_frame | apply State.setBar_frame | apply State.abandonBarrier_frame
          | apply State.noPeer_frame); exact rfl)
    | ((apply SameExcept.stepOpt (e := by assumption)); (with_reducible apply State.originate_frame); exact rfl)
    | split
    | dsimp only

theorem State.barLocalDone_frame (s : State) (b) :
    SameExcept [.mem, .frm, .rgn, .wsk, .mc, .syn, .sch, .pwr, .evt, .att, .par, .obs, .cls, .tally] s
      (State.barLocalDone s b) := by
  unfold State.barLocalDone
  repeat' first
    | with_reducible exact SameExcept.refl _ _
    | ((with_reducible apply SameExcept.step); (with_reducible apply State.barFrame_frame); exact rfl)
    | split
    | dsimp only

theorem State.barReleaseAll_frame (s : State) (b) :
    SameExcept [.mem, .frm, .rgn, .wsk, .mc, .tl, .syn, .sch, .pwr, .stress, .evt, .att, .par, .obs, .cls, .arb,
      .tally] s (State.barReleaseAll s b) := by
  unfold State.barReleaseAll
  repeat' first
    | with_reducible exact SameExcept.refl _ _
    | ((with_reducible apply SameExcept.step); (with_reducible first
          | apply State.doneAll_frame | apply State.barRelease_frame | apply State.barLocalDone_frame); exact rfl)
    | split
    | dsimp only

theorem State.barAdvance_frame (s : State) (b) :
    SameExcept [.mem, .frm, .rgn, .wsk, .mc, .tl, .syn, .sch, .pwr, .stress, .evt, .att, .par, .obs, .cls, .arb,
      .tally] s (State.barAdvance s b) := by
  unfold State.barAdvance
  repeat' first
    | with_reducible exact SameExcept.refl _ _
    | ((with_reducible apply SameExcept.step); (with_reducible first
          | apply State.barReleaseAll_frame | apply State.barLocalDone_frame); exact rfl)
    | split
    | dsimp only

theorem State.barArrive_frame (s : State) (t) (b) :
    SameExcept [.mem, .frm, .rgn, .wsk, .mc, .tl, .syn, .sch, .pwr, .stress, .evt, .att, .par, .obs, .cls, .arb,
      .tally] s (State.barArrive s t b) := by
  unfold State.barArrive
  repeat' first
    | with_reducible exact SameExcept.refl _ _
    | ((with_reducible apply SameExcept.step); (with_reducible first
          | apply State.note_frame | apply State.barAdvance_frame | apply State.setBar_frame); exact rfl)
    | split
    | dsimp only

theorem State.queueRemote_frame (s : State) (g) : SameExcept [.syn, .obs, .tally] s (State.queueRemote s g) := by
  unfold State.queueRemote
  repeat' first
    | with_reducible exact SameExcept.refl _ _
    | ((with_reducible apply SameExcept.step); (with_reducible first
          | apply State.bump_frame | apply State.modSyn_frame); exact rfl)
    | split
    | dsimp only

theorem State.sendRemote_frame (s : State) (t) (e) (amount) :
    SameExcept [.mem, .frm, .rgn, .wsk, .mc, .tl, .syn, .sch, .pwr, .stress, .evt, .att, .par, .obs, .cls, .arb,
      .tally] s (State.sendRemote s t e amount) := by
  unfold State.sendRemote
  repeat' first
    | with_reducible exact SameExcept.refl _ _
    | ((with_reducible apply SameExcept.step); (with_reducible first
          | apply State.queueRemote_frame | apply State.sendSig_frame | apply State.sigRefused_frame
          | apply State.barArrive_frame); exact rfl)
    | split
    | dsimp only

theorem State.mmaBegin_frame (s : State) (t) (w) (a) (b) (c) (from_) :
    SameExcept [.tl, .obs, .tally] s (State.mmaBegin s t w a b c from_) := by
  unfold State.mmaBegin
  repeat' first
    | with_reducible exact SameExcept.refl _ _
    | ((with_reducible apply SameExcept.step); (with_reducible first
          | apply State.tileCounts_frame | apply State.modTile_frame); exact rfl)
    | split
    | dsimp only

theorem State.mmaTurn_frame (s : State) (t) : SameExcept [.tl, .obs, .tally] s (State.mmaTurn s t) := by
  unfold State.mmaTurn
  repeat' first
    | with_reducible exact SameExcept.refl _ _
    | ((with_reducible apply SameExcept.step); (with_reducible first
          | apply State.modTile_frame | apply State.mmaBegin_frame); exact rfl)
    | split
    | dsimp only

theorem State.holdIssue_frame (s : State) (t) (entry) (why) (only) :
    SameExcept [.tl, .obs, .tally] s (State.holdIssue s t entry why only) := by
  unfold State.holdIssue
  repeat' first
    | with_reducible exact SameExcept.refl _ _
    | ((with_reducible apply SameExcept.step); (with_reducible first
          | apply State.tileBump_frame | apply State.modTile_frame); exact rfl)
    | split
    | dsimp only

theorem State.arEffect_frame (s : State) (t) (o) (w) : SameExcept [.tl, .obs, .tally] s (State.arEffect s t o w) := by
  unfold State.arEffect
  repeat' first
    | with_reducible exact SameExcept.refl _ _
    | ((with_reducible apply SameExcept.step); (with_reducible first
          | apply State.mmaTurn_frame | apply State.modTile_frame | apply State.mmaBegin_frame); exact rfl)
    | split
    | dsimp only

theorem State.sendSlot_frame (s : State) (t) (fn) (ctr) (amount) (halt) :
    SameExcept [.mem, .frm, .rgn, .wsk, .mc, .tl, .syn, .sch, .pwr, .stress, .evt, .att, .par, .obs, .cls, .arb,
      .tally] s (State.sendSlot s t fn ctr amount halt) := by
  unfold State.sendSlot
  repeat' first
    | with_reducible exact SameExcept.refl _ _
    | ((with_reducible apply SameExcept.step); (with_reducible first
          | apply State.sendSig_frame | apply State.sendRemote_frame); exact rfl)
    | split
    | dsimp only

theorem State.endFence_frame (s : State) (t) (g) :
    SameExcept [.mem, .frm, .rgn, .wsk, .mc, .tl, .syn, .sch, .pwr, .stress, .evt, .att, .par, .obs, .cls, .arb,
      .tally] s (State.endFence s t g) := by
  unfold State.endFence
  repeat' first
    | with_reducible exact SameExcept.refl _ _
    | ((with_reducible apply SameExcept.step); (with_reducible first
          | apply State.sendSlot_frame | apply State.modTile_frame); exact rfl)
    | split
    | dsimp only

theorem State.fence_frame (s : State) (t) (g) :
    SameExcept [.mem, .frm, .rgn, .wsk, .mc, .tl, .syn, .sch, .pwr, .stress, .evt, .att, .par, .obs, .cls, .arb,
      .tally] s (State.fence s t g) := by
  unfold State.fence
  repeat' first
    | with_reducible exact SameExcept.refl _ _
    | ((with_reducible apply SameExcept.step); (with_reducible first
          | apply State.endFence_frame | apply State.modTile_frame); exact rfl)
    | split
    | dsimp only

theorem State.syEffect_frame (s : State) (t) (o) (was) (w) :
    SameExcept [.mem, .frm, .rgn, .wsk, .mc, .tl, .syn, .sch, .pwr, .stress, .evt, .att, .par, .obs, .cls, .arb,
      .tally] s (State.syEffect s t o was w) := by
  unfold State.syEffect
  repeat' first
    | with_reducible exact SameExcept.refl _ _
    | ((with_reducible apply SameExcept.step); (with_reducible first
          | apply State.tileBump_frame | apply State.fence_frame | apply State.sendSlot_frame
          | apply State.modTile_frame); exact rfl)
    | split
    | dsimp only

theorem State.issueCounts_frame (s : State) (t) (o) (b) :
    SameExcept [.obs, .tally, .free] s (State.issueCounts s t o b) := by
  unfold State.issueCounts
  repeat' first
    | with_reducible exact SameExcept.refl _ _
    | ((with_reducible apply SameExcept.step); (with_reducible first
          | apply State.sample_frame | apply State.tileBump_frame | apply State.spend_frame
          | apply State.tileCounts_frame | apply State.loadEvent_frame | apply State.skilletMag_frame); exact rfl)
    | split
    | dsimp only

theorem State.issueEffects_frame (s : State) (t) (b) :
    SameExcept [.mem, .frm, .rgn, .wsk, .mc, .tl, .syn, .sch, .pwr, .stress, .evt, .att, .par, .obs, .cls, .arb,
      .tally, .free] s (State.issueEffects s t b) := by
  unfold State.issueEffects
  repeat' first
    | with_reducible exact SameExcept.refl _ _
    | ((with_reducible apply SameExcept.step); (with_reducible first
          | apply State.syEffect_frame | apply State.setTile_frame | apply State.issueCounts_frame
          | apply State.arEffect_frame); exact rfl)
    | split
    | dsimp only

theorem State.issue_frame (s : State) (t) (b) :
    SameExcept [.mem, .frm, .rgn, .wsk, .mc, .tl, .syn, .sch, .pwr, .stress, .evt, .att, .par, .obs, .cls, .arb,
      .tally, .free] s (State.issue s t b) := by
  unfold State.issue
  repeat' first
    | with_reducible exact SameExcept.refl _ _
    | ((with_reducible apply SameExcept.step); (with_reducible first
          | apply State.bump_frame | apply State.tileBump_frame | apply State.issueEffects_frame
          | apply State.holdIssue_frame | apply State.tileFault_frame); exact rfl)
    | split
    | dsimp only

theorem State.issueNext_frame (s : State) (t) :
    SameExcept [.mem, .frm, .rgn, .wsk, .mc, .tl, .syn, .sch, .pwr, .stress, .evt, .att, .par, .obs, .cls, .arb,
      .tally, .free] s (State.issueNext s t) := by
  unfold State.issueNext
  repeat' first
    | with_reducible exact SameExcept.refl _ _
    | ((with_reducible apply SameExcept.step); (with_reducible apply State.issue_frame); exact rfl)
    | split
    | dsimp only

theorem State.rereadCtr_frame (s : State) (p) : SameExcept [.tl] s (State.rereadCtr s p) := by
  unfold State.rereadCtr
  repeat' first
    | with_reducible exact SameExcept.refl _ _
    | ((with_reducible apply SameExcept.step); (with_reducible apply State.modTile_frame); exact rfl)
    | split
    | dsimp only

theorem State.issueTiles_frame (s : State) (l) :
    SameExcept [.mem, .frm, .rgn, .wsk, .mc, .tl, .syn, .sch, .pwr, .stress, .evt, .att, .par, .obs, .cls, .arb,
      .tally, .free] s (State.issueTiles s l) := by
  unfold State.issueTiles
  repeat' first
    | with_reducible exact SameExcept.refl _ _
    | ((with_reducible apply SameExcept.step); (with_reducible first
          | apply State.rereadCtr_frame | apply State.issueNext_frame); exact rfl)
    | ((with_reducible apply SameExcept.foldl); intro _ _)
    | ((with_reducible apply SameExcept.foldlPair); intro _ _)
    | split
    | dsimp only

theorem State.issueEntry_frame (s : State) (l) :
    SameExcept [.mem, .frm, .rgn, .wsk, .mc, .tl, .syn, .sch, .pwr, .stress, .evt, .att, .par, .obs, .cls, .arb,
      .tally, .free] s (State.issueEntry s l) := by
  unfold State.issueEntry
  repeat' first
    | with_reducible exact SameExcept.refl _ _
    | ((with_reducible apply SameExcept.step); (with_reducible apply State.issueTiles_frame); exact rfl)
    | split
    | dsimp only

theorem State.healRaw_frame (s : State) (d) (ofs) (len) : SameExcept [.mem] s (State.healRaw s d ofs len) := by
  unfold State.healRaw
  repeat' first
    | with_reducible exact SameExcept.refl _ _
    | ((with_reducible apply SameExcept.step); (with_reducible apply State.store_frame); exact rfl)
    | ((with_reducible apply SameExcept.foldl); intro _ _)
    | ((with_reducible apply SameExcept.foldlPair); intro _ _)
    | split
    | dsimp only

theorem State.healMap_frame (s : State) (d) (ofs) (len) : SameExcept [.mem] s (State.healMap s d ofs len) := by
  unfold State.healMap
  repeat' first
    | with_reducible exact SameExcept.refl _ _
    | ((with_reducible apply SameExcept.step); (with_reducible apply State.healRaw_frame); exact rfl)
    | split
    | dsimp only

theorem State.rheal_frame (s : State) (d) (ofs) (len) : SameExcept [.mem] s (State.rheal s d ofs len) := by
  unfold State.rheal
  repeat' first
    | with_reducible exact SameExcept.refl _ _
    | ((with_reducible apply SameExcept.step); (with_reducible first
          | apply State.healRaw_frame | apply State.healMap_frame); exact rfl)
    | ((with_reducible apply SameExcept.foldl); intro _ _)
    | ((with_reducible apply SameExcept.foldlPair); intro _ _)
    | split
    | dsimp only

theorem State.dirtyFrom_frame (s : State) (desc) (d) (ord) (ofs) (len) :
    SameExcept [.rgn] s (State.dirtyFrom s desc d ord ofs len) := by
  unfold State.dirtyFrom
  repeat' first
    | with_reducible exact SameExcept.refl _ _
    | ((with_reducible apply SameExcept.step); (with_reducible apply State.modRgn_frame); exact rfl)
    | ((with_reducible apply SameExcept.foldl); intro _ _)
    | ((with_reducible apply SameExcept.foldlPair); intro _ _)
    | split
    | dsimp only

theorem State.dirtyLeaves_frame (s : State) (handle) (d) (ofs) (len) :
    SameExcept [.rgn] s (State.dirtyLeaves s handle d ofs len) := by
  unfold State.dirtyLeaves
  repeat' first
    | with_reducible exact SameExcept.refl _ _
    | ((with_reducible apply SameExcept.step); (with_reducible apply State.dirtyFrom_frame); exact rfl)
    | split
    | dsimp only

theorem State.rwrite_frame (s : State) (handle) (ofs) (b) (shadow) :
    SameExcept [.mem, .rgn] s (State.rwrite s handle ofs b shadow) := by
  unfold State.rwrite
  repeat' first
    | with_reducible exact SameExcept.refl _ _
    | ((with_reducible apply SameExcept.step); (with_reducible first
          | apply State.dirtyLeaves_frame | apply State.store_frame); exact rfl)
    | ((with_reducible apply SameExcept.foldl); intro _ _)
    | ((with_reducible apply SameExcept.foldlPair); intro _ _)
    | split
    | dsimp only

theorem State.setShadow_frame (s : State) (d) (ofs) (len) : SameExcept [.mem] s (State.setShadow s d ofs len) := by
  unfold State.setShadow
  repeat' first
    | with_reducible exact SameExcept.refl _ _
    | ((with_reducible apply SameExcept.step); (with_reducible apply State.rawWrite_frame); exact rfl)
    | ((with_reducible apply SameExcept.foldl); intro _ _)
    | ((with_reducible apply SameExcept.foldlPair); intro _ _)
    | split
    | dsimp only

theorem State.setLogHdr_frame (s : State) (d) (h) : SameExcept [.mem] s (State.setLogHdr s d h) := by
  unfold State.setLogHdr
  repeat' first
    | with_reducible exact SameExcept.refl _ _
    | ((with_reducible apply SameExcept.step); (with_reducible apply State.rawWrite_frame); exact rfl)
    | split
    | dsimp only

theorem State.setMapBit_frame (s : State) (d) (o) (p) (v) : SameExcept [.mem] s (State.setMapBit s d o p v) := by
  unfold State.setMapBit
  repeat' first
    | with_reducible exact SameExcept.refl _ _
    | ((with_reducible apply SameExcept.step); (with_reducible apply State.rawWrite_frame); exact rfl)
    | split
    | dsimp only

theorem State.setKvHdr_frame (s : State) (d) (h) : SameExcept [.mem] s (State.setKvHdr s d h) := by
  unfold State.setKvHdr
  repeat' first
    | with_reducible exact SameExcept.refl _ _
    | ((with_reducible apply SameExcept.step); (with_reducible apply State.rawWrite_frame); exact rfl)
    | split
    | dsimp only

theorem State.setKvCtx_frame (s : State) (d) (c) (w) : SameExcept [.mem] s (State.setKvCtx s d c w) := by
  unfold State.setKvCtx
  repeat' first
    | with_reducible exact SameExcept.refl _ _
    | ((with_reducible apply SameExcept.step); (with_reducible apply State.rawWrite_frame); exact rfl)
    | split
    | dsimp only

theorem State.fillTile_frame (s : State) (t) (r) (c) : SameExcept [.tl] s (State.fillTile s t r c) := by
  unfold State.fillTile
  repeat' first
    | with_reducible exact SameExcept.refl _ _
    | ((with_reducible apply SameExcept.step); (with_reducible apply State.modTile_frame); exact rfl)
    | split
    | dsimp only

theorem State.keepCheck_frame (s : State) (handle) (ofs) (g) :
    SameExcept [.rgn, .evt] s (State.keepCheck s handle ofs g) := by
  unfold State.keepCheck
  repeat' first
    | with_reducible exact SameExcept.refl _ _
    | ((with_reducible apply SameExcept.step); (with_reducible first
          | apply State.modRgn_frame | apply State.noteCause_frame); exact rfl)
    | split
    | dsimp only

theorem State.imgCheck_frame (s : State) (handle) (ofs) (d) :
    SameExcept [.rgn, .evt] s (State.imgCheck s handle ofs d) := by
  unfold State.imgCheck
  repeat' first
    | with_reducible exact SameExcept.refl _ _
    | ((with_reducible apply SameExcept.step); (with_reducible apply State.keepCheck_frame); exact rfl)
    | split
    | dsimp only

theorem State.loadImage_frame (s : State) (tiles) (handle) (ofs) (part) :
    SameExcept [.rgn, .tl, .evt] s (State.loadImage s tiles handle ofs part).1 := by
  unfold State.loadImage
  repeat' first
    | with_reducible exact SameExcept.refl _ _
    | ((with_reducible apply SameExcept.step); (with_reducible first
          | apply State.fillTile_frame | apply State.imgCheck_frame); exact rfl)
    | ((with_reducible apply SameExcept.foldl); intro _ _)
    | ((with_reducible apply SameExcept.foldlPair); intro _ _)
    | split
    | dsimp only

theorem State.loadLib_frame (s : State) (tiles) (number) (part) :
    SameExcept [.tl] s (State.loadLib s tiles number part).1 := by
  unfold State.loadLib
  repeat' first
    | with_reducible exact SameExcept.refl _ _
    | ((with_reducible apply SameExcept.step); (with_reducible apply State.fillTile_frame); exact rfl)
    | ((with_reducible apply SameExcept.foldl); intro _ _)
    | ((with_reducible apply SameExcept.foldlPair); intro _ _)
    | split
    | dsimp only

theorem State.giveStart_frame (s : State) (t) (g) :
    SameExcept [.tl, .pwr, .stress, .arb] s (State.giveStart s t g).1 := by
  unfold State.giveStart
  repeat' first
    | with_reducible exact SameExcept.refl _ _
    | ((with_reducible apply SameExcept.step); (with_reducible first
          | apply State.wakeDom_frame | apply State.setTile_frame); exact rfl)
    | split
    | dsimp only

theorem State.beginTile_frame (s : State) (t) (g) : SameExcept [.tl, .obs, .tally] s (State.beginTile s t g) := by
  unfold State.beginTile
  repeat' first
    | with_reducible exact SameExcept.refl _ _
    | ((with_reducible apply SameExcept.step); (with_reducible first
          | apply State.bump_frame | apply State.modTile_frame); exact rfl)
    | split
    | dsimp only

theorem State.restartTile_frame (s : State) (t) : SameExcept [.tl, .obs, .tally] s (State.restartTile s t) := by
  unfold State.restartTile
  repeat' first
    | with_reducible exact SameExcept.refl _ _
    | ((with_reducible apply SameExcept.step); (with_reducible apply State.beginTile_frame); exact rfl)
    | split
    | dsimp only

theorem State.resumeTile_frame (s : State) (t) : SameExcept [.tl] s (State.resumeTile s t) := by
  unfold State.resumeTile
  repeat' first
    | with_reducible exact SameExcept.refl _ _
    | ((with_reducible apply SameExcept.step); (with_reducible apply State.modTile_frame); exact rfl)
    | split
    | dsimp only

theorem State.settle_frame (s : State) (t) : SameExcept [.tl, .evt, .obs, .tally] s (State.settle s t) := by
  unfold State.settle
  repeat' first
    | with_reducible exact SameExcept.refl _ _
    | ((with_reducible apply SameExcept.step); (with_reducible first
          | apply State.enterFault_frame | apply State.setTile_frame); exact rfl)
    | split
    | dsimp only

theorem State.stopTile_frame (s : State) (t) : SameExcept [.tl, .evt, .obs, .tally] s (State.stopTile s t) := by
  unfold State.stopTile
  repeat' first
    | with_reducible exact SameExcept.refl _ _
    | ((with_reducible apply SameExcept.step); (with_reducible first
          | apply State.settle_frame | apply State.modTile_frame); exact rfl)
    | split
    | dsimp only

theorem State.whiskBump_frame (s : State) (q) (entry) (n) (part) :
    SameExcept [.obs, .tally] s (State.whiskBump s q entry n part) := by
  unfold State.whiskBump
  repeat' first
    | with_reducible exact SameExcept.refl _ _
    | ((with_reducible apply SameExcept.step); (with_reducible apply State.bumpP_frame); exact rfl)
    | split
    | dsimp only

theorem State.whiskSpread_frame (s : State) (x) (entry) (js) :
    SameExcept [.obs, .tally] s (State.whiskSpread s x entry js) := by
  unfold State.whiskSpread
  repeat' first
    | with_reducible exact SameExcept.refl _ _
    | ((with_reducible apply SameExcept.step); (with_reducible apply State.whiskBump_frame); exact rfl)
    | ((with_reducible apply SameExcept.foldl); intro _ _)
    | ((with_reducible apply SameExcept.foldlPair); intro _ _)
    | split
    | dsimp only

end Sys2Proof.Machine
end

