-- ==== Sys2Proof/Laws/FrameTile.lean ====
section
/-! SUPPORT. Frames: the groups of the state that each operation may change, one lemma per operation (Whisk, Mcast,
Log, Transfer, Param, Attend, Attention). -/

namespace Sys2Proof.Machine

theorem State.spillRead_frame (s : State) (ks) (any_) : SameExcept [.free] s (State.spillRead s ks any_).1 := by
  unfold State.spillRead
  repeat' first
    | with_reducible exact SameExcept.refl _ _
    | ((with_reducible apply SameExcept.step); (with_reducible apply State.spend_frame); exact rfl)
    | split
    | dsimp only

theorem State.accumulate_frame (s : State) (k) (x) (j0) (l) :
    SameExcept [.frm, .wsk, .obs, .cls, .tally] s (State.accumulate s k x j0 l) := by
  unfold State.accumulate
  repeat' first
    | with_reducible exact SameExcept.refl _ _
    | ((with_reducible apply SameExcept.step); (with_reducible first
          | apply State.setSlotRec_frame | apply State.whiskBump_frame | apply State.whiskSpread_frame
          | apply State.dropRoom_frame | apply State.chargeOp_frame | apply State.modWsk_frame); exact rfl)
    | ((with_reducible apply SameExcept.foldl); intro _ _)
    | ((with_reducible apply SameExcept.foldlPair); intro _ _)
    | split
    | dsimp only

theorem State.admitAccum_frame (s : State) (k) (h) : SameExcept [.wsk] s (State.admitAccum s k h) := by
  unfold State.admitAccum
  repeat' first
    | with_reducible exact SameExcept.refl _ _
    | ((with_reducible apply SameExcept.step); (with_reducible first
          | apply State.setSlotRec_frame | apply State.takeRoom_frame); exact rfl)
    | split
    | dsimp only

theorem State.openSlot_frame (s : State) (y) : SameExcept [.wsk] s (State.openSlot s y) := by
  unfold State.openSlot
  repeat' first
    | with_reducible exact SameExcept.refl _ _
    | ((with_reducible apply SameExcept.step); (with_reducible first
          | apply State.setSlotRec_frame | apply State.modWsk_frame); exact rfl)
    | split
    | dsimp only

theorem State.beginClose_frame (s : State) (x) : SameExcept [.wsk] s (State.beginClose s x) := by
  unfold State.beginClose
  repeat' first
    | with_reducible exact SameExcept.refl _ _
    | ((with_reducible apply SameExcept.step); (with_reducible apply State.setSlotRec_frame); exact rfl)
    | split
    | dsimp only

theorem State.admitRedClose_frame (s : State) (k) (h) : SameExcept [.wsk] s (State.admitRedClose s k h) := by
  unfold State.admitRedClose
  repeat' first
    | with_reducible exact SameExcept.refl _ _
    | ((with_reducible apply SameExcept.step); (with_reducible first
          | apply State.setSlotRec_frame | apply State.beginClose_frame); exact rfl)
    | split
    | dsimp only

theorem State.endClose_frame (s : State) (x) (code) (aux) :
    SameExcept [.mem, .frm, .rgn, .wsk, .mc, .syn, .sch, .pwr, .att, .par, .obs, .cls, .tally] s (State.endClose s x
      code aux) := by
  unfold State.endClose
  repeat' first
    | with_reducible exact SameExcept.refl _ _
    | ((with_reducible apply SameExcept.step); (with_reducible first
          | apply State.doneAll_frame | apply State.dropStorage_frame); exact rfl)
    | split
    | dsimp only

theorem State.closeIfFull_frame (s : State) (key) : SameExcept [.wsk] s (State.closeIfFull s key) := by
  unfold State.closeIfFull
  repeat' first
    | with_reducible exact SameExcept.refl _ _
    | ((with_reducible apply SameExcept.step); (with_reducible apply State.beginClose_frame); exact rfl)
    | split
    | dsimp only

theorem State.breakSlot_frame (s : State) (x) (f) (rule) :
    SameExcept [.mem, .frm, .rgn, .wsk, .mc, .syn, .sch, .pwr, .evt, .att, .par, .obs, .cls, .tally] s
      (State.breakSlot s x f rule) := by
  unfold State.breakSlot
  repeat' first
    | with_reducible exact SameExcept.refl _ _
    | ((with_reducible apply SameExcept.step); (with_reducible first
          | apply State.whiskBump_frame | apply State.finish_frame | apply State.mark_frame
          | apply State.dropStorage_frame); exact rfl)
    | ((with_reducible apply SameExcept.foldl); intro _ _)
    | ((with_reducible apply SameExcept.foldlPair); intro _ _)
    | split
    | dsimp only

theorem State.storageFails_frame (s : State) (x) (code) :
    SameExcept [.mem, .frm, .rgn, .wsk, .mc, .syn, .sch, .pwr, .evt, .att, .par, .obs, .cls, .tally] s
      (State.storageFails s x code) := by
  unfold State.storageFails
  repeat' first
    | with_reducible exact SameExcept.refl _ _
    | ((with_reducible apply SameExcept.step); (with_reducible apply State.breakSlot_frame); exact rfl)
    | split
    | dsimp only

theorem State.shortClose_frame (s : State) (x) :
    SameExcept [.mem, .frm, .rgn, .wsk, .mc, .syn, .sch, .pwr, .evt, .att, .par, .obs, .cls, .tally] s
      (State.shortClose s x) := by
  unfold State.shortClose
  repeat' first
    | with_reducible exact SameExcept.refl _ _
    | ((with_reducible apply SameExcept.step); (with_reducible first
          | apply State.whiskBump_frame | apply State.breakSlot_frame); exact rfl)
    | split
    | dsimp only

theorem State.closeDue_frame (s : State) (x) :
    SameExcept [.mem, .frm, .rgn, .wsk, .mc, .syn, .sch, .pwr, .evt, .att, .par, .obs, .cls, .tally] s (State.closeDue
      s x) := by
  unfold State.closeDue
  repeat' first
    | with_reducible exact SameExcept.refl _ _
    | ((with_reducible apply SameExcept.step); (with_reducible first
          | apply State.beginClose_frame | apply State.shortClose_frame); exact rfl)
    | split
    | dsimp only

theorem State.sendPartials_frame (s : State) (x) (d) :
    SameExcept [.mem, .frm, .rgn, .wsk, .mc, .syn, .sch, .pwr, .evt, .att, .par, .obs, .cls, .tally] s
      (State.sendPartials s x d) := by
  unfold State.sendPartials
  repeat' first
    | with_reducible exact SameExcept.refl _ _
    | ((with_reducible apply SameExcept.step); (with_reducible first
          | apply State.setSlotRec_frame | apply State.originate_frame | apply State.breakSlot_frame
          | apply State.noPeer_frame | apply State.modWsk_frame); exact rfl)
    | ((apply SameExcept.stepOpt (e := by assumption)); (with_reducible apply State.originate_frame); exact rfl)
    | ((with_reducible apply SameExcept.foldl); intro _ _)
    | ((with_reducible apply SameExcept.foldlPair); intro _ _)
    | split
    | dsimp only

theorem execAccum_frame (req) (seq) (s : State) :
    SameExcept [.mem, .frm, .rgn, .wsk, .mc, .syn, .sch, .pwr, .stress, .evt, .att, .par, .obs, .cls, .arb, .tally,
      .free] s (nextState (execAccum req seq s) s) := by
  unfold execAccum State.runLive
  repeat' first
    | with_reducible exact SameExcept.refl _ _
    | ((with_reducible apply SameExcept.step); (with_reducible first
          | apply State.spillRead_frame | apply State.accumulate_frame | apply State.whiskSpread_frame
          | apply State.done_frame | apply State.storageFails_frame | apply State.closeIfFull_frame
          | apply State.wakeFor_frame); exact rfl)
    | ((apply SameExcept.stepPair (e := by assumption)); (with_reducible apply State.spillRead_frame); exact rfl)
    | split
    | dsimp only [nextState]

theorem execWindowedPartialApply_frame (req) (seq) (s : State) :
    SameExcept [.mem, .frm, .rgn, .wsk, .mc, .syn, .sch, .pwr, .stress, .evt, .att, .par, .obs, .cls, .arb, .tally,
      .free] s (nextState (execWindowedPartialApply req seq s) s) := by
  unfold execWindowedPartialApply State.runLive
  repeat' first
    | with_reducible exact SameExcept.refl _ _
    | ((with_reducible apply SameExcept.step); (with_reducible first
          | apply State.spillRead_frame | apply State.setSlotRec_frame | apply State.whiskBump_frame
          | apply State.accumulate_frame | apply State.mark_frame | apply State.takeRoom_frame
          | apply State.done_frame | apply State.storageFails_frame | apply State.closeIfFull_frame
          | apply State.wakeFor_frame); exact rfl)
    | ((apply SameExcept.stepPair (e := by assumption)); (with_reducible apply State.spillRead_frame); exact rfl)
    | split
    | dsimp only [nextState]

theorem execRedOpen_frame (req) (seq) (s : State) :
    SameExcept [.mem, .frm, .rgn, .wsk, .mc, .syn, .sch, .pwr, .stress, .att, .par, .obs, .cls, .arb, .tally] s
      (nextState (execRedOpen req seq s) s) := by
  unfold execRedOpen State.runLive
  repeat' first
    | with_reducible exact SameExcept.refl _ _
    | ((with_reducible apply SameExcept.step); (with_reducible first
          | apply State.done_frame | apply State.wakeFor_frame); exact rfl)
    | split
    | dsimp only [nextState]

theorem execRedClose_frame (req) (seq) (s : State) :
    SameExcept [.mem, .frm, .rgn, .wsk, .mc, .syn, .sch, .pwr, .stress, .att, .par, .obs, .cls, .arb, .tally] s
      (nextState (execRedClose req seq s) s) := by
  unfold execRedClose State.runLive
  repeat' first
    | with_reducible exact SameExcept.refl _ _
    | ((with_reducible apply SameExcept.step); (with_reducible first
          | apply State.done_frame | apply State.begin_frame | apply State.wakeFor_frame); exact rfl)
    | split
    | dsimp only [nextState]

theorem execSlotWaitExpiry_frame (part) (slot) (s : State) :
    SameExcept [.mem, .frm, .rgn, .wsk, .mc, .syn, .sch, .pwr, .evt, .att, .par, .obs, .cls, .tally] s
      (nextState (execSlotWaitExpiry part slot s) s) := by
  unfold execSlotWaitExpiry State.runLive
  repeat' first
    | with_reducible exact SameExcept.refl _ _
    | ((with_reducible apply SameExcept.step); (with_reducible apply State.closeDue_frame); exact rfl)
    | split
    | dsimp only [nextState]

theorem execSlotCloseFtc_frame (part) (slot) (s : State) :
    SameExcept [.mem, .frm, .rgn, .wsk, .mc, .syn, .sch, .pwr, .evt, .att, .par, .obs, .cls, .tally] s
      (nextState (execSlotCloseFtc part slot s) s) := by
  unfold execSlotCloseFtc State.runLive
  repeat' first
    | with_reducible exact SameExcept.refl _ _
    | ((with_reducible apply SameExcept.step); (with_reducible apply State.closeDue_frame); exact rfl)
    | split
    | dsimp only [nextState]

theorem State.partialGone_frame (s : State) (key) (close) :
    SameExcept [.mem, .frm, .rgn, .wsk, .mc, .syn, .sch, .pwr, .evt, .att, .par, .obs, .cls, .tally] s
      (State.partialGone s key close) := by
  unfold State.partialGone
  repeat' first
    | with_reducible exact SameExcept.refl _ _
    | ((with_reducible apply SameExcept.step); (with_reducible apply State.breakSlot_frame); exact rfl)
    | split
    | dsimp only

theorem execPartialAnswer_frame (ep) (seq) (code) (orig) (s : State) :
    SameExcept [.mem, .frm, .rgn, .wsk, .mc, .syn, .sch, .pwr, .evt, .att, .par, .obs, .cls, .tally] s
      (nextState (execPartialAnswer ep seq code orig s) s) := by
  unfold execPartialAnswer State.runLive
  repeat' first
    | with_reducible exact SameExcept.refl _ _
    | ((with_reducible apply SameExcept.step); (with_reducible first
          | apply State.setSlotRec_frame | apply State.partialGone_frame | apply State.endClose_frame
          | apply State.endOrig_frame | apply State.resendOrig_frame | apply State.lateAnswer_frame); exact rfl)
    | split
    | dsimp only [nextState]

theorem State.setDelivs_frame (s : State) (l) : SameExcept [.mc] s (State.setDelivs s l) := by
  unfold State.setDelivs
  repeat' first
    | with_reducible exact SameExcept.refl _ _
    | ((with_reducible apply SameExcept.step); (with_reducible apply State.modMc_frame); exact rfl)
    | split
    | dsimp only

theorem State.mcAnswer_frame (s : State) (k) :
    SameExcept [.mem, .frm, .rgn, .wsk, .mc, .syn, .sch, .pwr, .att, .par, .obs, .cls, .tally] s (State.mcAnswer s k)
      := by
  unfold State.mcAnswer
  repeat' first
    | with_reducible exact SameExcept.refl _ _
    | ((with_reducible apply SameExcept.step); (with_reducible first
          | apply State.done_frame | apply State.modMc_frame); exact rfl)
    | split
    | dsimp only

theorem State.dropDeliv_frame (s : State) (d) : SameExcept [.mc] s (State.dropDeliv s d) := by
  unfold State.dropDeliv
  repeat' first
    | with_reducible exact SameExcept.refl _ _
    | ((with_reducible apply SameExcept.step); (with_reducible apply State.modMc_frame); exact rfl)
    | split
    | dsimp only

theorem State.readyNext_frame (s : State) (d) : SameExcept [.mc] s (State.readyNext s d) := by
  unfold State.readyNext
  repeat' first
    | with_reducible exact SameExcept.refl _ _
    | ((with_reducible apply SameExcept.step); (with_reducible apply State.setDelivs_frame); exact rfl)
    | split
    | dsimp only

theorem State.noteLate_frame (s : State) (d) :
    SameExcept [.mem, .frm, .rgn, .wsk, .mc, .syn, .sch, .pwr, .evt, .att, .par, .obs, .cls, .tally] s (State.noteLate
      s d) := by
  unfold State.noteLate
  repeat' first
    | with_reducible exact SameExcept.refl _ _
    | ((with_reducible apply SameExcept.step); (with_reducible first
          | apply State.note_frame | apply State.mark_frame); exact rfl)
    | split
    | dsimp only

theorem State.enterOwed_frame (s : State) (d) :
    SameExcept [.mem, .frm, .rgn, .wsk, .mc, .syn, .sch, .pwr, .evt, .att, .par, .obs, .cls, .tally] s
      (State.enterOwed s d) := by
  unfold State.enterOwed
  repeat' first
    | with_reducible exact SameExcept.refl _ _
    | ((with_reducible apply SameExcept.step); (with_reducible first
          | apply State.whiskBump_frame | apply State.readyNext_frame | apply State.mark_frame
          | apply State.setDelivs_frame | apply State.dropDeliv_frame | apply State.noteLate_frame); exact rfl)
    | split
    | dsimp only

theorem State.sendDeliv_frame (s : State) (d) (p) (alt) :
    SameExcept [.frm, .mc, .obs, .cls, .tally] s (State.sendDeliv s d p alt) := by
  unfold State.sendDeliv
  repeat' first
    | with_reducible exact SameExcept.refl _ _
    | ((with_reducible apply SameExcept.step); (with_reducible first
          | apply State.stage_frame | apply State.chargeClass_frame | apply State.modMc_frame); exact rfl)
    | split
    | dsimp only

theorem State.unstage_frame (s : State) (d) : SameExcept [.frm] s (State.unstage s d) := by
  unfold State.unstage
  repeat' first
    | with_reducible exact SameExcept.refl _ _
    | ((with_reducible apply SameExcept.step); (with_reducible apply State.modFrm_frame); exact rfl)
    | split
    | dsimp only

theorem State.delivered_frame (s : State) (r) :
    SameExcept [.mem, .frm, .rgn, .wsk, .mc, .syn, .sch, .pwr, .att, .par, .obs, .cls, .tally] s (State.delivered s r)
      := by
  unfold State.delivered
  repeat' first
    | with_reducible exact SameExcept.refl _ _
    | ((with_reducible apply SameExcept.step); (with_reducible first
          | apply State.mcAnswer_frame | apply State.whiskBump_frame | apply State.readyNext_frame
          | apply State.setDelivs_frame | apply State.modFrm_frame); exact rfl)
    | split
    | dsimp only

theorem State.undelivered_frame (s : State) (r) :
    SameExcept [.mem, .frm, .rgn, .wsk, .mc, .syn, .sch, .pwr, .evt, .att, .par, .obs, .cls, .tally] s
      (State.undelivered s r) := by
  unfold State.undelivered
  repeat' first
    | with_reducible exact SameExcept.refl _ _
    | ((with_reducible apply SameExcept.step); (with_reducible first
          | apply State.mcAnswer_frame | apply State.setDelivs_frame | apply State.enterOwed_frame); exact rfl)
    | split
    | dsimp only

theorem execMcast_frame (req) (seq) (s : State) :
    SameExcept [.mem, .frm, .rgn, .wsk, .mc, .syn, .sch, .pwr, .stress, .evt, .att, .par, .obs, .cls, .arb, .tally] s
      (nextState (execMcast req seq s) s) := by
  unfold execMcast State.runLive
  repeat' first
    | with_reducible exact SameExcept.refl _ _
    | ((with_reducible apply SameExcept.step); (with_reducible first
          | apply State.rheal_frame | apply State.rwrite_frame | apply State.mcAnswer_frame | apply State.done_frame
          | apply State.chargeOp_frame | apply State.begin_frame | apply State.wakeFor_frame
          | apply State.enterOwed_frame | apply State.modMc_frame); exact rfl)
    | ((with_reducible apply SameExcept.foldl); intro _ _)
    | ((with_reducible apply SameExcept.foldlPair); intro _ _)
    | split
    | dsimp only [nextState]

theorem execMcastDelivery_frame (group) (step) (member) (ofs) (s : State) :
    SameExcept [.frm, .mc, .obs, .cls, .tally] s (nextState (execMcastDelivery group step member ofs s) s) := by
  unfold execMcastDelivery State.runLive
  repeat' first
    | with_reducible exact SameExcept.refl _ _
    | ((with_reducible apply SameExcept.step); (with_reducible apply State.sendDeliv_frame); exact rfl)
    | split
    | dsimp only [nextState]

theorem State.retryFailed_frame (s : State) (d) :
    SameExcept [.frm, .mc, .obs, .cls, .tally] s (State.retryFailed s d) := by
  unfold State.retryFailed
  repeat' first
    | with_reducible exact SameExcept.refl _ _
    | ((with_reducible apply SameExcept.step); (with_reducible first
          | apply State.setDelivs_frame | apply State.unstage_frame | apply State.sendDeliv_frame); exact rfl)
    | split
    | dsimp only

theorem State.oweExpire_frame (s : State) (d) :
    SameExcept [.mem, .frm, .rgn, .wsk, .mc, .syn, .sch, .pwr, .evt, .att, .par, .obs, .cls, .tally] s
      (State.oweExpire s d) := by
  unfold State.oweExpire
  repeat' first
    | with_reducible exact SameExcept.refl _ _
    | ((with_reducible apply SameExcept.step); (with_reducible first
          | apply State.mcAnswer_frame | apply State.unstage_frame | apply State.retryFailed_frame
          | apply State.enterOwed_frame); exact rfl)
    | split
    | dsimp only

theorem execOweWaitExpiry_frame (group) (step) (member) (ofs) (s : State) :
    SameExcept [.mem, .frm, .rgn, .wsk, .mc, .syn, .sch, .pwr, .evt, .att, .par, .obs, .cls, .tally] s
      (nextState (execOweWaitExpiry group step member ofs s) s) := by
  unfold execOweWaitExpiry State.runLive
  repeat' first
    | with_reducible exact SameExcept.refl _ _
    | ((with_reducible apply SameExcept.step); (with_reducible apply State.oweExpire_frame); exact rfl)
    | split
    | dsimp only [nextState]

theorem State.oweStale_frame (s : State) (p) :
    SameExcept [.mem, .frm, .rgn, .wsk, .mc, .syn, .sch, .pwr, .evt, .att, .par, .obs, .cls, .tally] s (State.oweStale
      s p) := by
  unfold State.oweStale
  repeat' first
    | with_reducible exact SameExcept.refl _ _
    | ((with_reducible apply SameExcept.step); (with_reducible apply State.oweExpire_frame); exact rfl)
    | ((with_reducible apply SameExcept.foldl); intro _ _)
    | ((with_reducible apply SameExcept.foldlPair); intro _ _)
    | split
    | dsimp only

theorem execOweRetry_frame (group) (step) (member) (ofs) (s : State) :
    SameExcept [.frm, .mc, .obs, .cls, .tally] s (nextState (execOweRetry group step member ofs s) s) := by
  unfold execOweRetry State.runLive
  repeat' first
    | with_reducible exact SameExcept.refl _ _
    | ((with_reducible apply SameExcept.step); (with_reducible first
          | apply State.setDelivs_frame | apply State.sendDeliv_frame); exact rfl)
    | split
    | dsimp only [nextState]

theorem State.dropLate_frame (s : State) (d) : SameExcept [.frm, .mc, .evt] s (State.dropLate s d) := by
  unfold State.dropLate
  repeat' first
    | with_reducible exact SameExcept.refl _ _
    | ((with_reducible apply SameExcept.step); (with_reducible first
          | apply State.note_frame | apply State.unstage_frame | apply State.dropDeliv_frame); exact rfl)
    | split
    | dsimp only

theorem execMcastDeadline_frame (part) (step) (s : State) :
    SameExcept [.mem, .frm, .rgn, .wsk, .mc, .syn, .sch, .pwr, .evt, .att, .par, .obs, .cls, .tally] s
      (nextState (execMcastDeadline part step s) s) := by
  unfold execMcastDeadline State.runLive
  repeat' first
    | with_reducible exact SameExcept.refl _ _
    | ((with_reducible apply SameExcept.step); (with_reducible first
          | apply State.dropLate_frame | apply State.mark_frame); exact rfl)
    | ((with_reducible apply SameExcept.foldl); intro _ _)
    | ((with_reducible apply SameExcept.foldlPair); intro _ _)
    | split
    | dsimp only [nextState]

theorem State.claimPages_frame (s : State) (y) : SameExcept [.mem, .par] s (State.claimPages s y) := by
  unfold State.claimPages
  repeat' first
    | with_reducible exact SameExcept.refl _ _
    | ((with_reducible apply SameExcept.step); (with_reducible first
          | apply State.modPar_frame | apply State.setMapBit_frame | apply State.rawWrite_frame); exact rfl)
    | ((with_reducible apply SameExcept.foldl); intro _ _)
    | ((with_reducible apply SameExcept.foldlPair); intro _ _)
    | split
    | dsimp only

theorem State.admitRedOpen_frame (s : State) (h) : SameExcept [.mem, .wsk, .par] s (State.admitRedOpen s h) := by
  unfold State.admitRedOpen
  repeat' first
    | with_reducible exact SameExcept.refl _ _
    | ((with_reducible apply SameExcept.step); (with_reducible first
          | apply State.openSlot_frame | apply State.claimPages_frame); exact rfl)
    | split
    | dsimp only

theorem State.setMirrored_frame (s : State) (desc) (ix) (step) (pages) :
    SameExcept [.par] s (State.setMirrored s desc ix step pages) := by
  unfold State.setMirrored
  repeat' first
    | with_reducible exact SameExcept.refl _ _
    | ((with_reducible apply SameExcept.step); (with_reducible apply State.modPar_frame); exact rfl)
    | ((with_reducible apply SameExcept.foldl); intro _ _)
    | ((with_reducible apply SameExcept.foldlPair); intro _ _)
    | split
    | dsimp only

theorem State.mirrorFrame_frame (s : State) (d) (id) (part) (step) (ofs) (len) :
    SameExcept [.mem, .frm, .rgn, .wsk, .mc, .syn, .sch, .pwr, .evt, .att, .par, .obs, .cls, .tally] s
      (State.mirrorFrame s d id part step ofs len).1 := by
  unfold State.mirrorFrame
  repeat' first
    | with_reducible exact SameExcept.refl _ _
    | ((with_reducible apply SameExcept.step); (with_reducible first
          | apply State.originate_frame | apply State.mark_frame | apply State.noPeer_frame); exact rfl)
    | ((apply SameExcept.stepOpt (e := by assumption)); (with_reducible apply State.originate_frame); exact rfl)
    | split
    | dsimp only

theorem State.startMirror_frame (s : State) (desc) (ix) (part) (step) (ofs) (len) (pages) :
    SameExcept [.mem, .frm, .rgn, .wsk, .mc, .syn, .sch, .pwr, .evt, .att, .par, .obs, .cls, .tally] s
      (State.startMirror s desc ix part step ofs len pages) := by
  unfold State.startMirror
  repeat' first
    | with_reducible exact SameExcept.refl _ _
    | ((with_reducible apply SameExcept.step); (with_reducible first
          | apply State.modPar_frame | apply State.mirrorFrame_frame | apply State.setMirrored_frame); exact rfl)
    | ((apply SameExcept.stepPair (e := by assumption)); (with_reducible apply State.mirrorFrame_frame); exact rfl)
    | ((with_reducible apply SameExcept.foldl); intro _ _)
    | ((with_reducible apply SameExcept.foldlPair); intro _ _)
    | split
    | dsimp only

theorem State.mirrorHeader_frame (s : State) (desc) (ix) (part) (step) :
    SameExcept [.mem, .frm, .rgn, .wsk, .mc, .syn, .sch, .pwr, .evt, .att, .par, .obs, .cls, .tally] s
      (State.mirrorHeader s desc ix part step) := by
  unfold State.mirrorHeader
  repeat' first
    | with_reducible exact SameExcept.refl _ _
    | ((with_reducible apply SameExcept.step); (with_reducible apply State.startMirror_frame); exact rfl)
    | split
    | dsimp only

theorem State.logClosed_frame (s : State) (x) :
    SameExcept [.mem, .frm, .rgn, .wsk, .mc, .syn, .sch, .pwr, .evt, .att, .par, .obs, .cls, .tally] s
      (State.logClosed s x) := by
  unfold State.logClosed
  repeat' first
    | with_reducible exact SameExcept.refl _ _
    | ((with_reducible apply SameExcept.step); (with_reducible first
          | apply State.setMapBit_frame | apply State.startMirror_frame); exact rfl)
    | ((with_reducible apply SameExcept.foldl); intro _ _)
    | ((with_reducible apply SameExcept.foldlPair); intro _ _)
    | split
    | dsimp only

theorem State.closeOwner_frame (s : State) (x) :
    SameExcept [.mem, .frm, .rgn, .wsk, .mc, .syn, .sch, .pwr, .evt, .att, .par, .obs, .cls, .tally] s
      (State.closeOwner s x) := by
  unfold State.closeOwner
  repeat' first
    | with_reducible exact SameExcept.refl _ _
    | ((with_reducible apply SameExcept.step); (with_reducible first
          | apply State.rwrite_frame | apply State.logClosed_frame | apply State.endClose_frame
          | apply State.whiskSpread_frame | apply State.mark_frame | apply State.chargeOp_frame); exact rfl)
    | split
    | dsimp only

theorem execSlotClose_frame (part) (slot) (s : State) :
    SameExcept [.mem, .frm, .rgn, .wsk, .mc, .syn, .sch, .pwr, .evt, .att, .par, .obs, .cls, .tally, .free] s
      (nextState (execSlotClose part slot s) s) := by
  unfold execSlotClose State.runLive
  repeat' first
    | with_reducible exact SameExcept.refl _ _
    | ((with_reducible apply SameExcept.step); (with_reducible first
          | apply State.spillRead_frame | apply State.sendPartials_frame | apply State.closeOwner_frame
          | apply State.storageFails_frame | apply State.shortClose_frame); exact rfl)
    | ((apply SameExcept.stepPair (e := by assumption)); (with_reducible apply State.spillRead_frame); exact rfl)
    | split
    | dsimp only [nextState]

theorem State.xferStart_frame (s : State) (t) : SameExcept [.tl, .evt, .obs, .tally] s (State.xferStart s t) := by
  unfold State.xferStart
  repeat' first
    | with_reducible exact SameExcept.refl _ _
    | ((with_reducible apply SameExcept.step); (with_reducible first
          | apply State.tileBump_frame | apply State.settle_frame | apply State.modTile_frame
          | apply State.asyncFault_frame); exact rfl)
    | split
    | dsimp only

theorem State.xferPoison_frame (s : State) (t) (g) (d) : SameExcept [.mem, .tl] s (State.xferPoison s t g d) := by
  unfold State.xferPoison
  repeat' first
    | with_reducible exact SameExcept.refl _ _
    | ((with_reducible apply SameExcept.step); (with_reducible first
          | apply State.modMem_frame | apply State.modTile_frame); exact rfl)
    | split
    | dsimp only

theorem State.chargeXfer_frame (s : State) (t) (d) :
    SameExcept [.tl, .obs, .cls, .tally] s (State.chargeXfer s t d) := by
  unfold State.chargeXfer
  repeat' first
    | with_reducible exact SameExcept.refl _ _
    | ((with_reducible apply SameExcept.step); (with_reducible first
          | apply State.chargeClass_frame | apply State.modTile_frame); exact rfl)
    | split
    | dsimp only

theorem State.dmWrite_frame (s : State) (t) (a) (b) : SameExcept [.tl] s (State.dmWrite s t a b) := by
  unfold State.dmWrite
  repeat' first
    | with_reducible exact SameExcept.refl _ _
    | ((with_reducible apply SameExcept.step); (with_reducible apply State.modTile_frame); exact rfl)
    | split
    | dsimp only

theorem State.xferMove_frame (s : State) (t) (d) :
    SameExcept [.mem, .rgn, .tl, .par, .obs, .tally] s (State.xferMove s t d) := by
  unfold State.xferMove
  repeat' first
    | with_reducible exact SameExcept.refl _ _
    | ((with_reducible apply SameExcept.step); (with_reducible first
          | apply State.modPar_frame | apply State.bump_frame | apply State.rheal_frame | apply State.rwrite_frame
          | apply State.xferPoison_frame | apply State.setShadow_frame | apply State.dmWrite_frame); exact rfl)
    | ((with_reducible apply SameExcept.foldl); intro _ _)
    | ((with_reducible apply SameExcept.foldlPair); intro _ _)
    | split
    | dsimp only

theorem State.xferSignal_frame (s : State) (t) (d) :
    SameExcept [.tl, .pwr, .stress, .evt, .obs, .arb, .tally] s (State.xferSignal s t d) := by
  unfold State.xferSignal
  repeat' first
    | with_reducible exact SameExcept.refl _ _
    | ((with_reducible apply SameExcept.step); (with_reducible first
          | apply State.bump_frame | apply State.sendSig_frame | apply State.asyncFault_frame); exact rfl)
    | split
    | dsimp only

theorem State.xferCounts_frame (s : State) (t) (d) : SameExcept [.tl, .obs, .tally] s (State.xferCounts s t d) := by
  unfold State.xferCounts
  repeat' first
    | with_reducible exact SameExcept.refl _ _
    | ((with_reducible apply SameExcept.step); (with_reducible first
          | apply State.sample_frame | apply State.tileBump_frame | apply State.skilletMag_frame
          | apply State.modTile_frame); exact rfl)
    | split
    | dsimp only

theorem State.xferEnd_frame (s : State) (t) :
    SameExcept [.mem, .rgn, .tl, .pwr, .stress, .evt, .par, .obs, .cls, .arb, .tally] s (State.xferEnd s t) := by
  unfold State.xferEnd
  repeat' first
    | with_reducible exact SameExcept.refl _ _
    | ((with_reducible apply SameExcept.step); (with_reducible first
          | apply State.xferCounts_frame | apply State.xferMove_frame | apply State.settle_frame
          | apply State.xferSignal_frame | apply State.modTile_frame | apply State.chargeXfer_frame); exact rfl)
    | split
    | dsimp only

theorem State.fenceEnd_frame (s : State) (t) :
    SameExcept [.mem, .frm, .rgn, .wsk, .mc, .tl, .syn, .sch, .pwr, .stress, .evt, .att, .par, .obs, .cls, .arb,
      .tally] s (State.fenceEnd s t) := by
  unfold State.fenceEnd
  repeat' first
    | with_reducible exact SameExcept.refl _ _
    | ((with_reducible apply SameExcept.step); (with_reducible first
          | apply State.endFence_frame | apply State.settle_frame | apply State.modTile_frame); exact rfl)
    | split
    | dsimp only

theorem State.mmaNext_frame (s : State) (t) : SameExcept [.tl, .evt, .obs, .tally] s (State.mmaNext s t) := by
  unfold State.mmaNext
  repeat' first
    | with_reducible exact SameExcept.refl _ _
    | ((with_reducible apply SameExcept.step); (with_reducible first
          | apply State.settle_frame | apply State.mmaTurn_frame); exact rfl)
    | split
    | dsimp only

theorem State.xferFreed_frame (s : State) (t) :
    SameExcept [.mem, .frm, .rgn, .wsk, .mc, .tl, .syn, .sch, .pwr, .stress, .evt, .att, .par, .obs, .cls, .arb,
      .tally, .free] s (State.xferFreed s t) := by
  unfold State.xferFreed
  repeat' first
    | with_reducible exact SameExcept.refl _ _
    | ((with_reducible apply SameExcept.step); (with_reducible apply State.issueTiles_frame); exact rfl)
    | split
    | dsimp only

theorem execTransferStart_frame (tile) (s : State) :
    SameExcept [.mem, .frm, .rgn, .wsk, .mc, .tl, .syn, .sch, .pwr, .stress, .evt, .att, .par, .obs, .cls, .arb,
      .tally, .free] s (nextState (execTransferStart tile s) s) := by
  unfold execTransferStart State.runLive
  repeat' first
    | with_reducible exact SameExcept.refl _ _
    | ((with_reducible apply SameExcept.step); (with_reducible first
          | apply State.xferFreed_frame | apply State.xferStart_frame); exact rfl)
    | split
    | dsimp only [nextState]

theorem execTransferComplete_frame (tile) (s : State) :
    SameExcept [.mem, .rgn, .tl, .pwr, .stress, .evt, .par, .obs, .cls, .arb, .tally] s
      (nextState (execTransferComplete tile s) s) := by
  unfold execTransferComplete State.runLive
  repeat' first
    | with_reducible exact SameExcept.refl _ _
    | ((with_reducible apply SameExcept.step); (with_reducible apply State.xferEnd_frame); exact rfl)
    | split
    | dsimp only [nextState]

theorem execMmaStart_frame (tile) (s : State) :
    SameExcept [.tl, .evt, .obs, .tally] s (nextState (execMmaStart tile s) s) := by
  unfold execMmaStart State.runLive
  repeat' first
    | with_reducible exact SameExcept.refl _ _
    | ((with_reducible apply SameExcept.step); (with_reducible apply State.mmaNext_frame); exact rfl)
    | split
    | dsimp only [nextState]

theorem execFenceComplete_frame (tile) (s : State) :
    SameExcept [.mem, .frm, .rgn, .wsk, .mc, .tl, .syn, .sch, .pwr, .stress, .evt, .att, .par, .obs, .cls, .arb,
      .tally] s (nextState (execFenceComplete tile s) s) := by
  unfold execFenceComplete State.runLive
  repeat' first
    | with_reducible exact SameExcept.refl _ _
    | ((with_reducible apply SameExcept.step); (with_reducible apply State.fenceEnd_frame); exact rfl)
    | split
    | dsimp only [nextState]

theorem State.wakeRun_frame (s : State) (tiles) : SameExcept [.pwr, .stress, .arb] s (State.wakeRun s tiles).1 := by
  unfold State.wakeRun
  repeat' first
    | with_reducible exact SameExcept.refl _ _
    | ((with_reducible apply SameExcept.step); (with_reducible apply State.wakeDom_frame); exact rfl)
    | ((with_reducible apply SameExcept.foldl); intro _ _)
    | ((with_reducible apply SameExcept.foldlPair); intro _ _)
    | split
    | dsimp only

theorem State.setsLoaded_frame (s : State) (first) (count) (handle) (ofs) (good) :
    SameExcept [.att] s (State.setsLoaded s first count handle ofs good) := by
  unfold State.setsLoaded
  repeat' first
    | with_reducible exact SameExcept.refl _ _
    | ((with_reducible apply SameExcept.step); (with_reducible apply State.modAtt_frame); exact rfl)
    | ((with_reducible apply SameExcept.foldl); intro _ _)
    | ((with_reducible apply SameExcept.foldlPair); intro _ _)
    | split
    | dsimp only

theorem execTileLoad_frame (first) (count) (handle) (ofs) (part) (s : State) :
    SameExcept [.rgn, .tl, .pwr, .stress, .evt, .att, .arb] s (nextState (execTileLoad first count handle ofs part s)
      s) := by
  unfold execTileLoad State.runLive
  repeat' first
    | with_reducible exact SameExcept.refl _ _
    | ((with_reducible apply SameExcept.step); (with_reducible first
          | apply State.setsLoaded_frame | apply State.loadImage_frame | apply State.wakeRun_frame); exact rfl)
    | ((apply SameExcept.stepPair (e := by assumption)); (with_reducible first
          | apply State.loadImage_frame | apply State.wakeRun_frame); exact rfl)
    | split
    | dsimp only [nextState]

theorem execImageHashCheck_frame (desc) (ofs) (s : State) :
    SameExcept [.rgn, .evt] s (nextState (execImageHashCheck desc ofs s) s) := by
  unfold execImageHashCheck State.runDuty
  repeat' first
    | with_reducible exact SameExcept.refl _ _
    | ((with_reducible apply SameExcept.step); (with_reducible apply State.imgCheck_frame); exact rfl)
    | split
    | dsimp only [nextState]

theorem State.refuseStart_frame (s : State) (t) : SameExcept [.tl, .evt] s (State.refuseStart s t) := by
  unfold State.refuseStart
  repeat' first
    | with_reducible exact SameExcept.refl _ _
    | ((with_reducible apply SameExcept.step); (with_reducible first
          | apply State.note_frame | apply State.modTile_frame); exact rfl)
    | split
    | dsimp only

theorem execTileStart_frame (tile) (s : State) :
    SameExcept [.mem, .frm, .rgn, .wsk, .mc, .tl, .syn, .sch, .pwr, .stress, .evt, .att, .par, .obs, .cls, .arb,
      .tally, .free] s (nextState (execTileStart tile s) s) := by
  unfold execTileStart State.runLive
  repeat' first
    | with_reducible exact SameExcept.refl _ _
    | ((with_reducible apply SameExcept.step); (with_reducible first
          | apply State.restartTile_frame | apply State.resumeTile_frame | apply State.refuseStart_frame
          | apply State.issueEntry_frame | apply State.beginTile_frame); exact rfl)
    | split
    | dsimp only [nextState]

theorem execTileStop_frame (tile) (s : State) :
    SameExcept [.tl, .evt, .obs, .tally] s (nextState (execTileStop tile s) s) := by
  unfold execTileStop State.runLive
  repeat' first
    | with_reducible exact SameExcept.refl _ _
    | ((with_reducible apply SameExcept.step); (with_reducible apply State.stopTile_frame); exact rfl)
    | split
    | dsimp only [nextState]

theorem State.saveTile_frame (s : State) (t) (p4) : SameExcept [.tl] s (State.saveTile s t p4) := by
  unfold State.saveTile
  repeat' first
    | with_reducible exact SameExcept.refl _ _
    | ((with_reducible apply SameExcept.step); (with_reducible first
          | apply State.fillTile_frame | apply State.modTl_frame); exact rfl)
    | split
    | dsimp only

theorem execTileSave_frame (tile) (s : State) : SameExcept [.tl] s (nextState (execTileSave tile s) s) := by
  unfold execTileSave State.runLive
  repeat' first
    | with_reducible exact SameExcept.refl _ _
    | ((with_reducible apply SameExcept.step); (with_reducible apply State.saveTile_frame); exact rfl)
    | split
    | dsimp only [nextState]

theorem State.restoreTile_frame (s : State) (t) :
    SameExcept [.mem, .frm, .rgn, .wsk, .mc, .tl, .syn, .sch, .pwr, .evt, .att, .par, .obs, .cls, .tally] s
      (State.restoreTile s t) := by
  unfold State.restoreTile
  repeat' first
    | with_reducible exact SameExcept.refl _ _
    | ((with_reducible apply SameExcept.step); (with_reducible first
          | apply State.markStep_frame | apply State.modTl_frame | apply State.modTile_frame); exact rfl)
    | split
    | dsimp only

theorem execTileRestore_frame (tile) (s : State) :
    SameExcept [.mem, .frm, .rgn, .wsk, .mc, .tl, .syn, .sch, .pwr, .evt, .att, .par, .obs, .cls, .tally] s
      (nextState (execTileRestore tile s) s) := by
  unfold execTileRestore State.runLive
  repeat' first
    | with_reducible exact SameExcept.refl _ _
    | ((with_reducible apply SameExcept.step); (with_reducible apply State.restoreTile_frame); exact rfl)
    | split
    | dsimp only [nextState]

theorem execTileDiscard_frame (tile) (s : State) : SameExcept [.tl] s (nextState (execTileDiscard tile s) s) := by
  unfold execTileDiscard State.runLive
  repeat' first
    | with_reducible exact SameExcept.refl _ _
    | ((with_reducible apply SameExcept.step); (with_reducible first
          | apply State.fillTile_frame | apply State.modTl_frame); exact rfl)
    | split
    | dsimp only [nextState]

theorem execTileSleep_frame (tile) (s : State) :
    SameExcept [.tl, .obs, .tally] s (nextState (execTileSleep tile s) s) := by
  unfold execTileSleep State.runLive
  repeat' first
    | with_reducible exact SameExcept.refl _ _
    | ((with_reducible apply SameExcept.step); (with_reducible first
          | apply State.tileBump_frame | apply State.modTile_frame); exact rfl)
    | split
    | dsimp only [nextState]

theorem State.setUpd_frame (s : State) (u) (x) : SameExcept [.par] s (State.setUpd s u x) := by
  unfold State.setUpd
  repeat' first
    | with_reducible exact SameExcept.refl _ _
    | ((with_reducible apply SameExcept.step); (with_reducible apply State.modPar_frame); exact rfl)
    | split
    | dsimp only

theorem State.openRegion_frame (s : State) (d) (step) : SameExcept [.mem] s (State.openRegion s d step) := by
  unfold State.openRegion
  repeat' first
    | with_reducible exact SameExcept.refl _ _
    | ((with_reducible apply SameExcept.step); (with_reducible apply State.setPrmHdr_frame); exact rfl)
    | split
    | dsimp only

theorem State.admitOptStep_frame (s : State) (hd) : SameExcept [.mem, .par] s (State.admitOptStep s hd) := by
  unfold State.admitOptStep
  repeat' first
    | with_reducible exact SameExcept.refl _ _
    | ((with_reducible apply SameExcept.step); (with_reducible first
          | apply State.modPar_frame | apply State.openRegion_frame); exact rfl)
    | split
    | dsimp only

theorem State.modClaim_frame (s : State) (o) (f) : SameExcept [.par] s (State.modClaim s o f) := by
  unfold State.modClaim
  repeat' first
    | with_reducible exact SameExcept.refl _ _
    | ((with_reducible apply SameExcept.step); (with_reducible apply State.modPar_frame); exact rfl)
    | split
    | dsimp only

theorem State.openParam_frame (s : State) (o) : SameExcept [.mem, .par] s (State.openParam s o) := by
  unfold State.openParam
  repeat' first
    | with_reducible exact SameExcept.refl _ _
    | ((with_reducible apply SameExcept.step); (with_reducible first
          | apply State.modClaim_frame | apply State.setPrmHdr_frame | apply State.openRegion_frame); exact rfl)
    | split
    | dsimp only

theorem State.recordUpdate_frame (s : State) (o) : SameExcept [.mem, .par] s (State.recordUpdate s o) := by
  unfold State.recordUpdate
  repeat' first
    | with_reducible exact SameExcept.refl _ _
    | ((with_reducible apply SameExcept.step); (with_reducible first
          | apply State.rawWrite_frame | apply State.modClaim_frame); exact rfl)
    | split
    | dsimp only

theorem execOptStep_frame (req) (seq) (s : State) :
    SameExcept [.mem, .frm, .rgn, .wsk, .mc, .syn, .sch, .pwr, .stress, .att, .par, .obs, .cls, .arb, .tally] s
      (nextState (execOptStep req seq s) s) := by
  unfold execOptStep State.runLive
  repeat' first
    | with_reducible exact SameExcept.refl _ _
    | ((with_reducible apply SameExcept.step); (with_reducible first
          | apply State.modPar_frame | apply State.recordUpdate_frame | apply State.openParam_frame
          | apply State.done_frame | apply State.begin_frame | apply State.setUpd_frame | apply State.wakeFor_frame);
          exact rfl)
    | split
    | dsimp only [nextState]

theorem State.loadOpt_frame (s : State) (u) (opt) : SameExcept [.rgn, .tl, .evt] s (State.loadOpt s u opt).1 := by
  unfold State.loadOpt
  repeat' first
    | with_reducible exact SameExcept.refl _ _
    | ((with_reducible apply SameExcept.step); (with_reducible first
          | apply State.loadLib_frame | apply State.loadImage_frame); exact rfl)
    | ((apply SameExcept.stepPair (e := by assumption)); (with_reducible first
          | apply State.loadLib_frame | apply State.loadImage_frame); exact rfl)
    | split
    | dsimp only

theorem State.beginRun_frame (s : State) (tiles) (args) (part) (cls) (step) :
    SameExcept [.tl, .obs, .tally] s (State.beginRun s tiles args part cls step) := by
  unfold State.beginRun
  repeat' first
    | with_reducible exact SameExcept.refl _ _
    | ((with_reducible apply SameExcept.step); (with_reducible apply State.beginTile_frame); exact rfl)
    | ((with_reducible apply SameExcept.foldl); intro _ _)
    | ((with_reducible apply SameExcept.foldlPair); intro _ _)
    | split
    | dsimp only

theorem State.startRun_frame (s : State) (tiles) (args) (part) (cls) (step) :
    SameExcept [.mem, .frm, .rgn, .wsk, .mc, .tl, .syn, .sch, .pwr, .stress, .evt, .att, .par, .obs, .cls, .arb,
      .tally, .free] s (State.startRun s tiles args part cls step) := by
  unfold State.startRun
  repeat' first
    | with_reducible exact SameExcept.refl _ _
    | ((with_reducible apply SameExcept.step); (with_reducible first
          | apply State.beginRun_frame | apply State.issueEntry_frame); exact rfl)
    | split
    | dsimp only

theorem State.optFails_frame (s : State) (u) (o) :
    SameExcept [.mem, .frm, .rgn, .wsk, .mc, .tl, .syn, .sch, .pwr, .evt, .att, .par, .obs, .cls, .tally] s
      (State.optFails s u o) := by
  unfold State.optFails
  repeat' first
    | with_reducible exact SameExcept.refl _ _
    | ((with_reducible apply SameExcept.step); (with_reducible first
          | apply State.markStep_frame | apply State.stopTile_frame | apply State.done_frame
          | apply State.setUpd_frame); exact rfl)
    | ((with_reducible apply SameExcept.foldl); intro _ _)
    | ((with_reducible apply SameExcept.foldlPair); intro _ _)
    | split
    | dsimp only

theorem execUpdateStart_frame (set) (s : State) :
    SameExcept [.mem, .frm, .rgn, .wsk, .mc, .tl, .syn, .sch, .pwr, .stress, .evt, .att, .par, .obs, .cls, .arb,
      .tally, .free] s (nextState (execUpdateStart set s) s) := by
  unfold execUpdateStart State.runLive
  repeat' first
    | with_reducible exact SameExcept.refl _ _
    | ((with_reducible apply SameExcept.step); (with_reducible first
          | apply State.optFails_frame | apply State.startRun_frame | apply State.wakeRun_frame
          | apply State.setUpd_frame | apply State.loadOpt_frame); exact rfl)
    | ((apply SameExcept.stepPair (e := by assumption)); (with_reducible first
          | apply State.wakeRun_frame | apply State.loadOpt_frame); exact rfl)
    | split
    | dsimp only [nextState]

theorem State.updatePage_frame (s : State) (handle) (opt) (step) (seed) (p) (hs) :
    SameExcept [.mem, .rgn, .par, .obs, .tally] s (State.updatePage s handle opt step seed p hs) := by
  unfold State.updatePage
  repeat' first
    | with_reducible exact SameExcept.refl _ _
    | ((with_reducible apply SameExcept.step); (with_reducible first
          | apply State.modPar_frame | apply State.bump_frame | apply State.rwrite_frame
          | apply State.setShadow_frame); exact rfl)
    | split
    | dsimp only

theorem State.optHeal_frame (s : State) (handle) (step) (first) (npg) :
    SameExcept [.mem] s (State.optHeal s handle step first npg) := by
  unfold State.optHeal
  repeat' first
    | with_reducible exact SameExcept.refl _ _
    | ((with_reducible apply SameExcept.step); (with_reducible apply State.rheal_frame); exact rfl)
    | split
    | dsimp only

theorem State.haltRun_frame (s : State) (tiles) : SameExcept [.tl] s (State.haltRun s tiles) := by
  unfold State.haltRun
  repeat' first
    | with_reducible exact SameExcept.refl _ _
    | ((with_reducible apply SameExcept.step); (with_reducible apply State.modTile_frame); exact rfl)
    | ((with_reducible apply SameExcept.foldl); intro _ _)
    | ((with_reducible apply SameExcept.foldlPair); intro _ _)
    | split
    | dsimp only

theorem State.updFree_frame (s : State) (u) : SameExcept [.par] s (State.updFree s u) := by
  unfold State.updFree
  repeat' first
    | with_reducible exact SameExcept.refl _ _
    | ((with_reducible apply SameExcept.step); (with_reducible apply State.setUpd_frame); exact rfl)
    | split
    | dsimp only

theorem State.updDone_frame (s : State) (u) (o) (aux) :
    SameExcept [.mem, .frm, .rgn, .wsk, .mc, .syn, .sch, .pwr, .att, .par, .obs, .cls, .tally] s (State.updDone s u o
      aux) := by
  unfold State.updDone
  repeat' first
    | with_reducible exact SameExcept.refl _ _
    | ((with_reducible apply SameExcept.step); (with_reducible first
          | apply State.bump_frame | apply State.updFree_frame | apply State.finish_frame
          | apply State.modClaim_frame); exact rfl)
    | split
    | dsimp only

theorem State.updPoison_frame (s : State) (u) (o) (code) (aux) :
    SameExcept [.mem, .frm, .rgn, .wsk, .mc, .syn, .sch, .pwr, .evt, .att, .par, .obs, .cls, .tally] s
      (State.updPoison s u o code aux) := by
  unfold State.updPoison
  repeat' first
    | with_reducible exact SameExcept.refl _ _
    | ((with_reducible apply SameExcept.step); (with_reducible first
          | apply State.markStep_frame | apply State.updFree_frame | apply State.finish_frame); exact rfl)
    | split
    | dsimp only

theorem State.updShipped_frame (s : State) (u) (o) :
    SameExcept [.mem, .frm, .rgn, .wsk, .mc, .tl, .syn, .sch, .pwr, .evt, .att, .par, .obs, .cls, .tally] s
      (State.updShipped s u o) := by
  unfold State.updShipped
  repeat' first
    | with_reducible exact SameExcept.refl _ _
    | ((with_reducible apply SameExcept.step); (with_reducible first
          | apply State.updDone_frame | apply State.optHeal_frame | apply State.updPoison_frame
          | apply State.chargeOp_frame | apply State.haltRun_frame | apply State.updatePage_frame); exact rfl)
    | ((with_reducible apply SameExcept.foldl); intro _ _)
    | ((with_reducible apply SameExcept.foldlPair); intro _ _)
    | split
    | dsimp only

theorem State.updCustom_frame (s : State) (u) (o) :
    SameExcept [.mem, .frm, .rgn, .wsk, .mc, .tl, .syn, .sch, .pwr, .evt, .att, .par, .obs, .cls, .tally] s
      (State.updCustom s u o) := by
  unfold State.updCustom
  repeat' first
    | with_reducible exact SameExcept.refl _ _
    | ((with_reducible apply SameExcept.step); (with_reducible first
          | apply State.optFails_frame | apply State.updDone_frame | apply State.updPoison_frame); exact rfl)
    | split
    | dsimp only

theorem execUpdateComplete_frame (set) (s : State) :
    SameExcept [.mem, .frm, .rgn, .wsk, .mc, .tl, .syn, .sch, .pwr, .evt, .att, .par, .obs, .cls, .tally] s
      (nextState (execUpdateComplete set s) s) := by
  unfold execUpdateComplete State.runLive
  repeat' first
    | with_reducible exact SameExcept.refl _ _
    | ((with_reducible apply SameExcept.step); (with_reducible first
          | apply State.optFails_frame | apply State.updFree_frame | apply State.updCustom_frame
          | apply State.updShipped_frame | apply State.haltRun_frame); exact rfl)
    | split
    | dsimp only [nextState]

theorem State.mirrorFails_frame (s : State) (id) (m) :
    SameExcept [.mem, .frm, .rgn, .wsk, .mc, .syn, .sch, .pwr, .evt, .att, .par, .obs, .cls, .tally] s
      (State.mirrorFails s id m) := by
  unfold State.mirrorFails
  repeat' first
    | with_reducible exact SameExcept.refl _ _
    | ((with_reducible apply SameExcept.step); (with_reducible first
          | apply State.modPar_frame | apply State.mark_frame); exact rfl)
    | split
    | dsimp only

theorem execMirrorWaitExpiry_frame (id) (s : State) :
    SameExcept [.mem, .frm, .rgn, .wsk, .mc, .syn, .sch, .pwr, .evt, .att, .par, .obs, .cls, .tally] s
      (nextState (execMirrorWaitExpiry id s) s) := by
  unfold execMirrorWaitExpiry State.runLive
  repeat' first
    | with_reducible exact SameExcept.refl _ _
    | ((with_reducible apply SameExcept.step); (with_reducible apply State.mirrorFails_frame); exact rfl)
    | split
    | dsimp only [nextState]

theorem State.returnSlots_frame (s : State) (d) (ctx) : SameExcept [.mem] s (State.returnSlots s d ctx) := by
  unfold State.returnSlots
  repeat' first
    | with_reducible exact SameExcept.refl _ _
    | ((with_reducible apply SameExcept.step); (with_reducible first
          | apply State.setKvHdr_frame | apply State.rawWrite_frame); exact rfl)
    | ((with_reducible apply SameExcept.foldl); intro _ _)
    | ((with_reducible apply SameExcept.foldlPair); intro _ _)
    | split
    | dsimp only

theorem State.admitKvAppend_frame (s : State) (k) (o) : SameExcept [.mem, .att] s (State.admitKvAppend s k o) := by
  unfold State.admitKvAppend
  repeat' first
    | with_reducible exact SameExcept.refl _ _
    | ((with_reducible apply SameExcept.step); (with_reducible first
          | apply State.setKvCtx_frame | apply State.modAtt_frame); exact rfl)
    | split
    | dsimp only

theorem State.cleanCtx_frame (s : State) (d) (ctx) : SameExcept [.mem] s (State.cleanCtx s d ctx) := by
  unfold State.cleanCtx
  repeat' first
    | with_reducible exact SameExcept.refl _ _
    | ((with_reducible apply SameExcept.step); (with_reducible first
          | apply State.setKvCtx_frame | apply State.returnSlots_frame); exact rfl)
    | split
    | dsimp only

theorem State.bindSpill_frame (s : State) (d) (r) : SameExcept [.mem, .att] s (State.bindSpill s d r) := by
  unfold State.bindSpill
  repeat' first
    | with_reducible exact SameExcept.refl _ _
    | ((with_reducible apply SameExcept.step); (with_reducible first
          | apply State.setKvCtx_frame | apply State.modAtt_frame); exact rfl)
    | split
    | dsimp only

theorem State.dropSpills_frame (s : State) (p) : SameExcept [.sch] s (State.dropSpills s p) := by
  unfold State.dropSpills
  repeat' first
    | with_reducible exact SameExcept.refl _ _
    | ((with_reducible apply SameExcept.step); (with_reducible apply State.modSch_frame); exact rfl)
    | split
    | dsimp only

theorem State.setAttSet_frame (s : State) (i) (x) : SameExcept [.att] s (State.setAttSet s i x) := by
  unfold State.setAttSet
  repeat' first
    | with_reducible exact SameExcept.refl _ _
    | ((with_reducible apply SameExcept.step); (with_reducible apply State.modAtt_frame); exact rfl)
    | split
    | dsimp only

theorem State.admitAttn_frame (s : State) (k) (o) : SameExcept [.att, .obs, .tally] s (State.admitAttn s k o) := by
  unfold State.admitAttn
  repeat' first
    | with_reducible exact SameExcept.refl _ _
    | ((with_reducible apply SameExcept.step); (with_reducible first
          | apply State.bump_frame | apply State.modAtt_frame | apply State.setAttSet_frame); exact rfl)
    | split
    | dsimp only

theorem State.appendPage_frame (s : State) (o) (d) (p) : SameExcept [.mem, .rgn] s (State.appendPage s o d p) := by
  unfold State.appendPage
  repeat' first
    | with_reducible exact SameExcept.refl _ _
    | ((with_reducible apply SameExcept.step); (with_reducible first
          | apply State.rwrite_frame | apply State.setKvHdr_frame | apply State.setMapBit_frame
          | apply State.rawWrite_frame); exact rfl)
    | ((with_reducible apply SameExcept.foldl); intro _ _)
    | ((with_reducible apply SameExcept.foldlPair); intro _ _)
    | split
    | dsimp only

theorem execKvAppend_frame (req) (seq) (s : State) :
    SameExcept [.mem, .frm, .rgn, .wsk, .mc, .syn, .sch, .pwr, .stress, .att, .par, .obs, .cls, .arb, .tally] s
      (nextState (execKvAppend req seq s) s) := by
  unfold execKvAppend State.runLive
  repeat' first
    | with_reducible exact SameExcept.refl _ _
    | ((with_reducible apply SameExcept.step); (with_reducible first
          | apply State.dirtyFrom_frame | apply State.finish_frame | apply State.appendPage_frame
          | apply State.chargeOp_frame | apply State.wakeFor_frame); exact rfl)
    | ((with_reducible apply SameExcept.foldl); intro _ _)
    | ((with_reducible apply SameExcept.foldlPair); intro _ _)
    | split
    | dsimp only [nextState]

theorem State.endQuery_frame (s : State) (k) (code) (aux) :
    SameExcept [.mem, .frm, .rgn, .wsk, .mc, .tl, .syn, .sch, .pwr, .evt, .att, .par, .obs, .cls, .tally] s
      (State.endQuery s k code aux) := by
  unfold State.endQuery
  repeat' first
    | with_reducible exact SameExcept.refl _ _
    | ((with_reducible apply SameExcept.step); (with_reducible first
          | apply State.setAttSet_frame | apply State.finish_frame | apply State.stopTile_frame); exact rfl)
    | ((with_reducible apply SameExcept.foldl); intro _ _)
    | ((with_reducible apply SameExcept.foldlPair); intro _ _)
    | split
    | dsimp only

theorem State.spillFails_frame (s : State) (k) (ep) :
    SameExcept [.mem, .frm, .rgn, .wsk, .mc, .tl, .syn, .sch, .pwr, .evt, .att, .par, .obs, .cls, .tally] s
      (State.spillFails s k ep) := by
  unfold State.spillFails
  repeat' first
    | with_reducible exact SameExcept.refl _ _
    | ((with_reducible apply SameExcept.step); (with_reducible first
          | apply State.bump_frame | apply State.note_frame | apply State.endQuery_frame); exact rfl)
    | split
    | dsimp only

theorem State.setQuery_frame (s : State) (k) (q) : SameExcept [.att] s (State.setQuery s k q) := by
  unfold State.setQuery
  repeat' first
    | with_reducible exact SameExcept.refl _ _
    | ((with_reducible apply SameExcept.step); (with_reducible apply State.modAtt_frame); exact rfl)
    | split
    | dsimp only

theorem State.forward_frame (s : State) (o) (r) (i) :
    SameExcept [.mem, .frm, .rgn, .wsk, .mc, .tl, .syn, .sch, .pwr, .evt, .att, .par, .obs, .cls, .tally] s
      (State.forward s o r i) := by
  unfold State.forward
  repeat' first
    | with_reducible exact SameExcept.refl _ _
    | ((with_reducible apply SameExcept.step); (with_reducible first
          | apply State.bump_frame | apply State.spillFails_frame | apply State.originate_frame
          | apply State.noPeer_frame); exact rfl)
    | ((apply SameExcept.stepOpt (e := by assumption)); (with_reducible apply State.originate_frame); exact rfl)
    | split
    | dsimp only

theorem State.forwardAll_frame (s : State) (o) :
    SameExcept [.mem, .frm, .rgn, .wsk, .mc, .tl, .syn, .sch, .pwr, .evt, .att, .par, .obs, .cls, .tally] s
      (State.forwardAll s o) := by
  unfold State.forwardAll
  repeat' first
    | with_reducible exact SameExcept.refl _ _
    | ((with_reducible apply SameExcept.step); (with_reducible first
          | apply State.forward_frame | apply State.setQuery_frame); exact rfl)
    | ((with_reducible apply SameExcept.foldl); intro _ _)
    | ((with_reducible apply SameExcept.foldlPair); intro _ _)
    | split
    | dsimp only

theorem execAttnQuery_frame (req) (seq) (s : State) :
    SameExcept [.mem, .frm, .rgn, .wsk, .mc, .tl, .syn, .sch, .pwr, .stress, .evt, .att, .par, .obs, .cls, .arb,
      .tally] s (nextState (execAttnQuery req seq s) s) := by
  unfold execAttnQuery State.runLive
  repeat' first
    | with_reducible exact SameExcept.refl _ _
    | ((with_reducible apply SameExcept.step); (with_reducible first
          | apply State.forwardAll_frame | apply State.endQuery_frame | apply State.begin_frame
          | apply State.wakeFor_frame); exact rfl)
    | split
    | dsimp only [nextState]

theorem State.toInbox_frame (s : State) (t) (part) (i) (b) :
    SameExcept [.tl, .pwr, .stress, .evt, .obs, .arb, .tally] s (State.toInbox s t part i b) := by
  unfold State.toInbox
  repeat' first
    | with_reducible exact SameExcept.refl _ _
    | ((with_reducible apply SameExcept.step); (with_reducible first
          | apply State.hubSig_frame | apply State.modTile_frame); exact rfl)
    | split
    | dsimp only

theorem State.startQuery_frame (s : State) (i) (o) (q) :
    SameExcept [.mem, .frm, .rgn, .wsk, .mc, .tl, .syn, .sch, .pwr, .stress, .evt, .att, .par, .obs, .cls, .arb,
      .tally, .free] s (State.startQuery s i o q) := by
  unfold State.startQuery
  repeat' first
    | with_reducible exact SameExcept.refl _ _
    | ((with_reducible apply SameExcept.step); (with_reducible first
          | apply State.toInbox_frame | apply State.bump_frame | apply State.beginRun_frame
          | apply State.setQuery_frame | apply State.modTile_frame | apply State.issueEntry_frame); exact rfl)
    | ((with_reducible apply SameExcept.foldl); intro _ _)
    | ((with_reducible apply SameExcept.foldlPair); intro _ _)
    | split
    | dsimp only

theorem execQueryStart_frame (set) (s : State) :
    SameExcept [.mem, .frm, .rgn, .wsk, .mc, .tl, .syn, .sch, .pwr, .stress, .evt, .att, .par, .obs, .cls, .arb,
      .tally, .free] s (nextState (execQueryStart set s) s) := by
  unfold execQueryStart State.runLive
  repeat' first
    | with_reducible exact SameExcept.refl _ _
    | ((with_reducible apply SameExcept.step); (with_reducible first
          | apply State.setAttSet_frame | apply State.startQuery_frame | apply State.wakeRun_frame); exact rfl)
    | ((apply SameExcept.stepPair (e := by assumption)); (with_reducible apply State.wakeRun_frame); exact rfl)
    | split
    | dsimp only [nextState]

theorem State.attFree_frame (s : State) (i) : SameExcept [.att] s (State.attFree s i) := by
  unfold State.attFree
  repeat' first
    | with_reducible exact SameExcept.refl _ _
    | ((with_reducible apply SameExcept.step); (with_reducible apply State.setAttSet_frame); exact rfl)
    | split
    | dsimp only

theorem State.attFault_frame (s : State) (i) (o) :
    SameExcept [.mem, .frm, .rgn, .wsk, .mc, .tl, .syn, .sch, .pwr, .evt, .att, .par, .obs, .cls, .tally] s
      (State.attFault s i o) := by
  unfold State.attFault
  repeat' first
    | with_reducible exact SameExcept.refl _ _
    | ((with_reducible apply SameExcept.step); (with_reducible first
          | apply State.setAttSet_frame | apply State.finish_frame | apply State.stopTile_frame); exact rfl)
    | ((with_reducible apply SameExcept.foldl); intro _ _)
    | ((with_reducible apply SameExcept.foldlPair); intro _ _)
    | split
    | dsimp only

theorem State.queryHeal_frame (s : State) (o) : SameExcept [.mem] s (State.queryHeal s o) := by
  unfold State.queryHeal
  repeat' first
    | with_reducible exact SameExcept.refl _ _
    | ((with_reducible apply SameExcept.step); (with_reducible apply State.rheal_frame); exact rfl)
    | ((with_reducible apply SameExcept.foldl); intro _ _)
    | ((with_reducible apply SameExcept.foldlPair); intro _ _)
    | split
    | dsimp only

theorem State.queryCustom_frame (s : State) (i) (o) :
    SameExcept [.mem, .frm, .rgn, .wsk, .mc, .tl, .syn, .sch, .pwr, .evt, .att, .par, .obs, .cls, .tally] s
      (State.queryCustom s i o) := by
  unfold State.queryCustom
  repeat' first
    | with_reducible exact SameExcept.refl _ _
    | ((with_reducible apply SameExcept.step); (with_reducible first
          | apply State.attFree_frame | apply State.bump_frame | apply State.finish_frame
          | apply State.attFault_frame); exact rfl)
    | split
    | dsimp only

theorem State.putCompletion_frame (s : State) (t) (status) (aux) (addr) (len) :
    SameExcept [.tl] s (State.putCompletion s t status aux addr len) := by
  unfold State.putCompletion
  repeat' first
    | with_reducible exact SameExcept.refl _ _
    | ((with_reducible apply SameExcept.step); (with_reducible apply State.modTile_frame); exact rfl)
    | split
    | dsimp only

theorem State.queryShipped_frame (s : State) (i) (o) (q) :
    SameExcept [.mem, .frm, .rgn, .wsk, .mc, .tl, .syn, .sch, .pwr, .evt, .att, .par, .obs, .cls, .tally, .free] s
      (State.queryShipped s i o q) := by
  unfold State.queryShipped
  repeat' first
    | with_reducible exact SameExcept.refl _ _
    | ((with_reducible apply SameExcept.step); (with_reducible first
          | apply State.bump_frame | apply State.putCompletion_frame | apply State.spend_frame
          | apply State.queryCustom_frame | apply State.queryHeal_frame | apply State.attFault_frame
          | apply State.chargeOp_frame | apply State.modTile_frame | apply State.haltRun_frame); exact rfl)
    | split
    | dsimp only

theorem execQueryComplete_frame (set) (s : State) :
    SameExcept [.mem, .frm, .rgn, .wsk, .mc, .tl, .syn, .sch, .pwr, .evt, .att, .par, .obs, .cls, .tally, .free] s
      (nextState (execQueryComplete set s) s) := by
  unfold execQueryComplete State.runLive
  repeat' first
    | with_reducible exact SameExcept.refl _ _
    | ((with_reducible apply SameExcept.step); (with_reducible first
          | apply State.attFree_frame | apply State.queryShipped_frame | apply State.queryCustom_frame
          | apply State.stopTile_frame | apply State.attFault_frame | apply State.haltRun_frame); exact rfl)
    | ((with_reducible apply SameExcept.foldl); intro _ _)
    | ((with_reducible apply SameExcept.foldlPair); intro _ _)
    | split
    | dsimp only [nextState]

theorem State.spillCame_frame (s : State) (k) (i) (q) (b) :
    SameExcept [.mem, .frm, .rgn, .wsk, .mc, .tl, .syn, .sch, .pwr, .stress, .evt, .att, .par, .obs, .cls, .arb,
      .tally] s (State.spillCame s k i q b) := by
  unfold State.spillCame
  repeat' first
    | with_reducible exact SameExcept.refl _ _
    | ((with_reducible apply SameExcept.step); (with_reducible first
          | apply State.toInbox_frame | apply State.bump_frame | apply State.spillFails_frame
          | apply State.setQuery_frame); exact rfl)
    | split
    | dsimp only

theorem State.reissue_frame (s : State) (k) (i) (q) :
    SameExcept [.mem, .frm, .rgn, .wsk, .mc, .tl, .syn, .sch, .pwr, .evt, .att, .par, .obs, .cls, .tally] s
      (State.reissue s k i q) := by
  unfold State.reissue
  repeat' first
    | with_reducible exact SameExcept.refl _ _
    | ((with_reducible apply SameExcept.step); (with_reducible first
          | apply State.bump_frame | apply State.forward_frame); exact rfl)
    | split
    | dsimp only

theorem execSpillAnswer_frame (ep) (seq) (code) (orig) (aux) (notHeld) (payload) (s : State) :
    SameExcept [.mem, .frm, .rgn, .wsk, .mc, .tl, .syn, .sch, .pwr, .stress, .evt, .att, .par, .obs, .cls, .arb,
      .tally] s (nextState (execSpillAnswer ep seq code orig aux notHeld payload s) s) := by
  unfold execSpillAnswer State.runLive
  repeat' first
    | with_reducible exact SameExcept.refl _ _
    | ((with_reducible apply SameExcept.step); (with_reducible first
          | apply State.bump_frame | apply State.spillFails_frame | apply State.endOrig_frame
          | apply State.reissue_frame | apply State.endQuery_frame | apply State.resendOrig_frame
          | apply State.spillCame_frame | apply State.lateAnswer_frame); exact rfl)
    | split
    | dsimp only [nextState]

theorem execSpillWaitExpiry_frame (req) (seq) (n) (s : State) :
    SameExcept [.mem, .frm, .rgn, .wsk, .mc, .tl, .syn, .sch, .pwr, .evt, .att, .par, .obs, .cls, .tally] s
      (nextState (execSpillWaitExpiry req seq n s) s) := by
  unfold execSpillWaitExpiry State.runLive
  repeat' first
    | with_reducible exact SameExcept.refl _ _
    | ((with_reducible apply SameExcept.step); (with_reducible first
          | apply State.bump_frame | apply State.endQuery_frame); exact rfl)
    | split
    | dsimp only [nextState]

theorem State.fetchPiece_frame (s : State) (set) (i) (o) :
    SameExcept [.tl, .att, .obs, .tally] s (State.fetchPiece s set i o) := by
  unfold State.fetchPiece
  repeat' first
    | with_reducible exact SameExcept.refl _ _
    | ((with_reducible apply SameExcept.step); (with_reducible first
          | apply State.bump_frame | apply State.setQuery_frame | apply State.modTile_frame); exact rfl)
    | split
    | dsimp only

theorem execRunaheadFetch_frame (set) (pieces) (s : State) :
    SameExcept [.tl, .att, .obs, .tally] s (nextState (execRunaheadFetch set pieces s) s) := by
  unfold execRunaheadFetch State.runLive
  repeat' first
    | with_reducible exact SameExcept.refl _ _
    | ((with_reducible apply SameExcept.step); (with_reducible apply State.fetchPiece_frame); exact rfl)
    | ((with_reducible apply SameExcept.foldl); intro _ _)
    | ((with_reducible apply SameExcept.foldlPair); intro _ _)
    | split
    | dsimp only [nextState]

theorem State.ctxRelease_frame (s : State) (handle) (ctx) :
    SameExcept [.mem, .sch] s ((State.ctxRelease s handle ctx).getD s) := by
  unfold State.ctxRelease
  repeat' first
    | with_reducible exact SameExcept.refl _ _
    | ((with_reducible apply SameExcept.step); (with_reducible first
          | apply State.setKvCtx_frame | apply State.dropSpills_frame); exact rfl)
    | split
    | dsimp only [Option.getD_some, Option.getD_none]

end Sys2Proof.Machine
end

