-- ==== Sys2Proof/Laws/FrameStack.lean ====
section
/-! SUPPORT. Frames: the groups of the state that each operation may change, one lemma per operation (Attention,
Commit, Hub, Schedule, Ingress, Boot, Pot). -/

namespace Sys2Proof.Machine

theorem execContextFreed_frame (handle) (ctx) (s : State) :
    SameExcept [.mem, .sch, .att] s (nextState (execContextFreed handle ctx s) s) := by
  unfold execContextFreed State.runLive
  repeat' first
    | with_reducible exact SameExcept.refl _ _
    | ((with_reducible apply SameExcept.step); (with_reducible first
          | apply State.setKvCtx_frame | apply State.dropSpills_frame | apply State.cleanCtx_frame
          | apply State.modAtt_frame | apply State.bindSpill_frame); exact rfl)
    | split
    | dsimp only [nextState]

theorem State.sealEntries_frame (s : State) (c) :
    SameExcept [.mem, .frm, .rgn, .wsk, .mc, .syn, .sch, .pwr, .evt, .att, .par, .obs, .cls, .tally] s
      (State.sealEntries s c) := by
  unfold State.sealEntries
  repeat' first
    | with_reducible exact SameExcept.refl _ _
    | ((with_reducible apply SameExcept.step); (with_reducible first
          | apply State.mirrorHeader_frame | apply State.rawWrite_frame); exact rfl)
    | ((with_reducible apply SameExcept.foldl); intro _ _)
    | ((with_reducible apply SameExcept.foldlPair); intro _ _)
    | split
    | dsimp only

theorem State.inDoubt_frame (s : State) (i) : SameExcept [.sch, .evt] s (State.inDoubt s i) := by
  unfold State.inDoubt
  repeat' first
    | with_reducible exact SameExcept.refl _ _
    | ((with_reducible apply SameExcept.step); (with_reducible first
          | apply State.raise_frame | apply State.modCtx_frame); exact rfl)
    | split
    | dsimp only

theorem State.castVote_frame (s : State) (i) :
    SameExcept [.frm, .sch, .evt, .att, .obs, .tally] s (State.castVote s i) := by
  unfold State.castVote
  repeat' first
    | with_reducible exact SameExcept.refl _ _
    | ((with_reducible apply SameExcept.step); (with_reducible first
          | apply State.bump_frame | apply State.originate_frame | apply State.modCtx_frame | apply State.noPeer_frame
          | apply State.inDoubt_frame); exact rfl)
    | ((apply SameExcept.stepOpt (e := by assumption)); (with_reducible apply State.originate_frame); exact rfl)
    | split
    | dsimp only

theorem execVote_frame (part) (step) (s : State) :
    SameExcept [.mem, .frm, .rgn, .wsk, .mc, .syn, .sch, .pwr, .evt, .att, .par, .obs, .cls, .tally] s
      (nextState (execVote part step s) s) := by
  unfold execVote State.runDuty
  repeat' first
    | with_reducible exact SameExcept.refl _ _
    | ((with_reducible apply SameExcept.step); (with_reducible first
          | apply State.sealEntries_frame | apply State.castVote_frame); exact rfl)
    | split
    | dsimp only [nextState]

theorem State.mirrorGone_frame (s : State) (id) :
    SameExcept [.mem, .frm, .rgn, .wsk, .mc, .syn, .sch, .pwr, .evt, .att, .par, .obs, .cls, .tally] s
      (State.mirrorGone s id) := by
  unfold State.mirrorGone
  repeat' first
    | with_reducible exact SameExcept.refl _ _
    | ((with_reducible apply SameExcept.step); (with_reducible apply State.mirrorFails_frame); exact rfl)
    | split
    | dsimp only

theorem execMirrorAnswer_frame (ep) (seq) (code) (orig) (s : State) :
    SameExcept [.mem, .frm, .rgn, .wsk, .mc, .syn, .sch, .pwr, .evt, .att, .par, .obs, .cls, .tally] s
      (nextState (execMirrorAnswer ep seq code orig s) s) := by
  unfold execMirrorAnswer State.runLive
  repeat' first
    | with_reducible exact SameExcept.refl _ _
    | ((with_reducible apply SameExcept.step); (with_reducible first
          | apply State.modPar_frame | apply State.bump_frame | apply State.castVote_frame
          | apply State.mirrorGone_frame | apply State.endOrig_frame | apply State.resendOrig_frame
          | apply State.lateAnswer_frame | apply State.setMirrored_frame); exact rfl)
    | split
    | dsimp only [nextState]

theorem State.dropClaims_frame (s : State) (part) (step) : SameExcept [.par] s (State.dropClaims s part step) := by
  unfold State.dropClaims
  repeat' first
    | with_reducible exact SameExcept.refl _ _
    | ((with_reducible apply SameExcept.step); (with_reducible apply State.modPar_frame); exact rfl)
    | split
    | dsimp only

theorem State.decided_frame (s : State) (step) (action) (k) :
    SameExcept [.par] s (State.decided s step action k) := by
  unfold State.decided
  repeat' first
    | with_reducible exact SameExcept.refl _ _
    | ((with_reducible apply SameExcept.step); (with_reducible apply State.modPar_frame); exact rfl)
    | split
    | dsimp only

theorem State.commitRegion_frame (s : State) (desc) (step) :
    SameExcept [.mem, .par] s (State.commitRegion s desc step) := by
  unfold State.commitRegion
  repeat' first
    | with_reducible exact SameExcept.refl _ _
    | ((with_reducible apply SameExcept.step); (with_reducible first
          | apply State.modPar_frame | apply State.setPrmHdr_frame); exact rfl)
    | split
    | dsimp only

theorem State.discardRegion_frame (s : State) (desc) : SameExcept [.mem, .par] s (State.discardRegion s desc) := by
  unfold State.discardRegion
  repeat' first
    | with_reducible exact SameExcept.refl _ _
    | ((with_reducible apply SameExcept.step); (with_reducible first
          | apply State.modPar_frame | apply State.setPrmHdr_frame); exact rfl)
    | split
    | dsimp only

theorem State.commitStep_frame (s : State) (i) (k) :
    SameExcept [.mem, .sch, .par, .obs, .tally] s (State.commitStep s i k) := by
  unfold State.commitStep
  repeat' first
    | with_reducible exact SameExcept.refl _ _
    | ((with_reducible apply SameExcept.step); (with_reducible first
          | apply State.modPar_frame | apply State.bump_frame | apply State.decided_frame
          | apply State.commitRegion_frame | apply State.modCtx_frame | apply State.dropClaims_frame); exact rfl)
    | ((with_reducible apply SameExcept.foldl); intro _ _)
    | ((with_reducible apply SameExcept.foldlPair); intro _ _)
    | split
    | dsimp only

theorem State.releaseAt_frame (s : State) (i) (k) :
    SameExcept [.mem, .sch, .evt, .par, .obs, .tally] s (State.releaseAt s i k) := by
  unfold State.releaseAt
  repeat' first
    | with_reducible exact SameExcept.refl _ _
    | ((with_reducible apply SameExcept.step); (with_reducible first
          | apply State.bump_frame | apply State.raise_frame | apply State.modCtx_frame
          | apply State.commitStep_frame); exact rfl)
    | split
    | dsimp only

theorem State.freeSlots_frame (s : State) (part) (step) : SameExcept [.wsk] s (State.freeSlots s part step) := by
  unfold State.freeSlots
  repeat' first
    | with_reducible exact SameExcept.refl _ _
    | ((with_reducible apply SameExcept.step); (with_reducible first
          | apply State.dropStorage_frame | apply State.modWsk_frame); exact rfl)
    | ((with_reducible apply SameExcept.foldl); intro _ _)
    | ((with_reducible apply SameExcept.foldlPair); intro _ _)
    | split
    | dsimp only

theorem State.voidEntries_frame (s : State) (part) (step) :
    SameExcept [.mem, .frm, .rgn, .wsk, .mc, .syn, .sch, .pwr, .evt, .att, .par, .obs, .cls, .tally] s
      (State.voidEntries s part step) := by
  unfold State.voidEntries
  repeat' first
    | with_reducible exact SameExcept.refl _ _
    | ((with_reducible apply SameExcept.step); (with_reducible first
          | apply State.modPar_frame | apply State.mirrorHeader_frame | apply State.rawWrite_frame); exact rfl)
    | ((with_reducible apply SameExcept.foldl); intro _ _)
    | ((with_reducible apply SameExcept.foldlPair); intro _ _)
    | split
    | dsimp only

theorem State.abortStep_frame (s : State) (i) :
    SameExcept [.mem, .frm, .rgn, .wsk, .mc, .syn, .sch, .pwr, .evt, .att, .par, .obs, .cls, .tally] s
      (State.abortStep s i) := by
  unfold State.abortStep
  repeat' first
    | with_reducible exact SameExcept.refl _ _
    | ((with_reducible apply SameExcept.step); (with_reducible first
          | apply State.modPar_frame | apply State.bump_frame | apply State.discardRegion_frame
          | apply State.decided_frame | apply State.replayFrames_frame | apply State.modCtx_frame
          | apply State.dropClaims_frame | apply State.voidEntries_frame | apply State.freeSlots_frame); exact rfl)
    | ((with_reducible apply SameExcept.foldl); intro _ _)
    | ((with_reducible apply SameExcept.foldlPair); intro _ _)
    | split
    | dsimp only

theorem State.voteGone_frame (s : State) (part) (step) (replay) :
    SameExcept [.mem, .frm, .rgn, .wsk, .mc, .syn, .sch, .pwr, .evt, .att, .par, .obs, .cls, .tally] s (State.voteGone
      s part step replay) := by
  unfold State.voteGone
  repeat' first
    | with_reducible exact SameExcept.refl _ _
    | ((with_reducible apply SameExcept.step); (with_reducible first
          | apply State.abortStep_frame | apply State.inDoubt_frame); exact rfl)
    | split
    | dsimp only

theorem execVoteAnswer_frame (ep) (seq) (code) (orig) (aux) (s : State) :
    SameExcept [.mem, .frm, .rgn, .wsk, .mc, .syn, .sch, .pwr, .evt, .att, .par, .obs, .cls, .tally] s
      (nextState (execVoteAnswer ep seq code orig aux s) s) := by
  unfold execVoteAnswer State.runLive
  repeat' first
    | with_reducible exact SameExcept.refl _ _
    | ((with_reducible apply SameExcept.step); (with_reducible first
          | apply State.voteGone_frame | apply State.endOrig_frame | apply State.releaseAt_frame
          | apply State.resendOrig_frame | apply State.lateAnswer_frame); exact rfl)
    | split
    | dsimp only [nextState]

theorem State.homeRelease_frame (s : State) (i) (k) :
    SameExcept [.mem, .frm, .rgn, .wsk, .mc, .syn, .sch, .pwr, .att, .par, .obs, .cls, .tally] s (State.homeRelease s
      i k) := by
  unfold State.homeRelease
  repeat' first
    | with_reducible exact SameExcept.refl _ _
    | ((with_reducible apply SameExcept.step); (with_reducible first
          | apply State.doneAll_frame | apply State.decided_frame | apply State.modCtx_frame); exact rfl)
    | split
    | dsimp only

theorem State.homeAbort_frame (s : State) (i) :
    SameExcept [.mem, .frm, .rgn, .wsk, .mc, .syn, .sch, .pwr, .evt, .att, .par, .obs, .cls, .tally] s
      (State.homeAbort s i) := by
  unfold State.homeAbort
  repeat' first
    | with_reducible exact SameExcept.refl _ _
    | ((with_reducible apply SameExcept.step); (with_reducible first
          | apply State.modPar_frame | apply State.doneAll_frame | apply State.abortStep_frame
          | apply State.markCtx_frame | apply State.modCtx_frame); exact rfl)
    | split
    | dsimp only

theorem execCommitDecisionEdge_frame (ctx) (s : State) :
    SameExcept [.mem, .frm, .rgn, .wsk, .mc, .syn, .sch, .pwr, .evt, .att, .par, .obs, .cls, .tally] s
      (nextState (execCommitDecisionEdge ctx s) s) := by
  unfold execCommitDecisionEdge State.runDuty
  repeat' first
    | with_reducible exact SameExcept.refl _ _
    | ((with_reducible apply SameExcept.step); (with_reducible first
          | apply State.homeRelease_frame | apply State.homeAbort_frame); exact rfl)
    | split
    | dsimp only [nextState]

theorem execCommitEdge_frame (part) (step) (s : State) :
    SameExcept [.mem, .sch, .par, .obs, .tally] s (nextState (execCommitEdge part step s) s) := by
  unfold execCommitEdge State.runLive
  repeat' first
    | with_reducible exact SameExcept.refl _ _
    | ((with_reducible apply SameExcept.step); (with_reducible apply State.commitStep_frame); exact rfl)
    | split
    | dsimp only [nextState]

theorem State.foldMap_frame (s : State) (d) (fold) : SameExcept [.mem] s (State.foldMap s d fold) := by
  unfold State.foldMap
  repeat' first
    | with_reducible exact SameExcept.refl _ _
    | ((with_reducible apply SameExcept.step); (with_reducible apply State.rawWrite_frame); exact rfl)
    | ((with_reducible apply SameExcept.foldl); intro _ _)
    | ((with_reducible apply SameExcept.foldlPair); intro _ _)
    | split
    | dsimp only

theorem State.foldEnd_frame (s : State) (desc) (fold) :
    SameExcept [.mem, .rgn, .obs, .tally] s (State.foldEnd s desc fold) := by
  unfold State.foldEnd
  repeat' first
    | with_reducible exact SameExcept.refl _ _
    | ((with_reducible apply SameExcept.step); (with_reducible first
          | apply State.rheal_frame | apply State.healMap_frame | apply State.leavesHashed_frame
          | apply State.modRgn_frame | apply State.foldMap_frame | apply State.setPrmHdr_frame); exact rfl)
    | split
    | dsimp only

theorem execFoldComplete_frame (desc) (s : State) :
    SameExcept [.mem, .rgn, .obs, .tally] s (nextState (execFoldComplete desc s) s) := by
  unfold execFoldComplete State.runLive
  repeat' first
    | with_reducible exact SameExcept.refl _ _
    | ((with_reducible apply SameExcept.step); (with_reducible first
          | apply State.bump_frame | apply State.foldEnd_frame); exact rfl)
    | split
    | dsimp only [nextState]

theorem State.stepDecide_frame (s : State) (step) (action) (k) :
    SameExcept [.mem, .frm, .rgn, .wsk, .mc, .syn, .sch, .pwr, .evt, .att, .par, .obs, .cls, .tally] s
      ((State.stepDecide s step action k).getD s) := by
  unfold State.stepDecide
  repeat' first
    | with_reducible exact SameExcept.refl _ _
    | ((with_reducible apply SameExcept.step); (with_reducible first
          | apply State.abortStep_frame | apply State.homeAbort_frame | apply State.releaseAt_frame); exact rfl)
    | split
    | dsimp only [Option.getD_some, Option.getD_none]

theorem State.setCkpt_frame (s : State) (handle) (step) :
    SameExcept [.mem] s ((State.setCkpt s handle step).getD s) := by
  unfold State.setCkpt
  repeat' first
    | with_reducible exact SameExcept.refl _ _
    | ((with_reducible apply SameExcept.step); (with_reducible apply State.setLogHdr_frame); exact rfl)
    | split
    | dsimp only [Option.getD_some, Option.getD_none]

theorem State.setCommitted_frame (s : State) (handle) (step) :
    SameExcept [.mem, .par] s ((State.setCommitted s handle step).getD s) := by
  unfold State.setCommitted
  repeat' first
    | with_reducible exact SameExcept.refl _ _
    | ((with_reducible apply SameExcept.step); (with_reducible first
          | apply State.modPar_frame | apply State.setPrmHdr_frame); exact rfl)
    | split
    | dsimp only [Option.getD_some, Option.getD_none]

theorem State.setRestore_frame (s : State) (v) : SameExcept [.par] s (State.setRestore s v) := by
  unfold State.setRestore
  repeat' first
    | with_reducible exact SameExcept.refl _ _
    | ((with_reducible apply SameExcept.step); (with_reducible apply State.modPar_frame); exact rfl)
    | split
    | dsimp only

theorem State.restoreFails_frame (s : State) (rule) (step) (c) :
    SameExcept [.evt, .par] s (State.restoreFails s rule step c) := by
  unfold State.restoreFails
  repeat' first
    | with_reducible exact SameExcept.refl _ _
    | ((with_reducible apply SameExcept.step); (with_reducible first
          | apply State.setRestore_frame | apply State.noteCause_frame); exact rfl)
    | split
    | dsimp only

theorem State.numberReads_frame (s : State) (ep) (n) : SameExcept [.frm] s (State.numberReads s ep n) := by
  unfold State.numberReads
  repeat' first
    | with_reducible exact SameExcept.refl _ _
    | ((with_reducible apply SameExcept.step); (with_reducible apply State.modFrm_frame); exact rfl)
    | split
    | dsimp only

theorem State.copyEntries_frame (s : State) (d) (steps) (data) :
    SameExcept [.mem, .evt, .par, .obs, .tally] s (State.copyEntries s d steps data) := by
  induction steps generalizing s d data with
  | nil =>
    simp only [State.copyEntries]
    repeat' first
      | with_reducible exact SameExcept.refl _ _
      | ((with_reducible apply SameExcept.step); (with_reducible first
            | apply State.bump_frame | apply State.setRestore_frame | apply State.restoreFails_frame
            | apply State.rawWrite_frame); exact rfl)
      | split
      | dsimp only
  | cons x r ih =>
    simp only [State.copyEntries]
    repeat' first
      | with_reducible exact SameExcept.refl _ _
      | with_reducible apply SameExcept.trans (k := ih _ _ _)
      | ((with_reducible apply SameExcept.step); (with_reducible first
            | apply State.bump_frame | apply State.setRestore_frame | apply State.restoreFails_frame
            | apply State.rawWrite_frame); exact rfl)
      | split
      | dsimp only

theorem State.restoreLog_frame (s : State) (handle) (ep) (srcHandle) (first) (last) (data) :
    SameExcept [.mem, .frm, .evt, .par, .obs, .tally] s ((State.restoreLog s handle ep srcHandle first last data).getD
      s) := by
  unfold State.restoreLog
  repeat' first
    | with_reducible exact SameExcept.refl _ _
    | ((with_reducible apply SameExcept.step); (with_reducible first
          | apply State.numberReads_frame | apply State.copyEntries_frame | apply State.restoreFails_frame
          | apply State.noPeer_frame); exact rfl)
    | split
    | dsimp only [Option.getD_some, Option.getD_none]

theorem State.turn_frame (s : State) (tiles) :
    SameExcept [.clk, .mem, .frm, .rgn, .wsk, .mc, .tl, .syn, .sch, .pwr, .stress, .evt, .att, .par, .obs, .cls, .arb,
      .tally, .free] s (State.turn s tiles) := by
  unfold State.turn
  repeat' first
    | with_reducible exact SameExcept.refl _ _
    | ((with_reducible apply SameExcept.step); (with_reducible first
          | apply State.modClk_frame | apply State.xferStart_frame | apply State.mmaNext_frame
          | apply State.issueNext_frame | apply State.xferEnd_frame | apply State.fenceEnd_frame); exact rfl)
    | ((with_reducible apply SameExcept.foldl); intro _ _)
    | ((with_reducible apply SameExcept.foldlPair); intro _ _)
    | split
    | dsimp only

theorem State.runTiles_frame (s : State) (tiles) (fuel) :
    SameExcept [.clk, .mem, .frm, .rgn, .wsk, .mc, .tl, .syn, .sch, .pwr, .stress, .evt, .att, .par, .obs, .cls, .arb,
      .tally, .free] s (State.runTiles s tiles fuel) := by
  induction fuel generalizing s tiles with
  | zero =>
    simp only [State.runTiles]
    repeat' first
      | with_reducible exact SameExcept.refl _ _
      | ((with_reducible apply SameExcept.step); (with_reducible apply State.turn_frame); exact rfl)
      | split
      | dsimp only
  | succ n ih =>
    simp only [State.runTiles]
    repeat' first
      | with_reducible exact SameExcept.refl _ _
      | with_reducible apply SameExcept.trans (k := ih _ _)
      | ((with_reducible apply SameExcept.step); (with_reducible apply State.turn_frame); exact rfl)
      | split
      | dsimp only

theorem State.replayCustom_frame (s : State) (handle) (t) (u) (r) :
    SameExcept [.clk, .mem, .frm, .rgn, .wsk, .mc, .tl, .syn, .sch, .pwr, .stress, .evt, .att, .par, .obs, .cls, .arb,
      .tally, .free] s (State.replayCustom s handle t u r).1 := by
  unfold State.replayCustom
  repeat' first
    | with_reducible exact SameExcept.refl _ _
    | ((with_reducible apply SameExcept.step); (with_reducible first
          | apply State.runTiles_frame | apply State.startRun_frame | apply State.setOp_frame
          | apply State.modFrm_frame | apply State.setUpd_frame | apply State.loadOpt_frame); exact rfl)
    | ((apply SameExcept.stepPair (e := by assumption)); (with_reducible apply State.loadOpt_frame); exact rfl)
    | split
    | dsimp only

theorem State.replayRecord_frame (s : State) (handle) (t) (r) :
    SameExcept [.clk, .mem, .frm, .rgn, .wsk, .mc, .tl, .syn, .sch, .pwr, .stress, .evt, .att, .par, .obs, .cls, .arb,
      .tally, .free] s (State.replayRecord s handle t r).1 := by
  unfold State.replayRecord
  repeat' first
    | with_reducible exact SameExcept.refl _ _
    | ((with_reducible apply SameExcept.step); (with_reducible first
          | apply State.replayCustom_frame | apply State.optHeal_frame | apply State.updatePage_frame); exact rfl)
    | ((apply SameExcept.stepPair (e := by assumption)); (with_reducible apply State.replayCustom_frame); exact rfl)
    | ((with_reducible apply SameExcept.foldl); intro _ _)
    | ((with_reducible apply SameExcept.foldlPair); intro _ _)
    | split
    | dsimp only

theorem State.replayStep_frame (s : State) (handle) (t) :
    SameExcept [.clk, .mem, .frm, .rgn, .wsk, .mc, .tl, .syn, .sch, .pwr, .stress, .evt, .att, .par, .obs, .cls, .arb,
      .tally, .free] s (State.replayStep s handle t).1 := by
  unfold State.replayStep
  repeat' first
    | with_reducible exact SameExcept.refl _ _
    | ((with_reducible apply SameExcept.step); (with_reducible first
          | apply State.modPar_frame | apply State.discardRegion_frame | apply State.replayRecord_frame
          | apply State.commitRegion_frame | apply State.foldEnd_frame | apply State.setPrmHdr_frame); exact rfl)
    | ((apply SameExcept.stepPair (e := by assumption)); (with_reducible apply State.replayRecord_frame); exact rfl)
    | ((with_reducible apply SameExcept.foldl); intro _ _)
    | ((with_reducible apply SameExcept.foldlPair); intro _ _)
    | split
    | dsimp only

theorem State.replaySteps_frame (s : State) (handle) (steps) :
    SameExcept [.clk, .mem, .frm, .rgn, .wsk, .mc, .tl, .syn, .sch, .pwr, .stress, .evt, .att, .par, .obs, .cls, .arb,
      .tally, .free] s (State.replaySteps s handle steps) := by
  induction steps generalizing s handle with
  | nil =>
    simp only [State.replaySteps]
    repeat' first
      | with_reducible exact SameExcept.refl _ _
      | ((with_reducible apply SameExcept.step); (with_reducible first
            | apply State.bump_frame | apply State.replayStep_frame | apply State.setRestore_frame
            | apply State.restoreFails_frame); exact rfl)
      | ((apply SameExcept.stepPair (e := by assumption)); (with_reducible apply State.replayStep_frame); exact rfl)
      | split
      | dsimp only
  | cons x r ih =>
    simp only [State.replaySteps]
    repeat' first
      | with_reducible exact SameExcept.refl _ _
      | with_reducible apply SameExcept.trans (k := ih _ _)
      | ((with_reducible apply SameExcept.step); (with_reducible first
            | apply State.bump_frame | apply State.replayStep_frame | apply State.setRestore_frame
            | apply State.restoreFails_frame); exact rfl)
      | ((apply SameExcept.stepPair (e := by assumption)); (with_reducible apply State.replayStep_frame); exact rfl)
      | split
      | dsimp only

theorem State.restoreRun_frame (s : State) (handle) (last) :
    SameExcept [.clk, .mem, .frm, .rgn, .wsk, .mc, .tl, .syn, .sch, .pwr, .stress, .evt, .att, .par, .obs, .cls, .arb,
      .tally, .free] s ((State.restoreRun s handle last).getD s) := by
  unfold State.restoreRun
  repeat' first
    | with_reducible exact SameExcept.refl _ _
    | ((with_reducible apply SameExcept.step); (with_reducible apply State.replaySteps_frame); exact rfl)
    | split
    | dsimp only [Option.getD_some, Option.getD_none]

theorem State.applySync_frame (s : State) (o) :
    SameExcept [.mem, .frm, .rgn, .wsk, .mc, .tl, .syn, .sch, .pwr, .evt, .att, .par, .obs, .cls, .tally] s
      (State.applySync s o) := by
  unfold State.applySync
  repeat' first
    | with_reducible exact SameExcept.refl _ _
    | ((with_reducible apply SameExcept.step); (with_reducible first
          | apply State.refusedSig_frame | apply State.applySig_frame | apply State.done_frame); exact rfl)
    | ((apply SameExcept.stepOpt (e := by assumption)); (with_reducible apply State.applySig_frame); exact rfl)
    | split
    | dsimp only

theorem execSync_frame (req) (seq) (s : State) :
    SameExcept [.mem, .frm, .rgn, .wsk, .mc, .tl, .syn, .sch, .pwr, .stress, .evt, .att, .par, .obs, .cls, .arb,
      .tally] s (nextState (execSync req seq s) s) := by
  unfold execSync State.runLive
  repeat' first
    | with_reducible exact SameExcept.refl _ _
    | ((with_reducible apply SameExcept.step); (with_reducible first
          | apply State.holdSig_frame | apply State.reach_frame | apply State.begin_frame | apply State.wakeFor_frame
          | apply State.applySync_frame); exact rfl)
    | split
    | dsimp only [nextState]

theorem State.countVote_frame (s : State) (o) :
    SameExcept [.mem, .frm, .rgn, .wsk, .mc, .syn, .sch, .pwr, .att, .par, .obs, .cls, .tally] s (State.countVote s o)
      := by
  unfold State.countVote
  repeat' first
    | with_reducible exact SameExcept.refl _ _
    | ((with_reducible apply SameExcept.step); (with_reducible first
          | apply State.done_frame | apply State.modCtx_frame | apply State.begin_frame); exact rfl)
    | split
    | dsimp only

theorem State.countBar_frame (s : State) (o) :
    SameExcept [.mem, .frm, .rgn, .wsk, .mc, .tl, .syn, .sch, .pwr, .stress, .evt, .att, .par, .obs, .cls, .arb,
      .tally] s (State.countBar s o) := by
  unfold State.countBar
  repeat' first
    | with_reducible exact SameExcept.refl _ _
    | ((with_reducible apply SameExcept.step); (with_reducible first
          | apply State.barAdvance_frame | apply State.setBar_frame | apply State.done_frame
          | apply State.begin_frame); exact rfl)
    | split
    | dsimp only

theorem execBarrier_frame (req) (seq) (s : State) :
    SameExcept [.mem, .frm, .rgn, .wsk, .mc, .tl, .syn, .sch, .pwr, .stress, .evt, .att, .par, .obs, .cls, .arb, .tally] s (nextState (execBarrier req seq s) s) := by
  unfold execBarrier State.runLive
  split
  · rw [nextState_next]
    split
    · split
      · exact (State.wakeFor_frame ..).mono (by rfl)
      · split
        · exact (State.countVote_frame ..).mono (by rfl)
        · exact (State.countBar_frame ..).mono (by rfl)
    · exact SameExcept.refl _ _
  · exact SameExcept.refl _ _

theorem execBarrierAnswer_frame (ep) (seq) (code) (orig) (aux) (s : State) :
    SameExcept [.mem, .frm, .rgn, .wsk, .mc, .tl, .syn, .sch, .pwr, .stress, .evt, .att, .par, .obs, .cls, .arb,
      .tally] s (nextState (execBarrierAnswer ep seq code orig aux s) s) := by
  unfold execBarrierAnswer State.runLive
  repeat' first
    | with_reducible exact SameExcept.refl _ _
    | ((with_reducible apply SameExcept.step); (with_reducible first
          | apply State.bump_frame | apply State.barReleaseAll_frame | apply State.endOrig_frame
          | apply State.resendOrig_frame | apply State.abandonBarrier_frame | apply State.lateAnswer_frame); exact
          rfl)
    | split
    | dsimp only [nextState]

theorem State.remoteFreed_frame (s : State) :
    SameExcept [.mem, .frm, .rgn, .wsk, .mc, .tl, .syn, .sch, .pwr, .stress, .evt, .att, .par, .obs, .cls, .arb,
      .tally, .free] s (State.remoteFreed s) := by
  unfold State.remoteFreed
  repeat' first
    | with_reducible exact SameExcept.refl _ _
    | ((with_reducible apply SameExcept.step); (with_reducible apply State.issueTiles_frame); exact rfl)
    | split
    | dsimp only

theorem execRemoteSignalSend_frame (s : State) :
    SameExcept [.mem, .frm, .rgn, .wsk, .mc, .tl, .syn, .sch, .pwr, .stress, .evt, .att, .par, .obs, .cls, .arb,
      .tally, .free] s (nextState (execRemoteSignalSend s) s) := by
  unfold execRemoteSignalSend State.runLive
  repeat' first
    | with_reducible exact SameExcept.refl _ _
    | ((with_reducible apply SameExcept.step); (with_reducible first
          | apply State.bump_frame | apply State.remoteFreed_frame | apply State.abandonSignal_frame
          | apply State.originate_frame | apply State.modSyn_frame | apply State.noPeer_frame); exact rfl)
    | ((apply SameExcept.stepOpt (e := by assumption)); (with_reducible apply State.originate_frame); exact rfl)
    | split
    | dsimp only [nextState]

theorem execRemoteSignalAnswer_frame (ep) (seq) (code) (orig) (s : State) :
    SameExcept [.mem, .frm, .rgn, .wsk, .mc, .syn, .sch, .pwr, .evt, .att, .par, .obs, .cls, .tally] s
      (nextState (execRemoteSignalAnswer ep seq code orig s) s) := by
  unfold execRemoteSignalAnswer State.runLive
  repeat' first
    | with_reducible exact SameExcept.refl _ _
    | ((with_reducible apply SameExcept.step); (with_reducible first
          | apply State.bump_frame | apply State.abandonSignal_frame | apply State.endOrig_frame
          | apply State.resendOrig_frame | apply State.lateAnswer_frame); exact rfl)
    | split
    | dsimp only [nextState]

theorem State.ladelSignal_frame (s : State) (addr) (amount) :
    SameExcept [.tl, .pwr, .stress, .evt, .obs, .arb, .tally] s (State.ladelSignal s addr amount).1 := by
  unfold State.ladelSignal
  repeat' first
    | with_reducible exact SameExcept.refl _ _
    | ((with_reducible apply SameExcept.step); (with_reducible first
          | apply State.hubSig_frame | apply State.refusedSig_frame); exact rfl)
    | split
    | dsimp only

theorem State.eggSet_frame (s : State) (g) : SameExcept [.syn, .evt] s (State.eggSet s g) := by
  unfold State.eggSet
  repeat' first
    | with_reducible exact SameExcept.refl _ _
    | ((with_reducible apply SameExcept.step); (with_reducible first
          | apply State.raise_frame | apply State.modSyn_frame); exact rfl)
    | split
    | dsimp only

theorem execEggTimerEvaluate_frame (s : State) :
    SameExcept [.syn, .evt] s (nextState (execEggTimerEvaluate s) s) := by
  unfold execEggTimerEvaluate
  repeat' first
    | with_reducible exact SameExcept.refl _ _
    | ((with_reducible apply SameExcept.step); (with_reducible apply State.eggSet_frame); exact rfl)
    | ((with_reducible apply SameExcept.foldl); intro _ _)
    | ((with_reducible apply SameExcept.foldlPair); intro _ _)
    | split
    | dsimp only [nextState]

theorem State.modDisc_frame (s : State) (f) : SameExcept [.sch] s (State.modDisc s f) := by
  unfold State.modDisc
  repeat' first
    | with_reducible exact SameExcept.refl _ _
    | ((with_reducible apply SameExcept.step); (with_reducible apply State.modSch_frame); exact rfl)
    | split
    | dsimp only

theorem State.ftcState_frame (s : State) (st) : SameExcept [.sch, .evt, .obs, .tally] s (State.ftcState s st) := by
  unfold State.ftcState
  repeat' first
    | with_reducible exact SameExcept.refl _ _
    | ((with_reducible apply SameExcept.step); (with_reducible first
          | apply State.bump_frame | apply State.raise_frame | apply State.modDisc_frame); exact rfl)
    | split
    | dsimp only

theorem State.servo_frame (s : State) (e) : SameExcept [.sch] s (State.servo s e) := by
  unfold State.servo
  repeat' first
    | with_reducible exact SameExcept.refl _ _
    | ((with_reducible apply SameExcept.step); (with_reducible apply State.modDisc_frame); exact rfl)
    | split
    | dsimp only

theorem State.ftcLoad_frame (s : State) (v) : SameExcept [.clk, .sch, .evt, .obs, .tally] s (State.ftcLoad s v) := by
  unfold State.ftcLoad
  repeat' first
    | with_reducible exact SameExcept.refl _ _
    | ((with_reducible apply SameExcept.step); (with_reducible first
          | apply State.ftcState_frame | apply State.modClk_frame | apply State.modDisc_frame); exact rfl)
    | split
    | dsimp only

theorem State.pulse_frame (s : State) (v) (e) :
    SameExcept [.clk, .sch, .evt, .obs, .tally] s (State.pulse s v e) := by
  unfold State.pulse
  repeat' first
    | with_reducible exact SameExcept.refl _ _
    | ((with_reducible apply SameExcept.step); (with_reducible first
          | apply State.ftcState_frame | apply State.bump_frame | apply State.note_frame | apply State.ftcLoad_frame
          | apply State.servo_frame | apply State.modDisc_frame); exact rfl)
    | split
    | dsimp only

theorem execFtcPulse_frame (valid) (value) (phase) (s : State) :
    SameExcept [.clk, .sch, .evt, .obs, .tally] s (nextState (execFtcPulse valid value phase s) s) := by
  unfold execFtcPulse runIf
  repeat' first
    | with_reducible exact SameExcept.refl _ _
    | ((with_reducible apply SameExcept.step); (with_reducible first
          | apply State.pulse_frame | apply State.bump_frame); exact rfl)
    | split
    | dsimp only [nextState]

theorem State.toHoldover_frame (s : State) : SameExcept [.sch, .evt, .obs, .tally] s (State.toHoldover s) := by
  unfold State.toHoldover
  repeat' first
    | with_reducible exact SameExcept.refl _ _
    | ((with_reducible apply SameExcept.step); (with_reducible first
          | apply State.ftcState_frame | apply State.modDisc_frame); exact rfl)
    | split
    | dsimp only

theorem execPulseTimeout_frame (s : State) :
    SameExcept [.sch, .evt, .obs, .tally] s (nextState (execPulseTimeout s) s) := by
  unfold execPulseTimeout
  repeat' first
    | with_reducible exact SameExcept.refl _ _
    | ((with_reducible apply SameExcept.step); (with_reducible apply State.toHoldover_frame); exact rfl)
    | split
    | dsimp only [nextState]

theorem execHoldoverMaxExpiry_frame (s : State) :
    SameExcept [.sch, .evt, .obs, .tally] s (nextState (execHoldoverMaxExpiry s) s) := by
  unfold execHoldoverMaxExpiry
  repeat' first
    | with_reducible exact SameExcept.refl _ _
    | ((with_reducible apply SameExcept.step); (with_reducible apply State.ftcState_frame); exact rfl)
    | split
    | dsimp only [nextState]

theorem State.ftcResync_frame (s : State) : SameExcept [.sch] s ((State.ftcResync s).getD s) := by
  unfold State.ftcResync
  repeat' first
    | with_reducible exact SameExcept.refl _ _
    | ((with_reducible apply SameExcept.step); (with_reducible apply State.modDisc_frame); exact rfl)
    | split
    | dsimp only [Option.getD_some, Option.getD_none]

theorem execWheelTableEffect_frame (table) (s : State) :
    SameExcept [.sch] s (nextState (execWheelTableEffect table s) s) := by
  unfold execWheelTableEffect State.runLive
  repeat' first
    | with_reducible exact SameExcept.refl _ _
    | ((with_reducible apply SameExcept.step); (with_reducible apply State.modSch_frame); exact rfl)
    | split
    | dsimp only [nextState]

theorem State.schedCheck_frame (s : State) (handle) (ofs) (d) :
    SameExcept [.rgn, .evt] s (State.schedCheck s handle ofs d) := by
  unfold State.schedCheck
  repeat' first
    | with_reducible exact SameExcept.refl _ _
    | ((with_reducible apply SameExcept.step); (with_reducible first
          | apply State.note_frame | apply State.modRgn_frame); exact rfl)
    | split
    | dsimp only

theorem State.schedVerify_frame (s : State) (handle) :
    SameExcept [.rgn, .evt] s ((State.schedVerify s handle).getD s) := by
  unfold State.schedVerify
  repeat' first
    | with_reducible exact SameExcept.refl _ _
    | ((with_reducible apply SameExcept.step); (with_reducible apply State.schedCheck_frame); exact rfl)
    | split
    | dsimp only [Option.getD_some, Option.getD_none]

theorem State.dropResv_frame (s : State) (p) : SameExcept [.wsk] s (State.dropResv s p) := by
  unfold State.dropResv
  repeat' first
    | with_reducible exact SameExcept.refl _ _
    | ((with_reducible apply SameExcept.step); (with_reducible apply State.modWsk_frame); exact rfl)
    | ((with_reducible apply SameExcept.foldl); intro _ _)
    | ((with_reducible apply SameExcept.foldlPair); intro _ _)
    | split
    | dsimp only

theorem State.admitLaunch_frame (s : State) (k) (h) :
    SameExcept [.mem, .frm, .rgn, .wsk, .mc, .syn, .sch, .pwr, .att, .par, .obs, .cls, .tally] s (State.admitLaunch s
      k h) := by
  unfold State.admitLaunch
  repeat' first
    | with_reducible exact SameExcept.refl _ _
    | ((with_reducible apply SameExcept.step); (with_reducible first
          | apply State.doneAll_frame | apply State.dropResv_frame | apply State.setCtx_frame); exact rfl)
    | split
    | dsimp only

theorem execLaunch_frame (req) (seq) (s : State) :
    SameExcept [.frm, .pwr, .stress, .arb] s (nextState (execLaunch req seq s) s) := by
  unfold execLaunch State.runLive
  repeat' first
    | with_reducible exact SameExcept.refl _ _
    | ((with_reducible apply SameExcept.step); (with_reducible first
          | apply State.begin_frame | apply State.wakeFor_frame); exact rfl)
    | split
    | dsimp only [nextState]

theorem State.reserveSlot_frame (s : State) (i) (e) (y) (fresh : State) :
    SameExcept [.wsk] s ((State.reserveSlot s i e y fresh).getD s) := by
  unfold State.reserveSlot
  repeat' first
    | with_reducible exact SameExcept.refl _ _
    | ((with_reducible apply SameExcept.step); (with_reducible apply State.modWsk_frame); exact rfl)
    | split
    | dsimp only [Option.getD_some, Option.getD_none]

theorem State.loadProg_frame (s : State) (part) (e) : SameExcept [.rgn, .tl, .evt] s (State.loadProg s part e).1 := by
  unfold State.loadProg
  repeat' first
    | with_reducible exact SameExcept.refl _ _
    | ((with_reducible apply SameExcept.step); (with_reducible apply State.loadImage_frame); exact rfl)
    | ((apply SameExcept.stepPair (e := by assumption)); (with_reducible apply State.loadImage_frame); exact rfl)
    | split
    | dsimp only

theorem State.armEntry_frame (s : State) (i) (c) (a) (es) (taken) (fresh : State) (e) (k) :
    SameExcept [.rgn, .wsk, .tl, .evt] s ((State.armEntry s i c a es taken fresh e k).getD s) := by
  unfold State.armEntry
  repeat' first
    | with_reducible exact SameExcept.refl _ _
    | ((with_reducible apply SameExcept.step); (with_reducible first
          | apply State.loadProg_frame | apply State.reserveSlot_frame); exact rfl)
    | ((apply SameExcept.stepPair (e := by assumption)); (with_reducible apply State.loadProg_frame); exact rfl)
    | ((apply SameExcept.stepOpt (e := by assumption)); (with_reducible apply State.reserveSlot_frame); exact rfl)
    | split
    | dsimp only [Option.getD_some, Option.getD_none]

theorem State.armEntries_frame (s : State) (i) (c) (a) (taken) (fresh : State) (l) (k) (t : State)
    (e : State.armEntries s i c a taken fresh l k = .inl t) :
    SameExcept [.rgn, .wsk, .tl, .evt] s t := by
  induction l generalizing s k with
  | nil =>
    unfold State.armEntries at e
    cases e
    exact SameExcept.refl _ _
  | cons x r ih =>
    unfold State.armEntries at e
    split at e
    · exact SameExcept.trans (SameExcept.stepOpt (State.armEntry_frame ..) (by assumption) rfl (SameExcept.refl _ _)) (ih _ _ e)
    · cases e

theorem State.armFails_frame (s : State) (i) (entry) :
    SameExcept [.mem, .frm, .rgn, .wsk, .mc, .syn, .sch, .pwr, .evt, .att, .par, .obs, .cls, .tally] s (State.armFails
      s i entry) := by
  unfold State.armFails
  repeat' first
    | with_reducible exact SameExcept.refl _ _
    | ((with_reducible apply SameExcept.step); (with_reducible first
          | apply State.bump_frame | apply State.note_frame | apply State.done_frame | apply State.setCtx_frame);
          exact rfl)
    | split
    | dsimp only

theorem State.abandonArm_frame (s : State) (i) :
    SameExcept [.mem, .frm, .rgn, .wsk, .mc, .syn, .sch, .pwr, .evt, .att, .par, .obs, .cls, .tally] s
      (State.abandonArm s i) := by
  unfold State.abandonArm
  repeat' first
    | with_reducible exact SameExcept.refl _ _
    | ((with_reducible apply SameExcept.step); (with_reducible first
          | apply State.bump_frame | apply State.markCtx_frame | apply State.modCtx_frame
          | apply State.dropResv_frame); exact rfl)
    | split
    | dsimp only

theorem State.armed_frame (s : State) (i) (a) :
    SameExcept [.mem, .frm, .rgn, .wsk, .mc, .syn, .sch, .pwr, .att, .par, .obs, .cls, .tally] s (State.armed s i a)
      := by
  unfold State.armed
  repeat' first
    | with_reducible exact SameExcept.refl _ _
    | ((with_reducible apply SameExcept.step); (with_reducible first
          | apply State.bump_frame | apply State.finish_frame | apply State.setCtx_frame); exact rfl)
    | split
    | dsimp only

theorem execArmingComplete_frame (ctx) (s : State) :
    SameExcept [.mem, .frm, .rgn, .wsk, .mc, .tl, .syn, .sch, .pwr, .stress, .evt, .att, .par, .obs, .cls, .arb,
      .tally] s (nextState (execArmingComplete ctx s) s) := by
  unfold execArmingComplete State.runDuty
  repeat' first
    | with_reducible exact SameExcept.refl _ _
    | ((with_reducible apply SameExcept.step); (with_reducible first
          | apply State.abandonArm_frame | apply State.armFails_frame | apply State.imgCheck_frame
          | apply State.armed_frame | apply State.wakeRun_frame | apply State.schedCheck_frame
          | apply State.chargeOp_frame | apply State.freeSlots_frame); exact rfl)
    | ((apply SameExcept.stepPair (e := by assumption)); (with_reducible apply State.wakeRun_frame); exact rfl)
    | ((with_reducible apply SameExcept.step (h := State.armEntries_frame _ _ _ _ _ _ _ _ _ (by assumption))); exact
        rfl)
    | ((with_reducible apply SameExcept.foldl); intro _ _)
    | ((with_reducible apply SameExcept.foldlPair); intro _ _)
    | split
    | dsimp only [nextState]

theorem execArmingDeadline_frame (ctx) (s : State) :
    SameExcept [.mem, .frm, .rgn, .wsk, .mc, .syn, .sch, .pwr, .evt, .att, .par, .obs, .cls, .tally] s
      (nextState (execArmingDeadline ctx s) s) := by
  unfold execArmingDeadline State.runLive
  repeat' first
    | with_reducible exact SameExcept.refl _ _
    | ((with_reducible apply SameExcept.step); (with_reducible apply State.abandonArm_frame); exact rfl)
    | split
    | dsimp only [nextState]

theorem State.loadSpill_frame (s : State) (r) : SameExcept [.mem, .sch, .att] s (State.loadSpill s r) := by
  unfold State.loadSpill
  repeat' first
    | with_reducible exact SameExcept.refl _ _
    | ((with_reducible apply SameExcept.step); (with_reducible first
          | apply State.cleanCtx_frame | apply State.modSch_frame | apply State.bindSpill_frame); exact rfl)
    | split
    | dsimp only

theorem State.takeResv_frame (s : State) (i) : SameExcept [.wsk] s (State.takeResv s i) := by
  unfold State.takeResv
  repeat' first
    | with_reducible exact SameExcept.refl _ _
    | ((with_reducible apply SameExcept.step); (with_reducible apply State.modWsk_frame); exact rfl)
    | ((with_reducible apply SameExcept.foldl); intro _ _)
    | ((with_reducible apply SameExcept.foldlPair); intro _ _)
    | split
    | dsimp only

theorem State.clearRun_frame (s : State) (i) : SameExcept [.wsk, .tl, .evt, .obs, .tally] s (State.clearRun s i) := by
  unfold State.clearRun
  repeat' first
    | with_reducible exact SameExcept.refl _ _
    | ((with_reducible apply SameExcept.step); (with_reducible first
          | apply State.stopTile_frame | apply State.dropResv_frame | apply State.freeSlots_frame); exact rfl)
    | ((with_reducible apply SameExcept.foldl); intro _ _)
    | ((with_reducible apply SameExcept.foldlPair); intro _ _)
    | split
    | dsimp only

theorem execLaunchEdge_frame (ctx) (s : State) :
    SameExcept [.mem, .wsk, .tl, .sch, .evt, .att, .par, .obs, .tally] s (nextState (execLaunchEdge ctx s) s) := by
  unfold execLaunchEdge State.runLive
  repeat' first
    | with_reducible exact SameExcept.refl _ _
    | ((with_reducible apply SameExcept.step); (with_reducible first
          | apply State.modPar_frame | apply State.takeResv_frame | apply State.modSch_frame
          | apply State.setCtx_frame | apply State.clearRun_frame | apply State.loadSpill_frame); exact rfl)
    | ((with_reducible apply SameExcept.foldl); intro _ _)
    | ((with_reducible apply SameExcept.foldlPair); intro _ _)
    | split
    | dsimp only [nextState]

theorem execProgramEntryFire_frame (ctx) (entry) (s : State) :
    SameExcept [.tl, .sch, .pwr, .stress, .evt, .arb] s (nextState (execProgramEntryFire ctx entry s) s) := by
  unfold execProgramEntryFire State.runLive
  repeat' first
    | with_reducible exact SameExcept.refl _ _
    | ((with_reducible apply SameExcept.step); (with_reducible first
          | apply State.note_frame | apply State.modCtx_frame | apply State.giveStart_frame); exact rfl)
    | ((apply SameExcept.stepPair (e := by assumption)); (with_reducible apply State.giveStart_frame); exact rfl)
    | ((with_reducible apply SameExcept.foldl); intro _ _)
    | ((with_reducible apply SameExcept.foldlPair); intro _ _)
    | split
    | dsimp only [nextState]

theorem execSlotOpenFtc_frame (ctx) (entry) (s : State) :
    SameExcept [.mem, .frm, .rgn, .wsk, .mc, .syn, .sch, .pwr, .evt, .att, .par, .obs, .cls, .tally] s
      (nextState (execSlotOpenFtc ctx entry s) s) := by
  unfold execSlotOpenFtc State.runLive
  repeat' first
    | with_reducible exact SameExcept.refl _ _
    | ((with_reducible apply SameExcept.step); (with_reducible first
          | apply State.note_frame | apply State.setSlotRec_frame | apply State.mark_frame
          | apply State.dropResv_frame | apply State.claimPages_frame | apply State.modWsk_frame); exact rfl)
    | split
    | dsimp only [nextState]

theorem execContextEnd_frame (ctx) (s : State) : SameExcept [.sch] s (nextState (execContextEnd ctx s) s) := by
  unfold execContextEnd State.runLive
  repeat' first
    | with_reducible exact SameExcept.refl _ _
    | ((with_reducible apply SameExcept.step); (with_reducible apply State.setCtx_frame); exact rfl)
    | split
    | dsimp only [nextState]

theorem State.markTouched_frame (s : State) (ord) (h) : SameExcept [.rgn] s (State.markTouched s ord h) := by
  unfold State.markTouched
  repeat' first
    | with_reducible exact SameExcept.refl _ _
    | ((with_reducible apply SameExcept.step); (with_reducible apply State.dirtyFrom_frame); exact rfl)
    | ((with_reducible apply SameExcept.foldl); intro _ _)
    | ((with_reducible apply SameExcept.foldlPair); intro _ _)
    | split
    | dsimp only

theorem State.digestsReady_frame (s : State) :
    SameExcept [.mem, .frm, .rgn, .wsk, .mc, .syn, .sch, .pwr, .att, .par, .obs, .cls, .tally] s (State.digestsReady
      s) := by
  unfold State.digestsReady
  repeat' first
    | with_reducible exact SameExcept.refl _ _
    | ((with_reducible apply SameExcept.step); (with_reducible apply State.finish_frame); exact rfl)
    | ((with_reducible apply SameExcept.foldl); intro _ _)
    | ((with_reducible apply SameExcept.foldlPair); intro _ _)
    | split
    | dsimp only

theorem execRehashPass_frame (desc) (s : State) :
    SameExcept [.mem, .frm, .rgn, .wsk, .mc, .syn, .sch, .pwr, .att, .par, .obs, .cls, .tally] s
      (nextState (execRehashPass desc s) s) := by
  unfold execRehashPass State.runLive
  repeat' first
    | with_reducible exact SameExcept.refl _ _
    | ((with_reducible apply SameExcept.step); (with_reducible first
          | apply State.digestsReady_frame | apply State.leavesHashed_frame | apply State.modRgn_frame
          | apply State.markTouched_frame); exact rfl)
    | ((with_reducible apply SameExcept.foldl); intro _ _)
    | ((with_reducible apply SameExcept.foldlPair); intro _ _)
    | split
    | dsimp only [nextState]

theorem State.takeOver_frame (s : State) (r) (n) : SameExcept [.frm] s (State.takeOver s r n) := by
  unfold State.takeOver
  repeat' first
    | with_reducible exact SameExcept.refl _ _
    | ((with_reducible apply SameExcept.step); (with_reducible apply State.setSummary_frame); exact rfl)
    | ((with_reducible apply SameExcept.foldl); intro _ _)
    | ((with_reducible apply SameExcept.foldlPair); intro _ _)
    | split
    | dsimp only

theorem State.noteRefused_frame (s : State) (h) (code) :
    SameExcept [.mem, .frm, .rgn, .wsk, .mc, .syn, .sch, .pwr, .evt, .att, .par, .obs, .cls, .tally] s
      (State.noteRefused s h code) := by
  unfold State.noteRefused
  repeat' first
    | with_reducible exact SameExcept.refl _ _
    | ((with_reducible apply SameExcept.step); (with_reducible first
          | apply State.refusedSig_frame | apply State.mark_frame); exact rfl)
    | split
    | dsimp only

theorem State.closeKey_frame (s : State) (req) (seq) (att) : SameExcept [.frm] s (State.closeKey s req seq att) := by
  unfold State.closeKey
  repeat' first
    | with_reducible exact SameExcept.refl _ _
    | ((with_reducible apply SameExcept.step); (with_reducible first
          | apply State.modFrm_frame | apply State.freeKey_frame); exact rfl)
    | split
    | dsimp only

theorem State.answer_frame (s : State) (p) (req) (seq) (att) (h) (code) (orig) (aux) :
    SameExcept [.frm] s (State.answer s p req seq att h code orig aux) := by
  unfold State.answer
  repeat' first
    | with_reducible exact SameExcept.refl _ _
    | ((with_reducible apply SameExcept.step); (with_reducible first
          | apply State.closeKey_frame | apply State.stage_frame); exact rfl)
    | split
    | dsimp only

theorem State.refuse_frame (s : State) (p) (r) (req) (seq) (att) (h) (code) (aux) :
    SameExcept [.frm] s (State.refuse s p r req seq att h code aux) := by
  unfold State.refuse
  repeat' first
    | with_reducible exact SameExcept.refl _ _
    | ((with_reducible apply SameExcept.step); (with_reducible first
          | apply State.closeKey_frame | apply State.issueDone_frame | apply State.setSlot_frame); exact rfl)
    | split
    | dsimp only

theorem State.dupAnswer_frame (s : State) (p) (r) (req) (seq) (att) (h) :
    SameExcept [.frm, .obs, .cls, .tally] s (State.dupAnswer s p r req seq att h) := by
  unfold State.dupAnswer
  repeat' first
    | with_reducible exact SameExcept.refl _ _
    | ((with_reducible apply SameExcept.step); (with_reducible first
          | apply State.closeKey_frame | apply State.stage_frame | apply State.chargeClass_frame
          | apply State.portBump_frame); exact rfl)
    | split
    | dsimp only

theorem State.admitUnit_frame (s : State) (k) (h) :
    SameExcept [.mem, .frm, .rgn, .wsk, .mc, .syn, .sch, .pwr, .att, .par, .obs, .cls, .tally] s (State.admitUnit s k
      h) := by
  unfold State.admitUnit
  repeat' first
    | with_reducible exact SameExcept.refl _ _
    | ((with_reducible apply SameExcept.step); (with_reducible first
          | apply State.admitLaunch_frame | apply State.admitKvAppend_frame | apply State.admitAttn_frame
          | apply State.admitOptStep_frame | apply State.admitRedClose_frame | apply State.admitRedOpen_frame
          | apply State.admitAccum_frame); exact rfl)
    | split
    | dsimp only

theorem State.park_frame (s : State) (p) (k) (c) : SameExcept [.frm] s (State.park s p k c) := by
  unfold State.park
  repeat' first
    | with_reducible exact SameExcept.refl _ _
    | ((with_reducible apply SameExcept.step); (with_reducible first
          | apply State.modPort_frame | apply State.modFrm_frame); exact rfl)
    | split
    | dsimp only

theorem State.admitAt_frame (s : State) (p) (r) (req) (seq) (att) (h) (c) (yellow) :
    SameExcept [.mem, .frm, .rgn, .wsk, .mc, .syn, .sch, .pwr, .att, .par, .obs, .cls, .tally] s (State.admitAt s p r
      req seq att h c yellow) := by
  unfold State.admitAt
  repeat' first
    | with_reducible exact SameExcept.refl _ _
    | ((with_reducible apply SameExcept.step); (with_reducible first
          | apply State.issueDone_frame | apply State.setSlot_frame | apply State.modFrm_frame
          | apply State.modRgn_frame | apply State.park_frame | apply State.admitUnit_frame
          | apply State.markTouched_frame); exact rfl)
    | split
    | dsimp only

theorem State.judge_frame (s : State) (p) (r) (req) (seq) (att) (h) (c) (colour) :
    SameExcept [.mem, .frm, .rgn, .wsk, .mc, .syn, .sch, .pwr, .evt, .att, .par, .obs, .cls, .tally] s (State.judge s
      p r req seq att h c colour) := by
  unfold State.judge
  repeat' first
    | with_reducible exact SameExcept.refl _ _
    | ((with_reducible apply SameExcept.step); (with_reducible first
          | apply State.noteRefused_frame | apply State.refuse_frame | apply State.admitAt_frame); exact rfl)
    | split
    | dsimp only

theorem State.decideHeader_frame (s : State) (p) (c) (colour) :
    SameExcept [.mem, .frm, .rgn, .wsk, .mc, .syn, .sch, .pwr, .evt, .att, .par, .obs, .cls, .tally] s
      (State.decideHeader s p c colour) := by
  unfold State.decideHeader
  repeat' first
    | with_reducible exact SameExcept.refl _ _
    | ((with_reducible apply SameExcept.step); (with_reducible first
          | apply State.answer_frame | apply State.takeOver_frame | apply State.judge_frame
          | apply State.portBump_frame | apply State.dupAnswer_frame); exact rfl)
    | split
    | dsimp only

theorem State.headerCell_frame (s : State) (p) (c) :
    SameExcept [.mem, .frm, .rgn, .wsk, .mc, .syn, .sch, .pwr, .evt, .att, .par, .obs, .cls, .tally] s
      (State.headerCell s p c) := by
  unfold State.headerCell
  repeat' first
    | with_reducible exact SameExcept.refl _ _
    | ((with_reducible apply SameExcept.step); (with_reducible first
          | apply State.decideHeader_frame | apply State.portBump_frame | apply State.paint_frame); exact rfl)
    | ((apply SameExcept.stepPair (e := by assumption)); (with_reducible apply State.paint_frame); exact rfl)
    | split
    | dsimp only

theorem State.giveUp_frame (s : State) (k) (x) :
    SameExcept [.mem, .frm, .rgn, .wsk, .mc, .syn, .sch, .pwr, .att, .par, .obs, .cls, .tally] s (State.giveUp s k x)
      := by
  unfold State.giveUp
  repeat' first
    | with_reducible exact SameExcept.refl _ _
    | ((with_reducible apply SameExcept.step); (with_reducible first
          | apply State.finish_frame | apply State.freeKey_frame); exact rfl)
    | split
    | dsimp only

theorem State.relieve_frame (s : State) (p) :
    SameExcept [.mem, .frm, .rgn, .wsk, .mc, .syn, .sch, .pwr, .att, .par, .obs, .cls, .tally] s (State.relieve s p)
      := by
  unfold State.relieve
  repeat' first
    | with_reducible exact SameExcept.refl _ _
    | ((with_reducible apply SameExcept.step); (with_reducible first
          | apply State.giveUp_frame | apply State.portBump_frame); exact rfl)
    | ((with_reducible apply SameExcept.foldl); intro _ _)
    | ((with_reducible apply SameExcept.foldlPair); intro _ _)
    | split
    | dsimp only

theorem State.payloadCell_frame (s : State) (p) (c) :
    SameExcept [.mem, .frm, .rgn, .wsk, .mc, .syn, .sch, .pwr, .att, .par, .obs, .cls, .tally] s (State.payloadCell s
      p c) := by
  unfold State.payloadCell
  repeat' first
    | with_reducible exact SameExcept.refl _ _
    | ((with_reducible apply SameExcept.step); (with_reducible first
          | apply State.setOp_frame | apply State.portBump_frame | apply State.park_frame
          | apply State.relieve_frame); exact rfl)
    | split
    | dsimp only

theorem execIngressCell_frame (port) (cell) (s : State) :
    SameExcept [.mem, .frm, .rgn, .wsk, .mc, .syn, .sch, .pwr, .stress, .evt, .att, .par, .obs, .cls, .arb, .tally] s
      (nextState (execIngressCell port cell s) s) := by
  unfold execIngressCell State.runLive
  repeat' first
    | with_reducible exact SameExcept.refl _ _
    | ((with_reducible apply SameExcept.step); (with_reducible first
          | apply State.wakeDom_frame | apply State.headerCell_frame | apply State.payloadCell_frame
          | apply State.portBump_frame | apply State.relieve_frame); exact rfl)
    | split
    | dsimp only [nextState]

theorem execReassemblyTimeout_frame (req) (seq) (att) (s : State) :
    SameExcept [.mem, .frm, .rgn, .wsk, .mc, .syn, .sch, .pwr, .att, .par, .obs, .cls, .tally] s
      (nextState (execReassemblyTimeout req seq att s) s) := by
  unfold execReassemblyTimeout State.runLive
  repeat' first
    | with_reducible exact SameExcept.refl _ _
    | ((with_reducible apply SameExcept.step); (with_reducible first
          | apply State.giveUp_frame | apply State.portBump_frame); exact rfl)
    | split
    | dsimp only [nextState]

theorem execLateCellWindowEnd_frame (req) (seq) (att) (s : State) :
    SameExcept [.frm] s (nextState (execLateCellWindowEnd req seq att s) s) := by
  unfold execLateCellWindowEnd State.runLive
  repeat' first
    | with_reducible exact SameExcept.refl _ _
    | ((with_reducible apply SameExcept.step); (with_reducible apply State.modFrm_frame); exact rfl)
    | split
    | dsimp only [nextState]

theorem execOrderedRelease_frame (req) (seq) (s : State) :
    SameExcept [.frm] s (nextState (execOrderedRelease req seq s) s) := by
  unfold execOrderedRelease State.runLive
  repeat' first
    | with_reducible exact SameExcept.refl _ _
    | ((with_reducible apply SameExcept.step); (with_reducible apply State.setOp_frame); exact rfl)
    | split
    | dsimp only [nextState]

theorem execHoldTimeEnd_frame (req) (seq) (s : State) :
    SameExcept [.frm] s (nextState (execHoldTimeEnd req seq s) s) := by
  unfold execHoldTimeEnd State.runLive
  repeat' first
    | with_reducible exact SameExcept.refl _ _
    | ((with_reducible apply SameExcept.step); (with_reducible first
          | apply State.issueDone_frame | apply State.modFrm_frame); exact rfl)
    | split
    | dsimp only [nextState]

theorem execRead_frame (req) (seq) (s : State) :
    SameExcept [.mem, .frm, .rgn, .wsk, .mc, .syn, .sch, .pwr, .stress, .att, .par, .obs, .cls, .arb, .tally] s
      (nextState (execRead req seq s) s) := by
  unfold execRead State.runLive
  repeat' first
    | with_reducible exact SameExcept.refl _ _
    | ((with_reducible apply SameExcept.step); (with_reducible first
          | apply State.rheal_frame | apply State.finish_frame | apply State.chargeOp_frame
          | apply State.wakeFor_frame); exact rfl)
    | split
    | dsimp only [nextState]

theorem State.forgetImages_frame (s : State) (desc) (ofs) (len) :
    SameExcept [.rgn] s (State.forgetImages s desc ofs len) := by
  unfold State.forgetImages
  repeat' first
    | with_reducible exact SameExcept.refl _ _
    | ((with_reducible apply SameExcept.step); (with_reducible apply State.modRgn_frame); exact rfl)
    | split
    | dsimp only

theorem execWrite_frame (req) (seq) (s : State) :
    SameExcept [.mem, .frm, .rgn, .wsk, .mc, .syn, .sch, .pwr, .stress, .att, .par, .obs, .cls, .arb, .tally] s
      (nextState (execWrite req seq s) s) := by
  unfold execWrite State.runLive
  repeat' first
    | with_reducible exact SameExcept.refl _ _
    | ((with_reducible apply SameExcept.step); (with_reducible first
          | apply State.rwrite_frame | apply State.healMap_frame | apply State.done_frame
          | apply State.forgetImages_frame | apply State.chargeOp_frame | apply State.wakeFor_frame); exact rfl)
    | split
    | dsimp only [nextState]

theorem State.flashClear_frame (s : State) (a) (n) : SameExcept [.ldl] s (State.flashClear s a n) := by
  unfold State.flashClear
  repeat' first
    | with_reducible exact SameExcept.refl _ _
    | ((with_reducible apply SameExcept.step); (with_reducible apply State.modLdl_frame); exact rfl)
    | split
    | dsimp only

theorem State.flashPut_frame (s : State) (a) (d) : SameExcept [.ldl] s (State.flashPut s a d) := by
  unfold State.flashPut
  repeat' first
    | with_reducible exact SameExcept.refl _ _
    | ((with_reducible apply SameExcept.step); (with_reducible apply State.modLdl_frame); exact rfl)
    | split
    | dsimp only

theorem State.countErase_frame (s : State) (k) : SameExcept [.per, .evt, .obs, .tally] s (State.countErase s k) := by
  unfold State.countErase
  repeat' first
    | with_reducible exact SameExcept.refl _ _
    | ((with_reducible apply SameExcept.step); (with_reducible first
          | apply State.bump_frame | apply State.raise_frame | apply State.modPer_frame); exact rfl)
    | split
    | dsimp only

theorem State.rejected_frame (s : State) (x) : SameExcept [.evt, .free] s (State.rejected s x) := by
  unfold State.rejected
  repeat' first
    | with_reducible exact SameExcept.refl _ _
    | ((with_reducible apply SameExcept.step); (with_reducible first
          | apply State.spend_frame | apply State.raise_frame); exact rfl)
    | split
    | dsimp only

theorem State.pickSlot_frame (s : State) : SameExcept [.evt, .free] s (State.pickSlot s).1 := by
  unfold State.pickSlot
  repeat' first
    | with_reducible exact SameExcept.refl _ _
    | ((with_reducible apply SameExcept.step); (with_reducible apply State.rejected_frame); exact rfl)
    | split
    | dsimp only

theorem State.putSector_frame (s : State) (x) (p) (d) :
    SameExcept [.ldl, .per, .evt, .obs, .tally] s (State.putSector s x p d).1 := by
  unfold State.putSector
  repeat' first
    | with_reducible exact SameExcept.refl _ _
    | ((with_reducible apply SameExcept.step); (with_reducible first
          | apply State.countErase_frame | apply State.raise_frame | apply State.modPer_frame
          | apply State.flashClear_frame | apply State.flashPut_frame); exact rfl)
    | split
    | dsimp only

theorem State.putRecord_frame (s : State) (x) (r) :
    SameExcept [.ldl, .per, .evt, .obs, .tally] s (State.putRecord s x r).1 := by
  unfold State.putRecord
  repeat' first
    | with_reducible exact SameExcept.refl _ _
    | ((with_reducible apply SameExcept.step); (with_reducible apply State.putSector_frame); exact rfl)
    | ((apply SameExcept.stepPair (e := by assumption)); (with_reducible apply State.putSector_frame); exact rfl)
    | ((with_reducible apply SameExcept.foldl); intro _ _)
    | ((with_reducible apply SameExcept.foldlPair); intro _ _)
    | split
    | dsimp only

theorem State.pickRecord_frame (s : State) :
    SameExcept [.ldl, .per, .evt, .obs, .tally] s (State.pickRecord s).1 := by
  unfold State.pickRecord
  repeat' first
    | with_reducible exact SameExcept.refl _ _
    | ((with_reducible apply SameExcept.step); (with_reducible apply State.putRecord_frame); exact rfl)
    | ((apply SameExcept.stepPair (e := by assumption)); (with_reducible apply State.putRecord_frame); exact rfl)
    | split
    | dsimp only

theorem State.commitImage_frame (s : State) (hours) (boost) :
    SameExcept [.dict, .ldl, .per, .evt, .obs, .tally] s (State.commitImage s hours boost) := by
  unfold State.commitImage
  repeat' first
    | with_reducible exact SameExcept.refl _ _
    | ((with_reducible apply SameExcept.step); (with_reducible first
          | apply State.modDict_frame | apply State.bump_frame | apply State.modPer_frame | apply State.modLdl_frame
          | apply State.putRecord_frame); exact rfl)
    | ((apply SameExcept.stepPair (e := by assumption)); (with_reducible apply State.putRecord_frame); exact rfl)
    | split
    | dsimp only

theorem State.askCommit_frame (s : State) (hours) (boost) :
    SameExcept [.dict, .ldl, .per, .evt, .obs, .tally] s (State.askCommit s hours boost) := by
  unfold State.askCommit
  repeat' first
    | with_reducible exact SameExcept.refl _ _
    | ((with_reducible apply SameExcept.step); (with_reducible first
          | apply State.modPer_frame | apply State.commitImage_frame); exact rfl)
    | split
    | dsimp only

theorem State.applyEntry_frame (s : State) (e) : SameExcept [.dict, .stress, .evt] s (State.applyEntry s e) := by
  unfold State.applyEntry
  repeat' first
    | with_reducible exact SameExcept.refl _ _
    | ((with_reducible apply SameExcept.step); (with_reducible first
          | apply State.setBlob_frame | apply State.setParam_frame | apply State.raise_frame
          | apply State.modStress_frame); exact rfl)
    | split
    | dsimp only

theorem State.applyRecord_frame (s : State) (r) :
    SameExcept [.dict, .per, .stress, .evt] s (State.applyRecord s r) := by
  unfold State.applyRecord
  repeat' first
    | with_reducible exact SameExcept.refl _ _
    | ((with_reducible apply SameExcept.step); (with_reducible first
          | apply State.modPer_frame | apply State.applyEntry_frame); exact rfl)
    | ((with_reducible apply SameExcept.foldl); intro _ _)
    | ((with_reducible apply SameExcept.foldlPair); intro _ _)
    | split
    | dsimp only

theorem State.setPot_frame (s : State) (st) (x) : SameExcept [.stk] s (State.setPot s st x) := by
  unfold State.setPot
  repeat' first
    | with_reducible exact SameExcept.refl _ _
    | ((with_reducible apply SameExcept.step); (with_reducible apply State.modStk_frame); exact rfl)
    | split
    | dsimp only

theorem State.modPot_frame (s : State) (st) (f) : SameExcept [.stk] s (State.modPot s st f) := by
  unfold State.modPot
  repeat' first
    | with_reducible exact SameExcept.refl _ _
    | ((with_reducible apply SameExcept.step); (with_reducible apply State.setPot_frame); exact rfl)
    | split
    | dsimp only

theorem State.setPc_frame (s : State) (st) (c) (x) : SameExcept [.stk] s (State.setPc s st c x) := by
  unfold State.setPc
  repeat' first
    | with_reducible exact SameExcept.refl _ _
    | ((with_reducible apply SameExcept.step); (with_reducible apply State.modPot_frame); exact rfl)
    | split
    | dsimp only

theorem State.modPc_frame (s : State) (st) (c) (f) : SameExcept [.stk] s (State.modPc s st c f) := by
  unfold State.modPc
  repeat' first
    | with_reducible exact SameExcept.refl _ _
    | ((with_reducible apply SameExcept.step); (with_reducible apply State.setPc_frame); exact rfl)
    | split
    | dsimp only

theorem State.setChan_frame (s : State) (st) (c) (x) : SameExcept [.stk] s (State.setChan s st c x) := by
  unfold State.setChan
  repeat' first
    | with_reducible exact SameExcept.refl _ _
    | ((with_reducible apply SameExcept.step); (with_reducible apply State.modPot_frame); exact rfl)
    | split
    | dsimp only

theorem State.modChan_frame (s : State) (st) (c) (f) : SameExcept [.stk] s (State.modChan s st c f) := by
  unfold State.modChan
  repeat' first
    | with_reducible exact SameExcept.refl _ _
    | ((with_reducible apply SameExcept.step); (with_reducible apply State.setChan_frame); exact rfl)
    | split
    | dsimp only

theorem State.pcBump_frame (s : State) (st) (c) (entry) (n) :
    SameExcept [.obs, .tally] s (State.pcBump s st c entry n) := by
  unfold State.pcBump
  repeat' first
    | with_reducible exact SameExcept.refl _ _
    | ((with_reducible apply SameExcept.step); (with_reducible apply State.bump_frame); exact rfl)
    | split
    | dsimp only

theorem State.stackBump_frame (s : State) (st) (entry) (n) :
    SameExcept [.obs, .tally] s (State.stackBump s st entry n) := by
  unfold State.stackBump
  repeat' first
    | with_reducible exact SameExcept.refl _ _
    | ((with_reducible apply SameExcept.step); (with_reducible apply State.bump_frame); exact rfl)
    | split
    | dsimp only

end Sys2Proof.Machine
end

