-- ==== Sys2Proof/Laws/FrameService.lean ====
section
/-! SUPPORT. Frames: the groups of the state that each operation may change, one lemma per operation (Pot, Retrain,
Integrity, Phy, Egress, Power). -/

namespace Sys2Proof.Machine

theorem State.chanBump_frame (s : State) (st) (ch) (entry) (n) :
    SameExcept [.obs, .tally] s (State.chanBump s st ch entry n) := by
  unfold State.chanBump
  repeat' first
    | with_reducible exact SameExcept.refl _ _
    | ((with_reducible apply SameExcept.step); (with_reducible apply State.bump_frame); exact rfl)
    | split
    | dsimp only

theorem State.enterPool_frame (s : State) (st) (c) (r) :
    SameExcept [.obs, .stk, .tally] s (State.enterPool s st c r) := by
  unfold State.enterPool
  repeat' first
    | with_reducible exact SameExcept.refl _ _
    | ((with_reducible apply SameExcept.step); (with_reducible first
          | apply State.pcBump_frame | apply State.setPc_frame); exact rfl)
    | split
    | dsimp only

theorem State.markOver_frame (s : State) (st) (c) (r) : SameExcept [.stk] s (State.markOver s st c r) := by
  unfold State.markOver
  repeat' first
    | with_reducible exact SameExcept.refl _ _
    | ((with_reducible apply SameExcept.step); (with_reducible apply State.modPc_frame); exact rfl)
    | split
    | dsimp only

theorem State.countMoved_frame (s : State) (o) (n) : SameExcept [.frm, .tl] s (State.countMoved s o n) := by
  unfold State.countMoved
  repeat' first
    | with_reducible exact SameExcept.refl _ _
    | ((with_reducible apply SameExcept.step); (with_reducible first
          | apply State.setOp_frame | apply State.modTile_frame); exact rfl)
    | split
    | dsimp only

theorem State.chargeReq_frame (s : State) (r) (joins) :
    SameExcept [.frm, .tl, .obs, .cls, .tally] s (State.chargeReq s r joins) := by
  unfold State.chargeReq
  repeat' first
    | with_reducible exact SameExcept.refl _ _
    | ((with_reducible apply SameExcept.step); (with_reducible first
          | apply State.chargeClass_frame | apply State.countMoved_frame); exact rfl)
    | split
    | dsimp only

theorem State.maskStore_frame (s : State) (bpa) (mask) (d) : SameExcept [.mem] s (State.maskStore s bpa mask d) := by
  unfold State.maskStore
  repeat' first
    | with_reducible exact SameExcept.refl _ _
    | ((with_reducible apply SameExcept.step); (with_reducible first
          | apply State.store_frame | apply State.mwrite_frame); exact rfl)
    | split
    | dsimp only

theorem State.poisonAt_frame (s : State) (y) (g) : SameExcept [.mem, .evt, .stk] s (State.poisonAt s y g) := by
  unfold State.poisonAt
  repeat' first
    | with_reducible exact SameExcept.refl _ _
    | ((with_reducible apply SameExcept.step); (with_reducible first
          | apply State.poisonGranule_frame | apply State.modPot_frame | apply State.raise_frame); exact rfl)
    | split
    | dsimp only

theorem State.accepted_frame (s : State) (st) (c) (r) (joins) :
    SameExcept [.mem, .frm, .tl, .evt, .obs, .cls, .stk, .tally] s (State.accepted s st c r joins) := by
  unfold State.accepted
  repeat' first
    | with_reducible exact SameExcept.refl _ _
    | ((with_reducible apply SameExcept.step); (with_reducible first
          | apply State.mwrite_frame | apply State.maskStore_frame | apply State.poisonAt_frame
          | apply State.chargeReq_frame | apply State.markOver_frame); exact rfl)
    | split
    | dsimp only

theorem State.quitPool_frame (s : State) (st) (c) (r) : SameExcept [.stk] s (State.quitPool s st c r) := by
  unfold State.quitPool
  repeat' first
    | with_reducible exact SameExcept.refl _ _
    | ((with_reducible apply SameExcept.step); (with_reducible apply State.modPc_frame); exact rfl)
    | split
    | dsimp only

theorem State.cancelMerge_frame (s : State) (st) (c) (g) : SameExcept [.stk] s (State.cancelMerge s st c g) := by
  unfold State.cancelMerge
  repeat' first
    | with_reducible exact SameExcept.refl _ _
    | ((with_reducible apply SameExcept.step); (with_reducible apply State.quitPool_frame); exact rfl)
    | split
    | dsimp only

theorem State.mergeWrite_frame (s : State) (st) (c) (r) :
    SameExcept [.mem, .frm, .tl, .evt, .obs, .cls, .stk, .tally] s ((State.mergeWrite s st c r).getD s) := by
  unfold State.mergeWrite
  repeat' first
    | with_reducible exact SameExcept.refl _ _
    | ((with_reducible apply SameExcept.step); (with_reducible first
          | apply State.enterPool_frame | apply State.cancelMerge_frame | apply State.accepted_frame
          | apply State.pcBump_frame | apply State.setPc_frame | apply State.modPc_frame); exact rfl)
    | split
    | dsimp only [Option.getD_some, Option.getD_none]

theorem State.mergeServe_frame (s : State) (st) (c) (r) (m) :
    SameExcept [.mem, .frm, .tl, .evt, .obs, .cls, .stk, .tally] s (State.mergeServe s st c r m) := by
  unfold State.mergeServe
  repeat' first
    | with_reducible exact SameExcept.refl _ _
    | ((with_reducible apply SameExcept.step); (with_reducible first
          | apply State.accepted_frame | apply State.modPc_frame); exact rfl)
    | split
    | dsimp only

theorem State.tryEnter_frame (s : State) (st) (c) (r) :
    SameExcept [.mem, .frm, .tl, .evt, .obs, .cls, .stk, .tally] s ((State.tryEnter s st c r).getD s) := by
  unfold State.tryEnter
  repeat' first
    | with_reducible exact SameExcept.refl _ _
    | ((with_reducible apply SameExcept.step); (with_reducible first
          | apply State.mergeServe_frame | apply State.enterPool_frame | apply State.mergeWrite_frame
          | apply State.cancelMerge_frame | apply State.accepted_frame | apply State.setPc_frame); exact rfl)
    | ((apply SameExcept.stepOpt (e := by assumption)); (with_reducible apply State.mergeWrite_frame); exact rfl)
    | split
    | dsimp only [Option.getD_some, Option.getD_none]

theorem State.pullOwn_frame (s : State) (st) (c) (fuel) :
    SameExcept [.mem, .frm, .tl, .evt, .obs, .cls, .stk, .tally] s (State.pullOwn s st c fuel) := by
  induction fuel generalizing s st c with
  | zero =>
    simp only [State.pullOwn]
    repeat' first
      | with_reducible exact SameExcept.refl _ _
      | ((with_reducible apply SameExcept.step); (with_reducible first
            | apply State.modPc_frame | apply State.tryEnter_frame); exact rfl)
      | ((apply SameExcept.stepOpt (e := by assumption)); (with_reducible apply State.tryEnter_frame); exact rfl)
      | split
      | dsimp only
  | succ n ih =>
    simp only [State.pullOwn]
    repeat' first
      | with_reducible exact SameExcept.refl _ _
      | with_reducible apply SameExcept.trans (k := ih _ _ _)
      | ((with_reducible apply SameExcept.step); (with_reducible first
            | apply State.modPc_frame | apply State.tryEnter_frame); exact rfl)
      | ((apply SameExcept.stepOpt (e := by assumption)); (with_reducible apply State.tryEnter_frame); exact rfl)
      | split
      | dsimp only

theorem State.pullFifo_frame (s : State) (st) (c) (fuel) :
    SameExcept [.mem, .frm, .tl, .evt, .obs, .cls, .stk, .tally] s (State.pullFifo s st c fuel) := by
  induction fuel generalizing s st c with
  | zero =>
    simp only [State.pullFifo]
    repeat' first
      | with_reducible exact SameExcept.refl _ _
      | ((with_reducible apply SameExcept.step); (with_reducible first
            | apply State.modPc_frame | apply State.tryEnter_frame); exact rfl)
      | ((apply SameExcept.stepOpt (e := by assumption)); (with_reducible apply State.tryEnter_frame); exact rfl)
      | split
      | dsimp only
  | succ n ih =>
    simp only [State.pullFifo]
    repeat' first
      | with_reducible exact SameExcept.refl _ _
      | with_reducible apply SameExcept.trans (k := ih _ _ _)
      | ((with_reducible apply SameExcept.step); (with_reducible first
            | apply State.modPc_frame | apply State.tryEnter_frame); exact rfl)
      | ((apply SameExcept.stepOpt (e := by assumption)); (with_reducible apply State.tryEnter_frame); exact rfl)
      | split
      | dsimp only

theorem State.pullAll_frame (s : State) (st) (c) :
    SameExcept [.mem, .frm, .tl, .evt, .obs, .cls, .stk, .tally] s (State.pullAll s st c) := by
  unfold State.pullAll
  repeat' first
    | with_reducible exact SameExcept.refl _ _
    | ((with_reducible apply SameExcept.step); (with_reducible first
          | apply State.pullOwn_frame | apply State.pullFifo_frame); exact rfl)
    | split
    | dsimp only

theorem State.leavePool_frame (s : State) (st) (c) (r) :
    SameExcept [.mem, .frm, .tl, .evt, .obs, .cls, .stk, .tally] s (State.leavePool s st c r) := by
  unfold State.leavePool
  repeat' first
    | with_reducible exact SameExcept.refl _ _
    | ((with_reducible apply SameExcept.step); (with_reducible first
          | apply State.quitPool_frame | apply State.pullAll_frame); exact rfl)
    | split
    | dsimp only

theorem State.offer_frame (s : State) (st) (c) (r) :
    SameExcept [.mem, .frm, .tl, .evt, .obs, .cls, .stk, .tally] s ((State.offer s st c r).getD s) := by
  unfold State.offer
  repeat' first
    | with_reducible exact SameExcept.refl _ _
    | ((with_reducible apply SameExcept.step); (with_reducible first
          | apply State.setPc_frame | apply State.tryEnter_frame); exact rfl)
    | ((apply SameExcept.stepOpt (e := by assumption)); (with_reducible apply State.tryEnter_frame); exact rfl)
    | split
    | dsimp only [Option.getD_some, Option.getD_none]

theorem State.offerAll_frame (s : State) (r) (ps) :
    SameExcept [.mem, .frm, .tl, .evt, .obs, .cls, .stk, .tally] s ((State.offerAll s r ps).getD s) := by
  suffices h : ∀ t, State.offerAll s r ps = some t → SameExcept [.mem, .frm, .tl, .evt, .obs, .cls, .stk, .tally] s t by
    cases e : State.offerAll s r ps with
    | none => exact SameExcept.refl _ _
    | some t => exact h t e
  induction ps generalizing s r with
  | nil =>
    intro t e
    cases e
    exact SameExcept.refl _ _
  | cons y l ih =>
    intro t e
    unfold State.offerAll at e
    split at e
    · exact SameExcept.trans (SameExcept.stepOpt (State.offer_frame ..) (by assumption) rfl (SameExcept.refl _ _)) (ih _ _ _ e)
    · cases e

theorem State.selfOffer_frame (s : State) (r) (y) :
    SameExcept [.mem, .frm, .tl, .evt, .obs, .cls, .stk, .tally] s (State.selfOffer s r y) := by
  unfold State.selfOffer
  repeat' first
    | with_reducible exact SameExcept.refl _ _
    | ((with_reducible apply SameExcept.step); (with_reducible first
          | apply State.modPc_frame | apply State.tryEnter_frame); exact rfl)
    | ((apply SameExcept.stepOpt (e := by assumption)); (with_reducible apply State.tryEnter_frame); exact rfl)
    | split
    | dsimp only

theorem State.selfWrite_frame (s : State) (y) (g) (data) (who) :
    SameExcept [.mem, .frm, .tl, .evt, .obs, .cls, .stk, .tally] s (State.selfWrite s y g data who) := by
  unfold State.selfWrite
  repeat' first
    | with_reducible exact SameExcept.refl _ _
    | ((with_reducible apply SameExcept.step); (with_reducible apply State.selfOffer_frame); exact rfl)
    | split
    | dsimp only

theorem State.selfPoison_frame (s : State) (y) (g) (who) :
    SameExcept [.mem, .frm, .tl, .evt, .obs, .cls, .stk, .tally] s (State.selfPoison s y g who) := by
  unfold State.selfPoison
  repeat' first
    | with_reducible exact SameExcept.refl _ _
    | ((with_reducible apply SameExcept.step); (with_reducible apply State.selfOffer_frame); exact rfl)
    | split
    | dsimp only

theorem State.markStand_frame (s : State) (g) : SameExcept [.stk] s (State.markStand s g) := by
  unfold State.markStand
  repeat' first
    | with_reducible exact SameExcept.refl _ _
    | ((with_reducible apply SameExcept.step); (with_reducible apply State.modPot_frame); exact rfl)
    | split
    | dsimp only

theorem execGranuleRequestAccept_frame (stack) (write) (bpa) (mask) (data) (src) (unit) (tag) (s : State) :
    SameExcept [.mem, .frm, .tl, .pwr, .stress, .evt, .obs, .cls, .stk, .arb, .tally] s
      (nextState (execGranuleRequestAccept stack write bpa mask data src unit tag s) s) := by
  unfold execGranuleRequestAccept
  repeat' first
    | with_reducible exact SameExcept.refl _ _
    | ((with_reducible apply SameExcept.step); (with_reducible first
          | apply State.wakeDom_frame | apply State.offerAll_frame | apply State.markStand_frame); exact rfl)
    | ((apply SameExcept.stepOpt (e := by assumption)); (with_reducible apply State.offerAll_frame); exact rfl)
    | split
    | dsimp only [nextState]

theorem State.wakeRank_frame (s : State) (st) (c) (sid) :
    SameExcept [.obs, .stk, .tally] s (State.wakeRank s st c sid) := by
  unfold State.wakeRank
  repeat' first
    | with_reducible exact SameExcept.refl _ _
    | ((with_reducible apply SameExcept.step); (with_reducible first
          | apply State.pcBump_frame | apply State.setPc_frame); exact rfl)
    | ((with_reducible apply SameExcept.foldl); intro _ _)
    | ((with_reducible apply SameExcept.foldlPair); intro _ _)
    | split
    | dsimp only

theorem State.issueCmd_frame (s : State) (st) (c) (r) (k) :
    SameExcept [.obs, .stk, .tally] s (State.issueCmd s st c r k) := by
  unfold State.issueCmd
  repeat' first
    | with_reducible exact SameExcept.refl _ _
    | ((with_reducible apply SameExcept.step); (with_reducible first
          | apply State.pcBump_frame | apply State.setPc_frame | apply State.wakeRank_frame); exact rfl)
    | split
    | dsimp only

theorem State.answerAlert_frame (s : State) (st) (c) : SameExcept [.stk, .arb] s (State.answerAlert s st c) := by
  unfold State.answerAlert
  repeat' first
    | with_reducible exact SameExcept.refl _ _
    | ((with_reducible apply SameExcept.step); (with_reducible first
          | apply State.setPc_frame | apply State.freezeArb_frame); exact rfl)
    | split
    | dsimp only

theorem execStackCommandIssue_frame (stack) (pc) (s : State) :
    SameExcept [.obs, .stk, .arb, .tally] s (nextState (execStackCommandIssue stack pc s) s) := by
  unfold execStackCommandIssue State.runLive
  repeat' first
    | with_reducible exact SameExcept.refl _ _
    | ((with_reducible apply SameExcept.step); (with_reducible first
          | apply State.reservedCount_frame | apply State.setArb_frame | apply State.pcBump_frame
          | apply State.answerAlert_frame | apply State.issueCmd_frame); exact rfl)
    | split
    | dsimp only [nextState]

theorem execWriteRetire_frame (stack) (pc) (id) (s : State) :
    SameExcept [.mem, .frm, .tl, .evt, .obs, .cls, .stk, .tally] s (nextState (execWriteRetire stack pc id s) s) := by
  unfold execWriteRetire State.runLive
  repeat' first
    | with_reducible exact SameExcept.refl _ _
    | ((with_reducible apply SameExcept.step); (with_reducible apply State.leavePool_frame); exact rfl)
    | split
    | dsimp only [nextState]

theorem execAgeLimitAged_frame (stack) (pc) (id) (s : State) :
    SameExcept [.stk] s (nextState (execAgeLimitAged stack pc id s) s) := by
  unfold execAgeLimitAged State.runLive
  repeat' first
    | with_reducible exact SameExcept.refl _ _
    | ((with_reducible apply SameExcept.step); (with_reducible apply State.modPc_frame); exact rfl)
    | split
    | dsimp only [nextState]

theorem execPageIdlePrecharge_frame (stack) (pc) (bank) (s : State) :
    SameExcept [.obs, .stk, .tally] s (nextState (execPageIdlePrecharge stack pc bank s) s) := by
  unfold execPageIdlePrecharge State.runLive
  repeat' first
    | with_reducible exact SameExcept.refl _ _
    | ((with_reducible apply SameExcept.step); (with_reducible first
          | apply State.pcBump_frame | apply State.setPc_frame); exact rfl)
    | split
    | dsimp only [nextState]

theorem execRefreshDebtTick_frame (stack) (pc) (s : State) :
    SameExcept [.stk] s (nextState (execRefreshDebtTick stack pc s) s) := by
  unfold execRefreshDebtTick State.runLive
  repeat' first
    | with_reducible exact SameExcept.refl _ _
    | ((with_reducible apply SameExcept.step); (with_reducible first
          | apply State.modPot_frame | apply State.setPc_frame); exact rfl)
    | split
    | dsimp only [nextState]

theorem execRefpb_frame (stack) (pc) (s : State) :
    SameExcept [.pwr, .stress, .obs, .stk, .arb, .tally] s (nextState (execRefpb stack pc s) s) := by
  unfold execRefpb State.runLive
  repeat' first
    | with_reducible exact SameExcept.refl _ _
    | ((with_reducible apply SameExcept.step); (with_reducible first
          | apply State.wakeDom_frame | apply State.pcBump_frame | apply State.setPc_frame); exact rfl)
    | split
    | dsimp only [nextState]

theorem execRfm_frame (stack) (pc) (bank) (s : State) :
    SameExcept [.obs, .stk, .tally] s (nextState (execRfm stack pc bank s) s) := by
  unfold execRfm State.runLive
  repeat' first
    | with_reducible exact SameExcept.refl _ _
    | ((with_reducible apply SameExcept.step); (with_reducible first
          | apply State.pcBump_frame | apply State.setPc_frame); exact rfl)
    | split
    | dsimp only [nextState]

theorem execPowerDownEntry_frame (stack) (pc) (sid) (s : State) :
    SameExcept [.stk] s (nextState (execPowerDownEntry stack pc sid s) s) := by
  unfold execPowerDownEntry State.runLive
  repeat' first
    | with_reducible exact SameExcept.refl _ _
    | ((with_reducible apply SameExcept.step); (with_reducible apply State.setPc_frame); exact rfl)
    | ((with_reducible apply SameExcept.foldl); intro _ _)
    | ((with_reducible apply SameExcept.foldlPair); intro _ _)
    | split
    | dsimp only [nextState]

theorem execMergeWriteBack_frame (stack) (pc) (gran) (s : State) :
    SameExcept [.mem, .frm, .tl, .evt, .obs, .cls, .stk, .tally] s (nextState (execMergeWriteBack stack pc gran s) s)
      := by
  unfold execMergeWriteBack State.runLive
  repeat' first
    | with_reducible exact SameExcept.refl _ _
    | ((with_reducible apply SameExcept.step); (with_reducible first
          | apply State.enterPool_frame | apply State.accepted_frame | apply State.pcBump_frame
          | apply State.setPc_frame | apply State.pullAll_frame); exact rfl)
    | split
    | dsimp only [nextState]

theorem State.askRebuild_frame (s : State) (desc) : SameExcept [.evt] s (State.askRebuild s desc) := by
  unfold State.askRebuild
  repeat' first
    | with_reducible exact SameExcept.refl _ _
    | ((with_reducible apply SameExcept.step); (with_reducible apply State.raise_frame); exact rfl)
    | split
    | dsimp only

theorem State.raiseRebuilds_frame (s : State) : SameExcept [.evt] s (State.raiseRebuilds s) := by
  unfold State.raiseRebuilds
  repeat' first
    | with_reducible exact SameExcept.refl _ _
    | ((with_reducible apply SameExcept.step); (with_reducible apply State.askRebuild_frame); exact rfl)
    | ((with_reducible apply SameExcept.foldl); intro _ _)
    | ((with_reducible apply SameExcept.foldlPair); intro _ _)
    | split
    | dsimp only

theorem State.rebuildAfter_frame (s : State) (st) (ch) : SameExcept [.evt] s (State.rebuildAfter s st ch) := by
  unfold State.rebuildAfter
  repeat' first
    | with_reducible exact SameExcept.refl _ _
    | ((with_reducible apply SameExcept.step); (with_reducible apply State.raiseRebuilds_frame); exact rfl)
    | split
    | dsimp only

theorem State.blockRetire_frame (s : State) (st) (r) :
    SameExcept [.evt, .obs, .stk, .tally] s (State.blockRetire s st r) := by
  unfold State.blockRetire
  repeat' first
    | with_reducible exact SameExcept.refl _ _
    | ((with_reducible apply SameExcept.step); (with_reducible first
          | apply State.rebuildAfter_frame | apply State.raise_frame | apply State.setPot_frame
          | apply State.stackBump_frame); exact rfl)
    | split
    | dsimp only

theorem State.fillRank_frame (s : State) (st) (r) :
    SameExcept [.evt, .obs, .stk, .tally] s (State.fillRank s st r) := by
  unfold State.fillRank
  repeat' first
    | with_reducible exact SameExcept.refl _ _
    | ((with_reducible apply SameExcept.step); (with_reducible first
          | apply State.blockRetire_frame | apply State.setPot_frame); exact rfl)
    | split
    | dsimp only

theorem State.nextMove_frame (s : State) (st) (fuel) :
    SameExcept [.evt, .obs, .stk, .tally] s (State.nextMove s st fuel) := by
  induction fuel generalizing s st with
  | zero =>
    simp only [State.nextMove]
    repeat' first
      | with_reducible exact SameExcept.refl _ _
      | ((with_reducible apply SameExcept.step); (with_reducible first
            | apply State.blockRetire_frame | apply State.setPot_frame); exact rfl)
      | split
      | dsimp only
  | succ n ih =>
    simp only [State.nextMove]
    repeat' first
      | with_reducible exact SameExcept.refl _ _
      | with_reducible apply SameExcept.trans (k := ih _ _)
      | ((with_reducible apply SameExcept.step); (with_reducible first
            | apply State.blockRetire_frame | apply State.setPot_frame); exact rfl)
      | split
      | dsimp only

theorem State.nextRetire_frame (s : State) (st) :
    SameExcept [.evt, .obs, .stk, .tally] s (State.nextRetire s st) := by
  unfold State.nextRetire
  repeat' first
    | with_reducible exact SameExcept.refl _ _
    | ((with_reducible apply SameExcept.step); (with_reducible first
          | apply State.nextMove_frame | apply State.modPot_frame | apply State.fillRank_frame); exact rfl)
    | ((with_reducible apply SameExcept.foldl); intro _ _)
    | ((with_reducible apply SameExcept.foldlPair); intro _ _)
    | split
    | dsimp only

theorem State.askRetire_frame (s : State) (st) (v) (sid) :
    SameExcept [.evt, .obs, .stk, .tally] s (State.askRetire s st v sid) := by
  unfold State.askRetire
  repeat' first
    | with_reducible exact SameExcept.refl _ _
    | ((with_reducible apply SameExcept.step); (with_reducible first
          | apply State.nextRetire_frame | apply State.setPot_frame); exact rfl)
    | split
    | dsimp only

theorem State.triggerRetire_frame (s : State) (st) (c) (sid) :
    SameExcept [.evt, .obs, .stk, .tally] s (State.triggerRetire s st c sid) := by
  unfold State.triggerRetire
  repeat' first
    | with_reducible exact SameExcept.refl _ _
    | ((with_reducible apply SameExcept.step); (with_reducible first
          | apply State.note_frame | apply State.askRetire_frame); exact rfl)
    | split
    | dsimp only

theorem State.chanEvent_frame (s : State) (st) (ch) (trigger) :
    SameExcept [.evt] s (State.chanEvent s st ch trigger) := by
  unfold State.chanEvent
  repeat' first
    | with_reducible exact SameExcept.refl _ _
    | ((with_reducible apply SameExcept.step); (with_reducible apply State.raise_frame); exact rfl)
    | split
    | dsimp only

theorem State.startSplit_frame (s : State) (st) (ch) (trigger) :
    SameExcept [.evt, .stk] s (State.startSplit s st ch trigger) := by
  unfold State.startSplit
  repeat' first
    | with_reducible exact SameExcept.refl _ _
    | ((with_reducible apply SameExcept.step); (with_reducible first
          | apply State.modChan_frame | apply State.chanEvent_frame); exact rfl)
    | split
    | dsimp only

theorem State.startStand_frame (s : State) (st) (ch) (spare) (trigger) (retrain) :
    SameExcept [.evt, .stk] s (State.startStand s st ch spare trigger retrain) := by
  unfold State.startStand
  repeat' first
    | with_reducible exact SameExcept.refl _ _
    | ((with_reducible apply SameExcept.step); (with_reducible first
          | apply State.modChan_frame | apply State.modPot_frame | apply State.chanEvent_frame); exact rfl)
    | ((with_reducible apply SameExcept.foldl); intro _ _)
    | ((with_reducible apply SameExcept.foldlPair); intro _ _)
    | split
    | dsimp only

theorem State.askRetrain_frame (s : State) (st) (ch) (trigger) :
    SameExcept [.evt, .stk] s (State.askRetrain s st ch trigger) := by
  unfold State.askRetrain
  repeat' first
    | with_reducible exact SameExcept.refl _ _
    | ((with_reducible apply SameExcept.step); (with_reducible first
          | apply State.modChan_frame | apply State.startStand_frame | apply State.startSplit_frame); exact rfl)
    | split
    | dsimp only

theorem State.countLane_frame (s : State) (st) (c) (sid) (lane) :
    SameExcept [.evt, .stk] s (State.countLane s st c sid lane) := by
  unfold State.countLane
  repeat' first
    | with_reducible exact SameExcept.refl _ _
    | ((with_reducible apply SameExcept.step); (with_reducible first
          | apply State.setPc_frame | apply State.modPc_frame | apply State.askRetrain_frame); exact rfl)
    | split
    | dsimp only

theorem State.countLost_frame (s : State) (st) (c) (n) :
    SameExcept [.evt, .obs, .stk, .tally] s (State.countLost s st c n) := by
  unfold State.countLost
  repeat' first
    | with_reducible exact SameExcept.refl _ _
    | ((with_reducible apply SameExcept.step); (with_reducible first
          | apply State.setChan_frame | apply State.pcBump_frame | apply State.askRetrain_frame); exact rfl)
    | split
    | dsimp only

theorem State.countCe_frame (s : State) (st) (c) (sid) (bank) (row) :
    SameExcept [.evt, .obs, .stk, .tally] s (State.countCe s st c sid bank row) := by
  unfold State.countCe
  repeat' first
    | with_reducible exact SameExcept.refl _ _
    | ((with_reducible apply SameExcept.step); (with_reducible first
          | apply State.triggerRetire_frame | apply State.modPc_frame); exact rfl)
    | split
    | dsimp only

theorem State.countUe_frame (s : State) (st) (c) (sid) (bank) (row) :
    SameExcept [.evt, .obs, .stk, .tally] s (State.countUe s st c sid bank row) := by
  unfold State.countUe
  repeat' first
    | with_reducible exact SameExcept.refl _ _
    | ((with_reducible apply SameExcept.step); (with_reducible first
          | apply State.triggerRetire_frame | apply State.modPc_frame); exact rfl)
    | split
    | dsimp only

theorem State.countRead_frame (s : State) (y) (v) (lost) :
    SameExcept [.evt, .obs, .stk, .tally] s (State.countRead s y v lost) := by
  unfold State.countRead
  repeat' first
    | with_reducible exact SameExcept.refl _ _
    | ((with_reducible apply SameExcept.step); (with_reducible first
          | apply State.countCe_frame | apply State.modPot_frame | apply State.pcBump_frame
          | apply State.countUe_frame | apply State.countLost_frame | apply State.countLane_frame); exact rfl)
    | ((with_reducible apply SameExcept.foldl); intro _ _)
    | ((with_reducible apply SameExcept.foldlPair); intro _ _)
    | split
    | dsimp only

theorem State.addFail_frame (s : State) (req) (seq) (g) : SameExcept [.mem] s (State.addFail s req seq g) := by
  unfold State.addFail
  repeat' first
    | with_reducible exact SameExcept.refl _ _
    | ((with_reducible apply SameExcept.step); (with_reducible apply State.modMem_frame); exact rfl)
    | split
    | dsimp only

theorem State.addMisread_frame (s : State) (req) (seq) (g) (b) :
    SameExcept [.mem] s (State.addMisread s req seq g b) := by
  unfold State.addMisread
  repeat' first
    | with_reducible exact SameExcept.refl _ _
    | ((with_reducible apply SameExcept.step); (with_reducible apply State.modMem_frame); exact rfl)
    | split
    | dsimp only

theorem State.failFor_frame (s : State) (o) (g) : SameExcept [.mem] s (State.failFor s o g) := by
  unfold State.failFor
  repeat' first
    | with_reducible exact SameExcept.refl _ _
    | ((with_reducible apply SameExcept.step); (with_reducible apply State.addFail_frame); exact rfl)
    | split
    | dsimp only

theorem State.failSlot_frame (s : State) (y) : SameExcept [.evt, .obs, .stk, .tally] s (State.failSlot s y) := by
  unfold State.failSlot
  repeat' first
    | with_reducible exact SameExcept.refl _ _
    | ((with_reducible apply SameExcept.step); (with_reducible first
          | apply State.nextRetire_frame | apply State.setPot_frame); exact rfl)
    | split
    | dsimp only

theorem State.storageRead_frame (s : State) (req) (seq) (gran) (code) :
    SameExcept [.mem, .frm, .rgn, .wsk, .mc, .syn, .sch, .pwr, .evt, .att, .par, .obs, .cls, .tally] s
      (State.storageRead s req seq gran code) := by
  unfold State.storageRead
  repeat' first
    | with_reducible exact SameExcept.refl _ _
    | ((with_reducible apply SameExcept.step); (with_reducible apply State.storageFails_frame); exact rfl)
    | split
    | dsimp only

theorem State.mergeBack_frame (s : State) (st) (c) (g) (data) :
    SameExcept [.mem, .stk] s (State.mergeBack s st c g data) := by
  unfold State.mergeBack
  repeat' first
    | with_reducible exact SameExcept.refl _ _
    | ((with_reducible apply SameExcept.step); (with_reducible first
          | apply State.mwrite_frame | apply State.modPc_frame); exact rfl)
    | split
    | dsimp only

theorem State.mergeFails_frame (s : State) (st) (c) (g) (uncorr) :
    SameExcept [.mem, .stk] s (State.mergeFails s st c g uncorr) := by
  unfold State.mergeFails
  repeat' first
    | with_reducible exact SameExcept.refl _ _
    | ((with_reducible apply SameExcept.step); (with_reducible first
          | apply State.failFor_frame | apply State.modPc_frame); exact rfl)
    | ((with_reducible apply SameExcept.foldl); intro _ _)
    | ((with_reducible apply SameExcept.foldlPair); intro _ _)
    | split
    | dsimp only

theorem State.copyRow_frame (s : State) (st) (c) (i) :
    SameExcept [.mem, .frm, .tl, .evt, .obs, .cls, .stk, .tally] s (State.copyRow s st c i) := by
  unfold State.copyRow
  repeat' first
    | with_reducible exact SameExcept.refl _ _
    | ((with_reducible apply SameExcept.step); (with_reducible apply State.selfOffer_frame); exact rfl)
    | ((with_reducible apply SameExcept.foldl); intro _ _)
    | ((with_reducible apply SameExcept.foldlPair); intro _ _)
    | split
    | dsimp only

theorem State.copyGranule_frame (s : State) (st) (c) (i) (r) (data) :
    SameExcept [.mem, .frm, .tl, .evt, .obs, .cls, .stk, .tally] s (State.copyGranule s st c i r data) := by
  unfold State.copyGranule
  repeat' first
    | with_reducible exact SameExcept.refl _ _
    | ((with_reducible apply SameExcept.step); (with_reducible first
          | apply State.selfWrite_frame | apply State.selfPoison_frame | apply State.modPc_frame); exact rfl)
    | split
    | dsimp only

theorem execGranuleReadDecode_frame (stack) (pc) (id) (word) (lost) (req) (seq) (s : State) :
    SameExcept [.mem, .frm, .rgn, .wsk, .mc, .tl, .syn, .sch, .pwr, .evt, .att, .par, .obs, .cls, .stk, .tally] s
      (nextState (execGranuleReadDecode stack pc id word lost req seq s) s) := by
  unfold execGranuleReadDecode State.runLive
  repeat' first
    | with_reducible exact SameExcept.refl _ _
    | ((with_reducible apply SameExcept.step); (with_reducible first
          | apply State.failSlot_frame | apply State.mergeBack_frame | apply State.mergeFails_frame
          | apply State.addFail_frame | apply State.pcBump_frame | apply State.selfWrite_frame
          | apply State.selfPoison_frame | apply State.storageRead_frame | apply State.quitPool_frame
          | apply State.copyGranule_frame | apply State.addMisread_frame | apply State.countRead_frame
          | apply State.pullAll_frame); exact rfl)
    | split
    | dsimp only [nextState]

theorem State.compareMirror_frame (s : State) (y) (g) :
    SameExcept [.mem, .frm, .rgn, .wsk, .mc, .syn, .sch, .pwr, .evt, .att, .par, .obs, .cls, .stk, .tally] s
      (State.compareMirror s y g) := by
  unfold State.compareMirror
  repeat' first
    | with_reducible exact SameExcept.refl _ _
    | ((with_reducible apply SameExcept.step); (with_reducible first
          | apply State.note_frame | apply State.store_frame | apply State.askRebuild_frame | apply State.pcBump_frame
          | apply State.mark_frame | apply State.poisonAt_frame); exact rfl)
    | split
    | dsimp only

theorem execPatrolScrub_frame (stack) (pc) (word) (s : State) :
    SameExcept [.mem, .frm, .rgn, .wsk, .mc, .tl, .syn, .sch, .pwr, .stress, .evt, .att, .par, .obs, .cls, .stk, .arb,
      .tally] s (nextState (execPatrolScrub stack pc word s) s) := by
  unfold execPatrolScrub State.runLive
  repeat' first
    | with_reducible exact SameExcept.refl _ _
    | ((with_reducible apply SameExcept.step); (with_reducible first
          | apply State.wakeDom_frame | apply State.pcBump_frame | apply State.selfWrite_frame
          | apply State.selfPoison_frame | apply State.modPc_frame | apply State.countRead_frame
          | apply State.compareMirror_frame); exact rfl)
    | split
    | dsimp only [nextState]

theorem execRemapRow_frame (stack) (pc) (sid) (bank) (row) (s : State) :
    SameExcept [.mem, .frm, .tl, .evt, .obs, .cls, .stk, .tally] s (nextState (execRemapRow stack pc sid bank row s)
      s) := by
  unfold execRemapRow State.runDuty
  repeat' first
    | with_reducible exact SameExcept.refl _ _
    | ((with_reducible apply SameExcept.step); (with_reducible first
          | apply State.triggerRetire_frame | apply State.setPc_frame | apply State.copyRow_frame); exact rfl)
    | split
    | dsimp only [nextState]

theorem execRemapActive_frame (stack) (pc) (entry) (s : State) :
    SameExcept [.mem, .frm, .tl, .evt, .obs, .cls, .stk, .tally] s (nextState (execRemapActive stack pc entry s) s)
      := by
  unfold execRemapActive State.runDuty
  repeat' first
    | with_reducible exact SameExcept.refl _ _
    | ((with_reducible apply SameExcept.step); (with_reducible first
          | apply State.pcBump_frame | apply State.setPc_frame | apply State.copyRow_frame); exact rfl)
    | split
    | dsimp only [nextState]

theorem execPostPackageRepair_frame (stack) (pc) (entry) (ok) (s : State) :
    SameExcept [.obs, .stk, .tally] s (nextState (execPostPackageRepair stack pc entry ok s) s) := by
  unfold execPostPackageRepair State.runDuty
  repeat' first
    | with_reducible exact SameExcept.refl _ _
    | ((with_reducible apply SameExcept.step); (with_reducible first
          | apply State.pcBump_frame | apply State.setPc_frame); exact rfl)
    | split
    | dsimp only [nextState]

theorem State.endMigration_frame (s : State) (st) (m) :
    SameExcept [.evt, .obs, .stk, .tally] s (State.endMigration s st m) := by
  unfold State.endMigration
  repeat' first
    | with_reducible exact SameExcept.refl _ _
    | ((with_reducible apply SameExcept.step); (with_reducible first
          | apply State.rebuildAfter_frame | apply State.nextRetire_frame | apply State.raise_frame
          | apply State.setPot_frame | apply State.stackBump_frame); exact rfl)
    | ((with_reducible apply SameExcept.foldl); intro _ _)
    | ((with_reducible apply SameExcept.foldlPair); intro _ _)
    | split
    | dsimp only

theorem State.thawPot_frame (s : State) (st) : SameExcept [.arb] s (State.thawPot s st) := by
  unfold State.thawPot
  repeat' first
    | with_reducible exact SameExcept.refl _ _
    | ((with_reducible apply SameExcept.step); (with_reducible apply State.freezeInto_frame); exact rfl)
    | split
    | dsimp only

theorem State.fillRow_frame (s : State) (st) (m) :
    SameExcept [.mem, .frm, .tl, .evt, .obs, .cls, .stk, .tally] s (State.fillRow s st m) := by
  unfold State.fillRow
  repeat' first
    | with_reducible exact SameExcept.refl _ _
    | ((with_reducible apply SameExcept.step); (with_reducible first
          | apply State.modPot_frame | apply State.endMigration_frame | apply State.selfPoison_frame); exact rfl)
    | ((with_reducible apply SameExcept.foldl); intro _ _)
    | ((with_reducible apply SameExcept.foldlPair); intro _ _)
    | split
    | dsimp only

theorem execMigrationRowCopy_frame (stack) (words) (s : State) :
    SameExcept [.mem, .frm, .tl, .evt, .obs, .cls, .stk, .arb, .tally] s (nextState (execMigrationRowCopy stack words
      s) s) := by
  unfold execMigrationRowCopy State.runDuty
  repeat' first
    | with_reducible exact SameExcept.refl _ _
    | ((with_reducible apply SameExcept.step); (with_reducible first
          | apply State.thawPot_frame | apply State.modPot_frame | apply State.endMigration_frame
          | apply State.selfWrite_frame | apply State.selfPoison_frame | apply State.freezeInto_frame
          | apply State.fillRow_frame | apply State.countRead_frame); exact rfl)
    | ((with_reducible apply SameExcept.foldl); intro _ _)
    | ((with_reducible apply SameExcept.foldlPair); intro _ _)
    | split
    | dsimp only [nextState]

theorem execErrWindowEdge_frame (s : State) : SameExcept [.stk] s (nextState (execErrWindowEdge s) s) := by
  unfold execErrWindowEdge State.runLive
  repeat' first
    | with_reducible exact SameExcept.refl _ _
    | ((with_reducible apply SameExcept.step); (with_reducible apply State.modStk_frame); exact rfl)
    | split
    | dsimp only [nextState]

theorem State.retireChannel_frame (s : State) (st) (ch) :
    SameExcept [.evt, .obs, .stk, .tally] s (State.retireChannel s st ch) := by
  unfold State.retireChannel
  repeat' first
    | with_reducible exact SameExcept.refl _ _
    | ((with_reducible apply SameExcept.step); (with_reducible first
          | apply State.note_frame | apply State.modChan_frame | apply State.rebuildAfter_frame
          | apply State.nextRetire_frame | apply State.setPot_frame); exact rfl)
    | ((with_reducible apply SameExcept.foldl); intro _ _)
    | ((with_reducible apply SameExcept.foldlPair); intro _ _)
    | split
    | dsimp only

theorem State.recordTraining_frame (s : State) (st) (ch) (x) :
    SameExcept [.stk] s (State.recordTraining s st ch x) := by
  unfold State.recordTraining
  repeat' first
    | with_reducible exact SameExcept.refl _ _
    | ((with_reducible apply SameExcept.step); (with_reducible apply State.modChan_frame); exact rfl)
    | split
    | dsimp only

theorem State.publish_frame (s : State) (st) (ch) (maps) (verify) :
    SameExcept [.stk] s (State.publish s st ch maps verify) := by
  unfold State.publish
  repeat' first
    | with_reducible exact SameExcept.refl _ _
    | ((with_reducible apply SameExcept.step); (with_reducible apply State.setChan_frame); exact rfl)
    | split
    | dsimp only

theorem State.startReturn_frame (s : State) (st) (n) :
    SameExcept [.evt, .obs, .stk, .tally] s (State.startReturn s st n) := by
  unfold State.startReturn
  repeat' first
    | with_reducible exact SameExcept.refl _ _
    | ((with_reducible apply SameExcept.step); (with_reducible first
          | apply State.modChan_frame | apply State.modPot_frame | apply State.chanBump_frame
          | apply State.chanEvent_frame); exact rfl)
    | split
    | dsimp only

theorem State.endStand_frame (s : State) (st) (n) : SameExcept [.evt, .stk] s (State.endStand s st n) := by
  unfold State.endStand
  repeat' first
    | with_reducible exact SameExcept.refl _ _
    | ((with_reducible apply SameExcept.step); (with_reducible first
          | apply State.modChan_frame | apply State.modPot_frame | apply State.askRetrain_frame); exact rfl)
    | split
    | dsimp only

theorem State.afterTraining_frame (s : State) (st) (ch) :
    SameExcept [.evt, .obs, .stk, .tally] s (State.afterTraining s st ch) := by
  unfold State.afterTraining
  repeat' first
    | with_reducible exact SameExcept.refl _ _
    | ((with_reducible apply SameExcept.step); (with_reducible first
          | apply State.modChan_frame | apply State.startReturn_frame | apply State.nextRetire_frame
          | apply State.chanEvent_frame); exact rfl)
    | split
    | dsimp only

theorem State.noSetting_frame (s : State) (st) (ch) (maps) (sieve) (dead) :
    SameExcept [.evt, .obs, .stk, .tally] s (State.noSetting s st ch maps sieve dead) := by
  unfold State.noSetting
  repeat' first
    | with_reducible exact SameExcept.refl _ _
    | ((with_reducible apply SameExcept.step); (with_reducible first
          | apply State.modChan_frame | apply State.raise_frame | apply State.endStand_frame
          | apply State.retireChannel_frame | apply State.modPc_frame); exact rfl)
    | ((with_reducible apply SameExcept.foldl); intro _ _)
    | ((with_reducible apply SameExcept.foldlPair); intro _ _)
    | split
    | dsimp only

theorem State.setTiming_frame (s : State) (bin) : SameExcept [.dict] s (State.setTiming s bin) := by
  unfold State.setTiming
  repeat' first
    | with_reducible exact SameExcept.refl _ _
    | ((with_reducible apply SameExcept.step); (with_reducible apply State.setParam_frame); exact rfl)
    | ((with_reducible apply SameExcept.foldl); intro _ _)
    | ((with_reducible apply SameExcept.foldlPair); intro _ _)
    | split
    | dsimp only

theorem State.binFallback_frame (s : State) (st) :
    SameExcept [.dict, .ldl, .pwr, .stk, .pin] s ((State.binFallback s st).getD s) := by
  unfold State.binFallback
  repeat' first
    | with_reducible exact SameExcept.refl _ _
    | ((with_reducible apply SameExcept.step); (with_reducible first
          | apply State.setTiming_frame | apply State.setParam_frame | apply State.failStart_frame
          | apply State.modStk_frame); exact rfl)
    | split
    | dsimp only [Option.getD_some, Option.getD_none]

theorem execTraining_frame (stack) (ch) (ok) (maps) (verify) (s : State) :
    SameExcept [.dict, .ldl, .pwr, .evt, .obs, .stk, .pin, .tally] s (nextState (execTraining stack ch ok maps verify
      s) s) := by
  unfold execTraining State.runDuty
  repeat' first
    | with_reducible exact SameExcept.refl _ _
    | ((with_reducible apply SameExcept.step); (with_reducible first
          | apply State.note_frame | apply State.modChan_frame | apply State.recordTraining_frame
          | apply State.noSetting_frame | apply State.publish_frame | apply State.binFallback_frame
          | apply State.modPc_frame | apply State.afterTraining_frame); exact rfl)
    | ((apply SameExcept.stepOpt (e := by assumption)); (with_reducible apply State.binFallback_frame); exact rfl)
    | ((with_reducible apply SameExcept.foldl); intro _ _)
    | ((with_reducible apply SameExcept.foldlPair); intro _ _)
    | split
    | dsimp only [nextState]

theorem State.publishTest_frame (s : State) (st) (ch) (w) (recs) :
    SameExcept [.stk] s (State.publishTest s st ch w recs) := by
  unfold State.publishTest
  repeat' first
    | with_reducible exact SameExcept.refl _ _
    | ((with_reducible apply SameExcept.step); (with_reducible apply State.setChan_frame); exact rfl)
    | ((with_reducible apply SameExcept.foldl); intro _ _)
    | ((with_reducible apply SameExcept.foldlPair); intro _ _)
    | split
    | dsimp only

theorem execSweepComplete_frame (stack) (ch) (maps) (s : State) :
    SameExcept [.dict, .stk, .free] s (nextState (execSweepComplete stack ch maps s) s) := by
  unfold execSweepComplete State.runLive
  repeat' first
    | with_reducible exact SameExcept.refl _ _
    | ((with_reducible apply SameExcept.step); (with_reducible first
          | apply State.modChan_frame | apply State.setParam_frame | apply State.modFree_frame
          | apply State.publishTest_frame); exact rfl)
    | split
    | dsimp only [nextState]

theorem State.startPattern_frame (s : State) (st) (ch) : SameExcept [.stk, .free] s (State.startPattern s st ch) := by
  unfold State.startPattern
  repeat' first
    | with_reducible exact SameExcept.refl _ _
    | ((with_reducible apply SameExcept.step); (with_reducible first
          | apply State.modChan_frame | apply State.setChan_frame | apply State.modPc_frame
          | apply State.modFree_frame); exact rfl)
    | ((with_reducible apply SameExcept.foldl); intro _ _)
    | ((with_reducible apply SameExcept.foldlPair); intro _ _)
    | split
    | dsimp only

theorem State.endTest_frame (s : State) (st) (ch) :
    SameExcept [.dict, .evt, .obs, .stk, .tally] s (State.endTest s st ch) := by
  unfold State.endTest
  repeat' first
    | with_reducible exact SameExcept.refl _ _
    | ((with_reducible apply SameExcept.step); (with_reducible first
          | apply State.modChan_frame | apply State.setParam_frame | apply State.startReturn_frame); exact rfl)
    | split
    | dsimp only

theorem State.testHold_frame (s : State) (st) (ch) (value) :
    SameExcept [.dict, .evt, .obs, .stk, .tally] s (State.testHold s st ch value) := by
  unfold State.testHold
  repeat' first
    | with_reducible exact SameExcept.refl _ _
    | ((with_reducible apply SameExcept.step); (with_reducible first
          | apply State.endTest_frame | apply State.modChan_frame | apply State.startStand_frame); exact rfl)
    | split
    | dsimp only

theorem execHistogramComplete_frame (stack) (ch) (lane) (bins) (s : State) :
    SameExcept [.evt, .obs, .stk, .tally] s (nextState (execHistogramComplete stack ch lane bins s) s) := by
  unfold execHistogramComplete State.runDuty
  repeat' first
    | with_reducible exact SameExcept.refl _ _
    | ((with_reducible apply SameExcept.step); (with_reducible first
          | apply State.setChan_frame | apply State.chanBump_frame | apply State.chanEvent_frame
          | apply State.askRetrain_frame); exact rfl)
    | ((with_reducible apply SameExcept.foldl); intro _ _)
    | ((with_reducible apply SameExcept.foldlPair); intro _ _)
    | split
    | dsimp only [nextState]

theorem execTapMove_frame (stack) (ch) (lane) (s : State) :
    SameExcept [.obs, .stk, .tally] s (nextState (execTapMove stack ch lane s) s) := by
  unfold execTapMove State.runDuty
  repeat' first
    | with_reducible exact SameExcept.refl _ _
    | ((with_reducible apply SameExcept.step); (with_reducible first
          | apply State.setChan_frame | apply State.chanBump_frame); exact rfl)
    | split
    | dsimp only [nextState]

theorem State.askPoint_frame (s : State) (st) (ch) : SameExcept [.evt, .stk] s (State.askPoint s st ch) := by
  unfold State.askPoint
  repeat' first
    | with_reducible exact SameExcept.refl _ _
    | ((with_reducible apply SameExcept.step); (with_reducible first
          | apply State.modChan_frame | apply State.askRetrain_frame); exact rfl)
    | split
    | dsimp only

theorem execTempPoll_frame (stack) (reading) (s : State) :
    SameExcept [.evt, .stk] s (nextState (execTempPoll stack reading s) s) := by
  unfold execTempPoll runIf
  repeat' first
    | with_reducible exact SameExcept.refl _ _
    | ((with_reducible apply SameExcept.step); (with_reducible first
          | apply State.note_frame | apply State.setPot_frame | apply State.askPoint_frame); exact rfl)
    | ((with_reducible apply SameExcept.foldl); intro _ _)
    | ((with_reducible apply SameExcept.foldlPair); intro _ _)
    | split
    | dsimp only [nextState]

theorem State.retrain_frame (s : State) (st) (ch) (trigger) :
    SameExcept [.evt, .stk] s (State.retrain s st ch trigger) := by
  unfold State.retrain
  repeat' first
    | with_reducible exact SameExcept.refl _ _
    | ((with_reducible apply SameExcept.step); (with_reducible first
          | apply State.askPoint_frame | apply State.askRetrain_frame); exact rfl)
    | split
    | dsimp only

theorem execRetrainPeriodExpiry_frame (stack) (ch) (s : State) :
    SameExcept [.evt, .stk] s (nextState (execRetrainPeriodExpiry stack ch s) s) := by
  unfold execRetrainPeriodExpiry State.runDuty
  repeat' first
    | with_reducible exact SameExcept.refl _ _
    | ((with_reducible apply SameExcept.step); (with_reducible apply State.askRetrain_frame); exact rfl)
    | split
    | dsimp only [nextState]

theorem execCaParityAlert_frame (stack) (ch) (s : State) :
    SameExcept [.evt, .obs, .stk, .arb, .tally] s (nextState (execCaParityAlert stack ch s) s) := by
  unfold execCaParityAlert State.runLive
  repeat' first
    | with_reducible exact SameExcept.refl _ _
    | ((with_reducible apply SameExcept.step); (with_reducible first
          | apply State.chanBump_frame | apply State.modPc_frame | apply State.freezeArb_frame
          | apply State.askRetrain_frame); exact rfl)
    | ((with_reducible apply SameExcept.foldl); intro _ _)
    | ((with_reducible apply SameExcept.foldlPair); intro _ _)
    | split
    | dsimp only [nextState]

theorem execStandinFillEnd_frame (stack) (s : State) :
    SameExcept [.evt, .obs, .stk, .tally] s (nextState (execStandinFillEnd stack s) s) := by
  unfold execStandinFillEnd State.runDuty
  repeat' first
    | with_reducible exact SameExcept.refl _ _
    | ((with_reducible apply SameExcept.step); (with_reducible first
          | apply State.setChan_frame | apply State.startReturn_frame | apply State.modPot_frame
          | apply State.chanBump_frame | apply State.chanEvent_frame); exact rfl)
    | split
    | dsimp only [nextState]

theorem execStandinReturnEnd_frame (stack) (s : State) :
    SameExcept [.evt, .obs, .stk, .tally] s (nextState (execStandinReturnEnd stack s) s) := by
  unfold execStandinReturnEnd State.runDuty
  repeat' first
    | with_reducible exact SameExcept.refl _ _
    | ((with_reducible apply SameExcept.step); (with_reducible first
          | apply State.modChan_frame | apply State.nextRetire_frame | apply State.chanBump_frame
          | apply State.endStand_frame | apply State.chanEvent_frame); exact rfl)
    | split
    | dsimp only [nextState]

theorem State.openWindow_frame (s : State) (stack) (ch) :
    SameExcept [.obs, .stk, .tally] s (State.openWindow s stack ch) := by
  unfold State.openWindow
  repeat' first
    | with_reducible exact SameExcept.refl _ _
    | ((with_reducible apply SameExcept.step); (with_reducible first
          | apply State.modChan_frame | apply State.chanBump_frame | apply State.modPc_frame
          | apply State.modStk_frame); exact rfl)
    | ((with_reducible apply SameExcept.foldl); intro _ _)
    | ((with_reducible apply SameExcept.foldlPair); intro _ _)
    | split
    | dsimp only

theorem execSplitWindow_frame (stack) (ch) (s : State) :
    SameExcept [.obs, .stk, .tally] s (nextState (execSplitWindow stack ch s) s) := by
  unfold execSplitWindow State.runDuty
  repeat' first
    | with_reducible exact SameExcept.refl _ _
    | ((with_reducible apply SameExcept.step); (with_reducible apply State.openWindow_frame); exact rfl)
    | split
    | dsimp only [nextState]

theorem State.startHold_frame (s : State) (r) : SameExcept [.frm] s (State.startHold s r) := by
  unfold State.startHold
  repeat' first
    | with_reducible exact SameExcept.refl _ _
    | ((with_reducible apply SameExcept.step); (with_reducible apply State.modFrm_frame); exact rfl)
    | split
    | dsimp only

theorem State.giveBack_frame (s : State) (r) (sent) :
    SameExcept [.mem, .frm, .rgn, .wsk, .mc, .syn, .sch, .pwr, .evt, .att, .par, .obs, .cls, .tally] s (State.giveBack
      s r sent) := by
  unfold State.giveBack
  repeat' first
    | with_reducible exact SameExcept.refl _ _
    | ((with_reducible apply SameExcept.step); (with_reducible first
          | apply State.undelivered_frame | apply State.stagePick_frame | apply State.startHold_frame); exact rfl)
    | split
    | dsimp only

theorem execDoneTableWriteAccepted_frame (entry) (slot) (s : State) :
    SameExcept [.mem, .frm, .rgn, .wsk, .mc, .syn, .sch, .pwr, .evt, .att, .par, .obs, .cls, .tally] s
      (nextState (execDoneTableWriteAccepted entry slot s) s) := by
  unfold execDoneTableWriteAccepted State.runLive
  repeat' first
    | with_reducible exact SameExcept.refl _ _
    | ((with_reducible apply SameExcept.step); (with_reducible first
          | apply State.giveBack_frame | apply State.stage_frame | apply State.chargeClass_frame
          | apply State.modFrm_frame | apply State.portBump_frame); exact rfl)
    | split
    | dsimp only [nextState]

theorem State.headerLeaves_frame (s : State) (x) (f) :
    SameExcept [.mem, .frm, .rgn, .wsk, .mc, .syn, .sch, .pwr, .att, .par, .obs, .cls, .tally] s (State.headerLeaves s x f).1 := by
  unfold State.headerLeaves
  cases s.lateBy x f with
  | none =>
    dsimp only
    repeat' first
        | with_reducible exact SameExcept.refl _ _
        | ((with_reducible apply SameExcept.step); (with_reducible first
            | apply State.delivered_frame | apply State.startHold_frame | apply State.classTally_frame); exact rfl)
        | split
        | dsimp only
  | some d =>
    dsimp only
    repeat' first
        | with_reducible exact SameExcept.refl _ _
        | ((with_reducible apply SameExcept.step); (with_reducible first
            | apply State.delivered_frame | apply State.startHold_frame | apply State.classTally_frame); exact rfl)
        | split
        | dsimp only

theorem State.sendCell_frame (s : State) (p) (q) :
    SameExcept [.mem, .frm, .rgn, .wsk, .mc, .syn, .sch, .pwr, .att, .par, .obs, .cls, .tally] s (State.sendCell s p
      q) := by
  unfold State.sendCell
  repeat' first
    | with_reducible exact SameExcept.refl _ _
    | ((with_reducible apply SameExcept.step); (with_reducible first
          | apply State.modPort_frame | apply State.classTally_frame | apply State.portBump_frame
          | apply State.headerLeaves_frame); exact rfl)
    | ((apply SameExcept.stepPair (e := by assumption)); (with_reducible apply State.headerLeaves_frame); exact rfl)
    | split
    | dsimp only

theorem State.serve_frame (s : State) (p) (w) :
    SameExcept [.mem, .frm, .rgn, .wsk, .mc, .syn, .sch, .pwr, .att, .par, .obs, .cls, .tally] s (State.serve s p w)
      := by
  unfold State.serve
  repeat' first
    | with_reducible exact SameExcept.refl _ _
    | ((with_reducible apply SameExcept.step); (with_reducible first
          | apply State.modPort_frame | apply State.sendCell_frame); exact rfl)
    | split
    | dsimp only

theorem State.releasePort_frame (s : State) (p) : SameExcept [.arb] s (State.releasePort s p) := by
  unfold State.releasePort
  repeat' first
    | with_reducible exact SameExcept.refl _ _
    | ((with_reducible apply SameExcept.step); (with_reducible apply State.setArb_frame); exact rfl)
    | split
    | dsimp only

theorem execEgressCell_frame (port) (s : State) :
    SameExcept [.mem, .frm, .rgn, .wsk, .mc, .syn, .sch, .pwr, .evt, .att, .par, .obs, .cls, .arb, .tally] s
      (nextState (execEgressCell port s) s) := by
  unfold execEgressCell State.runLive
  repeat' first
    | with_reducible exact SameExcept.refl _ _
    | ((with_reducible apply SameExcept.step); (with_reducible first
          | apply State.setPort_frame | apply State.serve_frame | apply State.setArb_frame
          | apply State.releasePort_frame | apply State.portBump_frame | apply State.oweStale_frame); exact rfl)
    | split
    | dsimp only [nextState]

theorem execEgressCredit_frame (port) (s : State) : SameExcept [.frm] s (nextState (execEgressCredit port s) s) := by
  unfold execEgressCredit State.runLive
  repeat' first
    | with_reducible exact SameExcept.refl _ _
    | ((with_reducible apply SameExcept.step); (with_reducible apply State.modPort_frame); exact rfl)
    | split
    | dsimp only [nextState]

theorem State.dropPort_frame (s : State) (p) :
    SameExcept [.mem, .frm, .rgn, .wsk, .mc, .syn, .sch, .pwr, .evt, .att, .par, .obs, .cls, .arb, .tally] s
      (State.dropPort s p) := by
  unfold State.dropPort
  repeat' first
    | with_reducible exact SameExcept.refl _ _
    | ((with_reducible apply SameExcept.step); (with_reducible first
          | apply State.setPort_frame | apply State.giveBack_frame | apply State.releasePort_frame
          | apply State.portBump_frame); exact rfl)
    | ((with_reducible apply SameExcept.foldl); intro _ _)
    | ((with_reducible apply SameExcept.foldlPair); intro _ _)
    | split
    | dsimp only

theorem State.raisePort_frame (s : State) (p) : SameExcept [.frm] s (State.raisePort s p) := by
  unfold State.raisePort
  repeat' first
    | with_reducible exact SameExcept.refl _ _
    | ((with_reducible apply SameExcept.step); (with_reducible first
          | apply State.modPort_frame | apply State.modFrm_frame | apply State.stagePick_frame); exact rfl)
    | ((with_reducible apply SameExcept.foldl); intro _ _)
    | ((with_reducible apply SameExcept.foldlPair); intro _ _)
    | split
    | dsimp only

theorem execPortUp_frame (port) (s : State) : SameExcept [.frm] s (nextState (execPortUp port s) s) := by
  unfold execPortUp runIf
  repeat' first
    | with_reducible exact SameExcept.refl _ _
    | ((with_reducible apply SameExcept.step); (with_reducible first
          | apply State.modPort_frame | apply State.raisePort_frame); exact rfl)
    | split
    | dsimp only [nextState]

theorem execPortDown_frame (port) (s : State) :
    SameExcept [.mem, .frm, .rgn, .wsk, .mc, .syn, .sch, .pwr, .evt, .att, .par, .obs, .cls, .arb, .tally] s
      (nextState (execPortDown port s) s) := by
  unfold execPortDown runIf
  repeat' first
    | with_reducible exact SameExcept.refl _ _
    | ((with_reducible apply SameExcept.step); (with_reducible first
          | apply State.modPort_frame | apply State.dropPort_frame); exact rfl)
    | split
    | dsimp only [nextState]

theorem State.watchIdle_frame (s : State) : SameExcept [.pwr, .stress, .arb] s (State.watchIdle s) := by
  unfold State.watchIdle
  repeat' first
    | with_reducible exact SameExcept.refl _ _
    | ((with_reducible apply SameExcept.step); (with_reducible first
          | apply State.wakeDom_frame | apply State.setDom_frame); exact rfl)
    | ((with_reducible apply SameExcept.foldl); intro _ _)
    | ((with_reducible apply SameExcept.foldlPair); intro _ _)
    | split
    | dsimp only

theorem State.drainPc_frame (s : State) (st) (c) (fuel) :
    SameExcept [.mem, .frm, .tl, .evt, .obs, .cls, .stk, .tally] s (State.drainPc s st c fuel) := by
  induction fuel generalizing s st c with
  | zero =>
    simp only [State.drainPc]
    repeat' first
      | with_reducible exact SameExcept.refl _ _
      | ((with_reducible apply SameExcept.step); (with_reducible first
            | apply State.pcBump_frame | apply State.setPc_frame | apply State.pullAll_frame); exact rfl)
      | split
      | dsimp only
  | succ n ih =>
    simp only [State.drainPc]
    repeat' first
      | with_reducible exact SameExcept.refl _ _
      | with_reducible apply SameExcept.trans (k := ih _ _ _)
      | ((with_reducible apply SameExcept.step); (with_reducible first
            | apply State.pcBump_frame | apply State.setPc_frame | apply State.pullAll_frame); exact rfl)
      | split
      | dsimp only

theorem State.drainPot_frame (s : State) (st) :
    SameExcept [.mem, .frm, .tl, .evt, .obs, .cls, .stk, .tally] s (State.drainPot s st) := by
  unfold State.drainPot
  repeat' first
    | with_reducible exact SameExcept.refl _ _
    | ((with_reducible apply SameExcept.step); (with_reducible apply State.drainPc_frame); exact rfl)
    | ((with_reducible apply SameExcept.foldl); intro _ _)
    | ((with_reducible apply SameExcept.foldlPair); intro _ _)
    | split
    | dsimp only

theorem State.countRanks_frame (s : State) (st) (c) (x) (till) :
    SameExcept [.obs, .tally] s (State.countRanks s st c x till) := by
  unfold State.countRanks
  repeat' first
    | with_reducible exact SameExcept.refl _ _
    | ((with_reducible apply SameExcept.step); (with_reducible apply State.pcBump_frame); exact rfl)
    | ((with_reducible apply SameExcept.foldl); intro _ _)
    | ((with_reducible apply SameExcept.foldlPair); intro _ _)
    | split
    | dsimp only

theorem State.stackDown_frame (s : State) (st) (level) :
    SameExcept [.obs, .stk, .tally] s (State.stackDown s st level) := by
  unfold State.stackDown
  repeat' first
    | with_reducible exact SameExcept.refl _ _
    | ((with_reducible apply SameExcept.step); (with_reducible first
          | apply State.modPot_frame | apply State.pcBump_frame | apply State.countRanks_frame); exact rfl)
    | ((with_reducible apply SameExcept.foldl); intro _ _)
    | ((with_reducible apply SameExcept.foldlPair); intro _ _)
    | split
    | dsimp only

theorem State.stackUp_frame (s : State) (st) (level) :
    SameExcept [.obs, .stk, .tally] s (State.stackUp s st level) := by
  unfold State.stackUp
  repeat' first
    | with_reducible exact SameExcept.refl _ _
    | ((with_reducible apply SameExcept.step); (with_reducible first
          | apply State.modPot_frame | apply State.pcBump_frame | apply State.countRanks_frame); exact rfl)
    | ((with_reducible apply SameExcept.foldl); intro _ _)
    | ((with_reducible apply SameExcept.foldlPair); intro _ _)
    | split
    | dsimp only

theorem State.resetArbs_frame (s : State) (kind) (lo) (n) : SameExcept [.arb] s (State.resetArbs s kind lo n) := by
  unfold State.resetArbs
  repeat' first
    | with_reducible exact SameExcept.refl _ _
    | ((with_reducible apply SameExcept.step); (with_reducible apply State.modArb_frame); exact rfl)
    | split
    | dsimp only

theorem State.enterState_frame (s : State) (d) :
    SameExcept [.tl, .pwr, .stress, .obs, .stk, .tally] s (State.enterState s d) := by
  unfold State.enterState
  repeat' first
    | with_reducible exact SameExcept.refl _ _
    | ((with_reducible apply SameExcept.step); (with_reducible first
          | apply State.settleDom_frame | apply State.modDom_frame | apply State.saveTile_frame
          | apply State.stackDown_frame | apply State.domBump_frame); exact rfl)
    | ((with_reducible apply SameExcept.foldl); intro _ _)
    | ((with_reducible apply SameExcept.foldlPair); intro _ _)
    | split
    | dsimp only

theorem execDomainStepDown_frame (d) (s : State) :
    SameExcept [.tl, .pwr, .stress, .obs, .stk, .arb, .tally] s (nextState (execDomainStepDown d s) s) := by
  unfold execDomainStepDown State.runLive
  repeat' first
    | with_reducible exact SameExcept.refl _ _
    | ((with_reducible apply SameExcept.step); (with_reducible first
          | apply State.wakeDom_frame | apply State.enterState_frame | apply State.modDom_frame
          | apply State.freezeInto_frame); exact rfl)
    | split
    | dsimp only [nextState]

theorem execDomainWake_frame (d) (s : State) :
    SameExcept [.pwr, .stress, .arb] s (nextState (execDomainWake d s) s) := by
  unfold execDomainWake State.runLive
  repeat' first
    | with_reducible exact SameExcept.refl _ _
    | ((with_reducible apply SameExcept.step); (with_reducible apply State.wakeDom_frame); exact rfl)
    | split
    | dsimp only [nextState]

theorem State.applyHeld_frame (s : State) (h) :
    SameExcept [.mem, .frm, .rgn, .wsk, .mc, .tl, .syn, .sch, .pwr, .evt, .att, .par, .obs, .cls, .tally] s
      (State.applyHeld s h) := by
  unfold State.applyHeld
  repeat' first
    | with_reducible exact SameExcept.refl _ _
    | ((with_reducible apply SameExcept.step); (with_reducible first
          | apply State.applySig_frame | apply State.sigRefused_frame | apply State.handCtr_frame
          | apply State.applySync_frame); exact rfl)
    | ((apply SameExcept.stepOpt (e := by assumption)); (with_reducible apply State.applySig_frame); exact rfl)
    | split
    | dsimp only

theorem State.exitDom_frame (s : State) (d) :
    SameExcept [.mem, .frm, .rgn, .wsk, .mc, .tl, .syn, .sch, .pwr, .stress, .evt, .att, .par, .obs, .cls, .stk, .arb,
      .tally] s (State.exitDom s d) := by
  unfold State.exitDom
  repeat' first
    | with_reducible exact SameExcept.refl _ _
    | ((with_reducible apply SameExcept.step); (with_reducible first
          | apply State.restoreTile_frame | apply State.applyHeld_frame | apply State.settleDom_frame
          | apply State.stackUp_frame | apply State.modDom_frame | apply State.domBump_frame
          | apply State.freezeInto_frame); exact rfl)
    | ((with_reducible apply SameExcept.foldl); intro _ _)
    | ((with_reducible apply SameExcept.foldlPair); intro _ _)
    | split
    | dsimp only

theorem execDomainExit_frame (d) (s : State) :
    SameExcept [.mem, .frm, .rgn, .wsk, .mc, .tl, .syn, .sch, .pwr, .stress, .evt, .att, .par, .obs, .cls, .stk, .arb,
      .tally] s (nextState (execDomainExit d s) s) := by
  unfold execDomainExit State.runLive
  repeat' first
    | with_reducible exact SameExcept.refl _ _
    | ((with_reducible apply SameExcept.step); (with_reducible apply State.exitDom_frame); exact rfl)
    | split
    | dsimp only [nextState]

theorem State.bumpEpoch_frame (s : State) (d) : SameExcept [.pwr, .stress, .obs, .arb] s (State.bumpEpoch s d) := by
  unfold State.bumpEpoch
  repeat' first
    | with_reducible exact SameExcept.refl _ _
    | ((with_reducible apply SameExcept.step); (with_reducible first
          | apply State.modObs_frame | apply State.resetArbs_frame | apply State.settleDom_frame
          | apply State.modDom_frame); exact rfl)
    | ((with_reducible apply SameExcept.foldl); intro _ _)
    | ((with_reducible apply SameExcept.foldlPair); intro _ _)
    | split
    | dsimp only

theorem State.endAttSet_frame (s : State) (i) (state) (unit) (dom) :
    SameExcept [.mem, .frm, .rgn, .wsk, .mc, .tl, .syn, .sch, .pwr, .evt, .att, .par, .obs, .cls, .tally] s
      (State.endAttSet s i state unit dom) := by
  unfold State.endAttSet
  repeat' first
    | with_reducible exact SameExcept.refl _ _
    | ((with_reducible apply SameExcept.step); (with_reducible first
          | apply State.setAttSet_frame | apply State.stopTile_frame | apply State.endEpoch_frame); exact rfl)
    | ((with_reducible apply SameExcept.foldl); intro _ _)
    | ((with_reducible apply SameExcept.foldlPair); intro _ _)
    | split
    | dsimp only

theorem State.endUpdSet_frame (s : State) (u) (state) (unit) (dom) :
    SameExcept [.mem, .frm, .rgn, .wsk, .mc, .tl, .syn, .sch, .pwr, .evt, .att, .par, .obs, .cls, .tally] s
      (State.endUpdSet s u state unit dom) := by
  unfold State.endUpdSet
  repeat' first
    | with_reducible exact SameExcept.refl _ _
    | ((with_reducible apply SameExcept.step); (with_reducible first
          | apply State.stopTile_frame | apply State.endEpoch_frame | apply State.setUpd_frame); exact rfl)
    | ((with_reducible apply SameExcept.foldl); intro _ _)
    | ((with_reducible apply SameExcept.foldlPair); intro _ _)
    | split
    | dsimp only

end Sys2Proof.Machine
end

