-- ==== Sys2Proof/Laws/FrameLadel.lean ====
section
/-! SUPPORT. Frames: the groups of the state that each operation may change, one lemma per operation (Power, Start,
Firmware, Control, Create, Observe, DictRead, DictWrite, DictLock). -/

namespace Sys2Proof.Machine

theorem State.breakEpoch_frame (s : State) (x) (unit) (dom) :
    SameExcept [.mem, .frm, .rgn, .wsk, .mc, .syn, .sch, .pwr, .evt, .att, .par, .obs, .cls, .tally] s
      (State.breakEpoch s x unit dom) := by
  unfold State.breakEpoch
  repeat' first
    | with_reducible exact SameExcept.refl _ _
    | ((with_reducible apply SameExcept.step); (with_reducible apply State.breakSlot_frame); exact rfl)
    | split
    | dsimp only

theorem State.cutXfer_frame (s : State) (t) : SameExcept [.tl, .evt, .obs, .tally] s (State.cutXfer s t) := by
  unfold State.cutXfer
  repeat' first
    | with_reducible exact SameExcept.refl _ _
    | ((with_reducible apply SameExcept.step); (with_reducible first
          | apply State.tileBump_frame | apply State.settle_frame | apply State.modTile_frame
          | apply State.asyncFault_frame); exact rfl)
    | split
    | dsimp only

theorem State.cutXfers_frame (s : State) (hit) : SameExcept [.tl, .evt, .obs, .tally] s (State.cutXfers s hit) := by
  unfold State.cutXfers
  repeat' first
    | with_reducible exact SameExcept.refl _ _
    | ((with_reducible apply SameExcept.step); (with_reducible apply State.cutXfer_frame); exact rfl)
    | ((with_reducible apply SameExcept.foldl); intro _ _)
    | ((with_reducible apply SameExcept.foldlPair); intro _ _)
    | split
    | dsimp only

theorem State.resetSkillet_frame (s : State) (n) :
    SameExcept [.mem, .frm, .rgn, .wsk, .mc, .tl, .syn, .sch, .pwr, .stress, .evt, .att, .par, .obs, .cls, .arb,
      .tally] s (State.resetSkillet s n) := by
  unfold State.resetSkillet
  repeat' first
    | with_reducible exact SameExcept.refl _ _
    | ((with_reducible apply SameExcept.step); (with_reducible first
          | apply State.endUpdSet_frame | apply State.bumpEpoch_frame | apply State.modTl_frame
          | apply State.endEpoch_frame | apply State.endAttSet_frame | apply State.cutXfers_frame); exact rfl)
    | ((with_reducible apply SameExcept.foldl); intro _ _)
    | ((with_reducible apply SameExcept.foldlPair); intro _ _)
    | split
    | dsimp only

theorem State.potQueries_frame (s : State) (st) (i) :
    SameExcept [.mem, .frm, .rgn, .wsk, .mc, .tl, .syn, .sch, .pwr, .evt, .att, .par, .obs, .cls, .tally] s
      (State.potQueries s st i) := by
  unfold State.potQueries
  repeat' first
    | with_reducible exact SameExcept.refl _ _
    | ((with_reducible apply SameExcept.step); (with_reducible first
          | apply State.setAttSet_frame | apply State.stopTile_frame | apply State.endEpoch_frame); exact rfl)
    | ((with_reducible apply SameExcept.foldl); intro _ _)
    | ((with_reducible apply SameExcept.foldlPair); intro _ _)
    | split
    | dsimp only

theorem State.potUpdates_frame (s : State) (st) (u) :
    SameExcept [.mem, .frm, .rgn, .wsk, .mc, .tl, .syn, .sch, .pwr, .evt, .att, .par, .obs, .cls, .tally] s
      (State.potUpdates s st u) := by
  unfold State.potUpdates
  repeat' first
    | with_reducible exact SameExcept.refl _ _
    | ((with_reducible apply SameExcept.step); (with_reducible first
          | apply State.stopTile_frame | apply State.endEpoch_frame | apply State.setUpd_frame); exact rfl)
    | ((with_reducible apply SameExcept.foldl); intro _ _)
    | ((with_reducible apply SameExcept.foldlPair); intro _ _)
    | split
    | dsimp only

theorem State.resetPot_frame (s : State) (st) :
    SameExcept [.mem, .frm, .rgn, .wsk, .mc, .tl, .syn, .sch, .pwr, .stress, .evt, .att, .par, .obs, .cls, .stk, .arb,
      .tally, .free] s (State.resetPot s st) := by
  unfold State.resetPot
  repeat' first
    | with_reducible exact SameExcept.refl _ _
    | ((with_reducible apply SameExcept.step); (with_reducible first
          | apply State.stackUp_frame | apply State.bumpEpoch_frame | apply State.breakEpoch_frame
          | apply State.potUpdates_frame | apply State.drainPot_frame | apply State.modFree_frame
          | apply State.potQueries_frame | apply State.cutXfers_frame); exact rfl)
    | ((with_reducible apply SameExcept.foldl); intro _ _)
    | ((with_reducible apply SameExcept.foldlPair); intro _ _)
    | split
    | dsimp only

theorem State.discardCells_frame (s : State) (p) : SameExcept [.frm] s (State.discardCells s p) := by
  unfold State.discardCells
  repeat' first
    | with_reducible exact SameExcept.refl _ _
    | ((with_reducible apply SameExcept.step); (with_reducible first
          | apply State.modPort_frame | apply State.modFrm_frame); exact rfl)
    | split
    | dsimp only

theorem State.resetPorts_frame (s : State) (g) :
    SameExcept [.mem, .frm, .rgn, .wsk, .mc, .syn, .sch, .pwr, .stress, .evt, .att, .par, .obs, .cls, .arb, .tally] s
      (State.resetPorts s g) := by
  unfold State.resetPorts
  repeat' first
    | with_reducible exact SameExcept.refl _ _
    | ((with_reducible apply SameExcept.step); (with_reducible first
          | apply State.modPort_frame | apply State.raisePort_frame | apply State.modCls_frame
          | apply State.dropPort_frame | apply State.bumpEpoch_frame | apply State.discardCells_frame); exact rfl)
    | ((with_reducible apply SameExcept.foldl); intro _ _)
    | ((with_reducible apply SameExcept.foldlPair); intro _ _)
    | split
    | dsimp only

theorem State.resetQuad_frame (s : State) (q) :
    SameExcept [.mem, .frm, .rgn, .wsk, .mc, .syn, .sch, .pwr, .stress, .evt, .att, .par, .obs, .cls, .arb, .tally] s
      (State.resetQuad s q) := by
  unfold State.resetQuad
  repeat' first
    | with_reducible exact SameExcept.refl _ _
    | ((with_reducible apply SameExcept.step); (with_reducible first
          | apply State.bumpEpoch_frame | apply State.breakEpoch_frame); exact rfl)
    | ((with_reducible apply SameExcept.foldl); intro _ _)
    | ((with_reducible apply SameExcept.foldlPair); intro _ _)
    | split
    | dsimp only

theorem State.endCtx_frame (s : State) (i) (rule) :
    SameExcept [.wsk, .sch, .evt, .obs, .tally] s (State.endCtx s i rule) := by
  unfold State.endCtx
  repeat' first
    | with_reducible exact SameExcept.refl _ _
    | ((with_reducible apply SameExcept.step); (with_reducible first
          | apply State.bump_frame | apply State.modSch_frame | apply State.raise_frame | apply State.dropResv_frame);
          exact rfl)
    | split
    | dsimp only

theorem State.resetHub_frame (s : State) :
    SameExcept [.mem, .frm, .rgn, .wsk, .mc, .tl, .syn, .sch, .pwr, .stress, .evt, .att, .par, .obs, .cls, .arb,
      .tally] s (State.resetHub s) := by
  unfold State.resetHub
  repeat' first
    | with_reducible exact SameExcept.refl _ _
    | ((with_reducible apply SameExcept.step); (with_reducible first
          | apply State.modSch_frame | apply State.endCtx_frame | apply State.endUpdSet_frame
          | apply State.bumpEpoch_frame | apply State.endEpoch_frame | apply State.endAttSet_frame); exact rfl)
    | ((with_reducible apply SameExcept.foldl); intro _ _)
    | ((with_reducible apply SameExcept.foldlPair); intro _ _)
    | split
    | dsimp only

theorem State.resetSync_frame (s : State) :
    SameExcept [.mem, .frm, .rgn, .wsk, .mc, .syn, .sch, .pwr, .stress, .evt, .att, .par, .obs, .cls, .arb, .tally] s
      (State.resetSync s) := by
  unfold State.resetSync
  repeat' first
    | with_reducible exact SameExcept.refl _ _
    | ((with_reducible apply SameExcept.step); (with_reducible first
          | apply State.markStep_frame | apply State.barLocalDone_frame | apply State.setBar_frame
          | apply State.modSyn_frame | apply State.bumpEpoch_frame | apply State.endEpoch_frame); exact rfl)
    | ((with_reducible apply SameExcept.foldl); intro _ _)
    | ((with_reducible apply SameExcept.foldlPair); intro _ _)
    | split
    | dsimp only

theorem State.resetDom_frame (s : State) (d) :
    SameExcept [.mem, .frm, .rgn, .wsk, .mc, .tl, .syn, .sch, .pwr, .stress, .evt, .att, .par, .obs, .cls, .stk, .arb,
      .tally, .free] s (State.resetDom s d) := by
  unfold State.resetDom
  repeat' first
    | with_reducible exact SameExcept.refl _ _
    | ((with_reducible apply SameExcept.step); (with_reducible first
          | apply State.resetPot_frame | apply State.resetPorts_frame | apply State.resetSkillet_frame
          | apply State.resetHub_frame | apply State.resetQuad_frame | apply State.resetSync_frame); exact rfl)
    | split
    | dsimp only

theorem State.domainReset_frame (s : State) (d) :
    SameExcept [.mem, .frm, .rgn, .wsk, .mc, .tl, .syn, .sch, .pwr, .stress, .evt, .att, .par, .obs, .cls, .stk, .arb,
      .tally, .free] s ((State.domainReset s d).getD s) := by
  unfold State.domainReset
  repeat' first
    | with_reducible exact SameExcept.refl _ _
    | ((with_reducible apply SameExcept.step); (with_reducible first
          | apply State.resetDom_frame | apply State.modDom_frame | apply State.freezeInto_frame); exact rfl)
    | split
    | dsimp only [Option.getD_some, Option.getD_none]

theorem State.endDrains_frame (s : State) :
    SameExcept [.mem, .frm, .rgn, .wsk, .mc, .tl, .syn, .sch, .pwr, .stress, .evt, .att, .par, .obs, .cls, .stk, .arb,
      .tally, .free] s (State.endDrains s) := by
  unfold State.endDrains
  repeat' first
    | with_reducible exact SameExcept.refl _ _
    | ((with_reducible apply SameExcept.step); (with_reducible apply State.resetDom_frame); exact rfl)
    | ((with_reducible apply SameExcept.foldl); intro _ _)
    | ((with_reducible apply SameExcept.foldlPair); intro _ _)
    | split
    | dsimp only

theorem execDrainLimitExpiry_frame (d) (s : State) :
    SameExcept [.mem, .frm, .rgn, .wsk, .mc, .tl, .syn, .sch, .pwr, .stress, .evt, .att, .par, .obs, .cls, .stk, .arb,
      .tally, .free] s (nextState (execDrainLimitExpiry d s) s) := by
  unfold execDrainLimitExpiry State.runLive
  repeat' first
    | with_reducible exact SameExcept.refl _ _
    | ((with_reducible apply SameExcept.step); (with_reducible apply State.resetDom_frame); exact rfl)
    | split
    | dsimp only [nextState]

theorem State.parkBlock_frame (s : State) :
    SameExcept [.mem, .frm, .rgn, .wsk, .mc, .tl, .syn, .sch, .pwr, .stress, .evt, .att, .par, .obs, .cls, .stk, .pin,
      .arb, .tally] s (State.parkBlock s) := by
  unfold State.parkBlock
  repeat' first
    | with_reducible exact SameExcept.refl _ _
    | ((with_reducible apply SameExcept.step); (with_reducible first
          | apply State.modPwr_frame | apply State.settleDom_frame | apply State.modDom_frame
          | apply State.dropPort_frame | apply State.stackDown_frame | apply State.modPin_frame
          | apply State.drainPot_frame); exact rfl)
    | ((with_reducible apply SameExcept.foldl); intro _ _)
    | ((with_reducible apply SameExcept.foldlPair); intro _ _)
    | split
    | dsimp only

theorem State.blockPark_frame (s : State) :
    SameExcept [.mem, .frm, .rgn, .wsk, .mc, .tl, .syn, .sch, .pwr, .stress, .evt, .att, .par, .obs, .cls, .stk, .pin,
      .arb, .tally] s ((State.blockPark s).getD s) := by
  unfold State.blockPark
  repeat' first
    | with_reducible exact SameExcept.refl _ _
    | ((with_reducible apply SameExcept.step); (with_reducible apply State.parkBlock_frame); exact rfl)
    | split
    | dsimp only [Option.getD_some, Option.getD_none]

theorem execMainPowerFail_frame (s : State) :
    SameExcept [.mem, .frm, .rgn, .wsk, .mc, .tl, .syn, .sch, .pwr, .stress, .evt, .att, .par, .obs, .cls, .stk, .pin,
      .arb, .tally] s (nextState (execMainPowerFail s) s) := by
  unfold execMainPowerFail
  repeat' first
    | with_reducible exact SameExcept.refl _ _
    | ((with_reducible apply SameExcept.step); (with_reducible first
          | apply State.modPwr_frame | apply State.parkBlock_frame | apply State.raise_frame); exact rfl)
    | split
    | dsimp only [nextState]

theorem execRailGoodLost_frame (rail) (s : State) :
    SameExcept [.mem, .frm, .rgn, .wsk, .mc, .tl, .syn, .sch, .pwr, .stress, .evt, .att, .par, .obs, .cls, .stk, .pin,
      .arb, .tally] s (nextState (execRailGoodLost rail s) s) := by
  unfold execRailGoodLost runIf
  repeat' first
    | with_reducible exact SameExcept.refl _ _
    | ((with_reducible apply SameExcept.step); (with_reducible first
          | apply State.modPwr_frame | apply State.parkBlock_frame | apply State.raise_frame
          | apply State.modPin_frame); exact rfl)
    | split
    | dsimp only [nextState]

theorem execKeepSwitch_frame (s : State) :
    SameExcept [.pwr, .evt, .obs, .tally] s (nextState (execKeepSwitch s) s) := by
  unfold execKeepSwitch
  repeat' first
    | with_reducible exact SameExcept.refl _ _
    | ((with_reducible apply SameExcept.step); (with_reducible first
          | apply State.modPwr_frame | apply State.bump_frame | apply State.raise_frame); exact rfl)
    | split
    | dsimp only [nextState]

theorem execKeepReturn_frame (s : State) :
    SameExcept [.pwr, .evt, .obs, .tally] s (nextState (execKeepReturn s) s) := by
  unfold execKeepReturn
  repeat' first
    | with_reducible exact SameExcept.refl _ _
    | ((with_reducible apply SameExcept.step); (with_reducible first
          | apply State.modPwr_frame | apply State.bump_frame | apply State.raise_frame); exact rfl)
    | split
    | dsimp only [nextState]

theorem State.dropSplits_frame (s : State) (st) : SameExcept [.stk] s (State.dropSplits s st) := by
  unfold State.dropSplits
  repeat' first
    | with_reducible exact SameExcept.refl _ _
    | ((with_reducible apply SameExcept.step); (with_reducible apply State.modPot_frame); exact rfl)
    | split
    | dsimp only

theorem execPllLockLost_frame (s : State) :
    SameExcept [.clk, .mem, .frm, .tl, .sch, .pwr, .evt, .obs, .cls, .stk, .tally] s (nextState (execPllLockLost s) s)
      := by
  unfold execPllLockLost
  repeat' first
    | with_reducible exact SameExcept.refl _ _
    | ((with_reducible apply SameExcept.step); (with_reducible first
          | apply State.modPwr_frame | apply State.dropSplits_frame | apply State.toHoldover_frame
          | apply State.modClk_frame | apply State.raise_frame | apply State.stackDown_frame
          | apply State.drainPot_frame); exact rfl)
    | ((with_reducible apply SameExcept.foldl); intro _ _)
    | ((with_reducible apply SameExcept.foldlPair); intro _ _)
    | split
    | dsimp only [nextState]

theorem execVidStep_frame (vidOk) (margin) (s : State) :
    SameExcept [.pwr, .free] s (nextState (execVidStep vidOk margin s) s) := by
  unfold execVidStep runIf
  repeat' first
    | with_reducible exact SameExcept.refl _ _
    | ((with_reducible apply SameExcept.step); (with_reducible first
          | apply State.modPwr_frame | apply State.spend_frame); exact rfl)
    | split
    | dsimp only [nextState]

theorem State.takeTemps_frame (s : State) (temps) : SameExcept [.pwr] s (State.takeTemps s temps) := by
  unfold State.takeTemps
  repeat' first
    | with_reducible exact SameExcept.refl _ _
    | ((with_reducible apply SameExcept.step); (with_reducible first
          | apply State.modPwr_frame | apply State.modDom_frame); exact rfl)
    | ((with_reducible apply SameExcept.foldl); intro _ _)
    | ((with_reducible apply SameExcept.foldlPair); intro _ _)
    | split
    | dsimp only

theorem State.judgeHot_frame (s : State) : SameExcept [.pwr, .evt, .free] s (State.judgeHot s) := by
  unfold State.judgeHot
  repeat' first
    | with_reducible exact SameExcept.refl _ _
    | ((with_reducible apply SameExcept.step); (with_reducible first
          | apply State.modPwr_frame | apply State.spend_frame | apply State.raise_frame); exact rfl)
    | split
    | dsimp only

theorem State.thermTrip_frame (s : State) (x) :
    SameExcept [.mem, .frm, .rgn, .wsk, .mc, .tl, .syn, .sch, .ldl, .pwr, .stress, .evt, .att, .par, .obs, .cls, .stk,
      .pin, .arb, .tally] s (State.thermTrip s x) := by
  unfold State.thermTrip
  repeat' first
    | with_reducible exact SameExcept.refl _ _
    | ((with_reducible apply SameExcept.step); (with_reducible first
          | apply State.modPwr_frame | apply State.parkBlock_frame | apply State.failStart_frame
          | apply State.raise_frame | apply State.modPin_frame); exact rfl)
    | split
    | dsimp only

theorem State.updateBoost_frame (s : State) (p) : SameExcept [.pwr, .stress] s (State.updateBoost s p) := by
  unfold State.updateBoost
  repeat' first
    | with_reducible exact SameExcept.refl _ _
    | ((with_reducible apply SameExcept.step); (with_reducible first
          | apply State.modPwr_frame | apply State.modStress_frame); exact rfl)
    | split
    | dsimp only

theorem State.countUnmet_frame (s : State) (p) :
    SameExcept [.stress, .evt, .obs, .tally] s (State.countUnmet s p) := by
  unfold State.countUnmet
  repeat' first
    | with_reducible exact SameExcept.refl _ _
    | ((with_reducible apply SameExcept.step); (with_reducible first
          | apply State.bump_frame | apply State.raise_frame | apply State.modStress_frame); exact rfl)
    | split
    | dsimp only

theorem State.updateDuty_frame (s : State) (p) :
    SameExcept [.pwr, .stress, .evt, .obs, .tally] s (State.updateDuty s p) := by
  unfold State.updateDuty
  repeat' first
    | with_reducible exact SameExcept.refl _ _
    | ((with_reducible apply SameExcept.step); (with_reducible first
          | apply State.modPwr_frame | apply State.bump_frame | apply State.countUnmet_frame); exact rfl)
    | ((with_reducible apply SameExcept.foldl); intro _ _)
    | ((with_reducible apply SameExcept.foldlPair); intro _ _)
    | split
    | dsimp only

theorem State.updateStress_frame (s : State) : SameExcept [.stress, .evt] s (State.updateStress s) := by
  unfold State.updateStress
  repeat' first
    | with_reducible exact SameExcept.refl _ _
    | ((with_reducible apply SameExcept.step); (with_reducible first
          | apply State.raise_frame | apply State.modStress_frame); exact rfl)
    | ((with_reducible apply SameExcept.foldl); intro _ _)
    | ((with_reducible apply SameExcept.foldlPair); intro _ _)
    | split
    | dsimp only

theorem execTrivetInterval_frame (temps) (s : State) :
    SameExcept [.mem, .frm, .rgn, .wsk, .mc, .tl, .syn, .sch, .ldl, .pwr, .stress, .evt, .att, .par, .obs, .cls, .stk,
      .pin, .arb, .tally, .free] s (nextState (execTrivetInterval temps s) s) := by
  unfold execTrivetInterval runIf
  repeat' first
    | with_reducible exact SameExcept.refl _ _
    | ((with_reducible apply SameExcept.step); (with_reducible first
          | apply State.judgeHot_frame | apply State.modPwr_frame | apply State.thermTrip_frame
          | apply State.spend_frame | apply State.takeTemps_frame | apply State.updateBoost_frame
          | apply State.updateDuty_frame | apply State.updateStress_frame); exact rfl)
    | split
    | dsimp only [nextState]

theorem State.railsOn_frame (s : State) : SameExcept [.pin] s (State.railsOn s).1 := by
  unfold State.railsOn
  repeat' first
    | with_reducible exact SameExcept.refl _ _
    | ((with_reducible apply SameExcept.step); (with_reducible apply State.modPin_frame); exact rfl)
    | ((with_reducible apply SameExcept.foldl); intro _ _)
    | ((with_reducible apply SameExcept.foldlPair); intro _ _)
    | split
    | dsimp only

theorem State.readStacks_frame (s : State) :
    SameExcept [.dict, .ldl, .pwr, .evt, .stk, .pin] s (State.readStacks s) := by
  unfold State.readStacks
  repeat' first
    | with_reducible exact SameExcept.refl _ _
    | ((with_reducible apply SameExcept.step); (with_reducible first
          | apply State.setTiming_frame | apply State.note_frame | apply State.setParam_frame
          | apply State.failStart_frame | apply State.modPot_frame); exact rfl)
    | ((with_reducible apply SameExcept.foldl); intro _ _)
    | ((with_reducible apply SameExcept.foldlPair); intro _ _)
    | split
    | dsimp only

theorem State.closeOpen_frame (s : State) : SameExcept [.frm] s (State.closeOpen s) := by
  unfold State.closeOpen
  repeat' first
    | with_reducible exact SameExcept.refl _ _
    | ((with_reducible apply SameExcept.step); (with_reducible apply State.modFrm_frame); exact rfl)
    | split
    | dsimp only

theorem State.retireDone_frame (s : State) : SameExcept [.frm] s (State.retireDone s) := by
  unfold State.retireDone
  repeat' first
    | with_reducible exact SameExcept.refl _ _
    | ((with_reducible apply SameExcept.step); (with_reducible apply State.modFrm_frame); exact rfl)
    | ((with_reducible apply SameExcept.foldl); intro _ _)
    | ((with_reducible apply SameExcept.foldlPair); intro _ _)
    | split
    | dsimp only

theorem State.clearFrames_frame (s : State) : SameExcept [.frm] s (State.clearFrames s) := by
  unfold State.clearFrames
  repeat' first
    | with_reducible exact SameExcept.refl _ _
    | ((with_reducible apply SameExcept.step); (with_reducible first
          | apply State.closeOpen_frame | apply State.retireDone_frame | apply State.modFrm_frame); exact rfl)
    | ((with_reducible apply SameExcept.foldl); intro _ _)
    | ((with_reducible apply SameExcept.foldlPair); intro _ _)
    | split
    | dsimp only

theorem State.clearWhisk_frame (s : State) :
    SameExcept [.mem, .frm, .rgn, .wsk, .mc, .syn, .sch, .pwr, .evt, .att, .par, .obs, .cls, .tally] s
      (State.clearWhisk s) := by
  unfold State.clearWhisk
  repeat' first
    | with_reducible exact SameExcept.refl _ _
    | ((with_reducible apply SameExcept.step); (with_reducible first
          | apply State.breakEpoch_frame | apply State.modWsk_frame); exact rfl)
    | ((with_reducible apply SameExcept.foldl); intro _ _)
    | ((with_reducible apply SameExcept.foldlPair); intro _ _)
    | split
    | dsimp only

theorem State.clearMcast_frame (s : State) :
    SameExcept [.mem, .frm, .rgn, .wsk, .mc, .syn, .sch, .pwr, .evt, .att, .par, .obs, .cls, .tally] s
      (State.clearMcast s) := by
  unfold State.clearMcast
  repeat' first
    | with_reducible exact SameExcept.refl _ _
    | ((with_reducible apply SameExcept.step); (with_reducible first
          | apply State.markStep_frame | apply State.modMc_frame); exact rfl)
    | ((with_reducible apply SameExcept.foldl); intro _ _)
    | ((with_reducible apply SameExcept.foldlPair); intro _ _)
    | split
    | dsimp only

theorem State.clearSchedule_frame (s : State) :
    SameExcept [.wsk, .sch, .evt, .obs, .tally] s (State.clearSchedule s) := by
  unfold State.clearSchedule
  repeat' first
    | with_reducible exact SameExcept.refl _ _
    | ((with_reducible apply SameExcept.step); (with_reducible first
          | apply State.modSch_frame | apply State.endCtx_frame); exact rfl)
    | ((with_reducible apply SameExcept.foldl); intro _ _)
    | ((with_reducible apply SameExcept.foldlPair); intro _ _)
    | split
    | dsimp only

theorem State.discardOpen_frame (s : State) : SameExcept [.mem] s (State.discardOpen s) := by
  unfold State.discardOpen
  repeat' first
    | with_reducible exact SameExcept.refl _ _
    | ((with_reducible apply SameExcept.step); (with_reducible apply State.setPrmHdr_frame); exact rfl)
    | ((with_reducible apply SameExcept.foldl); intro _ _)
    | ((with_reducible apply SameExcept.foldlPair); intro _ _)
    | split
    | dsimp only

theorem State.clearUnits_frame (s : State) :
    SameExcept [.mem, .frm, .rgn, .wsk, .mc, .tl, .syn, .sch, .pwr, .evt, .att, .par, .obs, .cls, .arb, .tally] s
      (State.clearUnits s) := by
  unfold State.clearUnits
  repeat' first
    | with_reducible exact SameExcept.refl _ _
    | ((with_reducible apply SameExcept.step); (with_reducible first
          | apply State.modPar_frame | apply State.modObs_frame | apply State.markStep_frame
          | apply State.modCls_frame | apply State.modAtt_frame | apply State.modArb_frame | apply State.modSyn_frame
          | apply State.modMem_frame | apply State.modRgn_frame | apply State.modTl_frame); exact rfl)
    | ((with_reducible apply SameExcept.foldl); intro _ _)
    | ((with_reducible apply SameExcept.foldlPair); intro _ _)
    | split
    | dsimp only

theorem State.clearLadel_frame (s : State) : SameExcept [.dict, .ldl] s (State.clearLadel s) := by
  unfold State.clearLadel
  repeat' first
    | with_reducible exact SameExcept.refl _ _
    | ((with_reducible apply SameExcept.step); (with_reducible first
          | apply State.modDict_frame | apply State.modLdl_frame); exact rfl)
    | split
    | dsimp only

theorem State.nextEpochs_frame (s : State) : SameExcept [.pwr, .stress] s (State.nextEpochs s) := by
  unfold State.nextEpochs
  repeat' first
    | with_reducible exact SameExcept.refl _ _
    | ((with_reducible apply SameExcept.step); (with_reducible first
          | apply State.settleDom_frame | apply State.modDom_frame); exact rfl)
    | ((with_reducible apply SameExcept.foldl); intro _ _)
    | ((with_reducible apply SameExcept.foldlPair); intro _ _)
    | split
    | dsimp only

theorem State.countSleep_frame (s : State) : SameExcept [.obs, .tally] s (State.countSleep s) := by
  unfold State.countSleep
  repeat' first
    | with_reducible exact SameExcept.refl _ _
    | ((with_reducible apply SameExcept.step); (with_reducible apply State.pcBump_frame); exact rfl)
    | ((with_reducible apply SameExcept.foldl); intro _ _)
    | ((with_reducible apply SameExcept.foldlPair); intro _ _)
    | split
    | dsimp only

theorem State.endTests_frame (s : State) : SameExcept [.dict] s (State.endTests s) := by
  unfold State.endTests
  repeat' first
    | with_reducible exact SameExcept.refl _ _
    | ((with_reducible apply SameExcept.step); (with_reducible apply State.setParam_frame); exact rfl)
    | ((with_reducible apply SameExcept.foldl); intro _ _)
    | ((with_reducible apply SameExcept.foldlPair); intro _ _)
    | split
    | dsimp only

theorem State.releaseWarm_frame (s : State) :
    SameExcept [.mem, .dict, .frm, .rgn, .wsk, .mc, .tl, .syn, .sch, .ldl, .pwr, .stress, .evt, .att, .par, .obs,
      .cls, .stk, .arb, .tally] s (State.releaseWarm s) := by
  unfold State.releaseWarm
  repeat' first
    | with_reducible exact SameExcept.refl _ _
    | ((with_reducible apply SameExcept.step); (with_reducible first
          | apply State.modPwr_frame | apply State.clearUnits_frame | apply State.clearLadel_frame
          | apply State.clearWhisk_frame | apply State.discardOpen_frame | apply State.clearMcast_frame
          | apply State.clearFrames_frame | apply State.endTests_frame | apply State.clearSchedule_frame
          | apply State.nextEpochs_frame | apply State.modStk_frame | apply State.countSleep_frame); exact rfl)
    | ((with_reducible apply SameExcept.foldl); intro _ _)
    | ((with_reducible apply SameExcept.foldlPair); intro _ _)
    | split
    | dsimp only

theorem State.continueStart_frame (s : State) :
    SameExcept [.mem, .dict, .frm, .rgn, .wsk, .mc, .tl, .syn, .sch, .ldl, .pwr, .stress, .evt, .att, .par, .obs,
      .cls, .stk, .pin, .arb, .tally] s (State.continueStart s) := by
  unfold State.continueStart
  repeat' first
    | with_reducible exact SameExcept.refl _ _
    | ((with_reducible apply SameExcept.step); (with_reducible first
          | apply State.readStacks_frame | apply State.railsOn_frame | apply State.releaseWarm_frame
          | apply State.modLdl_frame); exact rfl)
    | ((apply SameExcept.stepPair (e := by assumption)); (with_reducible apply State.railsOn_frame); exact rfl)
    | split
    | dsimp only

theorem State.beginWarm_frame (s : State) (k) :
    SameExcept [.mem, .dict, .frm, .rgn, .wsk, .mc, .tl, .syn, .sch, .ldl, .pwr, .stress, .evt, .att, .par, .obs,
      .cls, .stk, .pin, .arb, .tally] s (State.beginWarm s k) := by
  unfold State.beginWarm
  repeat' first
    | with_reducible exact SameExcept.refl _ _
    | ((with_reducible apply SameExcept.step); (with_reducible first
          | apply State.parkBlock_frame | apply State.continueStart_frame | apply State.modPin_frame); exact rfl)
    | split
    | dsimp only

theorem State.warmRequest_frame (s : State) (k) :
    SameExcept [.mem, .dict, .frm, .rgn, .wsk, .mc, .tl, .syn, .sch, .ldl, .pwr, .stress, .evt, .att, .par, .obs,
      .cls, .stk, .pin, .arb, .tally] s (State.warmRequest s k) := by
  unfold State.warmRequest
  repeat' first
    | with_reducible exact SameExcept.refl _ _
    | ((with_reducible apply SameExcept.step); (with_reducible first
          | apply State.note_frame | apply State.modPin_frame | apply State.beginWarm_frame); exact rfl)
    | split
    | dsimp only

theorem State.bootOn_frame (s : State) :
    SameExcept [.mem, .dict, .frm, .rgn, .wsk, .mc, .tl, .syn, .sch, .ldl, .per, .pwr, .stress, .evt, .att, .par,
      .obs, .cls, .stk, .pin, .arb, .tally, .free] s (State.bootOn s) := by
  unfold State.bootOn
  repeat' first
    | with_reducible exact SameExcept.refl _ _
    | ((with_reducible apply SameExcept.step); (with_reducible first
          | apply State.pickRecord_frame | apply State.modPwr_frame | apply State.applyRecord_frame
          | apply State.failStart_frame | apply State.continueStart_frame | apply State.modLdl_frame
          | apply State.pickSlot_frame); exact rfl)
    | ((apply SameExcept.stepPair (e := by assumption)); (with_reducible first
          | apply State.pickRecord_frame | apply State.pickSlot_frame); exact rfl)
    | split
    | dsimp only

theorem State.openAdmission_frame (s : State) :
    SameExcept [.frm, .ldl, .stk, .pin, .free] s (State.openAdmission s) := by
  unfold State.openAdmission
  repeat' first
    | with_reducible exact SameExcept.refl _ _
    | ((with_reducible apply SameExcept.step); (with_reducible first
          | apply State.raisePort_frame | apply State.modPot_frame | apply State.modLdl_frame
          | apply State.modPin_frame | apply State.modFree_frame); exact rfl)
    | ((with_reducible apply SameExcept.foldl); intro _ _)
    | ((with_reducible apply SameExcept.foldlPair); intro _ _)
    | split
    | dsimp only

theorem State.startStep_frame (s : State) :
    SameExcept [.clk, .mem, .dict, .frm, .rgn, .wsk, .mc, .tl, .syn, .sch, .ldl, .per, .pwr, .stress, .evt, .att,
      .par, .obs, .cls, .stk, .pin, .arb, .tally, .free] s (State.startStep s) := by
  unfold State.startStep
  repeat' first
    | with_reducible exact SameExcept.refl _ _
    | ((with_reducible apply SameExcept.step); (with_reducible first
          | apply State.bootOn_frame | apply State.passTime_frame | apply State.openAdmission_frame
          | apply State.failStart_frame | apply State.continueStart_frame | apply State.modLdl_frame); exact rfl)
    | split
    | dsimp only

theorem execColdStart_frame (bins) (s : State) :
    SameExcept [.clk, .mem, .dict, .frm, .rgn, .wsk, .mc, .tl, .syn, .sch, .ldl, .per, .pwr, .stress, .evt, .att, .par,
      .obs, .cls, .stk, .pin, .arb, .tally, .mgtRsp] s (nextState (execColdStart bins s) s) := by
  unfold execColdStart runIf
  split
  · split
    · exact SameExcept.refl _ _
    · refine ⟨fun g hg => ?_⟩; cases g <;> first | rfl | cases hg
  · exact SameExcept.refl _ _

theorem execColdReset_frame (s : State) : SameExcept [.ldl, .pin] s (nextState (execColdReset s) s) := by
  unfold execColdReset
  repeat' first
    | with_reducible exact SameExcept.refl _ _
    | ((with_reducible apply SameExcept.step); (with_reducible first
          | apply State.modLdl_frame | apply State.modPin_frame); exact rfl)
    | split
    | dsimp only [nextState]

theorem execKeepLost_frame (s : State) :
    SameExcept [.clk, .mem, .dict, .frm, .rgn, .wsk, .mc, .tl, .syn, .sch, .ldl, .per, .pwr, .stress, .evt, .att, .par,
      .obs, .cls, .stk, .pin, .arb, .tally, .mgtRsp] s (nextState (execKeepLost s) s) := by
  refine ⟨fun g hg => ?_⟩; cases g <;> first | rfl | cases hg

theorem execPllLock_frame (s : State) :
    SameExcept [.clk, .mem, .dict, .frm, .rgn, .wsk, .mc, .tl, .syn, .sch, .ldl, .pwr, .stress, .evt, .att, .par,
      .obs, .cls, .stk, .pin, .arb, .tally] s (nextState (execPllLock s) s) := by
  unfold execPllLock
  repeat' first
    | with_reducible exact SameExcept.refl _ _
    | ((with_reducible apply SameExcept.step); (with_reducible first
          | apply State.modPwr_frame | apply State.passTime_frame | apply State.modClk_frame
          | apply State.failStart_frame | apply State.continueStart_frame | apply State.modLdl_frame); exact rfl)
    | split
    | dsimp only [nextState]

theorem execRailGoodRise_frame (rail) (s : State) :
    SameExcept [.mem, .dict, .frm, .rgn, .wsk, .mc, .tl, .syn, .sch, .ldl, .pwr, .stress, .evt, .att, .par, .obs,
      .cls, .stk, .pin, .arb, .tally] s (nextState (execRailGoodRise rail s) s) := by
  unfold execRailGoodRise runIf
  repeat' first
    | with_reducible exact SameExcept.refl _ _
    | ((with_reducible apply SameExcept.step); (with_reducible first
          | apply State.continueStart_frame | apply State.modPin_frame); exact rfl)
    | split
    | dsimp only [nextState]

theorem execRailTimeoutExpiry_frame (rail) (s : State) :
    SameExcept [.ldl, .pwr, .pin] s (nextState (execRailTimeoutExpiry rail s) s) := by
  unfold execRailTimeoutExpiry runIf
  repeat' first
    | with_reducible exact SameExcept.refl _ _
    | ((with_reducible apply SameExcept.step); (with_reducible apply State.failStart_frame); exact rfl)
    | split
    | dsimp only [nextState]

theorem execPwrMainFailClear_frame (s : State) :
    SameExcept [.mem, .dict, .frm, .rgn, .wsk, .mc, .tl, .syn, .sch, .ldl, .pwr, .stress, .evt, .att, .par, .obs,
      .cls, .stk, .pin, .arb, .tally] s (nextState (execPwrMainFailClear s) s) := by
  unfold execPwrMainFailClear
  repeat' first
    | with_reducible exact SameExcept.refl _ _
    | ((with_reducible apply SameExcept.step); (with_reducible first
          | apply State.modPwr_frame | apply State.beginWarm_frame); exact rfl)
    | split
    | dsimp only [nextState]

theorem State.setFwState_frame (s : State) (st) : SameExcept [.ldl, .evt] s (State.setFwState s st) := by
  unfold State.setFwState
  repeat' first
    | with_reducible exact SameExcept.refl _ _
    | ((with_reducible apply SameExcept.step); (with_reducible first
          | apply State.raise_frame | apply State.modLdl_frame); exact rfl)
    | split
    | dsimp only

theorem State.setCore_frame (s : State) (i) (c) : SameExcept [.ldl] s (State.setCore s i c) := by
  unfold State.setCore
  repeat' first
    | with_reducible exact SameExcept.refl _ _
    | ((with_reducible apply SameExcept.step); (with_reducible apply State.modLdl_frame); exact rfl)
    | split
    | dsimp only

theorem State.rollBack_frame (s : State) : SameExcept [.ldl, .evt] s (State.rollBack s) := by
  unfold State.rollBack
  repeat' first
    | with_reducible exact SameExcept.refl _ _
    | ((with_reducible apply SameExcept.step); (with_reducible first
          | apply State.setFwState_frame | apply State.modLdl_frame); exact rfl)
    | split
    | dsimp only

theorem execCoreWatchdogExpiry_frame (core) (s : State) :
    SameExcept [.ldl, .evt] s (nextState (execCoreWatchdogExpiry core s) s) := by
  unfold execCoreWatchdogExpiry runIf
  repeat' first
    | with_reducible exact SameExcept.refl _ _
    | ((with_reducible apply SameExcept.step); (with_reducible first
          | apply State.raise_frame | apply State.setCore_frame | apply State.rollBack_frame); exact rfl)
    | split
    | dsimp only [nextState]

theorem State.programOther_frame (s : State) :
    SameExcept [.ldl, .per, .evt, .obs, .tally] s (State.programOther s) := by
  unfold State.programOther
  repeat' first
    | with_reducible exact SameExcept.refl _ _
    | ((with_reducible apply SameExcept.step); (with_reducible first
          | apply State.countErase_frame | apply State.modLdl_frame | apply State.flashClear_frame
          | apply State.flashPut_frame); exact rfl)
    | split
    | dsimp only

theorem State.askProgram_frame (s : State) :
    SameExcept [.ldl, .per, .evt, .obs, .tally] s ((State.askProgram s).getD s) := by
  unfold State.askProgram
  repeat' first
    | with_reducible exact SameExcept.refl _ _
    | ((with_reducible apply SameExcept.step); (with_reducible apply State.programOther_frame); exact rfl)
    | split
    | dsimp only [Option.getD_some, Option.getD_none]

theorem State.askUpdate_frame (s : State) : SameExcept [.ldl, .evt] s ((State.askUpdate s).getD s) := by
  unfold State.askUpdate
  repeat' first
    | with_reducible exact SameExcept.refl _ _
    | ((with_reducible apply SameExcept.step); (with_reducible first
          | apply State.setFwState_frame | apply State.setCore_frame | apply State.modLdl_frame); exact rfl)
    | split
    | dsimp only [Option.getD_some, Option.getD_none]

theorem execDutyHandover_frame (s : State) : SameExcept [.ldl, .evt] s (nextState (execDutyHandover s) s) := by
  unfold execDutyHandover
  repeat' first
    | with_reducible exact SameExcept.refl _ _
    | ((with_reducible apply SameExcept.step); (with_reducible first
          | apply State.setFwState_frame | apply State.setCore_frame | apply State.modLdl_frame); exact rfl)
    | split
    | dsimp only [nextState]

theorem execProbationEnd_frame (s : State) :
    SameExcept [.dict, .ldl, .per, .evt, .obs, .tally] s (nextState (execProbationEnd s) s) := by
  unfold execProbationEnd
  repeat' first
    | with_reducible exact SameExcept.refl _ _
    | ((with_reducible apply SameExcept.step); (with_reducible first
          | apply State.setFwState_frame | apply State.askCommit_frame | apply State.countErase_frame
          | apply State.modLdl_frame | apply State.flashClear_frame | apply State.flashPut_frame); exact rfl)
    | split
    | dsimp only [nextState]

theorem execCommitMinGapExpiry_frame (s : State) :
    SameExcept [.dict, .ldl, .per, .evt, .obs, .tally] s (nextState (execCommitMinGapExpiry s) s) := by
  unfold execCommitMinGapExpiry
  repeat' first
    | with_reducible exact SameExcept.refl _ _
    | ((with_reducible apply SameExcept.step); (with_reducible apply State.commitImage_frame); exact rfl)
    | split
    | dsimp only [nextState]

theorem execStressSave_frame (s : State) :
    SameExcept [.dict, .ldl, .per, .stress, .evt, .obs, .tally] s (nextState (execStressSave s) s) := by
  unfold execStressSave
  repeat' first
    | with_reducible exact SameExcept.refl _ _
    | ((with_reducible apply SameExcept.step); (with_reducible first
          | apply State.askCommit_frame | apply State.modStress_frame); exact rfl)
    | split
    | dsimp only [nextState]

theorem State.libInstall_frame (s : State) (number) (handle) (ofs) :
    SameExcept [.mem, .rgn] s ((State.libInstall s number handle ofs).getD s) := by
  unfold State.libInstall
  repeat' first
    | with_reducible exact SameExcept.refl _ _
    | ((with_reducible apply SameExcept.step); (with_reducible first
          | apply State.rwrite_frame | apply State.forgetImages_frame | apply State.modRgn_frame); exact rfl)
    | split
    | dsimp only [Option.getD_some, Option.getD_none]

theorem State.portAnswer_frame (s : State) (kind) (tag) (code) (aux) (d) :
    SameExcept [.obs, .tally, .mgtRsp] s (State.portAnswer s kind tag code aux d) := by
  unfold State.portAnswer
  repeat' first
    | with_reducible exact SameExcept.refl _ _
    | ((with_reducible apply SameExcept.step); (with_reducible first
          | apply State.bump_frame | apply State.modMgtRsp_frame); exact rfl)
    | split
    | dsimp only

theorem State.ctlDone_frame (s : State) (tag) (d) : SameExcept [.obs, .tally, .mgtRsp] s (State.ctlDone s tag d) := by
  unfold State.ctlDone
  repeat' first
    | with_reducible exact SameExcept.refl _ _
    | ((with_reducible apply SameExcept.step); (with_reducible apply State.portAnswer_frame); exact rfl)
    | split
    | dsimp only

theorem execStatus_frame (tag) (s : State) :
    SameExcept [.obs, .tally, .mgtRsp] s (nextState (execStatus tag s) s) := by
  unfold execStatus runIf
  repeat' first
    | with_reducible exact SameExcept.refl _ _
    | ((with_reducible apply SameExcept.step); (with_reducible apply State.ctlDone_frame); exact rfl)
    | split
    | dsimp only [nextState]

theorem execHold_frame (tag) (arg) (s : State) :
    SameExcept [.mem, .dict, .frm, .rgn, .wsk, .mc, .tl, .syn, .sch, .ldl, .per, .pwr, .stress, .evt, .att, .par,
      .obs, .cls, .stk, .pin, .arb, .tally, .mgtRsp, .free] s (nextState (execHold tag arg s) s) := by
  unfold execHold runIf State.ctlAt
  repeat' first
    | with_reducible exact SameExcept.refl _ _
    | ((with_reducible apply SameExcept.step); (with_reducible first
          | apply State.bootOn_frame | apply State.ctlDone_frame | apply State.modLdl_frame
          | apply State.portAnswer_frame | apply State.portAnswer_frame); exact rfl)
    | split
    | dsimp only [nextState]

theorem execBootSelect_frame (tag) (arg) (s : State) :
    SameExcept [.ldl, .obs, .tally, .mgtRsp] s (nextState (execBootSelect tag arg s) s) := by
  unfold execBootSelect runIf State.ctlAt
  repeat' first
    | with_reducible exact SameExcept.refl _ _
    | ((with_reducible apply SameExcept.step); (with_reducible first
          | apply State.ctlDone_frame | apply State.modLdl_frame | apply State.portAnswer_frame
          | apply State.portAnswer_frame); exact rfl)
    | split
    | dsimp only [nextState]

theorem execFlashRead_frame (tag) (addr) (len) (s : State) :
    SameExcept [.obs, .tally, .mgtRsp] s (nextState (execFlashRead tag addr len s) s) := by
  unfold execFlashRead runIf State.ctlAt
  repeat' first
    | with_reducible exact SameExcept.refl _ _
    | ((with_reducible apply SameExcept.step); (with_reducible first
          | apply State.ctlDone_frame | apply State.portAnswer_frame | apply State.portAnswer_frame); exact rfl)
    | split
    | dsimp only [nextState]

theorem State.countAt_frame (s : State) (addr) : SameExcept [.per, .evt, .obs, .tally] s (State.countAt s addr) := by
  unfold State.countAt
  repeat' first
    | with_reducible exact SameExcept.refl _ _
    | ((with_reducible apply SameExcept.step); (with_reducible apply State.countErase_frame); exact rfl)
    | split
    | dsimp only

theorem execFlashErase_frame (tag) (addr) (s : State) :
    SameExcept [.ldl, .per, .evt, .obs, .tally, .mgtRsp] s (nextState (execFlashErase tag addr s) s) := by
  unfold execFlashErase runIf State.ctlAt
  repeat' first
    | with_reducible exact SameExcept.refl _ _
    | ((with_reducible apply SameExcept.step); (with_reducible first
          | apply State.countAt_frame | apply State.ctlDone_frame | apply State.flashClear_frame
          | apply State.portAnswer_frame); exact rfl)
    | split
    | dsimp only [nextState]

theorem execFlashProgram_frame (tag) (addr) (data) (s : State) :
    SameExcept [.ldl, .obs, .tally, .mgtRsp] s (nextState (execFlashProgram tag addr data s) s) := by
  unfold execFlashProgram runIf State.ctlAt
  repeat' first
    | with_reducible exact SameExcept.refl _ _
    | ((with_reducible apply SameExcept.step); (with_reducible first
          | apply State.portAnswer_frame | apply State.flashPut_frame | apply State.portAnswer_frame); exact rfl)
    | split
    | dsimp only [nextState]

theorem execEventPeek_frame (tag) (s : State) :
    SameExcept [.obs, .tally, .mgtRsp] s (nextState (execEventPeek tag s) s) := by
  unfold execEventPeek runIf
  repeat' first
    | with_reducible exact SameExcept.refl _ _
    | ((with_reducible apply SameExcept.step); (with_reducible apply State.ctlDone_frame); exact rfl)
    | split
    | dsimp only [nextState]

theorem State.crHeader_frame (s : State) (d) (r) : SameExcept [.mem] s (State.crHeader s d r) := by
  unfold State.crHeader
  repeat' first
    | with_reducible exact SameExcept.refl _ _
    | ((with_reducible apply SameExcept.step); (with_reducible first
          | apply State.rawWrite_frame | apply State.setLogHdr_frame); exact rfl)
    | split
    | dsimp only

theorem State.setResult_frame (s : State) (reader) (b) : SameExcept [.dict] s (State.setResult s reader b) := by
  unfold State.setResult
  repeat' first
    | with_reducible exact SameExcept.refl _ _
    | ((with_reducible apply SameExcept.step); (with_reducible apply State.modDict_frame); exact rfl)
    | split
    | dsimp only

theorem State.crMake_frame (s : State) (r) : SameExcept [.mem, .rgn] s (State.crMake s r).1 := by
  unfold State.crMake
  repeat' first
    | with_reducible exact SameExcept.refl _ _
    | ((with_reducible apply SameExcept.step); (with_reducible first
          | apply State.crHeader_frame | apply State.modRgn_frame); exact rfl)
    | split
    | dsimp only

theorem State.regionCreate_frame (s : State) (reader) (r) :
    SameExcept [.mem, .dict, .rgn, .free] s (State.regionCreate s reader r).1 := by
  unfold State.regionCreate
  repeat' first
    | with_reducible exact SameExcept.refl _ _
    | ((with_reducible apply SameExcept.step); (with_reducible first
          | apply State.setResult_frame | apply State.spend_frame | apply State.crMake_frame); exact rfl)
    | ((apply SameExcept.stepPair (e := by assumption)); (with_reducible apply State.crMake_frame); exact rfl)
    | split
    | dsimp only

theorem State.regionRetire_frame (s : State) (handle) : SameExcept [.rgn] s (State.regionRetire s handle).1 := by
  unfold State.regionRetire
  repeat' first
    | with_reducible exact SameExcept.refl _ _
    | ((with_reducible apply SameExcept.step); (with_reducible apply State.modRgn_frame); exact rfl)
    | split
    | dsimp only

theorem State.regionRdonly_frame (s : State) (handle) (value) :
    SameExcept [.rgn] s ((State.regionRdonly s handle value).getD s) := by
  unfold State.regionRdonly
  repeat' first
    | with_reducible exact SameExcept.refl _ _
    | ((with_reducible apply SameExcept.step); (with_reducible apply State.modRgn_frame); exact rfl)
    | split
    | dsimp only [Option.getD_some, Option.getD_none]

theorem execRegionDrained_frame (desc) (s : State) :
    SameExcept [.rgn] s (nextState (execRegionDrained desc s) s) := by
  unfold execRegionDrained State.runDuty
  repeat' first
    | with_reducible exact SameExcept.refl _ _
    | ((with_reducible apply SameExcept.step); (with_reducible apply State.modRgn_frame); exact rfl)
    | split
    | dsimp only [nextState]

theorem State.zeroRange_frame (s : State) (a) (n) : SameExcept [.mem] s (State.zeroRange s a n) := by
  unfold State.zeroRange
  repeat' first
    | with_reducible exact SameExcept.refl _ _
    | ((with_reducible apply SameExcept.step); (with_reducible apply State.modMem_frame); exact rfl)
    | split
    | dsimp only

theorem State.forgetRegion_frame (s : State) (n) : SameExcept [.rgn, .att, .par] s (State.forgetRegion s n) := by
  unfold State.forgetRegion
  repeat' first
    | with_reducible exact SameExcept.refl _ _
    | ((with_reducible apply SameExcept.step); (with_reducible first
          | apply State.modPar_frame | apply State.modAtt_frame | apply State.modRgn_frame); exact rfl)
    | split
    | dsimp only

theorem execZeroingComplete_frame (desc) (s : State) :
    SameExcept [.mem, .rgn, .att, .par] s (nextState (execZeroingComplete desc s) s) := by
  unfold execZeroingComplete State.runLive
  repeat' first
    | with_reducible exact SameExcept.refl _ _
    | ((with_reducible apply SameExcept.step); (with_reducible first
          | apply State.zeroRange_frame | apply State.forgetRegion_frame); exact rfl)
    | split
    | dsimp only [nextState]

theorem State.zeroCtr_frame (s : State) (d) (k) : SameExcept [.obs] s (State.zeroCtr s d k) := by
  unfold State.zeroCtr
  repeat' first
    | with_reducible exact SameExcept.refl _ _
    | ((with_reducible apply SameExcept.step); (with_reducible apply State.modObs_frame); exact rfl)
    | split
    | dsimp only

theorem State.zeroCtrs_frame (s : State) (d) : SameExcept [.obs] s (State.zeroCtrs s d) := by
  unfold State.zeroCtrs
  repeat' first
    | with_reducible exact SameExcept.refl _ _
    | ((with_reducible apply SameExcept.step); (with_reducible apply State.modObs_frame); exact rfl)
    | split
    | dsimp only

theorem State.reloadSample_frame (s : State) (n) (w) : SameExcept [.obs] s (State.reloadSample s n w) := by
  unfold State.reloadSample
  repeat' first
    | with_reducible exact SameExcept.refl _ _
    | ((with_reducible apply SameExcept.step); (with_reducible apply State.modObs_frame); exact rfl)
    | split
    | dsimp only

theorem State.clearSamples_frame (s : State) (n) : SameExcept [.obs] s (State.clearSamples s n) := by
  unfold State.clearSamples
  repeat' first
    | with_reducible exact SameExcept.refl _ _
    | ((with_reducible apply SameExcept.step); (with_reducible apply State.modObs_frame); exact rfl)
    | split
    | dsimp only

theorem State.grantCopy_frame (s : State) (missed) (p) : SameExcept [.mem, .rgn] s (State.grantCopy s missed p) := by
  unfold State.grantCopy
  repeat' first
    | with_reducible exact SameExcept.refl _ _
    | ((with_reducible apply SameExcept.step); (with_reducible apply State.rwrite_frame); exact rfl)
    | split
    | dsimp only

theorem execSnapshotCapture_frame (s : State) :
    SameExcept [.mem, .rgn, .obs, .tally] s (nextState (execSnapshotCapture s) s) := by
  unfold execSnapshotCapture
  repeat' first
    | with_reducible exact SameExcept.refl _ _
    | ((with_reducible apply SameExcept.step); (with_reducible first
          | apply State.bump_frame | apply State.modObs_frame | apply State.grantCopy_frame); exact rfl)
    | ((with_reducible apply SameExcept.foldl); intro _ _)
    | ((with_reducible apply SameExcept.foldlPair); intro _ _)
    | split
    | dsimp only [nextState]

theorem State.drawChallenge_frame (s : State) (reader) (p : State × List Byte)
    (e : State.drawChallenge s reader = some p) : SameExcept [.obs, .free] s p.1 := by
  unfold State.drawChallenge at e
  split at e
  · cases e
  · cases e
    dsimp only
    apply SameExcept.step
    · apply State.modObs_frame
    · rfl
    apply SameExcept.step
    · apply State.spend_frame
    · rfl
    exact SameExcept.refl _ _

theorem State.takeResponse_frame (s : State) (reader) (d) :
    SameExcept [.obs] s (State.takeResponse s reader d).1 := by
  unfold State.takeResponse
  repeat' first
    | with_reducible exact SameExcept.refl _ _
    | ((with_reducible apply SameExcept.step); (with_reducible apply State.modObs_frame); exact rfl)
    | split
    | dsimp only

theorem State.endUnlock_frame (s : State) : SameExcept [.obs, .arb] s (State.endUnlock s) := by
  unfold State.endUnlock
  repeat' first
    | with_reducible exact SameExcept.refl _ _
    | ((with_reducible apply SameExcept.step); (with_reducible first
          | apply State.modObs_frame | apply State.modArb_frame); exact rfl)
    | split
    | dsimp only

theorem State.debugLock_frame (s : State) (reader) :
    SameExcept [.obs, .arb] s ((State.debugLock s reader).getD s) := by
  unfold State.debugLock
  repeat' first
    | with_reducible exact SameExcept.refl _ _
    | ((with_reducible apply SameExcept.step); (with_reducible apply State.endUnlock_frame); exact rfl)
    | split
    | dsimp only [Option.getD_some, Option.getD_none]

theorem execUnlockDurationExpiry_frame (s : State) :
    SameExcept [.obs, .arb] s (nextState (execUnlockDurationExpiry s) s) := by
  unfold execUnlockDurationExpiry
  repeat' first
    | with_reducible exact SameExcept.refl _ _
    | ((with_reducible apply SameExcept.step); (with_reducible apply State.endUnlock_frame); exact rfl)
    | split
    | dsimp only [nextState]

theorem State.counterSet_frame (s : State) (reader) (addr) (v) :
    SameExcept [.tl, .pwr, .stress, .arb] s ((State.counterSet s reader addr v).getD s) := by
  unfold State.counterSet
  repeat' first
    | with_reducible exact SameExcept.refl _ _
    | ((with_reducible apply SameExcept.step); (with_reducible first
          | apply State.holdSig_frame | apply State.reach_frame | apply State.handCtr_frame); exact rfl)
    | split
    | dsimp only [Option.getD_some, Option.getD_none]

theorem State.tileControl_frame (s : State) (reader) (t) (action) :
    SameExcept [.tl, .pwr, .stress, .evt, .obs, .arb, .tally] s ((State.tileControl s reader t action).getD s) := by
  unfold State.tileControl
  repeat' first
    | with_reducible exact SameExcept.refl _ _
    | ((with_reducible apply SameExcept.step); (with_reducible first
          | apply State.wakeDom_frame | apply State.resumeTile_frame | apply State.stopTile_frame
          | apply State.modTile_frame); exact rfl)
    | split
    | dsimp only [Option.getD_some, Option.getD_none]

theorem State.bpSet_frame (s : State) (reader) (d) : SameExcept [.obs] s ((State.bpSet s reader d).getD s) := by
  unfold State.bpSet
  repeat' first
    | with_reducible exact SameExcept.refl _ _
    | ((with_reducible apply SameExcept.step); (with_reducible apply State.modObs_frame); exact rfl)
    | split
    | dsimp only [Option.getD_some, Option.getD_none]

theorem State.arbFreeze_frame (s : State) (reader) (kind) (inst) (v) :
    SameExcept [.arb] s ((State.arbFreeze s reader kind inst v).getD s) := by
  unfold State.arbFreeze
  repeat' first
    | with_reducible exact SameExcept.refl _ _
    | ((with_reducible apply SameExcept.step); (with_reducible apply State.setArb_frame); exact rfl)
    | split
    | dsimp only [Option.getD_some, Option.getD_none]

theorem State.windowRead_frame (s : State) (src) (idx) (ofs) (len) :
    SameExcept [.free] s (State.windowRead s src idx ofs len).1 := by
  unfold State.windowRead
  repeat' first
    | with_reducible exact SameExcept.refl _ _
    | ((with_reducible apply SameExcept.step); (with_reducible apply State.spend_frame); exact rfl)
    | split
    | dsimp only

theorem State.healSel_frame (s : State) (r) (idx) (sub) : SameExcept [.mem] s (State.healSel s r idx sub) := by
  unfold State.healSel
  repeat' first
    | with_reducible exact SameExcept.refl _ _
    | ((with_reducible apply SameExcept.step); (with_reducible apply State.healRaw_frame); exact rfl)
    | split
    | dsimp only

theorem State.readObj_frame (s : State) (src) (o) (bulk) (idx) (ofs) (len) :
    SameExcept [.mem, .obs, .stk, .free] s (State.readObj s src o bulk idx ofs len).1 := by
  unfold State.readObj
  dsimp only
  split
  · split
    · exact SameExcept.refl _ _
    · have h := State.drawChallenge_frame _ _ _ (by assumption)
      exact h.mono (by rfl)
  · repeat' first
      | with_reducible exact SameExcept.refl _ _
      | ((with_reducible apply SameExcept.step); (with_reducible first
            | apply State.windowRead_frame | apply State.modPot_frame | apply State.healSel_frame); exact rfl)
      | split
      | dsimp only

theorem State.accessRead_frame (s : State) (src) (bulk) (idx) (sub) (ofs) (len) :
    SameExcept [.mem, .obs, .stk, .free] s (State.accessRead s src bulk idx sub ofs len).1 := by
  unfold State.accessRead
  repeat' first
    | with_reducible exact SameExcept.refl _ _
    | ((with_reducible apply SameExcept.step); (with_reducible apply State.readObj_frame); exact rfl)
    | ((apply SameExcept.stepPair (e := by assumption)); (with_reducible apply State.readObj_frame); exact rfl)
    | split
    | dsimp only

theorem State.markDirty_frame (s : State) (idx) (sub) : SameExcept [.dict] s (State.markDirty s idx sub) := by
  unfold State.markDirty
  repeat' first
    | with_reducible exact SameExcept.refl _ _
    | ((with_reducible apply SameExcept.step); (with_reducible apply State.modDict_frame); exact rfl)
    | split
    | dsimp only

theorem State.wordHook_frame (s : State) (o) (idx) (v) : SameExcept [.obs] s (State.wordHook s o idx v) := by
  unfold State.wordHook
  repeat' first
    | with_reducible exact SameExcept.refl _ _
    | ((with_reducible apply SameExcept.step); (with_reducible first
          | apply State.reloadSample_frame | apply State.zeroCtr_frame); exact rfl)
    | split
    | dsimp only

theorem State.writeNow_frame (s : State) (o) (idx) (ofs) (d) :
    SameExcept [.dict, .evt, .obs] s (State.writeNow s o idx ofs d).1 := by
  unfold State.writeNow
  repeat' first
    | with_reducible exact SameExcept.refl _ _
    | ((with_reducible apply SameExcept.step); (with_reducible first
          | apply State.setBlob_frame | apply State.markDirty_frame | apply State.setParam_frame
          | apply State.modEvt_frame | apply State.wordHook_frame); exact rfl)
    | split
    | dsimp only

theorem State.writeSel_frame (s : State) (r) (o) (idx) (d) : SameExcept [.dict] s (State.writeSel s r o idx d).1 := by
  unfold State.writeSel
  repeat' first
    | with_reducible exact SameExcept.refl _ _
    | ((with_reducible apply SameExcept.step); (with_reducible apply State.modDict_frame); exact rfl)
    | split
    | dsimp only

theorem State.lockReq_frame (s : State) (r) (digit) :
    SameExcept [.dict, .obs, .tally] s (State.lockReq s r digit).1 := by
  unfold State.lockReq
  repeat' first
    | with_reducible exact SameExcept.refl _ _
    | ((with_reducible apply SameExcept.step); (with_reducible first
          | apply State.modDict_frame | apply State.bump_frame); exact rfl)
    | split
    | dsimp only

theorem State.unlock_frame (s : State) (digit) : SameExcept [.dict] s (State.unlock s digit) := by
  unfold State.unlock
  repeat' first
    | with_reducible exact SameExcept.refl _ _
    | ((with_reducible apply SameExcept.step); (with_reducible apply State.modDict_frame); exact rfl)
    | split
    | dsimp only

theorem State.lockAbort_frame (s : State) (r) (digit) : SameExcept [.dict] s (State.lockAbort s r digit).1 := by
  unfold State.lockAbort
  repeat' first
    | with_reducible exact SameExcept.refl _ _
    | ((with_reducible apply SameExcept.step); (with_reducible apply State.unlock_frame); exact rfl)
    | split
    | dsimp only

theorem State.stageWrite_frame (s : State) (o) (idx) (ofs) (d) :
    SameExcept [.dict] s (State.stageWrite s o idx ofs d).1 := by
  unfold State.stageWrite
  repeat' first
    | with_reducible exact SameExcept.refl _ _
    | ((with_reducible apply SameExcept.step); (with_reducible apply State.modDict_frame); exact rfl)
    | ((with_reducible apply SameExcept.foldl); intro _ _)
    | ((with_reducible apply SameExcept.foldlPair); intro _ _)
    | split
    | dsimp only

theorem State.operate_frame (s : State) (r) (o) (idx) (d) (returned) :
    SameExcept [.clk, .mem, .dict, .frm, .rgn, .wsk, .mc, .tl, .syn, .sch, .ldl, .per, .pwr, .stress, .evt, .att,
      .par, .obs, .cls, .stk, .pin, .arb, .tally, .free] s ((State.operate s r o idx d returned).getD s) := by
  unfold State.operate
  repeat' first
    | with_reducible exact SameExcept.refl _ _
    | ((with_reducible apply SameExcept.step); (with_reducible first
          | apply State.askProgram_frame | apply State.counterSet_frame | apply State.askCommit_frame
          | apply State.ctxRelease_frame | apply State.arbFreeze_frame | apply State.askUpdate_frame
          | apply State.regionRdonly_frame | apply State.clearSamples_frame | apply State.debugLock_frame
          | apply State.blockPark_frame | apply State.askRetire_frame | apply State.restoreLog_frame
          | apply State.stepDecide_frame | apply State.restoreRun_frame | apply State.setCommitted_frame
          | apply State.domainReset_frame | apply State.setCkpt_frame | apply State.ftcResync_frame
          | apply State.tileControl_frame | apply State.libInstall_frame | apply State.schedVerify_frame
          | apply State.bpSet_frame | apply State.zeroCtrs_frame | apply State.askRetrain_frame); exact rfl)
    | ((apply SameExcept.stepOpt (e := by assumption)); (with_reducible first
          | apply State.askProgram_frame | apply State.counterSet_frame | apply State.ctxRelease_frame
          | apply State.arbFreeze_frame | apply State.askUpdate_frame | apply State.regionRdonly_frame
          | apply State.debugLock_frame | apply State.blockPark_frame | apply State.restoreLog_frame
          | apply State.stepDecide_frame | apply State.restoreRun_frame | apply State.setCommitted_frame
          | apply State.domainReset_frame | apply State.setCkpt_frame | apply State.ftcResync_frame
          | apply State.tileControl_frame | apply State.libInstall_frame | apply State.schedVerify_frame
          | apply State.bpSet_frame); exact rfl)
    | split
    | dsimp only [Option.getD_some, Option.getD_none]

theorem State.afterAnswer_frame (s : State) (o) (a) :
    SameExcept [.mem, .dict, .frm, .rgn, .wsk, .mc, .tl, .syn, .sch, .ldl, .pwr, .stress, .evt, .att, .par, .obs,
      .cls, .stk, .pin, .arb, .tally] s (State.afterAnswer s o a) := by
  unfold State.afterAnswer
  repeat' first
    | with_reducible exact SameExcept.refl _ _
    | ((with_reducible apply SameExcept.step); (with_reducible first
          | apply State.warmRequest_frame | apply State.blockPark_frame); exact rfl)
    | ((apply SameExcept.stepOpt (e := by assumption)); (with_reducible apply State.blockPark_frame); exact rfl)
    | split
    | dsimp only

theorem State.writeOp_frame (s : State) (r) (again) (o) (idx) (ofs) (d) (returned) :
    SameExcept [.clk, .mem, .dict, .frm, .rgn, .wsk, .mc, .tl, .syn, .sch, .ldl, .per, .pwr, .stress, .evt, .att,
      .par, .obs, .cls, .stk, .pin, .arb, .tally, .free] s (State.writeOp s r again o idx ofs d returned).1 := by
  unfold State.writeOp
  repeat' first
    | with_reducible exact SameExcept.refl _ _
    | ((with_reducible apply SameExcept.step); (with_reducible first
          | apply State.note_frame | apply State.regionCreate_frame | apply State.regionRetire_frame
          | apply State.takeResponse_frame | apply State.operate_frame | apply State.modLdl_frame
          | apply State.ladelSignal_frame); exact rfl)
    | ((apply SameExcept.stepPair (e := by assumption)); (with_reducible first
          | apply State.regionCreate_frame | apply State.regionRetire_frame | apply State.takeResponse_frame
          | apply State.ladelSignal_frame); exact rfl)
    | ((apply SameExcept.stepOpt (e := by assumption)); (with_reducible apply State.operate_frame); exact rfl)
    | split
    | dsimp only

theorem State.layWheel_frame (s : State) (sub) (ofs) (d) : SameExcept [.sch] s (State.layWheel s sub ofs d) := by
  unfold State.layWheel
  repeat' first
    | with_reducible exact SameExcept.refl _ _
    | ((with_reducible apply SameExcept.step); (with_reducible apply State.modSch_frame); exact rfl)
    | split
    | dsimp only

theorem State.putStaged_frame (s : State) (w) : SameExcept [.dict, .sch] s (State.putStaged s w) := by
  unfold State.putStaged
  repeat' first
    | with_reducible exact SameExcept.refl _ _
    | ((with_reducible apply SameExcept.step); (with_reducible first
          | apply State.setBlob_frame | apply State.setParam_frame | apply State.layWheel_frame); exact rfl)
    | split
    | dsimp only

theorem State.putAll_frame (s : State) (l) : SameExcept [.dict, .sch] s (State.putAll s l) := by
  unfold State.putAll
  repeat' first
    | with_reducible exact SameExcept.refl _ _
    | ((with_reducible apply SameExcept.step); (with_reducible apply State.putStaged_frame); exact rfl)
    | ((with_reducible apply SameExcept.foldl); intro _ _)
    | ((with_reducible apply SameExcept.foldlPair); intro _ _)
    | split
    | dsimp only

theorem State.rebind_frame (s : State) (t : State) (r) :
    SameExcept [.dict, .frm] t (State.rebind s t r) := by
  unfold State.rebind
  dsimp only
  split
  · exact (State.setBlob_frame ..).mono rfl
  · exact (State.modFrm_frame ..).mono rfl

theorem State.renumber_frame (t : State) (i) : SameExcept [.frm] t (State.renumber t i) := by
  unfold State.renumber
  repeat' first
    | with_reducible exact SameExcept.refl _ _
    | ((with_reducible apply SameExcept.step); (with_reducible apply State.modFrm_frame); exact rfl)
    | split
    | dsimp only

theorem State.clearCmp_frame (t : State) (idx) : SameExcept [.dict, .stk] t (State.clearCmp t idx) := by
  unfold State.clearCmp
  repeat' first
    | with_reducible exact SameExcept.refl _ _
    | ((with_reducible apply SameExcept.step); (with_reducible first
          | apply State.modChan_frame | apply State.setParam_frame); exact rfl)
    | split
    | dsimp only

theorem State.restoreBar_frame (t : State) (b) :
    SameExcept [.mem, .frm, .rgn, .wsk, .mc, .tl, .syn, .sch, .pwr, .stress, .evt, .att, .par, .obs, .cls, .arb,
      .tally] t (State.restoreBar t b) := by
  unfold State.restoreBar
  repeat' first
    | with_reducible exact SameExcept.refl _ _
    | ((with_reducible apply SameExcept.step); (with_reducible first
          | apply State.barAdvance_frame | apply State.setBar_frame); exact rfl)
    | split
    | dsimp only

theorem State.requeue_frame (t : State) (same) (q) :
    SameExcept [.mem, .frm, .rgn, .wsk, .mc, .syn, .sch, .pwr, .att, .par, .obs, .cls, .tally] t (State.requeue t same
      q).1 := by
  unfold State.requeue
  repeat' first
    | with_reducible exact SameExcept.refl _ _
    | ((with_reducible apply SameExcept.step); (with_reducible apply State.doneAll_frame); exact rfl)
    | split
    | dsimp only

theorem State.renewAtt_frame (s : State) (t : State) (i) :
    SameExcept [.mem, .frm, .rgn, .wsk, .mc, .syn, .sch, .pwr, .att, .par, .obs, .cls, .tally] t (State.renewAtt s t
      i) := by
  unfold State.renewAtt
  repeat' first
    | with_reducible exact SameExcept.refl _ _
    | ((with_reducible apply SameExcept.step); (with_reducible first
          | apply State.setAttSet_frame | apply State.requeue_frame); exact rfl)
    | ((apply SameExcept.stepPair (e := by assumption)); (with_reducible apply State.requeue_frame); exact rfl)
    | split
    | dsimp only

end Sys2Proof.Machine
end

