-- ==== Sys2Proof/Laws/FrameCommand.lean ====
section
/-! SUPPORT. Frames: the groups of the state that each operation may change, one lemma per operation (DictLock, Dict,
DictRows, Events, Resend, Tap, TileOps, Tick). -/

namespace Sys2Proof.Machine

theorem State.renewUpd_frame (s : State) (t : State) (u) :
    SameExcept [.mem, .frm, .rgn, .wsk, .mc, .syn, .sch, .pwr, .att, .par, .obs, .cls, .tally] t (State.renewUpd s t
      u) := by
  unfold State.renewUpd
  repeat' first
    | with_reducible exact SameExcept.refl _ _
    | ((with_reducible apply SameExcept.step); (with_reducible first
          | apply State.requeue_frame | apply State.setUpd_frame); exact rfl)
    | ((apply SameExcept.stepPair (e := by assumption)); (with_reducible apply State.requeue_frame); exact rfl)
    | split
    | dsimp only

theorem State.letGo_frame (t : State) : SameExcept [.frm, .att] t (State.letGo t) := by
  unfold State.letGo
  repeat' first
    | with_reducible exact SameExcept.refl _ _
    | ((with_reducible apply SameExcept.step); (with_reducible apply State.sendWaiting_frame); exact rfl)
    | ((with_reducible apply SameExcept.foldl); intro _ _)
    | ((with_reducible apply SameExcept.foldlPair); intro _ _)
    | split
    | dsimp only

theorem State.commitHook_frame (s : State) (t : State) (w) :
    SameExcept [.mem, .dict, .frm, .tl, .evt, .att, .obs, .cls, .stk, .tally, .free] t (State.commitHook s t w) := by
  unfold State.commitHook
  repeat' first
    | with_reducible exact SameExcept.refl _ _
    | ((with_reducible apply SameExcept.step); (with_reducible first
          | apply State.rebind_frame | apply State.renumber_frame | apply State.refillClass_frame
          | apply State.letGo_frame | apply State.startPattern_frame | apply State.drainPot_frame
          | apply State.clearCmp_frame | apply State.testHold_frame); exact rfl)
    | ((with_reducible apply SameExcept.foldl); intro _ _)
    | ((with_reducible apply SameExcept.foldlPair); intro _ _)
    | split
    | dsimp only

theorem State.commitUnits_frame (s : State) (t : State) (l) :
    SameExcept [.mem, .frm, .rgn, .wsk, .mc, .tl, .syn, .sch, .pwr, .stress, .evt, .att, .par, .obs, .cls, .arb,
      .tally] t (State.commitUnits s t l) := by
  unfold State.commitUnits
  repeat' first
    | with_reducible exact SameExcept.refl _ _
    | ((with_reducible apply SameExcept.step); (with_reducible first
          | apply State.restoreBar_frame | apply State.renewUpd_frame | apply State.renewAtt_frame); exact rfl)
    | ((with_reducible apply SameExcept.foldl); intro _ _)
    | ((with_reducible apply SameExcept.foldlPair); intro _ _)
    | split
    | dsimp only

theorem State.lockCommit_frame (s : State) (r) (digit) :
    SameExcept [.mem, .dict, .frm, .rgn, .wsk, .mc, .tl, .syn, .sch, .pwr, .stress, .evt, .att, .par, .obs, .cls,
      .stk, .arb, .tally, .free] s (State.lockCommit s r digit).1 := by
  unfold State.lockCommit
  repeat' first
    | with_reducible exact SameExcept.refl _ _
    | ((with_reducible apply SameExcept.step); (with_reducible first
          | apply State.commitHook_frame | apply State.modDict_frame | apply State.commitUnits_frame
          | apply State.putAll_frame | apply State.unlock_frame); exact rfl)
    | ((with_reducible apply SameExcept.foldl); intro _ _)
    | ((with_reducible apply SameExcept.foldlPair); intro _ _)
    | split
    | dsimp only

theorem execLockExpired_frame (digit) (s : State) :
    SameExcept [.dict, .evt, .obs, .tally] s (nextState (execLockExpired digit s) s) := by
  unfold execLockExpired runIf
  repeat' first
    | with_reducible exact SameExcept.refl _ _
    | ((with_reducible apply SameExcept.step); (with_reducible first
          | apply State.bump_frame | apply State.raise_frame | apply State.unlock_frame); exact rfl)
    | split
    | dsimp only [nextState]

theorem State.respond_frame (s : State) (src) (kind) (a) :
    SameExcept [.mem, .frm, .rgn, .wsk, .mc, .syn, .sch, .pwr, .att, .par, .obs, .cls, .tally, .mgtRsp] s
      (State.respond s src kind a) := by
  unfold State.respond
  repeat' first
    | with_reducible exact SameExcept.refl _ _
    | ((with_reducible apply SameExcept.step); (with_reducible first
          | apply State.bump_frame | apply State.finish_frame | apply State.portAnswer_frame); exact rfl)
    | split
    | dsimp only

theorem State.writeObj_frame (s : State) (r) (again) (o) (a) (returned) :
    SameExcept [.clk, .mem, .dict, .frm, .rgn, .wsk, .mc, .tl, .syn, .sch, .ldl, .per, .pwr, .stress, .evt, .att,
      .par, .obs, .cls, .stk, .pin, .arb, .tally, .free] s (State.writeObj s r again o a returned).1 := by
  unfold State.writeObj
  repeat' first
    | with_reducible exact SameExcept.refl _ _
    | ((with_reducible apply SameExcept.step); (with_reducible first
          | apply State.lockReq_frame | apply State.writeNow_frame | apply State.writeOp_frame
          | apply State.writeSel_frame | apply State.lockCommit_frame | apply State.stageWrite_frame
          | apply State.lockAbort_frame); exact rfl)
    | ((apply SameExcept.stepPair (e := by assumption)); (with_reducible first
          | apply State.lockReq_frame | apply State.writeNow_frame | apply State.writeOp_frame
          | apply State.writeSel_frame | apply State.lockCommit_frame | apply State.stageWrite_frame
          | apply State.lockAbort_frame); exact rfl)
    | split
    | dsimp only

theorem State.perform_frame (s : State) (src) (again) (a) (returned) :
    SameExcept [.clk, .mem, .dict, .frm, .rgn, .wsk, .mc, .tl, .syn, .sch, .ldl, .per, .pwr, .stress, .evt, .att,
      .par, .obs, .cls, .stk, .pin, .arb, .tally, .mgtRsp, .free] s (State.perform s src again a returned) := by
  unfold State.perform
  repeat' first
    | with_reducible exact SameExcept.refl _ _
    | ((with_reducible apply SameExcept.step); (with_reducible first
          | apply State.accessRead_frame | apply State.respond_frame | apply State.afterAnswer_frame
          | apply State.writeObj_frame); exact rfl)
    | ((apply SameExcept.stepPair (e := by assumption)); (with_reducible first
          | apply State.accessRead_frame | apply State.writeObj_frame); exact rfl)
    | split
    | dsimp only

theorem State.access_frame (s : State) (src) (a) (returned) :
    SameExcept [.clk, .mem, .dict, .frm, .rgn, .wsk, .mc, .tl, .syn, .sch, .ldl, .per, .pwr, .stress, .evt, .att,
      .par, .obs, .cls, .stk, .pin, .arb, .tally, .mgtRsp, .free] s (State.access s src a returned) := by
  unfold State.access
  repeat' first
    | with_reducible exact SameExcept.refl _ _
    | ((with_reducible apply SameExcept.step); (with_reducible first
          | apply State.perform_frame | apply State.respond_frame | apply State.wakeFor_frame); exact rfl)
    | split
    | dsimp only

theorem execReadObject_frame (src) (idx) (sub) (ofs) (len) (s : State) :
    SameExcept [.clk, .mem, .dict, .frm, .rgn, .wsk, .mc, .tl, .syn, .sch, .ldl, .per, .pwr, .stress, .evt, .att,
      .par, .obs, .cls, .stk, .pin, .arb, .tally, .mgtRsp, .free] s (nextState (execReadObject src idx sub ofs len s)
      s) := by
  unfold execReadObject State.runAccess runIf
  repeat' first
    | with_reducible exact SameExcept.refl _ _
    | ((with_reducible apply SameExcept.step); (with_reducible apply State.access_frame); exact rfl)
    | split
    | dsimp only [nextState]

theorem execWriteObject_frame (src) (idx) (sub) (ofs) (data) (s : State) :
    SameExcept [.clk, .mem, .dict, .frm, .rgn, .wsk, .mc, .tl, .syn, .sch, .ldl, .per, .pwr, .stress, .evt, .att,
      .par, .obs, .cls, .stk, .pin, .arb, .tally, .mgtRsp, .free] s (nextState (execWriteObject src idx sub ofs data
      s) s) := by
  unfold execWriteObject State.runAccess runIf
  repeat' first
    | with_reducible exact SameExcept.refl _ _
    | ((with_reducible apply SameExcept.step); (with_reducible apply State.access_frame); exact rfl)
    | split
    | dsimp only [nextState]

theorem execBulkRead_frame (src) (idx) (sub) (ofs) (len) (s : State) :
    SameExcept [.clk, .mem, .dict, .frm, .rgn, .wsk, .mc, .tl, .syn, .sch, .ldl, .per, .pwr, .stress, .evt, .att,
      .par, .obs, .cls, .stk, .pin, .arb, .tally, .mgtRsp, .free] s (nextState (execBulkRead src idx sub ofs len s) s)
      := by
  unfold execBulkRead State.runAccess runIf
  repeat' first
    | with_reducible exact SameExcept.refl _ _
    | ((with_reducible apply SameExcept.step); (with_reducible apply State.access_frame); exact rfl)
    | split
    | dsimp only [nextState]

theorem execBulkWrite_frame (src) (idx) (sub) (ofs) (data) (s : State) :
    SameExcept [.clk, .mem, .dict, .frm, .rgn, .wsk, .mc, .tl, .syn, .sch, .ldl, .per, .pwr, .stress, .evt, .att,
      .par, .obs, .cls, .stk, .pin, .arb, .tally, .mgtRsp, .free] s (nextState (execBulkWrite src idx sub ofs data s)
      s) := by
  unfold execBulkWrite State.runAccess runIf
  repeat' first
    | with_reducible exact SameExcept.refl _ _
    | ((with_reducible apply SameExcept.step); (with_reducible apply State.access_frame); exact rfl)
    | split
    | dsimp only [nextState]

theorem execLockReq_frame (src) (digit) (s : State) :
    SameExcept [.clk, .mem, .dict, .frm, .rgn, .wsk, .mc, .tl, .syn, .sch, .ldl, .per, .pwr, .stress, .evt, .att,
      .par, .obs, .cls, .stk, .pin, .arb, .tally, .mgtRsp, .free] s (nextState (execLockReq src digit s) s) := by
  unfold execLockReq State.runAccess runIf
  repeat' first
    | with_reducible exact SameExcept.refl _ _
    | ((with_reducible apply SameExcept.step); (with_reducible apply State.access_frame); exact rfl)
    | split
    | dsimp only [nextState]

theorem execLockCommit_frame (src) (digit) (s : State) :
    SameExcept [.clk, .mem, .dict, .frm, .rgn, .wsk, .mc, .tl, .syn, .sch, .ldl, .per, .pwr, .stress, .evt, .att,
      .par, .obs, .cls, .stk, .pin, .arb, .tally, .mgtRsp, .free] s (nextState (execLockCommit src digit s) s) := by
  unfold execLockCommit State.runAccess runIf
  repeat' first
    | with_reducible exact SameExcept.refl _ _
    | ((with_reducible apply SameExcept.step); (with_reducible apply State.access_frame); exact rfl)
    | split
    | dsimp only [nextState]

theorem execLockAbort_frame (src) (digit) (s : State) :
    SameExcept [.clk, .mem, .dict, .frm, .rgn, .wsk, .mc, .tl, .syn, .sch, .ldl, .per, .pwr, .stress, .evt, .att,
      .par, .obs, .cls, .stk, .pin, .arb, .tally, .mgtRsp, .free] s (nextState (execLockAbort src digit s) s) := by
  unfold execLockAbort State.runAccess runIf
  repeat' first
    | with_reducible exact SameExcept.refl _ _
    | ((with_reducible apply SameExcept.step); (with_reducible apply State.access_frame); exact rfl)
    | split
    | dsimp only [nextState]

theorem execCtxRelease_frame (src) (handle) (ctx) (s : State) :
    SameExcept [.clk, .mem, .dict, .frm, .rgn, .wsk, .mc, .tl, .syn, .sch, .ldl, .per, .pwr, .stress, .evt, .att,
      .par, .obs, .cls, .stk, .pin, .arb, .tally, .mgtRsp, .free] s (nextState (execCtxRelease src handle ctx s) s)
      := by
  unfold execCtxRelease State.runAccess runIf
  repeat' first
    | with_reducible exact SameExcept.refl _ _
    | ((with_reducible apply SameExcept.step); (with_reducible apply State.access_frame); exact rfl)
    | split
    | dsimp only [nextState]

theorem execStepDecide_frame (src) (step) (action) (k) (s : State) :
    SameExcept [.clk, .mem, .dict, .frm, .rgn, .wsk, .mc, .tl, .syn, .sch, .ldl, .per, .pwr, .stress, .evt, .att,
      .par, .obs, .cls, .stk, .pin, .arb, .tally, .mgtRsp, .free] s (nextState (execStepDecide src step action k s) s)
      := by
  unfold execStepDecide State.runAccess runIf
  repeat' first
    | with_reducible exact SameExcept.refl _ _
    | ((with_reducible apply SameExcept.step); (with_reducible apply State.access_frame); exact rfl)
    | split
    | dsimp only [nextState]

theorem execSetCkpt_frame (src) (handle) (step) (s : State) :
    SameExcept [.clk, .mem, .dict, .frm, .rgn, .wsk, .mc, .tl, .syn, .sch, .ldl, .per, .pwr, .stress, .evt, .att,
      .par, .obs, .cls, .stk, .pin, .arb, .tally, .mgtRsp, .free] s (nextState (execSetCkpt src handle step s) s)
      := by
  unfold execSetCkpt State.runAccess runIf
  repeat' first
    | with_reducible exact SameExcept.refl _ _
    | ((with_reducible apply SameExcept.step); (with_reducible apply State.access_frame); exact rfl)
    | split
    | dsimp only [nextState]

theorem execSetCommitted_frame (src) (handle) (step) (s : State) :
    SameExcept [.clk, .mem, .dict, .frm, .rgn, .wsk, .mc, .tl, .syn, .sch, .ldl, .per, .pwr, .stress, .evt, .att,
      .par, .obs, .cls, .stk, .pin, .arb, .tally, .mgtRsp, .free] s (nextState (execSetCommitted src handle step s) s)
      := by
  unfold execSetCommitted State.runAccess runIf
  repeat' first
    | with_reducible exact SameExcept.refl _ _
    | ((with_reducible apply SameExcept.step); (with_reducible apply State.access_frame); exact rfl)
    | split
    | dsimp only [nextState]

theorem execRestoreLog_frame (src) (handle) (ep) (srcHandle) (first) (last) (data) (s : State) :
    SameExcept [.clk, .mem, .dict, .frm, .rgn, .wsk, .mc, .tl, .syn, .sch, .ldl, .per, .pwr, .stress, .evt, .att,
      .par, .obs, .cls, .stk, .pin, .arb, .tally, .mgtRsp, .free] s (nextState (execRestoreLog src handle ep srcHandle
      first last data s) s) := by
  unfold execRestoreLog runIf
  repeat' first
    | with_reducible exact SameExcept.refl _ _
    | ((with_reducible apply SameExcept.step); (with_reducible apply State.access_frame); exact rfl)
    | split
    | dsimp only [nextState]

theorem execRestoreRun_frame (src) (handle) (last) (s : State) :
    SameExcept [.clk, .mem, .dict, .frm, .rgn, .wsk, .mc, .tl, .syn, .sch, .ldl, .per, .pwr, .stress, .evt, .att,
      .par, .obs, .cls, .stk, .pin, .arb, .tally, .mgtRsp, .free] s (nextState (execRestoreRun src handle last s) s)
      := by
  unfold execRestoreRun State.runAccess runIf
  repeat' first
    | with_reducible exact SameExcept.refl _ _
    | ((with_reducible apply SameExcept.step); (with_reducible apply State.access_frame); exact rfl)
    | split
    | dsimp only [nextState]

theorem execRegionCreate_frame (src) (rec_) (s : State) :
    SameExcept [.clk, .mem, .dict, .frm, .rgn, .wsk, .mc, .tl, .syn, .sch, .ldl, .per, .pwr, .stress, .evt, .att,
      .par, .obs, .cls, .stk, .pin, .arb, .tally, .mgtRsp, .free] s (nextState (execRegionCreate src rec_ s) s) := by
  unfold execRegionCreate State.runAccess runIf
  repeat' first
    | with_reducible exact SameExcept.refl _ _
    | ((with_reducible apply SameExcept.step); (with_reducible apply State.access_frame); exact rfl)
    | split
    | dsimp only [nextState]

theorem execRegionRetire_frame (src) (handle) (s : State) :
    SameExcept [.clk, .mem, .dict, .frm, .rgn, .wsk, .mc, .tl, .syn, .sch, .ldl, .per, .pwr, .stress, .evt, .att,
      .par, .obs, .cls, .stk, .pin, .arb, .tally, .mgtRsp, .free] s (nextState (execRegionRetire src handle s) s)
      := by
  unfold execRegionRetire State.runAccess runIf
  repeat' first
    | with_reducible exact SameExcept.refl _ _
    | ((with_reducible apply SameExcept.step); (with_reducible apply State.access_frame); exact rfl)
    | split
    | dsimp only [nextState]

theorem execRegionRdonly_frame (src) (handle) (value) (s : State) :
    SameExcept [.clk, .mem, .dict, .frm, .rgn, .wsk, .mc, .tl, .syn, .sch, .ldl, .per, .pwr, .stress, .evt, .att,
      .par, .obs, .cls, .stk, .pin, .arb, .tally, .mgtRsp, .free] s (nextState (execRegionRdonly src handle value s)
      s) := by
  unfold execRegionRdonly State.runAccess runIf
  repeat' first
    | with_reducible exact SameExcept.refl _ _
    | ((with_reducible apply SameExcept.step); (with_reducible apply State.access_frame); exact rfl)
    | split
    | dsimp only [nextState]

theorem execSchedVerify_frame (src) (handle) (s : State) :
    SameExcept [.clk, .mem, .dict, .frm, .rgn, .wsk, .mc, .tl, .syn, .sch, .ldl, .per, .pwr, .stress, .evt, .att,
      .par, .obs, .cls, .stk, .pin, .arb, .tally, .mgtRsp, .free] s (nextState (execSchedVerify src handle s) s) := by
  unfold execSchedVerify State.runAccess runIf
  repeat' first
    | with_reducible exact SameExcept.refl _ _
    | ((with_reducible apply SameExcept.step); (with_reducible apply State.access_frame); exact rfl)
    | split
    | dsimp only [nextState]

theorem execRegionHeader_frame (src) (handle) (s : State) :
    SameExcept [.clk, .mem, .dict, .frm, .rgn, .wsk, .mc, .tl, .syn, .sch, .ldl, .per, .pwr, .stress, .evt, .att,
      .par, .obs, .cls, .stk, .pin, .arb, .tally, .mgtRsp, .free] s (nextState (execRegionHeader src handle s) s)
      := by
  unfold execRegionHeader State.runAccess runIf
  repeat' first
    | with_reducible exact SameExcept.refl _ _
    | ((with_reducible apply SameExcept.step); (with_reducible apply State.access_frame); exact rfl)
    | split
    | dsimp only [nextState]

theorem execDigestStatus_frame (src) (handle) (s : State) :
    SameExcept [.clk, .mem, .dict, .frm, .rgn, .wsk, .mc, .tl, .syn, .sch, .ldl, .per, .pwr, .stress, .evt, .att,
      .par, .obs, .cls, .stk, .pin, .arb, .tally, .mgtRsp, .free] s (nextState (execDigestStatus src handle s) s)
      := by
  unfold execDigestStatus State.runAccess runIf
  repeat' first
    | with_reducible exact SameExcept.refl _ _
    | ((with_reducible apply SameExcept.step); (with_reducible apply State.access_frame); exact rfl)
    | split
    | dsimp only [nextState]

theorem execRegionDesc_frame (src) (handle) (s : State) :
    SameExcept [.clk, .mem, .dict, .frm, .rgn, .wsk, .mc, .tl, .syn, .sch, .ldl, .per, .pwr, .stress, .evt, .att,
      .par, .obs, .cls, .stk, .pin, .arb, .tally, .mgtRsp, .free] s (nextState (execRegionDesc src handle s) s) := by
  unfold execRegionDesc State.runAccess runIf
  repeat' first
    | with_reducible exact SameExcept.refl _ _
    | ((with_reducible apply SameExcept.step); (with_reducible apply State.access_frame); exact rfl)
    | split
    | dsimp only [nextState]

theorem execLadelSignal_frame (src) (ctr) (amount) (s : State) :
    SameExcept [.clk, .mem, .dict, .frm, .rgn, .wsk, .mc, .tl, .syn, .sch, .ldl, .per, .pwr, .stress, .evt, .att,
      .par, .obs, .cls, .stk, .pin, .arb, .tally, .mgtRsp, .free] s (nextState (execLadelSignal src ctr amount s) s)
      := by
  unfold execLadelSignal State.runAccess runIf
  repeat' first
    | with_reducible exact SameExcept.refl _ _
    | ((with_reducible apply SameExcept.step); (with_reducible apply State.access_frame); exact rfl)
    | split
    | dsimp only [nextState]

theorem execFtcResync_frame (src) (value) (s : State) :
    SameExcept [.clk, .mem, .dict, .frm, .rgn, .wsk, .mc, .tl, .syn, .sch, .ldl, .per, .pwr, .stress, .evt, .att,
      .par, .obs, .cls, .stk, .pin, .arb, .tally, .mgtRsp, .free] s (nextState (execFtcResync src value s) s) := by
  unfold execFtcResync State.runAccess runIf
  repeat' first
    | with_reducible exact SameExcept.refl _ _
    | ((with_reducible apply SameExcept.step); (with_reducible apply State.access_frame); exact rfl)
    | split
    | dsimp only [nextState]

theorem execRetireRank_frame (src) (stack) (vpc) (sid) (s : State) :
    SameExcept [.clk, .mem, .dict, .frm, .rgn, .wsk, .mc, .tl, .syn, .sch, .ldl, .per, .pwr, .stress, .evt, .att,
      .par, .obs, .cls, .stk, .pin, .arb, .tally, .mgtRsp, .free] s (nextState (execRetireRank src stack vpc sid s) s)
      := by
  unfold execRetireRank State.runAccess runIf
  repeat' first
    | with_reducible exact SameExcept.refl _ _
    | ((with_reducible apply SameExcept.step); (with_reducible apply State.access_frame); exact rfl)
    | split
    | dsimp only [nextState]

theorem execPatgenCtl_frame (src) (stack) (ch) (w) (s : State) :
    SameExcept [.clk, .mem, .dict, .frm, .rgn, .wsk, .mc, .tl, .syn, .sch, .ldl, .per, .pwr, .stress, .evt, .att,
      .par, .obs, .cls, .stk, .pin, .arb, .tally, .mgtRsp, .free] s (nextState (execPatgenCtl src stack ch w s) s)
      := by
  unfold execPatgenCtl State.runAccess runIf
  repeat' first
    | with_reducible exact SameExcept.refl _ _
    | ((with_reducible apply SameExcept.step); (with_reducible apply State.access_frame); exact rfl)
    | split
    | dsimp only [nextState]

theorem execSweepCtl_frame (src) (stack) (ch) (w) (s : State) :
    SameExcept [.clk, .mem, .dict, .frm, .rgn, .wsk, .mc, .tl, .syn, .sch, .ldl, .per, .pwr, .stress, .evt, .att,
      .par, .obs, .cls, .stk, .pin, .arb, .tally, .mgtRsp, .free] s (nextState (execSweepCtl src stack ch w s) s)
      := by
  unfold execSweepCtl State.runAccess runIf
  repeat' first
    | with_reducible exact SameExcept.refl _ _
    | ((with_reducible apply SameExcept.step); (with_reducible apply State.access_frame); exact rfl)
    | split
    | dsimp only [nextState]

theorem execCmpCtl_frame (src) (stack) (ch) (w) (s : State) :
    SameExcept [.clk, .mem, .dict, .frm, .rgn, .wsk, .mc, .tl, .syn, .sch, .ldl, .per, .pwr, .stress, .evt, .att,
      .par, .obs, .cls, .stk, .pin, .arb, .tally, .mgtRsp, .free] s (nextState (execCmpCtl src stack ch w s) s) := by
  unfold execCmpCtl State.runAccess runIf
  repeat' first
    | with_reducible exact SameExcept.refl _ _
    | ((with_reducible apply SameExcept.step); (with_reducible apply State.access_frame); exact rfl)
    | split
    | dsimp only [nextState]

theorem execTestHold_frame (src) (stack) (ch) (value) (s : State) :
    SameExcept [.clk, .mem, .dict, .frm, .rgn, .wsk, .mc, .tl, .syn, .sch, .ldl, .per, .pwr, .stress, .evt, .att,
      .par, .obs, .cls, .stk, .pin, .arb, .tally, .mgtRsp, .free] s (nextState (execTestHold src stack ch value s) s)
      := by
  unfold execTestHold State.runAccess runIf
  repeat' first
    | with_reducible exact SameExcept.refl _ _
    | ((with_reducible apply SameExcept.step); (with_reducible apply State.access_frame); exact rfl)
    | split
    | dsimp only [nextState]

theorem execRetrain_frame (src) (stack) (ch) (trig) (s : State) :
    SameExcept [.clk, .mem, .dict, .frm, .rgn, .wsk, .mc, .tl, .syn, .sch, .ldl, .per, .pwr, .stress, .evt, .att,
      .par, .obs, .cls, .stk, .pin, .arb, .tally, .mgtRsp, .free] s (nextState (execRetrain src stack ch trig s) s)
      := by
  unfold execRetrain State.runAccess runIf State.runDuty
  repeat' first
    | with_reducible exact SameExcept.refl _ _
    | ((with_reducible apply SameExcept.step); (with_reducible first
          | apply State.retrain_frame | apply State.access_frame); exact rfl)
    | split
    | dsimp only [nextState]

theorem execDomainReset_frame (src) (d) (s : State) :
    SameExcept [.clk, .mem, .dict, .frm, .rgn, .wsk, .mc, .tl, .syn, .sch, .ldl, .per, .pwr, .stress, .evt, .att,
      .par, .obs, .cls, .stk, .pin, .arb, .tally, .mgtRsp, .free] s (nextState (execDomainReset src d s) s) := by
  unfold execDomainReset State.runAccess runIf
  repeat' first
    | with_reducible exact SameExcept.refl _ _
    | ((with_reducible apply SameExcept.step); (with_reducible apply State.access_frame); exact rfl)
    | split
    | dsimp only [nextState]

theorem execBlockPark_frame (src) (s : State) :
    SameExcept [.clk, .mem, .dict, .frm, .rgn, .wsk, .mc, .tl, .syn, .sch, .ldl, .per, .pwr, .stress, .evt, .att,
      .par, .obs, .cls, .stk, .pin, .arb, .tally, .mgtRsp, .free] s (nextState (execBlockPark src s) s) := by
  unfold execBlockPark State.runAccess runIf
  repeat' first
    | with_reducible exact SameExcept.refl _ _
    | ((with_reducible apply SameExcept.step); (with_reducible apply State.access_frame); exact rfl)
    | split
    | dsimp only [nextState]

theorem execWarmStart_frame (src) (s : State) :
    SameExcept [.clk, .mem, .dict, .frm, .rgn, .wsk, .mc, .tl, .syn, .sch, .ldl, .per, .pwr, .stress, .evt, .att,
      .par, .obs, .cls, .stk, .pin, .arb, .tally, .mgtRsp, .free] s (nextState (execWarmStart src s) s) := by
  unfold execWarmStart State.runAccess runIf
  repeat' first
    | with_reducible exact SameExcept.refl _ _
    | ((with_reducible apply SameExcept.step); (with_reducible first
          | apply State.warmRequest_frame | apply State.access_frame); exact rfl)
    | split
    | dsimp only [nextState]

theorem execImageProgram_frame (src) (s : State) :
    SameExcept [.clk, .mem, .dict, .frm, .rgn, .wsk, .mc, .tl, .syn, .sch, .ldl, .per, .pwr, .stress, .evt, .att,
      .par, .obs, .cls, .stk, .pin, .arb, .tally, .mgtRsp, .free] s (nextState (execImageProgram src s) s) := by
  unfold execImageProgram State.runAccess runIf
  repeat' first
    | with_reducible exact SameExcept.refl _ _
    | ((with_reducible apply SameExcept.step); (with_reducible apply State.access_frame); exact rfl)
    | split
    | dsimp only [nextState]

theorem execFwUpdate_frame (src) (s : State) :
    SameExcept [.clk, .mem, .dict, .frm, .rgn, .wsk, .mc, .tl, .syn, .sch, .ldl, .per, .pwr, .stress, .evt, .att,
      .par, .obs, .cls, .stk, .pin, .arb, .tally, .mgtRsp, .free] s (nextState (execFwUpdate src s) s) := by
  unfold execFwUpdate State.runAccess runIf
  repeat' first
    | with_reducible exact SameExcept.refl _ _
    | ((with_reducible apply SameExcept.step); (with_reducible apply State.access_frame); exact rfl)
    | split
    | dsimp only [nextState]

theorem execImageCommit_frame (src) (s : State) :
    SameExcept [.clk, .mem, .dict, .frm, .rgn, .wsk, .mc, .tl, .syn, .sch, .ldl, .per, .pwr, .stress, .evt, .att,
      .par, .obs, .cls, .stk, .pin, .arb, .tally, .mgtRsp, .free] s (nextState (execImageCommit src s) s) := by
  unfold execImageCommit State.runAccess runIf
  repeat' first
    | with_reducible exact SameExcept.refl _ _
    | ((with_reducible apply SameExcept.step); (with_reducible apply State.access_frame); exact rfl)
    | split
    | dsimp only [nextState]

theorem execLibInstall_frame (src) (number) (handle) (ofs) (s : State) :
    SameExcept [.clk, .mem, .dict, .frm, .rgn, .wsk, .mc, .tl, .syn, .sch, .ldl, .per, .pwr, .stress, .evt, .att,
      .par, .obs, .cls, .stk, .pin, .arb, .tally, .mgtRsp, .free] s (nextState (execLibInstall src number handle ofs
      s) s) := by
  unfold execLibInstall State.runAccess runIf
  repeat' first
    | with_reducible exact SameExcept.refl _ _
    | ((with_reducible apply SameExcept.step); (with_reducible apply State.access_frame); exact rfl)
    | split
    | dsimp only [nextState]

theorem execEventAck_frame (src) (pos) (s : State) :
    SameExcept [.clk, .mem, .dict, .frm, .rgn, .wsk, .mc, .tl, .syn, .sch, .ldl, .per, .pwr, .stress, .evt, .att,
      .par, .obs, .cls, .stk, .pin, .arb, .tally, .mgtRsp, .free] s (nextState (execEventAck src pos s) s) := by
  unfold execEventAck State.runAccess runIf
  repeat' first
    | with_reducible exact SameExcept.refl _ _
    | ((with_reducible apply SameExcept.step); (with_reducible apply State.access_frame); exact rfl)
    | split
    | dsimp only [nextState]

theorem execCtrCtl_frame (src) (d) (k) (w) (s : State) :
    SameExcept [.clk, .mem, .dict, .frm, .rgn, .wsk, .mc, .tl, .syn, .sch, .ldl, .per, .pwr, .stress, .evt, .att,
      .par, .obs, .cls, .stk, .pin, .arb, .tally, .mgtRsp, .free] s (nextState (execCtrCtl src d k w s) s) := by
  unfold execCtrCtl State.runAccess runIf
  repeat' first
    | with_reducible exact SameExcept.refl _ _
    | ((with_reducible apply SameExcept.step); (with_reducible apply State.access_frame); exact rfl)
    | split
    | dsimp only [nextState]

theorem execCtrClear_frame (src) (d) (s : State) :
    SameExcept [.clk, .mem, .dict, .frm, .rgn, .wsk, .mc, .tl, .syn, .sch, .ldl, .per, .pwr, .stress, .evt, .att,
      .par, .obs, .cls, .stk, .pin, .arb, .tally, .mgtRsp, .free] s (nextState (execCtrClear src d s) s) := by
  unfold execCtrClear State.runAccess runIf
  repeat' first
    | with_reducible exact SameExcept.refl _ _
    | ((with_reducible apply SameExcept.step); (with_reducible apply State.access_frame); exact rfl)
    | split
    | dsimp only [nextState]

theorem execSampleCtl_frame (src) (n) (w) (s : State) :
    SameExcept [.clk, .mem, .dict, .frm, .rgn, .wsk, .mc, .tl, .syn, .sch, .ldl, .per, .pwr, .stress, .evt, .att,
      .par, .obs, .cls, .stk, .pin, .arb, .tally, .mgtRsp, .free] s (nextState (execSampleCtl src n w s) s) := by
  unfold execSampleCtl State.runAccess runIf
  repeat' first
    | with_reducible exact SameExcept.refl _ _
    | ((with_reducible apply SameExcept.step); (with_reducible apply State.access_frame); exact rfl)
    | split
    | dsimp only [nextState]

theorem execSampleClear_frame (src) (n) (s : State) :
    SameExcept [.clk, .mem, .dict, .frm, .rgn, .wsk, .mc, .tl, .syn, .sch, .ldl, .per, .pwr, .stress, .evt, .att,
      .par, .obs, .cls, .stk, .pin, .arb, .tally, .mgtRsp, .free] s (nextState (execSampleClear src n s) s) := by
  unfold execSampleClear State.runAccess runIf
  repeat' first
    | with_reducible exact SameExcept.refl _ _
    | ((with_reducible apply SameExcept.step); (with_reducible apply State.access_frame); exact rfl)
    | split
    | dsimp only [nextState]

theorem execDebugChallenge_frame (src) (s : State) :
    SameExcept [.clk, .mem, .dict, .frm, .rgn, .wsk, .mc, .tl, .syn, .sch, .ldl, .per, .pwr, .stress, .evt, .att,
      .par, .obs, .cls, .stk, .pin, .arb, .tally, .mgtRsp, .free] s (nextState (execDebugChallenge src s) s) := by
  unfold execDebugChallenge State.runAccess runIf
  repeat' first
    | with_reducible exact SameExcept.refl _ _
    | ((with_reducible apply SameExcept.step); (with_reducible apply State.access_frame); exact rfl)
    | split
    | dsimp only [nextState]

theorem execDebugResponse_frame (src) (data) (s : State) :
    SameExcept [.clk, .mem, .dict, .frm, .rgn, .wsk, .mc, .tl, .syn, .sch, .ldl, .per, .pwr, .stress, .evt, .att,
      .par, .obs, .cls, .stk, .pin, .arb, .tally, .mgtRsp, .free] s (nextState (execDebugResponse src data s) s) := by
  unfold execDebugResponse State.runAccess runIf
  repeat' first
    | with_reducible exact SameExcept.refl _ _
    | ((with_reducible apply SameExcept.step); (with_reducible apply State.access_frame); exact rfl)
    | split
    | dsimp only [nextState]

theorem execDebugLock_frame (src) (s : State) :
    SameExcept [.clk, .mem, .dict, .frm, .rgn, .wsk, .mc, .tl, .syn, .sch, .ldl, .per, .pwr, .stress, .evt, .att,
      .par, .obs, .cls, .stk, .pin, .arb, .tally, .mgtRsp, .free] s (nextState (execDebugLock src s) s) := by
  unfold execDebugLock State.runAccess runIf
  repeat' first
    | with_reducible exact SameExcept.refl _ _
    | ((with_reducible apply SameExcept.step); (with_reducible apply State.access_frame); exact rfl)
    | split
    | dsimp only [nextState]

theorem execCounterSet_frame (src) (data) (s : State) :
    SameExcept [.clk, .mem, .dict, .frm, .rgn, .wsk, .mc, .tl, .syn, .sch, .ldl, .per, .pwr, .stress, .evt, .att,
      .par, .obs, .cls, .stk, .pin, .arb, .tally, .mgtRsp, .free] s (nextState (execCounterSet src data s) s) := by
  unfold execCounterSet State.runAccess runIf
  repeat' first
    | with_reducible exact SameExcept.refl _ _
    | ((with_reducible apply SameExcept.step); (with_reducible apply State.access_frame); exact rfl)
    | split
    | dsimp only [nextState]

theorem execTileControl_frame (src) (data) (s : State) :
    SameExcept [.clk, .mem, .dict, .frm, .rgn, .wsk, .mc, .tl, .syn, .sch, .ldl, .per, .pwr, .stress, .evt, .att,
      .par, .obs, .cls, .stk, .pin, .arb, .tally, .mgtRsp, .free] s (nextState (execTileControl src data s) s) := by
  unfold execTileControl State.runAccess runIf
  repeat' first
    | with_reducible exact SameExcept.refl _ _
    | ((with_reducible apply SameExcept.step); (with_reducible apply State.access_frame); exact rfl)
    | split
    | dsimp only [nextState]

theorem execBpSet_frame (src) (data) (s : State) :
    SameExcept [.clk, .mem, .dict, .frm, .rgn, .wsk, .mc, .tl, .syn, .sch, .ldl, .per, .pwr, .stress, .evt, .att,
      .par, .obs, .cls, .stk, .pin, .arb, .tally, .mgtRsp, .free] s (nextState (execBpSet src data s) s) := by
  unfold execBpSet State.runAccess runIf
  repeat' first
    | with_reducible exact SameExcept.refl _ _
    | ((with_reducible apply SameExcept.step); (with_reducible apply State.access_frame); exact rfl)
    | split
    | dsimp only [nextState]

theorem execArbFreeze_frame (src) (data) (s : State) :
    SameExcept [.clk, .mem, .dict, .frm, .rgn, .wsk, .mc, .tl, .syn, .sch, .ldl, .per, .pwr, .stress, .evt, .att,
      .par, .obs, .cls, .stk, .pin, .arb, .tally, .mgtRsp, .free] s (nextState (execArbFreeze src data s) s) := by
  unfold execArbFreeze State.runAccess runIf
  repeat' first
    | with_reducible exact SameExcept.refl _ _
    | ((with_reducible apply SameExcept.step); (with_reducible apply State.access_frame); exact rfl)
    | split
    | dsimp only [nextState]

theorem execEventNotification_frame (s : State) :
    SameExcept [.frm, .evt, .obs, .tally] s (nextState (execEventNotification s) s) := by
  unfold execEventNotification State.runDuty
  repeat' first
    | with_reducible exact SameExcept.refl _ _
    | ((with_reducible apply SameExcept.step); (with_reducible first
          | apply State.bump_frame | apply State.modEvt_frame | apply State.modFrm_frame
          | apply State.stagePick_frame); exact rfl)
    | ((with_reducible apply SameExcept.foldl); intro _ _)
    | ((with_reducible apply SameExcept.foldlPair); intro _ _)
    | split
    | dsimp only [nextState]

theorem State.abandonFor_frame (s : State) (o) :
    SameExcept [.mem, .frm, .rgn, .wsk, .mc, .tl, .syn, .sch, .pwr, .evt, .att, .par, .obs, .cls, .tally] s
      (State.abandonFor s o) := by
  unfold State.abandonFor
  repeat' first
    | with_reducible exact SameExcept.refl _ _
    | ((with_reducible apply SameExcept.step); (with_reducible first
          | apply State.spillFails_frame | apply State.abandonSignal_frame | apply State.partialGone_frame
          | apply State.voteGone_frame | apply State.mirrorGone_frame | apply State.abandonBarrier_frame); exact rfl)
    | split
    | dsimp only

theorem execOriginatedFrameResend_frame (ep) (seq) (s : State) :
    SameExcept [.mem, .frm, .rgn, .wsk, .mc, .tl, .syn, .sch, .pwr, .evt, .att, .par, .obs, .cls, .tally] s
      (nextState (execOriginatedFrameResend ep seq s) s) := by
  unfold execOriginatedFrameResend State.runLive
  repeat' first
    | with_reducible exact SameExcept.refl _ _
    | ((with_reducible apply SameExcept.step); (with_reducible first
          | apply State.abandonOrig_frame | apply State.resendOrig_frame | apply State.abandonFor_frame); exact rfl)
    | split
    | dsimp only [nextState]

theorem State.tapSet_frame (s : State) (ins) (reg) (stack) : SameExcept [.pin] s (State.tapSet s ins reg stack) := by
  unfold State.tapSet
  repeat' first
    | with_reducible exact SameExcept.refl _ _
    | ((with_reducible apply SameExcept.step); (with_reducible apply State.modPin_frame); exact rfl)
    | split
    | dsimp only

theorem State.tapBypass_frame (s : State) : SameExcept [.pin] s (State.tapBypass s) := by
  unfold State.tapBypass
  repeat' first
    | with_reducible exact SameExcept.refl _ _
    | ((with_reducible apply SameExcept.step); (with_reducible apply State.tapSet_frame); exact rfl)
    | split
    | dsimp only

theorem execBypass_frame (s : State) : SameExcept [.pin] s (nextState (execBypass s) s) := by
  unfold execBypass
  repeat' first
    | with_reducible exact SameExcept.refl _ _
    | ((with_reducible apply SameExcept.step); (with_reducible apply State.tapBypass_frame); exact rfl)
    | split
    | dsimp only [nextState]

theorem execIdcode_frame (s : State) : SameExcept [.pin] s (nextState (execIdcode s) s) := by
  unfold execIdcode
  repeat' first
    | with_reducible exact SameExcept.refl _ _
    | ((with_reducible apply SameExcept.step); (with_reducible apply State.tapSet_frame); exact rfl)
    | split
    | dsimp only [nextState]

theorem execSamplePreload_frame (word) (s : State) :
    SameExcept [.pin, .free] s (nextState (execSamplePreload word s) s) := by
  unfold execSamplePreload
  repeat' first
    | with_reducible exact SameExcept.refl _ _
    | ((with_reducible apply SameExcept.step); (with_reducible first
          | apply State.spend_frame | apply State.tapSet_frame | apply State.modPin_frame
          | apply State.tapBypass_frame); exact rfl)
    | split
    | dsimp only [nextState]

theorem execExtest_frame (s : State) : SameExcept [.pin, .free] s (nextState (execExtest s) s) := by
  unfold execExtest
  repeat' first
    | with_reducible exact SameExcept.refl _ _
    | ((with_reducible apply SameExcept.step); (with_reducible first
          | apply State.spend_frame | apply State.tapSet_frame | apply State.tapBypass_frame); exact rfl)
    | split
    | dsimp only [nextState]

theorem execStack1500_frame (stack) (s : State) : SameExcept [.pin] s (nextState (execStack1500 stack s) s) := by
  unfold execStack1500 runIf
  repeat' first
    | with_reducible exact SameExcept.refl _ _
    | ((with_reducible apply SameExcept.step); (with_reducible first
          | apply State.tapSet_frame | apply State.tapBypass_frame); exact rfl)
    | split
    | dsimp only [nextState]

theorem execLdv_frame (tile) (word) (s : State) :
    SameExcept [.mem, .frm, .rgn, .wsk, .mc, .tl, .syn, .sch, .pwr, .stress, .evt, .att, .par, .obs, .cls, .arb,
      .tally, .free] s (nextState (execLdv tile word s) s) := by
  unfold execLdv State.runLive
  repeat' first
    | with_reducible exact SameExcept.refl _ _
    | ((with_reducible apply SameExcept.step); (with_reducible apply State.issue_frame); exact rfl)
    | split
    | dsimp only [nextState]

theorem execStv_frame (tile) (word) (s : State) :
    SameExcept [.mem, .frm, .rgn, .wsk, .mc, .tl, .syn, .sch, .pwr, .stress, .evt, .att, .par, .obs, .cls, .arb,
      .tally, .free] s (nextState (execStv tile word s) s) := by
  unfold execStv State.runLive
  repeat' first
    | with_reducible exact SameExcept.refl _ _
    | ((with_reducible apply SameExcept.step); (with_reducible apply State.issue_frame); exact rfl)
    | split
    | dsimp only [nextState]

theorem execLds_frame (tile) (word) (s : State) :
    SameExcept [.mem, .frm, .rgn, .wsk, .mc, .tl, .syn, .sch, .pwr, .stress, .evt, .att, .par, .obs, .cls, .arb,
      .tally, .free] s (nextState (execLds tile word s) s) := by
  unfold execLds State.runLive
  repeat' first
    | with_reducible exact SameExcept.refl _ _
    | ((with_reducible apply SameExcept.step); (with_reducible apply State.issue_frame); exact rfl)
    | split
    | dsimp only [nextState]

theorem execSts_frame (tile) (word) (s : State) :
    SameExcept [.mem, .frm, .rgn, .wsk, .mc, .tl, .syn, .sch, .pwr, .stress, .evt, .att, .par, .obs, .cls, .arb,
      .tally, .free] s (nextState (execSts tile word s) s) := by
  unfold execSts State.runLive
  repeat' first
    | with_reducible exact SameExcept.refl _ _
    | ((with_reducible apply SameExcept.step); (with_reducible apply State.issue_frame); exact rfl)
    | split
    | dsimp only [nextState]

theorem execMovi_frame (tile) (word) (s : State) :
    SameExcept [.mem, .frm, .rgn, .wsk, .mc, .tl, .syn, .sch, .pwr, .stress, .evt, .att, .par, .obs, .cls, .arb,
      .tally, .free] s (nextState (execMovi tile word s) s) := by
  unfold execMovi State.runLive
  repeat' first
    | with_reducible exact SameExcept.refl _ _
    | ((with_reducible apply SameExcept.step); (with_reducible apply State.issue_frame); exact rfl)
    | split
    | dsimp only [nextState]

theorem execAlu_frame (tile) (word) (s : State) :
    SameExcept [.mem, .frm, .rgn, .wsk, .mc, .tl, .syn, .sch, .pwr, .stress, .evt, .att, .par, .obs, .cls, .arb,
      .tally, .free] s (nextState (execAlu tile word s) s) := by
  unfold execAlu State.runLive
  repeat' first
    | with_reducible exact SameExcept.refl _ _
    | ((with_reducible apply SameExcept.step); (with_reducible apply State.issue_frame); exact rfl)
    | split
    | dsimp only [nextState]

theorem execAlui_frame (tile) (word) (s : State) :
    SameExcept [.mem, .frm, .rgn, .wsk, .mc, .tl, .syn, .sch, .pwr, .stress, .evt, .att, .par, .obs, .cls, .arb,
      .tally, .free] s (nextState (execAlui tile word s) s) := by
  unfold execAlui State.runLive
  repeat' first
    | with_reducible exact SameExcept.refl _ _
    | ((with_reducible apply SameExcept.step); (with_reducible apply State.issue_frame); exact rfl)
    | split
    | dsimp only [nextState]

theorem execBcast_frame (tile) (word) (s : State) :
    SameExcept [.mem, .frm, .rgn, .wsk, .mc, .tl, .syn, .sch, .pwr, .stress, .evt, .att, .par, .obs, .cls, .arb,
      .tally, .free] s (nextState (execBcast tile word s) s) := by
  unfold execBcast State.runLive
  repeat' first
    | with_reducible exact SameExcept.refl _ _
    | ((with_reducible apply SameExcept.step); (with_reducible apply State.issue_frame); exact rfl)
    | split
    | dsimp only [nextState]

theorem execVtog_frame (tile) (word) (s : State) :
    SameExcept [.mem, .frm, .rgn, .wsk, .mc, .tl, .syn, .sch, .pwr, .stress, .evt, .att, .par, .obs, .cls, .arb,
      .tally, .free] s (nextState (execVtog tile word s) s) := by
  unfold execVtog State.runLive
  repeat' first
    | with_reducible exact SameExcept.refl _ _
    | ((with_reducible apply SameExcept.step); (with_reducible apply State.issue_frame); exact rfl)
    | split
    | dsimp only [nextState]

theorem execLdm_frame (tile) (word) (s : State) :
    SameExcept [.mem, .frm, .rgn, .wsk, .mc, .tl, .syn, .sch, .pwr, .stress, .evt, .att, .par, .obs, .cls, .arb,
      .tally, .free] s (nextState (execLdm tile word s) s) := by
  unfold execLdm State.runLive
  repeat' first
    | with_reducible exact SameExcept.refl _ _
    | ((with_reducible apply SameExcept.step); (with_reducible apply State.issue_frame); exact rfl)
    | split
    | dsimp only [nextState]

theorem execStm_frame (tile) (word) (s : State) :
    SameExcept [.mem, .frm, .rgn, .wsk, .mc, .tl, .syn, .sch, .pwr, .stress, .evt, .att, .par, .obs, .cls, .arb,
      .tally, .free] s (nextState (execStm tile word s) s) := by
  unfold execStm State.runLive
  repeat' first
    | with_reducible exact SameExcept.refl _ _
    | ((with_reducible apply SameExcept.step); (with_reducible apply State.issue_frame); exact rfl)
    | split
    | dsimp only [nextState]

theorem execXfer_frame (tile) (word) (s : State) :
    SameExcept [.mem, .frm, .rgn, .wsk, .mc, .tl, .syn, .sch, .pwr, .stress, .evt, .att, .par, .obs, .cls, .arb,
      .tally, .free] s (nextState (execXfer tile word s) s) := by
  unfold execXfer State.runLive
  repeat' first
    | with_reducible exact SameExcept.refl _ _
    | ((with_reducible apply SameExcept.step); (with_reducible apply State.issue_frame); exact rfl)
    | split
    | dsimp only [nextState]

theorem execRdctr_frame (tile) (word) (s : State) :
    SameExcept [.mem, .frm, .rgn, .wsk, .mc, .tl, .syn, .sch, .pwr, .stress, .evt, .att, .par, .obs, .cls, .arb,
      .tally, .free] s (nextState (execRdctr tile word s) s) := by
  unfold execRdctr State.runLive
  repeat' first
    | with_reducible exact SameExcept.refl _ _
    | ((with_reducible apply SameExcept.step); (with_reducible apply State.issue_frame); exact rfl)
    | split
    | dsimp only [nextState]

theorem execRdcr_frame (tile) (word) (s : State) :
    SameExcept [.mem, .frm, .rgn, .wsk, .mc, .tl, .syn, .sch, .pwr, .stress, .evt, .att, .par, .obs, .cls, .arb,
      .tally, .free] s (nextState (execRdcr tile word s) s) := by
  unfold execRdcr State.runLive
  repeat' first
    | with_reducible exact SameExcept.refl _ _
    | ((with_reducible apply SameExcept.step); (with_reducible apply State.issue_frame); exact rfl)
    | split
    | dsimp only [nextState]

theorem execSetl_frame (tile) (word) (s : State) :
    SameExcept [.mem, .frm, .rgn, .wsk, .mc, .tl, .syn, .sch, .pwr, .stress, .evt, .att, .par, .obs, .cls, .arb,
      .tally, .free] s (nextState (execSetl tile word s) s) := by
  unfold execSetl State.runLive
  repeat' first
    | with_reducible exact SameExcept.refl _ _
    | ((with_reducible apply SameExcept.step); (with_reducible apply State.issue_frame); exact rfl)
    | split
    | dsimp only [nextState]

theorem execWrcr_frame (tile) (word) (s : State) :
    SameExcept [.mem, .frm, .rgn, .wsk, .mc, .tl, .syn, .sch, .pwr, .stress, .evt, .att, .par, .obs, .cls, .arb,
      .tally, .free] s (nextState (execWrcr tile word s) s) := by
  unfold execWrcr State.runLive
  repeat' first
    | with_reducible exact SameExcept.refl _ _
    | ((with_reducible apply SameExcept.step); (with_reducible apply State.issue_frame); exact rfl)
    | split
    | dsimp only [nextState]

theorem execMma_frame (tile) (word) (s : State) :
    SameExcept [.mem, .frm, .rgn, .wsk, .mc, .tl, .syn, .sch, .pwr, .stress, .evt, .att, .par, .obs, .cls, .arb,
      .tally, .free] s (nextState (execMma tile word s) s) := by
  unfold execMma State.runLive
  repeat' first
    | with_reducible exact SameExcept.refl _ _
    | ((with_reducible apply SameExcept.step); (with_reducible apply State.issue_frame); exact rfl)
    | split
    | dsimp only [nextState]

theorem execAczero_frame (tile) (word) (s : State) :
    SameExcept [.mem, .frm, .rgn, .wsk, .mc, .tl, .syn, .sch, .pwr, .stress, .evt, .att, .par, .obs, .cls, .arb,
      .tally, .free] s (nextState (execAczero tile word s) s) := by
  unfold execAczero State.runLive
  repeat' first
    | with_reducible exact SameExcept.refl _ _
    | ((with_reducible apply SameExcept.step); (with_reducible apply State.issue_frame); exact rfl)
    | split
    | dsimp only [nextState]

theorem execFadd_frame (tile) (word) (s : State) :
    SameExcept [.mem, .frm, .rgn, .wsk, .mc, .tl, .syn, .sch, .pwr, .stress, .evt, .att, .par, .obs, .cls, .arb,
      .tally, .free] s (nextState (execFadd tile word s) s) := by
  unfold execFadd State.runLive
  repeat' first
    | with_reducible exact SameExcept.refl _ _
    | ((with_reducible apply SameExcept.step); (with_reducible apply State.issue_frame); exact rfl)
    | split
    | dsimp only [nextState]

theorem execFsub_frame (tile) (word) (s : State) :
    SameExcept [.mem, .frm, .rgn, .wsk, .mc, .tl, .syn, .sch, .pwr, .stress, .evt, .att, .par, .obs, .cls, .arb,
      .tally, .free] s (nextState (execFsub tile word s) s) := by
  unfold execFsub State.runLive
  repeat' first
    | with_reducible exact SameExcept.refl _ _
    | ((with_reducible apply SameExcept.step); (with_reducible apply State.issue_frame); exact rfl)
    | split
    | dsimp only [nextState]

theorem execFmul_frame (tile) (word) (s : State) :
    SameExcept [.mem, .frm, .rgn, .wsk, .mc, .tl, .syn, .sch, .pwr, .stress, .evt, .att, .par, .obs, .cls, .arb,
      .tally, .free] s (nextState (execFmul tile word s) s) := by
  unfold execFmul State.runLive
  repeat' first
    | with_reducible exact SameExcept.refl _ _
    | ((with_reducible apply SameExcept.step); (with_reducible apply State.issue_frame); exact rfl)
    | split
    | dsimp only [nextState]

theorem execFfma_frame (tile) (word) (s : State) :
    SameExcept [.mem, .frm, .rgn, .wsk, .mc, .tl, .syn, .sch, .pwr, .stress, .evt, .att, .par, .obs, .cls, .arb,
      .tally, .free] s (nextState (execFfma tile word s) s) := by
  unfold execFfma State.runLive
  repeat' first
    | with_reducible exact SameExcept.refl _ _
    | ((with_reducible apply SameExcept.step); (with_reducible apply State.issue_frame); exact rfl)
    | split
    | dsimp only [nextState]

theorem execFmax_frame (tile) (word) (s : State) :
    SameExcept [.mem, .frm, .rgn, .wsk, .mc, .tl, .syn, .sch, .pwr, .stress, .evt, .att, .par, .obs, .cls, .arb,
      .tally, .free] s (nextState (execFmax tile word s) s) := by
  unfold execFmax State.runLive
  repeat' first
    | with_reducible exact SameExcept.refl _ _
    | ((with_reducible apply SameExcept.step); (with_reducible apply State.issue_frame); exact rfl)
    | split
    | dsimp only [nextState]

theorem execFmin_frame (tile) (word) (s : State) :
    SameExcept [.mem, .frm, .rgn, .wsk, .mc, .tl, .syn, .sch, .pwr, .stress, .evt, .att, .par, .obs, .cls, .arb,
      .tally, .free] s (nextState (execFmin tile word s) s) := by
  unfold execFmin State.runLive
  repeat' first
    | with_reducible exact SameExcept.refl _ _
    | ((with_reducible apply SameExcept.step); (with_reducible apply State.issue_frame); exact rfl)
    | split
    | dsimp only [nextState]

theorem execFsgn_frame (tile) (word) (s : State) :
    SameExcept [.mem, .frm, .rgn, .wsk, .mc, .tl, .syn, .sch, .pwr, .stress, .evt, .att, .par, .obs, .cls, .arb,
      .tally, .free] s (nextState (execFsgn tile word s) s) := by
  unfold execFsgn State.runLive
  repeat' first
    | with_reducible exact SameExcept.refl _ _
    | ((with_reducible apply SameExcept.step); (with_reducible apply State.issue_frame); exact rfl)
    | split
    | dsimp only [nextState]

theorem execFcmp_frame (tile) (word) (s : State) :
    SameExcept [.mem, .frm, .rgn, .wsk, .mc, .tl, .syn, .sch, .pwr, .stress, .evt, .att, .par, .obs, .cls, .arb,
      .tally, .free] s (nextState (execFcmp tile word s) s) := by
  unfold execFcmp State.runLive
  repeat' first
    | with_reducible exact SameExcept.refl _ _
    | ((with_reducible apply SameExcept.step); (with_reducible apply State.issue_frame); exact rfl)
    | split
    | dsimp only [nextState]

theorem execSel_frame (tile) (word) (s : State) :
    SameExcept [.mem, .frm, .rgn, .wsk, .mc, .tl, .syn, .sch, .pwr, .stress, .evt, .att, .par, .obs, .cls, .arb,
      .tally, .free] s (nextState (execSel tile word s) s) := by
  unfold execSel State.runLive
  repeat' first
    | with_reducible exact SameExcept.refl _ _
    | ((with_reducible apply SameExcept.step); (with_reducible apply State.issue_frame); exact rfl)
    | split
    | dsimp only [nextState]

theorem execFexp_frame (tile) (word) (s : State) :
    SameExcept [.mem, .frm, .rgn, .wsk, .mc, .tl, .syn, .sch, .pwr, .stress, .evt, .att, .par, .obs, .cls, .arb,
      .tally, .free] s (nextState (execFexp tile word s) s) := by
  unfold execFexp State.runLive
  repeat' first
    | with_reducible exact SameExcept.refl _ _
    | ((with_reducible apply SameExcept.step); (with_reducible apply State.issue_frame); exact rfl)
    | split
    | dsimp only [nextState]

theorem execFexpa_frame (tile) (word) (s : State) :
    SameExcept [.mem, .frm, .rgn, .wsk, .mc, .tl, .syn, .sch, .pwr, .stress, .evt, .att, .par, .obs, .cls, .arb,
      .tally, .free] s (nextState (execFexpa tile word s) s) := by
  unfold execFexpa State.runLive
  repeat' first
    | with_reducible exact SameExcept.refl _ _
    | ((with_reducible apply SameExcept.step); (with_reducible apply State.issue_frame); exact rfl)
    | split
    | dsimp only [nextState]

theorem execFrcp_frame (tile) (word) (s : State) :
    SameExcept [.mem, .frm, .rgn, .wsk, .mc, .tl, .syn, .sch, .pwr, .stress, .evt, .att, .par, .obs, .cls, .arb,
      .tally, .free] s (nextState (execFrcp tile word s) s) := by
  unfold execFrcp State.runLive
  repeat' first
    | with_reducible exact SameExcept.refl _ _
    | ((with_reducible apply SameExcept.step); (with_reducible apply State.issue_frame); exact rfl)
    | split
    | dsimp only [nextState]

theorem execFsqrt_frame (tile) (word) (s : State) :
    SameExcept [.mem, .frm, .rgn, .wsk, .mc, .tl, .syn, .sch, .pwr, .stress, .evt, .att, .par, .obs, .cls, .arb,
      .tally, .free] s (nextState (execFsqrt tile word s) s) := by
  unfold execFsqrt State.runLive
  repeat' first
    | with_reducible exact SameExcept.refl _ _
    | ((with_reducible apply SameExcept.step); (with_reducible apply State.issue_frame); exact rfl)
    | split
    | dsimp only [nextState]

theorem execFmuli_frame (tile) (word) (s : State) :
    SameExcept [.mem, .frm, .rgn, .wsk, .mc, .tl, .syn, .sch, .pwr, .stress, .evt, .att, .par, .obs, .cls, .arb,
      .tally, .free] s (nextState (execFmuli tile word s) s) := by
  unfold execFmuli State.runLive
  repeat' first
    | with_reducible exact SameExcept.refl _ _
    | ((with_reducible apply SameExcept.step); (with_reducible apply State.issue_frame); exact rfl)
    | split
    | dsimp only [nextState]

theorem execFaddi_frame (tile) (word) (s : State) :
    SameExcept [.mem, .frm, .rgn, .wsk, .mc, .tl, .syn, .sch, .pwr, .stress, .evt, .att, .par, .obs, .cls, .arb,
      .tally, .free] s (nextState (execFaddi tile word s) s) := by
  unfold execFaddi State.runLive
  repeat' first
    | with_reducible exact SameExcept.refl _ _
    | ((with_reducible apply SameExcept.step); (with_reducible apply State.issue_frame); exact rfl)
    | split
    | dsimp only [nextState]

theorem execIadd_frame (tile) (word) (s : State) :
    SameExcept [.mem, .frm, .rgn, .wsk, .mc, .tl, .syn, .sch, .pwr, .stress, .evt, .att, .par, .obs, .cls, .arb,
      .tally, .free] s (nextState (execIadd tile word s) s) := by
  unfold execIadd State.runLive
  repeat' first
    | with_reducible exact SameExcept.refl _ _
    | ((with_reducible apply SameExcept.step); (with_reducible apply State.issue_frame); exact rfl)
    | split
    | dsimp only [nextState]

theorem execIsub_frame (tile) (word) (s : State) :
    SameExcept [.mem, .frm, .rgn, .wsk, .mc, .tl, .syn, .sch, .pwr, .stress, .evt, .att, .par, .obs, .cls, .arb,
      .tally, .free] s (nextState (execIsub tile word s) s) := by
  unfold execIsub State.runLive
  repeat' first
    | with_reducible exact SameExcept.refl _ _
    | ((with_reducible apply SameExcept.step); (with_reducible apply State.issue_frame); exact rfl)
    | split
    | dsimp only [nextState]

theorem execImul_frame (tile) (word) (s : State) :
    SameExcept [.mem, .frm, .rgn, .wsk, .mc, .tl, .syn, .sch, .pwr, .stress, .evt, .att, .par, .obs, .cls, .arb,
      .tally, .free] s (nextState (execImul tile word s) s) := by
  unfold execImul State.runLive
  repeat' first
    | with_reducible exact SameExcept.refl _ _
    | ((with_reducible apply SameExcept.step); (with_reducible apply State.issue_frame); exact rfl)
    | split
    | dsimp only [nextState]

theorem execLogic_frame (tile) (word) (s : State) :
    SameExcept [.mem, .frm, .rgn, .wsk, .mc, .tl, .syn, .sch, .pwr, .stress, .evt, .att, .par, .obs, .cls, .arb,
      .tally, .free] s (nextState (execLogic tile word s) s) := by
  unfold execLogic State.runLive
  repeat' first
    | with_reducible exact SameExcept.refl _ _
    | ((with_reducible apply SameExcept.step); (with_reducible apply State.issue_frame); exact rfl)
    | split
    | dsimp only [nextState]

theorem execShift_frame (tile) (word) (s : State) :
    SameExcept [.mem, .frm, .rgn, .wsk, .mc, .tl, .syn, .sch, .pwr, .stress, .evt, .att, .par, .obs, .cls, .arb,
      .tally, .free] s (nextState (execShift tile word s) s) := by
  unfold execShift State.runLive
  repeat' first
    | with_reducible exact SameExcept.refl _ _
    | ((with_reducible apply SameExcept.step); (with_reducible apply State.issue_frame); exact rfl)
    | split
    | dsimp only [nextState]

theorem execIminmax_frame (tile) (word) (s : State) :
    SameExcept [.mem, .frm, .rgn, .wsk, .mc, .tl, .syn, .sch, .pwr, .stress, .evt, .att, .par, .obs, .cls, .arb,
      .tally, .free] s (nextState (execIminmax tile word s) s) := by
  unfold execIminmax State.runLive
  repeat' first
    | with_reducible exact SameExcept.refl _ _
    | ((with_reducible apply SameExcept.step); (with_reducible apply State.issue_frame); exact rfl)
    | split
    | dsimp only [nextState]

theorem execRed_frame (tile) (word) (s : State) :
    SameExcept [.mem, .frm, .rgn, .wsk, .mc, .tl, .syn, .sch, .pwr, .stress, .evt, .att, .par, .obs, .cls, .arb,
      .tally, .free] s (nextState (execRed tile word s) s) := by
  unfold execRed State.runLive
  repeat' first
    | with_reducible exact SameExcept.refl _ _
    | ((with_reducible apply SameExcept.step); (with_reducible apply State.issue_frame); exact rfl)
    | split
    | dsimp only [nextState]

theorem execPerm_frame (tile) (word) (s : State) :
    SameExcept [.mem, .frm, .rgn, .wsk, .mc, .tl, .syn, .sch, .pwr, .stress, .evt, .att, .par, .obs, .cls, .arb,
      .tally, .free] s (nextState (execPerm tile word s) s) := by
  unfold execPerm State.runLive
  repeat' first
    | with_reducible exact SameExcept.refl _ _
    | ((with_reducible apply SameExcept.step); (with_reducible apply State.issue_frame); exact rfl)
    | split
    | dsimp only [nextState]

theorem execCvtn_frame (tile) (word) (s : State) :
    SameExcept [.mem, .frm, .rgn, .wsk, .mc, .tl, .syn, .sch, .pwr, .stress, .evt, .att, .par, .obs, .cls, .arb,
      .tally, .free] s (nextState (execCvtn tile word s) s) := by
  unfold execCvtn State.runLive
  repeat' first
    | with_reducible exact SameExcept.refl _ _
    | ((with_reducible apply SameExcept.step); (with_reducible apply State.issue_frame); exact rfl)
    | split
    | dsimp only [nextState]

theorem execCvts_frame (tile) (word) (s : State) :
    SameExcept [.mem, .frm, .rgn, .wsk, .mc, .tl, .syn, .sch, .pwr, .stress, .evt, .att, .par, .obs, .cls, .arb,
      .tally, .free] s (nextState (execCvts tile word s) s) := by
  unfold execCvts State.runLive
  repeat' first
    | with_reducible exact SameExcept.refl _ _
    | ((with_reducible apply SameExcept.step); (with_reducible apply State.issue_frame); exact rfl)
    | split
    | dsimp only [nextState]

theorem execCvtw_frame (tile) (word) (s : State) :
    SameExcept [.mem, .frm, .rgn, .wsk, .mc, .tl, .syn, .sch, .pwr, .stress, .evt, .att, .par, .obs, .cls, .arb,
      .tally, .free] s (nextState (execCvtw tile word s) s) := by
  unfold execCvtw State.runLive
  repeat' first
    | with_reducible exact SameExcept.refl _ _
    | ((with_reducible apply SameExcept.step); (with_reducible apply State.issue_frame); exact rfl)
    | split
    | dsimp only [nextState]

theorem execCvti_frame (tile) (word) (s : State) :
    SameExcept [.mem, .frm, .rgn, .wsk, .mc, .tl, .syn, .sch, .pwr, .stress, .evt, .att, .par, .obs, .cls, .arb,
      .tally, .free] s (nextState (execCvti tile word s) s) := by
  unfold execCvti State.runLive
  repeat' first
    | with_reducible exact SameExcept.refl _ _
    | ((with_reducible apply SameExcept.step); (with_reducible apply State.issue_frame); exact rfl)
    | split
    | dsimp only [nextState]

theorem execAcrd_frame (tile) (word) (s : State) :
    SameExcept [.mem, .frm, .rgn, .wsk, .mc, .tl, .syn, .sch, .pwr, .stress, .evt, .att, .par, .obs, .cls, .arb,
      .tally, .free] s (nextState (execAcrd tile word s) s) := by
  unfold execAcrd State.runLive
  repeat' first
    | with_reducible exact SameExcept.refl _ _
    | ((with_reducible apply SameExcept.step); (with_reducible apply State.issue_frame); exact rfl)
    | split
    | dsimp only [nextState]

theorem execAcwr_frame (tile) (word) (s : State) :
    SameExcept [.mem, .frm, .rgn, .wsk, .mc, .tl, .syn, .sch, .pwr, .stress, .evt, .att, .par, .obs, .cls, .arb,
      .tally, .free] s (nextState (execAcwr tile word s) s) := by
  unfold execAcwr State.runLive
  repeat' first
    | with_reducible exact SameExcept.refl _ _
    | ((with_reducible apply SameExcept.step); (with_reducible apply State.issue_frame); exact rfl)
    | split
    | dsimp only [nextState]

theorem execSig_frame (tile) (word) (s : State) :
    SameExcept [.mem, .frm, .rgn, .wsk, .mc, .tl, .syn, .sch, .pwr, .stress, .evt, .att, .par, .obs, .cls, .arb,
      .tally, .free] s (nextState (execSig tile word s) s) := by
  unfold execSig State.runLive
  repeat' first
    | with_reducible exact SameExcept.refl _ _
    | ((with_reducible apply SameExcept.step); (with_reducible apply State.issue_frame); exact rfl)
    | split
    | dsimp only [nextState]

theorem execSubCtr_frame (tile) (word) (s : State) :
    SameExcept [.mem, .frm, .rgn, .wsk, .mc, .tl, .syn, .sch, .pwr, .stress, .evt, .att, .par, .obs, .cls, .arb,
      .tally, .free] s (nextState (execSubCtr tile word s) s) := by
  unfold execSubCtr State.runLive
  repeat' first
    | with_reducible exact SameExcept.refl _ _
    | ((with_reducible apply SameExcept.step); (with_reducible apply State.issue_frame); exact rfl)
    | split
    | dsimp only [nextState]

theorem execWait_frame (tile) (word) (s : State) :
    SameExcept [.mem, .frm, .rgn, .wsk, .mc, .tl, .syn, .sch, .pwr, .stress, .evt, .att, .par, .obs, .cls, .arb,
      .tally, .free] s (nextState (execWait tile word s) s) := by
  unfold execWait State.runLive
  repeat' first
    | with_reducible exact SameExcept.refl _ _
    | ((with_reducible apply SameExcept.step); (with_reducible apply State.issue_frame); exact rfl)
    | split
    | dsimp only [nextState]

theorem execFence_frame (tile) (word) (s : State) :
    SameExcept [.mem, .frm, .rgn, .wsk, .mc, .tl, .syn, .sch, .pwr, .stress, .evt, .att, .par, .obs, .cls, .arb,
      .tally, .free] s (nextState (execFence tile word s) s) := by
  unfold execFence State.runLive
  repeat' first
    | with_reducible exact SameExcept.refl _ _
    | ((with_reducible apply SameExcept.step); (with_reducible apply State.issue_frame); exact rfl)
    | split
    | dsimp only [nextState]

theorem execBr_frame (tile) (word) (s : State) :
    SameExcept [.mem, .frm, .rgn, .wsk, .mc, .tl, .syn, .sch, .pwr, .stress, .evt, .att, .par, .obs, .cls, .arb,
      .tally, .free] s (nextState (execBr tile word s) s) := by
  unfold execBr State.runLive
  repeat' first
    | with_reducible exact SameExcept.refl _ _
    | ((with_reducible apply SameExcept.step); (with_reducible apply State.issue_frame); exact rfl)
    | split
    | dsimp only [nextState]

theorem execBrz_frame (tile) (word) (s : State) :
    SameExcept [.mem, .frm, .rgn, .wsk, .mc, .tl, .syn, .sch, .pwr, .stress, .evt, .att, .par, .obs, .cls, .arb,
      .tally, .free] s (nextState (execBrz tile word s) s) := by
  unfold execBrz State.runLive
  repeat' first
    | with_reducible exact SameExcept.refl _ _
    | ((with_reducible apply SameExcept.step); (with_reducible apply State.issue_frame); exact rfl)
    | split
    | dsimp only [nextState]

theorem execLoop_frame (tile) (word) (s : State) :
    SameExcept [.mem, .frm, .rgn, .wsk, .mc, .tl, .syn, .sch, .pwr, .stress, .evt, .att, .par, .obs, .cls, .arb,
      .tally, .free] s (nextState (execLoop tile word s) s) := by
  unfold execLoop State.runLive
  repeat' first
    | with_reducible exact SameExcept.refl _ _
    | ((with_reducible apply SameExcept.step); (with_reducible apply State.issue_frame); exact rfl)
    | split
    | dsimp only [nextState]

theorem execHalt_frame (tile) (word) (s : State) :
    SameExcept [.mem, .frm, .rgn, .wsk, .mc, .tl, .syn, .sch, .pwr, .stress, .evt, .att, .par, .obs, .cls, .arb,
      .tally, .free] s (nextState (execHalt tile word s) s) := by
  unfold execHalt State.runLive
  repeat' first
    | with_reducible exact SameExcept.refl _ _
    | ((with_reducible apply SameExcept.step); (with_reducible apply State.issue_frame); exact rfl)
    | split
    | dsimp only [nextState]

theorem State.levelCounts_frame (s : State) (d) : SameExcept [.obs] s (State.levelCounts s d) := by
  unfold State.levelCounts
  repeat' first
    | with_reducible exact SameExcept.refl _ _
    | ((with_reducible apply SameExcept.step); (with_reducible apply State.ctrEvent_frame); exact rfl)
    | ((with_reducible apply SameExcept.foldl); intro _ _)
    | ((with_reducible apply SameExcept.foldlPair); intro _ _)
    | split
    | dsimp only

theorem State.tileEdge_frame (s : State) :
    SameExcept [.mem, .frm, .rgn, .wsk, .mc, .tl, .syn, .sch, .pwr, .stress, .evt, .att, .par, .obs, .cls, .arb,
      .tally, .free] s (State.tileEdge s) := by
  unfold State.tileEdge
  repeat' first
    | with_reducible exact SameExcept.refl _ _
    | ((with_reducible apply SameExcept.step); (with_reducible first
          | apply State.issueTiles_frame | apply State.mmaNext_frame | apply State.modTile_frame); exact rfl)
    | ((with_reducible apply SameExcept.foldl); intro _ _)
    | ((with_reducible apply SameExcept.foldlPair); intro _ _)
    | split
    | dsimp only

theorem State.wakeTimed_frame (s : State) : SameExcept [.pwr, .stress, .arb] s (State.wakeTimed s) := by
  unfold State.wakeTimed
  repeat' first
    | with_reducible exact SameExcept.refl _ _
    | ((with_reducible apply SameExcept.step); (with_reducible apply State.wakeDom_frame); exact rfl)
    | ((with_reducible apply SameExcept.foldl); intro _ _)
    | ((with_reducible apply SameExcept.foldlPair); intro _ _)
    | split
    | dsimp only

theorem State.liveTick_frame (s : State) :
    SameExcept [.mem, .frm, .rgn, .wsk, .mc, .tl, .syn, .sch, .pwr, .stress, .evt, .att, .par, .obs, .cls, .stk, .arb,
      .tally, .free] s (State.liveTick s) := by
  unfold State.liveTick
  repeat' first
    | with_reducible exact SameExcept.refl _ _
    | ((with_reducible apply SameExcept.step); (with_reducible first
          | apply State.levelCounts_frame | apply State.endDrains_frame | apply State.modFrm_frame
          | apply State.tileEdge_frame | apply State.watchIdle_frame | apply State.wakeTimed_frame); exact rfl)
    | ((with_reducible apply SameExcept.foldl); intro _ _)
    | ((with_reducible apply SameExcept.foldlPair); intro _ _)
    | split
    | dsimp only

theorem State.tick_frame (s : State) :
    SameExcept [.clk, .mem, .dict, .frm, .rgn, .wsk, .mc, .tl, .syn, .sch, .ldl, .per, .pwr, .stress, .evt, .att,
      .par, .obs, .cls, .stk, .pin, .arb, .tally, .free] s (State.tick s) := by
  unfold State.tick
  repeat' first
    | with_reducible exact SameExcept.refl _ _
    | ((with_reducible apply SameExcept.step); (with_reducible first
          | apply State.passTime_frame | apply State.liveTick_frame | apply State.startStep_frame); exact rfl)
    | split
    | dsimp only

end Sys2Proof.Machine
end

