-- ==== Sys2Proof/Laws/KeepsServices.lean ====
section
/-! SUPPORT. The operations that touch the stacked memory or the event log keep the invariant, one lemma per operation
(Ops, Tile, Frame, Layout, Response, Sync, Mark, Fabric, Issue, Regions, Image, Whisk, Mcast, Log, Transfer, Param,
Attend, Attention, Commit, Hub, Schedule, Ingress, Boot, Pot). -/

namespace Sys2Proof.Machine

theorem State.note_keeps (s : State) (src) (rule) (item) : Keeps s (State.note s src rule item) := by
  unfold State.note
  repeat' first
    | with_reducible exact Keeps.refl _
    | ((with_reducible apply Keeps.step); (with_reducible apply State.raise_keeps))
    | split
    | dsimp only

theorem State.noteCause_keeps (s : State) (src) (rule) (cause) (item) :
    Keeps s (State.noteCause s src rule cause item) := by
  unfold State.noteCause
  repeat' first
    | with_reducible exact Keeps.refl _
    | ((with_reducible apply Keeps.step); (with_reducible apply State.raise_keeps))
    | split
    | dsimp only

theorem State.mwrite_keeps (s : State) (a) (d) : Keeps s (State.mwrite s a d) := by
  unfold State.mwrite
  repeat' first
    | with_reducible exact Keeps.refl _
    | ((with_reducible apply Keeps.step); (with_reducible apply Keeps.modMem) <;> intro _ h <;> first
          | exact h | exact mapWf_filter _ h | exact mapWf_mapClear _ _ h | exact mapWf_mapPutList _ _ h
          | exact mapWf_mapPut _ h (by decide))
    | split
    | dsimp only

theorem State.storeLive_keeps (s : State) (a) (d) : Keeps s (State.storeLive s a d) := by
  unfold State.storeLive
  repeat' first
    | with_reducible exact Keeps.refl _
    | ((with_reducible apply Keeps.step); (with_reducible apply State.mwrite_keeps))
    | ((with_reducible apply Keeps.step); (with_reducible apply Keeps.modMem) <;> intro _ h <;> first
          | exact h | exact mapWf_filter _ h | exact mapWf_mapClear _ _ h | exact mapWf_mapPutList _ _ h
          | exact mapWf_mapPut _ h (by decide))
    | split
    | dsimp only

theorem State.store_keeps (s : State) (a) (d) : Keeps s (State.store s a d) := by
  unfold State.store
  repeat' first
    | with_reducible exact Keeps.refl _
    | ((with_reducible apply Keeps.step); (with_reducible apply State.storeLive_keeps))
    | ((with_reducible apply Keeps.foldl); intro _ _)
    | ((with_reducible apply Keeps.foldlPair); intro _ _)
    | split
    | dsimp only

theorem State.poisonGranule_keeps (s : State) (g) : Keeps s (State.poisonGranule s g) := by
  unfold State.poisonGranule
  repeat' first
    | with_reducible exact Keeps.refl _
    | ((with_reducible apply Keeps.step); (with_reducible apply State.mwrite_keeps))
    | ((with_reducible apply Keeps.step); (with_reducible apply Keeps.modMem) <;> intro _ h <;> first
          | exact h | exact mapWf_filter _ h | exact mapWf_mapClear _ _ h | exact mapWf_mapPutList _ _ h
          | exact mapWf_mapPut _ h (by decide))
    | split
    | dsimp only

theorem State.enterFault_keeps (s : State) (t) (f) : Keeps s (State.enterFault s t f) := by
  unfold State.enterFault
  repeat' first
    | with_reducible exact Keeps.refl _
    | ((with_reducible apply Keeps.step); (with_reducible apply State.raise_keeps))
    | ((with_reducible apply Keeps.frame); (with_reducible first
          | apply State.bump_frame | apply State.setTile_frame); exact rfl)
    | split
    | dsimp only

theorem State.tileFault_keeps (s : State) (t) (code) (slot) : Keeps s (State.tileFault s t code slot) := by
  unfold State.tileFault
  repeat' first
    | with_reducible exact Keeps.refl _
    | ((with_reducible apply Keeps.step); (with_reducible apply State.enterFault_keeps))
    | ((with_reducible apply Keeps.frame); (with_reducible apply State.setTile_frame); exact rfl)
    | split
    | dsimp only

theorem State.asyncFault_keeps (s : State) (t) (code) (slot) : Keeps s (State.asyncFault s t code slot) := by
  unfold State.asyncFault
  repeat' first
    | with_reducible exact Keeps.refl _
    | ((with_reducible apply Keeps.step); (with_reducible apply State.tileFault_keeps))
    | split
    | dsimp only

theorem State.sigRefused_keeps (s : State) (tile) : Keeps s (State.sigRefused s tile) := by
  unfold State.sigRefused
  repeat' first
    | with_reducible exact Keeps.refl _
    | ((with_reducible apply Keeps.step); (with_reducible apply State.asyncFault_keeps))
    | ((with_reducible apply Keeps.frame); (with_reducible apply State.bump_frame); exact rfl)
    | split
    | dsimp only

theorem State.sendSig_keeps (s : State) (h) : Keeps s (State.sendSig s h) := by
  unfold State.sendSig
  repeat' first
    | with_reducible exact Keeps.refl _
    | ((with_reducible apply Keeps.step); (with_reducible apply State.sigRefused_keeps))
    | ((with_reducible apply Keeps.frame); (with_reducible first
          | apply State.applySig_frame | apply State.holdSig_frame | apply State.reach_frame); exact rfl)
    | ((apply Keeps.stepOpt (e := by assumption)); (with_reducible apply Keeps.frame);
        (with_reducible apply State.applySig_frame); exact rfl; exact Keeps.refl _)
    | split
    | dsimp only

theorem State.refusedSig_keeps (s : State) (addr) : Keeps s (State.refusedSig s addr) := by
  unfold State.refusedSig
  repeat' first
    | with_reducible exact Keeps.refl _
    | ((with_reducible apply Keeps.step); (with_reducible apply State.note_keeps))
    | ((with_reducible apply Keeps.frame); (with_reducible apply State.bump_frame); exact rfl)
    | split
    | dsimp only

theorem State.hubSig_keeps (s : State) (addr) (amount) (part) : Keeps s (State.hubSig s addr amount part) := by
  unfold State.hubSig
  repeat' first
    | with_reducible exact Keeps.refl _
    | ((with_reducible apply Keeps.step); (with_reducible apply State.sendSig_keeps))
    | split
    | dsimp only

theorem State.noPeer_keeps (s : State) (ep) : Keeps s (State.noPeer s ep) := by
  unfold State.noPeer
  repeat' first
    | with_reducible exact Keeps.refl _
    | ((with_reducible apply Keeps.step); (with_reducible apply State.note_keeps))
    | split
    | dsimp only

theorem State.rawWrite_keeps (s : State) (d) (ofs) (b) : Keeps s (State.rawWrite s d ofs b) := by
  unfold State.rawWrite
  repeat' first
    | with_reducible exact Keeps.refl _
    | ((with_reducible apply Keeps.step); (with_reducible apply State.store_keeps))
    | split
    | dsimp only

theorem State.setPrmHdr_keeps (s : State) (d) (h) : Keeps s (State.setPrmHdr s d h) := by
  unfold State.setPrmHdr
  repeat' first
    | with_reducible exact Keeps.refl _
    | ((with_reducible apply Keeps.step); (with_reducible apply State.rawWrite_keeps))
    | split
    | dsimp only

theorem State.finishNow_keeps (s : State) (k) (o) (f) : Keeps s (State.finishNow s k o f) := by
  unfold State.finishNow
  repeat' first
    | with_reducible exact Keeps.refl _
    | ((with_reducible apply Keeps.frame); (with_reducible first
          | apply State.bump_frame | apply State.unwait_frame | apply State.issueDone_frame
          | apply State.setSlot_frame | apply State.modFrm_frame | apply State.unwaitKv_frame
          | apply State.dropOp_frame | apply State.freeKey_frame | apply State.hold_frame
          | apply State.release_frame); exact rfl)
    | ((apply Keeps.stepPair (e := by assumption)); (with_reducible apply Keeps.frame);
        (with_reducible apply State.hold_frame); exact rfl; exact Keeps.refl _)
    | ((with_reducible apply Keeps.step); (with_reducible apply Keeps.modMem) <;> intro _ h <;> first
          | exact h | exact mapWf_filter _ h | exact mapWf_mapClear _ _ h | exact mapWf_mapPutList _ _ h
          | exact mapWf_mapPut _ h (by decide))
    | split
    | dsimp only

theorem State.finish_keeps (s : State) (k) (f) : Keeps s (State.finish s k f) := by
  unfold State.finish
  repeat' first
    | with_reducible exact Keeps.refl _
    | ((with_reducible apply Keeps.step); (with_reducible apply State.finishNow_keeps))
    | ((with_reducible apply Keeps.frame); (with_reducible apply State.setOp_frame); exact rfl)
    | split
    | dsimp only

theorem State.done_keeps (s : State) (k) (code) (aux) : Keeps s (State.done s k code aux) := by
  unfold State.done
  repeat' first
    | with_reducible exact Keeps.refl _
    | ((with_reducible apply Keeps.step); (with_reducible apply State.finish_keeps))
    | split
    | dsimp only

theorem State.doneAll_keeps (s : State) (ks) (code) (aux) : Keeps s (State.doneAll s ks code aux) := by
  unfold State.doneAll
  repeat' first
    | with_reducible exact Keeps.refl _
    | ((with_reducible apply Keeps.step); (with_reducible apply State.done_keeps))
    | ((with_reducible apply Keeps.foldl); intro _ _)
    | ((with_reducible apply Keeps.foldlPair); intro _ _)
    | split
    | dsimp only

theorem State.endEpoch_keeps (s : State) (ks) (unit) (dom) : Keeps s (State.endEpoch s ks unit dom) := by
  unfold State.endEpoch
  repeat' first
    | with_reducible exact Keeps.refl _
    | ((with_reducible apply Keeps.step); (with_reducible apply State.finish_keeps))
    | ((with_reducible apply Keeps.foldl); intro _ _)
    | ((with_reducible apply Keeps.foldlPair); intro _ _)
    | split
    | dsimp only

theorem State.barSignals_keeps (s : State) (b) : Keeps s (State.barSignals s b) := by
  unfold State.barSignals
  repeat' first
    | with_reducible exact Keeps.refl _
    | ((with_reducible apply Keeps.step); (with_reducible apply State.hubSig_keeps))
    | ((with_reducible apply Keeps.frame); (with_reducible apply State.modSyn_frame); exact rfl)
    | ((with_reducible apply Keeps.foldl); intro _ _)
    | ((with_reducible apply Keeps.foldlPair); intro _ _)
    | split
    | dsimp only

theorem State.barRelease_keeps (s : State) (b) : Keeps s (State.barRelease s b) := by
  unfold State.barRelease
  repeat' first
    | with_reducible exact Keeps.refl _
    | ((with_reducible apply Keeps.step); (with_reducible apply State.barSignals_keeps))
    | ((with_reducible apply Keeps.frame); (with_reducible first
          | apply State.bump_frame | apply State.setBar_frame); exact rfl)
    | split
    | dsimp only

theorem State.replayFrames_keeps (s : State) (part) (step) : Keeps s (State.replayFrames s part step) := by
  unfold State.replayFrames
  repeat' first
    | with_reducible exact Keeps.refl _
    | ((with_reducible apply Keeps.step); (with_reducible apply State.doneAll_keeps))
    | split
    | dsimp only

theorem State.markCtx_keeps (s : State) (i) (rule) : Keeps s (State.markCtx s i rule) := by
  unfold State.markCtx
  repeat' first
    | with_reducible exact Keeps.refl _
    | ((with_reducible apply Keeps.step); (with_reducible first
          | apply State.replayFrames_keeps | apply State.raise_keeps))
    | ((with_reducible apply Keeps.frame); (with_reducible first
          | apply State.bump_frame | apply State.setCtx_frame); exact rfl)
    | split
    | dsimp only

theorem State.markCommitted_keeps (s : State) (part) (step) (rule) :
    Keeps s (State.markCommitted s part step rule) := by
  unfold State.markCommitted
  repeat' first
    | with_reducible exact Keeps.refl _
    | ((with_reducible apply Keeps.step); (with_reducible first
          | apply State.doneAll_keeps | apply State.raise_keeps))
    | ((with_reducible apply Keeps.frame); (with_reducible apply State.bump_frame); exact rfl)
    | split
    | dsimp only

theorem State.mark_keeps (s : State) (part) (step) (rule) : Keeps s (State.mark s part step rule) := by
  unfold State.mark
  repeat' first
    | with_reducible exact Keeps.refl _
    | ((with_reducible apply Keeps.step); (with_reducible first
          | apply State.markCommitted_keeps | apply State.raise_keeps | apply State.markCtx_keeps))
    | split
    | dsimp only

theorem State.markStep_keeps (s : State) (part) (step) (rule) : Keeps s (State.markStep s part step rule) := by
  unfold State.markStep
  repeat' first
    | with_reducible exact Keeps.refl _
    | ((with_reducible apply Keeps.step); (with_reducible apply State.mark_keeps))
    | split
    | dsimp only

theorem State.abandonSignal_keeps (s : State) (entry) (part) (step) :
    Keeps s (State.abandonSignal s entry part step) := by
  unfold State.abandonSignal
  repeat' first
    | with_reducible exact Keeps.refl _
    | ((with_reducible apply Keeps.step); (with_reducible first
          | apply State.note_keeps | apply State.markStep_keeps))
    | ((with_reducible apply Keeps.frame); (with_reducible apply State.bump_frame); exact rfl)
    | split
    | dsimp only

theorem State.abandonBarrier_keeps (s : State) (b) (part) (step) : Keeps s (State.abandonBarrier s b part step) := by
  unfold State.abandonBarrier
  repeat' first
    | with_reducible exact Keeps.refl _
    | ((with_reducible apply Keeps.step); (with_reducible first
          | apply State.note_keeps | apply State.markStep_keeps))
    | split
    | dsimp only

theorem State.barFrame_keeps (s : State) (b) : Keeps s (State.barFrame s b) := by
  unfold State.barFrame
  repeat' first
    | with_reducible exact Keeps.refl _
    | ((with_reducible apply Keeps.step); (with_reducible first
          | apply State.abandonBarrier_keeps | apply State.noPeer_keeps))
    | ((with_reducible apply Keeps.frame); (with_reducible first
          | apply State.originate_frame | apply State.setBar_frame); exact rfl)
    | ((apply Keeps.stepOpt (e := by assumption)); (with_reducible apply Keeps.frame);
        (with_reducible apply State.originate_frame); exact rfl; exact Keeps.refl _)
    | split
    | dsimp only

theorem State.barLocalDone_keeps (s : State) (b) : Keeps s (State.barLocalDone s b) := by
  unfold State.barLocalDone
  repeat' first
    | with_reducible exact Keeps.refl _
    | ((with_reducible apply Keeps.step); (with_reducible apply State.barFrame_keeps))
    | split
    | dsimp only

theorem State.barReleaseAll_keeps (s : State) (b) : Keeps s (State.barReleaseAll s b) := by
  unfold State.barReleaseAll
  repeat' first
    | with_reducible exact Keeps.refl _
    | ((with_reducible apply Keeps.step); (with_reducible first
          | apply State.doneAll_keeps | apply State.barRelease_keeps | apply State.barLocalDone_keeps))
    | split
    | dsimp only

theorem State.barAdvance_keeps (s : State) (b) : Keeps s (State.barAdvance s b) := by
  unfold State.barAdvance
  repeat' first
    | with_reducible exact Keeps.refl _
    | ((with_reducible apply Keeps.step); (with_reducible first
          | apply State.barReleaseAll_keeps | apply State.barLocalDone_keeps))
    | split
    | dsimp only

theorem State.barArrive_keeps (s : State) (t) (b) : Keeps s (State.barArrive s t b) := by
  unfold State.barArrive
  repeat' first
    | with_reducible exact Keeps.refl _
    | ((with_reducible apply Keeps.step); (with_reducible first
          | apply State.note_keeps | apply State.barAdvance_keeps))
    | ((with_reducible apply Keeps.frame); (with_reducible apply State.setBar_frame); exact rfl)
    | split
    | dsimp only

theorem State.sendRemote_keeps (s : State) (t) (e) (amount) : Keeps s (State.sendRemote s t e amount) := by
  unfold State.sendRemote
  repeat' first
    | with_reducible exact Keeps.refl _
    | ((with_reducible apply Keeps.step); (with_reducible first
          | apply State.sendSig_keeps | apply State.sigRefused_keeps | apply State.barArrive_keeps))
    | ((with_reducible apply Keeps.frame); (with_reducible apply State.queueRemote_frame); exact rfl)
    | split
    | dsimp only

theorem State.sendSlot_keeps (s : State) (t) (fn) (ctr) (amount) (halt) :
    Keeps s (State.sendSlot s t fn ctr amount halt) := by
  unfold State.sendSlot
  repeat' first
    | with_reducible exact Keeps.refl _
    | ((with_reducible apply Keeps.step); (with_reducible first
          | apply State.sendSig_keeps | apply State.sendRemote_keeps))
    | split
    | dsimp only

theorem State.endFence_keeps (s : State) (t) (g) : Keeps s (State.endFence s t g) := by
  unfold State.endFence
  repeat' first
    | with_reducible exact Keeps.refl _
    | ((with_reducible apply Keeps.step); (with_reducible apply State.sendSlot_keeps))
    | ((with_reducible apply Keeps.frame); (with_reducible apply State.modTile_frame); exact rfl)
    | split
    | dsimp only

theorem State.fence_keeps (s : State) (t) (g) : Keeps s (State.fence s t g) := by
  unfold State.fence
  repeat' first
    | with_reducible exact Keeps.refl _
    | ((with_reducible apply Keeps.step); (with_reducible apply State.endFence_keeps))
    | ((with_reducible apply Keeps.frame); (with_reducible apply State.modTile_frame); exact rfl)
    | split
    | dsimp only

theorem State.syEffect_keeps (s : State) (t) (o) (was) (w) : Keeps s (State.syEffect s t o was w) := by
  unfold State.syEffect
  repeat' first
    | with_reducible exact Keeps.refl _
    | ((with_reducible apply Keeps.step); (with_reducible first
          | apply State.fence_keeps | apply State.sendSlot_keeps))
    | ((with_reducible apply Keeps.frame); (with_reducible first
          | apply State.tileBump_frame | apply State.modTile_frame); exact rfl)
    | split
    | dsimp only

theorem State.issueEffects_keeps (s : State) (t) (b) : Keeps s (State.issueEffects s t b) := by
  unfold State.issueEffects
  repeat' first
    | with_reducible exact Keeps.refl _
    | ((with_reducible apply Keeps.step); (with_reducible apply State.syEffect_keeps))
    | ((with_reducible apply Keeps.frame); (with_reducible first
          | apply State.setTile_frame | apply State.issueCounts_frame | apply State.arEffect_frame); exact rfl)
    | split
    | dsimp only

theorem State.issue_keeps (s : State) (t) (b) : Keeps s (State.issue s t b) := by
  unfold State.issue
  repeat' first
    | with_reducible exact Keeps.refl _
    | ((with_reducible apply Keeps.step); (with_reducible first
          | apply State.issueEffects_keeps | apply State.tileFault_keeps))
    | ((with_reducible apply Keeps.frame); (with_reducible first
          | apply State.bump_frame | apply State.tileBump_frame | apply State.holdIssue_frame); exact rfl)
    | split
    | dsimp only

theorem State.issueNext_keeps (s : State) (t) : Keeps s (State.issueNext s t) := by
  unfold State.issueNext
  repeat' first
    | with_reducible exact Keeps.refl _
    | ((with_reducible apply Keeps.step); (with_reducible apply State.issue_keeps))
    | split
    | dsimp only

theorem State.issueTiles_keeps (s : State) (l) : Keeps s (State.issueTiles s l) := by
  unfold State.issueTiles
  repeat' first
    | with_reducible exact Keeps.refl _
    | ((with_reducible apply Keeps.step); (with_reducible apply State.issueNext_keeps))
    | ((with_reducible apply Keeps.frame); (with_reducible apply State.rereadCtr_frame); exact rfl)
    | ((with_reducible apply Keeps.foldl); intro _ _)
    | ((with_reducible apply Keeps.foldlPair); intro _ _)
    | split
    | dsimp only

theorem State.issueEntry_keeps (s : State) (l) : Keeps s (State.issueEntry s l) := by
  unfold State.issueEntry
  repeat' first
    | with_reducible exact Keeps.refl _
    | ((with_reducible apply Keeps.step); (with_reducible apply State.issueTiles_keeps))
    | split
    | dsimp only

theorem State.healRaw_keeps (s : State) (d) (ofs) (len) : Keeps s (State.healRaw s d ofs len) := by
  unfold State.healRaw
  repeat' first
    | with_reducible exact Keeps.refl _
    | ((with_reducible apply Keeps.step); (with_reducible apply State.store_keeps))
    | ((with_reducible apply Keeps.foldl); intro _ _)
    | ((with_reducible apply Keeps.foldlPair); intro _ _)
    | split
    | dsimp only

theorem State.healMap_keeps (s : State) (d) (ofs) (len) : Keeps s (State.healMap s d ofs len) := by
  unfold State.healMap
  repeat' first
    | with_reducible exact Keeps.refl _
    | ((with_reducible apply Keeps.step); (with_reducible apply State.healRaw_keeps))
    | split
    | dsimp only

theorem State.rheal_keeps (s : State) (d) (ofs) (len) : Keeps s (State.rheal s d ofs len) := by
  unfold State.rheal
  repeat' first
    | with_reducible exact Keeps.refl _
    | ((with_reducible apply Keeps.step); (with_reducible first
          | apply State.healRaw_keeps | apply State.healMap_keeps))
    | ((with_reducible apply Keeps.foldl); intro _ _)
    | ((with_reducible apply Keeps.foldlPair); intro _ _)
    | split
    | dsimp only

theorem State.rwrite_keeps (s : State) (handle) (ofs) (b) (shadow) :
    Keeps s (State.rwrite s handle ofs b shadow) := by
  unfold State.rwrite
  repeat' first
    | with_reducible exact Keeps.refl _
    | ((with_reducible apply Keeps.step); (with_reducible apply State.store_keeps))
    | ((with_reducible apply Keeps.frame); (with_reducible apply State.dirtyLeaves_frame); exact rfl)
    | ((with_reducible apply Keeps.foldl); intro _ _)
    | ((with_reducible apply Keeps.foldlPair); intro _ _)
    | split
    | dsimp only

theorem State.setShadow_keeps (s : State) (d) (ofs) (len) : Keeps s (State.setShadow s d ofs len) := by
  unfold State.setShadow
  repeat' first
    | with_reducible exact Keeps.refl _
    | ((with_reducible apply Keeps.step); (with_reducible apply State.rawWrite_keeps))
    | ((with_reducible apply Keeps.foldl); intro _ _)
    | ((with_reducible apply Keeps.foldlPair); intro _ _)
    | split
    | dsimp only

theorem State.setLogHdr_keeps (s : State) (d) (h) : Keeps s (State.setLogHdr s d h) := by
  unfold State.setLogHdr
  repeat' first
    | with_reducible exact Keeps.refl _
    | ((with_reducible apply Keeps.step); (with_reducible apply State.rawWrite_keeps))
    | split
    | dsimp only

theorem State.setMapBit_keeps (s : State) (d) (o) (p) (v) : Keeps s (State.setMapBit s d o p v) := by
  unfold State.setMapBit
  repeat' first
    | with_reducible exact Keeps.refl _
    | ((with_reducible apply Keeps.step); (with_reducible apply State.rawWrite_keeps))
    | split
    | dsimp only

theorem State.setKvHdr_keeps (s : State) (d) (h) : Keeps s (State.setKvHdr s d h) := by
  unfold State.setKvHdr
  repeat' first
    | with_reducible exact Keeps.refl _
    | ((with_reducible apply Keeps.step); (with_reducible apply State.rawWrite_keeps))
    | split
    | dsimp only

theorem State.setKvCtx_keeps (s : State) (d) (c) (w) : Keeps s (State.setKvCtx s d c w) := by
  unfold State.setKvCtx
  repeat' first
    | with_reducible exact Keeps.refl _
    | ((with_reducible apply Keeps.step); (with_reducible apply State.rawWrite_keeps))
    | split
    | dsimp only

theorem State.keepCheck_keeps (s : State) (handle) (ofs) (g) : Keeps s (State.keepCheck s handle ofs g) := by
  unfold State.keepCheck
  repeat' first
    | with_reducible exact Keeps.refl _
    | ((with_reducible apply Keeps.step); (with_reducible apply State.noteCause_keeps))
    | ((with_reducible apply Keeps.frame); (with_reducible apply State.modRgn_frame); exact rfl)
    | split
    | dsimp only

theorem State.imgCheck_keeps (s : State) (handle) (ofs) (d) : Keeps s (State.imgCheck s handle ofs d) := by
  unfold State.imgCheck
  repeat' first
    | with_reducible exact Keeps.refl _
    | ((with_reducible apply Keeps.step); (with_reducible apply State.keepCheck_keeps))
    | split
    | dsimp only

theorem State.loadImage_keeps (s : State) (tiles) (handle) (ofs) (part) :
    Keeps s (State.loadImage s tiles handle ofs part).1 := by
  unfold State.loadImage
  repeat' first
    | with_reducible exact Keeps.refl _
    | ((with_reducible apply Keeps.step); (with_reducible apply State.imgCheck_keeps))
    | ((with_reducible apply Keeps.frame); (with_reducible apply State.fillTile_frame); exact rfl)
    | ((with_reducible apply Keeps.foldl); intro _ _)
    | ((with_reducible apply Keeps.foldlPair); intro _ _)
    | split
    | dsimp only

theorem State.settle_keeps (s : State) (t) : Keeps s (State.settle s t) := by
  unfold State.settle
  repeat' first
    | with_reducible exact Keeps.refl _
    | ((with_reducible apply Keeps.step); (with_reducible apply State.enterFault_keeps))
    | ((with_reducible apply Keeps.frame); (with_reducible apply State.setTile_frame); exact rfl)
    | split
    | dsimp only

theorem State.stopTile_keeps (s : State) (t) : Keeps s (State.stopTile s t) := by
  unfold State.stopTile
  repeat' first
    | with_reducible exact Keeps.refl _
    | ((with_reducible apply Keeps.step); (with_reducible apply State.settle_keeps))
    | ((with_reducible apply Keeps.frame); (with_reducible apply State.modTile_frame); exact rfl)
    | split
    | dsimp only

theorem State.endClose_keeps (s : State) (x) (code) (aux) : Keeps s (State.endClose s x code aux) := by
  unfold State.endClose
  repeat' first
    | with_reducible exact Keeps.refl _
    | ((with_reducible apply Keeps.step); (with_reducible apply State.doneAll_keeps))
    | ((with_reducible apply Keeps.frame); (with_reducible apply State.dropStorage_frame); exact rfl)
    | split
    | dsimp only

theorem State.breakSlot_keeps (s : State) (x) (f) (rule) : Keeps s (State.breakSlot s x f rule) := by
  unfold State.breakSlot
  repeat' first
    | with_reducible exact Keeps.refl _
    | ((with_reducible apply Keeps.step); (with_reducible first | apply State.finish_keeps | apply State.mark_keeps))
    | ((with_reducible apply Keeps.frame); (with_reducible first
          | apply State.whiskBump_frame | apply State.dropStorage_frame); exact rfl)
    | ((with_reducible apply Keeps.foldl); intro _ _)
    | ((with_reducible apply Keeps.foldlPair); intro _ _)
    | split
    | dsimp only

theorem State.storageFails_keeps (s : State) (x) (code) : Keeps s (State.storageFails s x code) := by
  unfold State.storageFails
  repeat' first
    | with_reducible exact Keeps.refl _
    | ((with_reducible apply Keeps.step); (with_reducible apply State.breakSlot_keeps))
    | split
    | dsimp only

theorem State.shortClose_keeps (s : State) (x) : Keeps s (State.shortClose s x) := by
  unfold State.shortClose
  repeat' first
    | with_reducible exact Keeps.refl _
    | ((with_reducible apply Keeps.step); (with_reducible apply State.breakSlot_keeps))
    | ((with_reducible apply Keeps.frame); (with_reducible apply State.whiskBump_frame); exact rfl)
    | split
    | dsimp only

theorem State.closeDue_keeps (s : State) (x) : Keeps s (State.closeDue s x) := by
  unfold State.closeDue
  repeat' first
    | with_reducible exact Keeps.refl _
    | ((with_reducible apply Keeps.step); (with_reducible apply State.shortClose_keeps))
    | ((with_reducible apply Keeps.frame); (with_reducible apply State.beginClose_frame); exact rfl)
    | split
    | dsimp only

theorem State.sendPartials_keeps (s : State) (x) (d) : Keeps s (State.sendPartials s x d) := by
  unfold State.sendPartials
  repeat' first
    | with_reducible exact Keeps.refl _
    | ((with_reducible apply Keeps.step); (with_reducible first
          | apply State.breakSlot_keeps | apply State.noPeer_keeps))
    | ((with_reducible apply Keeps.frame); (with_reducible first
          | apply State.setSlotRec_frame | apply State.originate_frame | apply State.modWsk_frame); exact rfl)
    | ((apply Keeps.stepOpt (e := by assumption)); (with_reducible apply Keeps.frame);
        (with_reducible apply State.originate_frame); exact rfl; exact Keeps.refl _)
    | ((with_reducible apply Keeps.foldl); intro _ _)
    | ((with_reducible apply Keeps.foldlPair); intro _ _)
    | split
    | dsimp only

theorem execAccum_keeps (req) (seq) (s : State) : Keeps s (nextState (execAccum req seq s) s) := by
  unfold execAccum State.runLive
  repeat' first
    | with_reducible exact Keeps.refl _
    | ((with_reducible apply Keeps.step); (with_reducible first
          | apply State.done_keeps | apply State.storageFails_keeps))
    | ((with_reducible apply Keeps.frame); (with_reducible first
          | apply State.spillRead_frame | apply State.accumulate_frame | apply State.whiskSpread_frame
          | apply State.closeIfFull_frame | apply State.wakeFor_frame); exact rfl)
    | ((apply Keeps.stepPair (e := by assumption)); (with_reducible apply Keeps.frame);
        (with_reducible apply State.spillRead_frame); exact rfl; exact Keeps.refl _)
    | split
    | dsimp only [nextState]

theorem execWindowedPartialApply_keeps (req) (seq) (s : State) :
    Keeps s (nextState (execWindowedPartialApply req seq s) s) := by
  unfold execWindowedPartialApply State.runLive
  repeat' first
    | with_reducible exact Keeps.refl _
    | ((with_reducible apply Keeps.step); (with_reducible first
          | apply State.mark_keeps | apply State.done_keeps | apply State.storageFails_keeps))
    | ((with_reducible apply Keeps.frame); (with_reducible first
          | apply State.spillRead_frame | apply State.setSlotRec_frame | apply State.whiskBump_frame
          | apply State.accumulate_frame | apply State.takeRoom_frame | apply State.closeIfFull_frame
          | apply State.wakeFor_frame); exact rfl)
    | ((apply Keeps.stepPair (e := by assumption)); (with_reducible apply Keeps.frame);
        (with_reducible apply State.spillRead_frame); exact rfl; exact Keeps.refl _)
    | split
    | dsimp only [nextState]

theorem execRedOpen_keeps (req) (seq) (s : State) : Keeps s (nextState (execRedOpen req seq s) s) := by
  unfold execRedOpen State.runLive
  repeat' first
    | with_reducible exact Keeps.refl _
    | ((with_reducible apply Keeps.step); (with_reducible apply State.done_keeps))
    | ((with_reducible apply Keeps.frame); (with_reducible apply State.wakeFor_frame); exact rfl)
    | split
    | dsimp only [nextState]

theorem execRedClose_keeps (req) (seq) (s : State) : Keeps s (nextState (execRedClose req seq s) s) := by
  unfold execRedClose State.runLive
  repeat' first
    | with_reducible exact Keeps.refl _
    | ((with_reducible apply Keeps.step); (with_reducible apply State.done_keeps))
    | ((with_reducible apply Keeps.frame); (with_reducible first
          | apply State.begin_frame | apply State.wakeFor_frame); exact rfl)
    | split
    | dsimp only [nextState]

theorem execSlotWaitExpiry_keeps (part) (slot) (s : State) :
    Keeps s (nextState (execSlotWaitExpiry part slot s) s) := by
  unfold execSlotWaitExpiry State.runLive
  repeat' first
    | with_reducible exact Keeps.refl _
    | ((with_reducible apply Keeps.step); (with_reducible apply State.closeDue_keeps))
    | split
    | dsimp only [nextState]

theorem execSlotCloseFtc_keeps (part) (slot) (s : State) : Keeps s (nextState (execSlotCloseFtc part slot s) s) := by
  unfold execSlotCloseFtc State.runLive
  repeat' first
    | with_reducible exact Keeps.refl _
    | ((with_reducible apply Keeps.step); (with_reducible apply State.closeDue_keeps))
    | split
    | dsimp only [nextState]

theorem State.partialGone_keeps (s : State) (key) (close) : Keeps s (State.partialGone s key close) := by
  unfold State.partialGone
  repeat' first
    | with_reducible exact Keeps.refl _
    | ((with_reducible apply Keeps.step); (with_reducible apply State.breakSlot_keeps))
    | split
    | dsimp only

theorem execPartialAnswer_keeps (ep) (seq) (code) (orig) (s : State) :
    Keeps s (nextState (execPartialAnswer ep seq code orig s) s) := by
  unfold execPartialAnswer State.runLive
  repeat' first
    | with_reducible exact Keeps.refl _
    | ((with_reducible apply Keeps.step); (with_reducible first
          | apply State.partialGone_keeps | apply State.endClose_keeps))
    | ((with_reducible apply Keeps.frame); (with_reducible first
          | apply State.setSlotRec_frame | apply State.endOrig_frame | apply State.resendOrig_frame
          | apply State.lateAnswer_frame); exact rfl)
    | split
    | dsimp only [nextState]

theorem State.mcAnswer_keeps (s : State) (k) : Keeps s (State.mcAnswer s k) := by
  unfold State.mcAnswer
  repeat' first
    | with_reducible exact Keeps.refl _
    | ((with_reducible apply Keeps.step); (with_reducible apply State.done_keeps))
    | ((with_reducible apply Keeps.frame); (with_reducible apply State.modMc_frame); exact rfl)
    | split
    | dsimp only

theorem State.noteLate_keeps (s : State) (d) : Keeps s (State.noteLate s d) := by
  unfold State.noteLate
  repeat' first
    | with_reducible exact Keeps.refl _
    | ((with_reducible apply Keeps.step); (with_reducible first | apply State.note_keeps | apply State.mark_keeps))
    | split
    | dsimp only

theorem State.enterOwed_keeps (s : State) (d) : Keeps s (State.enterOwed s d) := by
  unfold State.enterOwed
  repeat' first
    | with_reducible exact Keeps.refl _
    | ((with_reducible apply Keeps.step); (with_reducible first
          | apply State.mark_keeps | apply State.noteLate_keeps))
    | ((with_reducible apply Keeps.frame); (with_reducible first
          | apply State.whiskBump_frame | apply State.readyNext_frame | apply State.setDelivs_frame
          | apply State.dropDeliv_frame); exact rfl)
    | split
    | dsimp only

theorem State.delivered_keeps (s : State) (r) : Keeps s (State.delivered s r) := by
  unfold State.delivered
  repeat' first
    | with_reducible exact Keeps.refl _
    | ((with_reducible apply Keeps.step); (with_reducible apply State.mcAnswer_keeps))
    | ((with_reducible apply Keeps.frame); (with_reducible first
          | apply State.whiskBump_frame | apply State.readyNext_frame | apply State.setDelivs_frame
          | apply State.modFrm_frame); exact rfl)
    | split
    | dsimp only

theorem State.undelivered_keeps (s : State) (r) : Keeps s (State.undelivered s r) := by
  unfold State.undelivered
  repeat' first
    | with_reducible exact Keeps.refl _
    | ((with_reducible apply Keeps.step); (with_reducible first
          | apply State.mcAnswer_keeps | apply State.enterOwed_keeps))
    | ((with_reducible apply Keeps.frame); (with_reducible apply State.setDelivs_frame); exact rfl)
    | split
    | dsimp only

theorem execMcast_keeps (req) (seq) (s : State) : Keeps s (nextState (execMcast req seq s) s) := by
  unfold execMcast State.runLive
  repeat' first
    | with_reducible exact Keeps.refl _
    | ((with_reducible apply Keeps.step); (with_reducible first
          | apply State.rheal_keeps | apply State.rwrite_keeps | apply State.mcAnswer_keeps | apply State.done_keeps
          | apply State.enterOwed_keeps))
    | ((with_reducible apply Keeps.frame); (with_reducible first
          | apply State.chargeOp_frame | apply State.begin_frame | apply State.wakeFor_frame
          | apply State.modMc_frame); exact rfl)
    | ((with_reducible apply Keeps.foldl); intro _ _)
    | ((with_reducible apply Keeps.foldlPair); intro _ _)
    | split
    | dsimp only [nextState]

theorem State.oweExpire_keeps (s : State) (d) : Keeps s (State.oweExpire s d) := by
  unfold State.oweExpire
  repeat' first
    | with_reducible exact Keeps.refl _
    | ((with_reducible apply Keeps.step); (with_reducible first
          | apply State.mcAnswer_keeps | apply State.enterOwed_keeps))
    | ((with_reducible apply Keeps.frame); (with_reducible first
          | apply State.unstage_frame | apply State.retryFailed_frame); exact rfl)
    | split
    | dsimp only

theorem execOweWaitExpiry_keeps (group) (step) (member) (ofs) (s : State) :
    Keeps s (nextState (execOweWaitExpiry group step member ofs s) s) := by
  unfold execOweWaitExpiry State.runLive
  repeat' first
    | with_reducible exact Keeps.refl _
    | ((with_reducible apply Keeps.step); (with_reducible apply State.oweExpire_keeps))
    | split
    | dsimp only [nextState]

theorem State.oweStale_keeps (s : State) (p) : Keeps s (State.oweStale s p) := by
  unfold State.oweStale
  repeat' first
    | with_reducible exact Keeps.refl _
    | ((with_reducible apply Keeps.step); (with_reducible apply State.oweExpire_keeps))
    | ((with_reducible apply Keeps.foldl); intro _ _)
    | ((with_reducible apply Keeps.foldlPair); intro _ _)
    | split
    | dsimp only

theorem State.dropLate_keeps (s : State) (d) : Keeps s (State.dropLate s d) := by
  unfold State.dropLate
  repeat' first
    | with_reducible exact Keeps.refl _
    | ((with_reducible apply Keeps.step); (with_reducible apply State.note_keeps))
    | ((with_reducible apply Keeps.frame); (with_reducible first
          | apply State.unstage_frame | apply State.dropDeliv_frame); exact rfl)
    | split
    | dsimp only

theorem execMcastDeadline_keeps (part) (step) (s : State) :
    Keeps s (nextState (execMcastDeadline part step s) s) := by
  unfold execMcastDeadline State.runLive
  repeat' first
    | with_reducible exact Keeps.refl _
    | ((with_reducible apply Keeps.step); (with_reducible first
          | apply State.dropLate_keeps | apply State.mark_keeps))
    | ((with_reducible apply Keeps.foldl); intro _ _)
    | ((with_reducible apply Keeps.foldlPair); intro _ _)
    | split
    | dsimp only [nextState]

theorem State.claimPages_keeps (s : State) (y) : Keeps s (State.claimPages s y) := by
  unfold State.claimPages
  repeat' first
    | with_reducible exact Keeps.refl _
    | ((with_reducible apply Keeps.step); (with_reducible first
          | apply State.setMapBit_keeps | apply State.rawWrite_keeps))
    | ((with_reducible apply Keeps.frame); (with_reducible apply State.modPar_frame); exact rfl)
    | ((with_reducible apply Keeps.foldl); intro _ _)
    | ((with_reducible apply Keeps.foldlPair); intro _ _)
    | split
    | dsimp only

theorem State.admitRedOpen_keeps (s : State) (h) : Keeps s (State.admitRedOpen s h) := by
  unfold State.admitRedOpen
  repeat' first
    | with_reducible exact Keeps.refl _
    | ((with_reducible apply Keeps.step); (with_reducible apply State.claimPages_keeps))
    | ((with_reducible apply Keeps.frame); (with_reducible apply State.openSlot_frame); exact rfl)
    | split
    | dsimp only

theorem State.mirrorFrame_keeps (s : State) (d) (id) (part) (step) (ofs) (len) :
    Keeps s (State.mirrorFrame s d id part step ofs len).1 := by
  unfold State.mirrorFrame
  repeat' first
    | with_reducible exact Keeps.refl _
    | ((with_reducible apply Keeps.step); (with_reducible first | apply State.mark_keeps | apply State.noPeer_keeps))
    | ((with_reducible apply Keeps.frame); (with_reducible apply State.originate_frame); exact rfl)
    | ((apply Keeps.stepOpt (e := by assumption)); (with_reducible apply Keeps.frame);
        (with_reducible apply State.originate_frame); exact rfl; exact Keeps.refl _)
    | split
    | dsimp only

theorem State.startMirror_keeps (s : State) (desc) (ix) (part) (step) (ofs) (len) (pages) :
    Keeps s (State.startMirror s desc ix part step ofs len pages) := by
  unfold State.startMirror
  repeat' first
    | with_reducible exact Keeps.refl _
    | ((with_reducible apply Keeps.step); (with_reducible apply State.mirrorFrame_keeps))
    | ((with_reducible apply Keeps.frame); (with_reducible first
          | apply State.modPar_frame | apply State.setMirrored_frame); exact rfl)
    | ((apply Keeps.stepPair (e := by assumption)); (with_reducible apply State.mirrorFrame_keeps))
    | ((with_reducible apply Keeps.foldl); intro _ _)
    | ((with_reducible apply Keeps.foldlPair); intro _ _)
    | split
    | dsimp only

theorem State.mirrorHeader_keeps (s : State) (desc) (ix) (part) (step) :
    Keeps s (State.mirrorHeader s desc ix part step) := by
  unfold State.mirrorHeader
  repeat' first
    | with_reducible exact Keeps.refl _
    | ((with_reducible apply Keeps.step); (with_reducible apply State.startMirror_keeps))
    | split
    | dsimp only

theorem State.logClosed_keeps (s : State) (x) : Keeps s (State.logClosed s x) := by
  unfold State.logClosed
  repeat' first
    | with_reducible exact Keeps.refl _
    | ((with_reducible apply Keeps.step); (with_reducible first
          | apply State.setMapBit_keeps | apply State.startMirror_keeps))
    | ((with_reducible apply Keeps.foldl); intro _ _)
    | ((with_reducible apply Keeps.foldlPair); intro _ _)
    | split
    | dsimp only

theorem State.closeOwner_keeps (s : State) (x) : Keeps s (State.closeOwner s x) := by
  unfold State.closeOwner
  repeat' first
    | with_reducible exact Keeps.refl _
    | ((with_reducible apply Keeps.step); (with_reducible first
          | apply State.rwrite_keeps | apply State.logClosed_keeps | apply State.endClose_keeps
          | apply State.mark_keeps))
    | ((with_reducible apply Keeps.frame); (with_reducible first
          | apply State.whiskSpread_frame | apply State.chargeOp_frame); exact rfl)
    | split
    | dsimp only

theorem execSlotClose_keeps (part) (slot) (s : State) : Keeps s (nextState (execSlotClose part slot s) s) := by
  unfold execSlotClose State.runLive
  repeat' first
    | with_reducible exact Keeps.refl _
    | ((with_reducible apply Keeps.step); (with_reducible first
          | apply State.sendPartials_keeps | apply State.closeOwner_keeps | apply State.storageFails_keeps
          | apply State.shortClose_keeps))
    | ((with_reducible apply Keeps.frame); (with_reducible apply State.spillRead_frame); exact rfl)
    | ((apply Keeps.stepPair (e := by assumption)); (with_reducible apply Keeps.frame);
        (with_reducible apply State.spillRead_frame); exact rfl; exact Keeps.refl _)
    | split
    | dsimp only [nextState]

theorem State.xferStart_keeps (s : State) (t) : Keeps s (State.xferStart s t) := by
  unfold State.xferStart
  repeat' first
    | with_reducible exact Keeps.refl _
    | ((with_reducible apply Keeps.step); (with_reducible first
          | apply State.settle_keeps | apply State.asyncFault_keeps))
    | ((with_reducible apply Keeps.frame); (with_reducible first
          | apply State.tileBump_frame | apply State.modTile_frame); exact rfl)
    | split
    | dsimp only

theorem State.xferPoison_keeps (s : State) (t) (g) (d) : Keeps s (State.xferPoison s t g d) := by
  unfold State.xferPoison
  repeat' first
    | with_reducible exact Keeps.refl _
    | ((with_reducible apply Keeps.frame); (with_reducible apply State.modTile_frame); exact rfl)
    | ((with_reducible apply Keeps.step); (with_reducible apply Keeps.modMem) <;> intro _ h <;> first
          | exact h | exact mapWf_filter _ h | exact mapWf_mapClear _ _ h | exact mapWf_mapPutList _ _ h
          | exact mapWf_mapPut _ h (by decide))
    | split
    | dsimp only

theorem State.xferMove_keeps (s : State) (t) (d) : Keeps s (State.xferMove s t d) := by
  unfold State.xferMove
  repeat' first
    | with_reducible exact Keeps.refl _
    | ((with_reducible apply Keeps.step); (with_reducible first
          | apply State.rheal_keeps | apply State.rwrite_keeps | apply State.xferPoison_keeps
          | apply State.setShadow_keeps))
    | ((with_reducible apply Keeps.frame); (with_reducible first
          | apply State.modPar_frame | apply State.bump_frame | apply State.dmWrite_frame); exact rfl)
    | ((with_reducible apply Keeps.foldl); intro _ _)
    | ((with_reducible apply Keeps.foldlPair); intro _ _)
    | split
    | dsimp only

theorem State.xferSignal_keeps (s : State) (t) (d) : Keeps s (State.xferSignal s t d) := by
  unfold State.xferSignal
  repeat' first
    | with_reducible exact Keeps.refl _
    | ((with_reducible apply Keeps.step); (with_reducible first
          | apply State.sendSig_keeps | apply State.asyncFault_keeps))
    | ((with_reducible apply Keeps.frame); (with_reducible apply State.bump_frame); exact rfl)
    | split
    | dsimp only

theorem State.xferEnd_keeps (s : State) (t) : Keeps s (State.xferEnd s t) := by
  unfold State.xferEnd
  repeat' first
    | with_reducible exact Keeps.refl _
    | ((with_reducible apply Keeps.step); (with_reducible first
          | apply State.xferMove_keeps | apply State.settle_keeps | apply State.xferSignal_keeps))
    | ((with_reducible apply Keeps.frame); (with_reducible first
          | apply State.xferCounts_frame | apply State.modTile_frame | apply State.chargeXfer_frame); exact rfl)
    | split
    | dsimp only

theorem State.fenceEnd_keeps (s : State) (t) : Keeps s (State.fenceEnd s t) := by
  unfold State.fenceEnd
  repeat' first
    | with_reducible exact Keeps.refl _
    | ((with_reducible apply Keeps.step); (with_reducible first
          | apply State.endFence_keeps | apply State.settle_keeps))
    | ((with_reducible apply Keeps.frame); (with_reducible apply State.modTile_frame); exact rfl)
    | split
    | dsimp only

theorem State.mmaNext_keeps (s : State) (t) : Keeps s (State.mmaNext s t) := by
  unfold State.mmaNext
  repeat' first
    | with_reducible exact Keeps.refl _
    | ((with_reducible apply Keeps.step); (with_reducible apply State.settle_keeps))
    | ((with_reducible apply Keeps.frame); (with_reducible apply State.mmaTurn_frame); exact rfl)
    | split
    | dsimp only

theorem State.xferFreed_keeps (s : State) (t) : Keeps s (State.xferFreed s t) := by
  unfold State.xferFreed
  repeat' first
    | with_reducible exact Keeps.refl _
    | ((with_reducible apply Keeps.step); (with_reducible apply State.issueTiles_keeps))
    | split
    | dsimp only

theorem execTransferStart_keeps (tile) (s : State) : Keeps s (nextState (execTransferStart tile s) s) := by
  unfold execTransferStart State.runLive
  repeat' first
    | with_reducible exact Keeps.refl _
    | ((with_reducible apply Keeps.step); (with_reducible first
          | apply State.xferFreed_keeps | apply State.xferStart_keeps))
    | split
    | dsimp only [nextState]

theorem execTransferComplete_keeps (tile) (s : State) : Keeps s (nextState (execTransferComplete tile s) s) := by
  unfold execTransferComplete State.runLive
  repeat' first
    | with_reducible exact Keeps.refl _
    | ((with_reducible apply Keeps.step); (with_reducible apply State.xferEnd_keeps))
    | split
    | dsimp only [nextState]

theorem execMmaStart_keeps (tile) (s : State) : Keeps s (nextState (execMmaStart tile s) s) := by
  unfold execMmaStart State.runLive
  repeat' first
    | with_reducible exact Keeps.refl _
    | ((with_reducible apply Keeps.step); (with_reducible apply State.mmaNext_keeps))
    | split
    | dsimp only [nextState]

theorem execFenceComplete_keeps (tile) (s : State) : Keeps s (nextState (execFenceComplete tile s) s) := by
  unfold execFenceComplete State.runLive
  repeat' first
    | with_reducible exact Keeps.refl _
    | ((with_reducible apply Keeps.step); (with_reducible apply State.fenceEnd_keeps))
    | split
    | dsimp only [nextState]

theorem execTileLoad_keeps (first) (count) (handle) (ofs) (part) (s : State) :
    Keeps s (nextState (execTileLoad first count handle ofs part s) s) := by
  unfold execTileLoad State.runLive
  repeat' first
    | with_reducible exact Keeps.refl _
    | ((with_reducible apply Keeps.step); (with_reducible apply State.loadImage_keeps))
    | ((with_reducible apply Keeps.frame); (with_reducible first
          | apply State.setsLoaded_frame | apply State.wakeRun_frame); exact rfl)
    | ((apply Keeps.stepPair (e := by assumption)); (with_reducible apply State.loadImage_keeps))
    | ((apply Keeps.stepPair (e := by assumption)); (with_reducible apply Keeps.frame);
        (with_reducible apply State.wakeRun_frame); exact rfl; exact Keeps.refl _)
    | split
    | dsimp only [nextState]

theorem execImageHashCheck_keeps (desc) (ofs) (s : State) :
    Keeps s (nextState (execImageHashCheck desc ofs s) s) := by
  unfold execImageHashCheck State.runDuty
  repeat' first
    | with_reducible exact Keeps.refl _
    | ((with_reducible apply Keeps.step); (with_reducible apply State.imgCheck_keeps))
    | split
    | dsimp only [nextState]

theorem State.refuseStart_keeps (s : State) (t) : Keeps s (State.refuseStart s t) := by
  unfold State.refuseStart
  repeat' first
    | with_reducible exact Keeps.refl _
    | ((with_reducible apply Keeps.step); (with_reducible apply State.note_keeps))
    | ((with_reducible apply Keeps.frame); (with_reducible apply State.modTile_frame); exact rfl)
    | split
    | dsimp only

theorem execTileStart_keeps (tile) (s : State) : Keeps s (nextState (execTileStart tile s) s) := by
  unfold execTileStart State.runLive
  repeat' first
    | with_reducible exact Keeps.refl _
    | ((with_reducible apply Keeps.step); (with_reducible first
          | apply State.refuseStart_keeps | apply State.issueEntry_keeps))
    | ((with_reducible apply Keeps.frame); (with_reducible first
          | apply State.restartTile_frame | apply State.resumeTile_frame | apply State.beginTile_frame); exact rfl)
    | split
    | dsimp only [nextState]

theorem execTileStop_keeps (tile) (s : State) : Keeps s (nextState (execTileStop tile s) s) := by
  unfold execTileStop State.runLive
  repeat' first
    | with_reducible exact Keeps.refl _
    | ((with_reducible apply Keeps.step); (with_reducible apply State.stopTile_keeps))
    | split
    | dsimp only [nextState]

theorem State.restoreTile_keeps (s : State) (t) : Keeps s (State.restoreTile s t) := by
  unfold State.restoreTile
  repeat' first
    | with_reducible exact Keeps.refl _
    | ((with_reducible apply Keeps.step); (with_reducible apply State.markStep_keeps))
    | ((with_reducible apply Keeps.frame); (with_reducible first
          | apply State.modTl_frame | apply State.modTile_frame); exact rfl)
    | split
    | dsimp only

theorem execTileRestore_keeps (tile) (s : State) : Keeps s (nextState (execTileRestore tile s) s) := by
  unfold execTileRestore State.runLive
  repeat' first
    | with_reducible exact Keeps.refl _
    | ((with_reducible apply Keeps.step); (with_reducible apply State.restoreTile_keeps))
    | split
    | dsimp only [nextState]

theorem State.openRegion_keeps (s : State) (d) (step) : Keeps s (State.openRegion s d step) := by
  unfold State.openRegion
  repeat' first
    | with_reducible exact Keeps.refl _
    | ((with_reducible apply Keeps.step); (with_reducible apply State.setPrmHdr_keeps))
    | split
    | dsimp only

theorem State.admitOptStep_keeps (s : State) (hd) : Keeps s (State.admitOptStep s hd) := by
  unfold State.admitOptStep
  repeat' first
    | with_reducible exact Keeps.refl _
    | ((with_reducible apply Keeps.step); (with_reducible apply State.openRegion_keeps))
    | ((with_reducible apply Keeps.frame); (with_reducible apply State.modPar_frame); exact rfl)
    | split
    | dsimp only

theorem State.openParam_keeps (s : State) (o) : Keeps s (State.openParam s o) := by
  unfold State.openParam
  repeat' first
    | with_reducible exact Keeps.refl _
    | ((with_reducible apply Keeps.step); (with_reducible first
          | apply State.setPrmHdr_keeps | apply State.openRegion_keeps))
    | ((with_reducible apply Keeps.frame); (with_reducible apply State.modClaim_frame); exact rfl)
    | split
    | dsimp only

theorem State.recordUpdate_keeps (s : State) (o) : Keeps s (State.recordUpdate s o) := by
  unfold State.recordUpdate
  repeat' first
    | with_reducible exact Keeps.refl _
    | ((with_reducible apply Keeps.step); (with_reducible apply State.rawWrite_keeps))
    | ((with_reducible apply Keeps.frame); (with_reducible apply State.modClaim_frame); exact rfl)
    | split
    | dsimp only

theorem execOptStep_keeps (req) (seq) (s : State) : Keeps s (nextState (execOptStep req seq s) s) := by
  unfold execOptStep State.runLive
  repeat' first
    | with_reducible exact Keeps.refl _
    | ((with_reducible apply Keeps.step); (with_reducible first
          | apply State.recordUpdate_keeps | apply State.openParam_keeps | apply State.done_keeps))
    | ((with_reducible apply Keeps.frame); (with_reducible first
          | apply State.modPar_frame | apply State.begin_frame | apply State.setUpd_frame
          | apply State.wakeFor_frame); exact rfl)
    | split
    | dsimp only [nextState]

theorem State.loadOpt_keeps (s : State) (u) (opt) : Keeps s (State.loadOpt s u opt).1 := by
  unfold State.loadOpt
  repeat' first
    | with_reducible exact Keeps.refl _
    | ((with_reducible apply Keeps.step); (with_reducible apply State.loadImage_keeps))
    | ((with_reducible apply Keeps.frame); (with_reducible apply State.loadLib_frame); exact rfl)
    | ((apply Keeps.stepPair (e := by assumption)); (with_reducible apply State.loadImage_keeps))
    | ((apply Keeps.stepPair (e := by assumption)); (with_reducible apply Keeps.frame);
        (with_reducible apply State.loadLib_frame); exact rfl; exact Keeps.refl _)
    | split
    | dsimp only

theorem State.startRun_keeps (s : State) (tiles) (args) (part) (cls) (step) :
    Keeps s (State.startRun s tiles args part cls step) := by
  unfold State.startRun
  repeat' first
    | with_reducible exact Keeps.refl _
    | ((with_reducible apply Keeps.step); (with_reducible apply State.issueEntry_keeps))
    | ((with_reducible apply Keeps.frame); (with_reducible apply State.beginRun_frame); exact rfl)
    | split
    | dsimp only

theorem State.optFails_keeps (s : State) (u) (o) : Keeps s (State.optFails s u o) := by
  unfold State.optFails
  repeat' first
    | with_reducible exact Keeps.refl _
    | ((with_reducible apply Keeps.step); (with_reducible first
          | apply State.markStep_keeps | apply State.stopTile_keeps | apply State.done_keeps))
    | ((with_reducible apply Keeps.frame); (with_reducible apply State.setUpd_frame); exact rfl)
    | ((with_reducible apply Keeps.foldl); intro _ _)
    | ((with_reducible apply Keeps.foldlPair); intro _ _)
    | split
    | dsimp only

theorem execUpdateStart_keeps (set) (s : State) : Keeps s (nextState (execUpdateStart set s) s) := by
  unfold execUpdateStart State.runLive
  repeat' first
    | with_reducible exact Keeps.refl _
    | ((with_reducible apply Keeps.step); (with_reducible first
          | apply State.optFails_keeps | apply State.startRun_keeps | apply State.loadOpt_keeps))
    | ((with_reducible apply Keeps.frame); (with_reducible first
          | apply State.wakeRun_frame | apply State.setUpd_frame); exact rfl)
    | ((apply Keeps.stepPair (e := by assumption)); (with_reducible apply State.loadOpt_keeps))
    | ((apply Keeps.stepPair (e := by assumption)); (with_reducible apply Keeps.frame);
        (with_reducible apply State.wakeRun_frame); exact rfl; exact Keeps.refl _)
    | split
    | dsimp only [nextState]

theorem State.updatePage_keeps (s : State) (handle) (opt) (step) (seed) (p) (hs) :
    Keeps s (State.updatePage s handle opt step seed p hs) := by
  unfold State.updatePage
  repeat' first
    | with_reducible exact Keeps.refl _
    | ((with_reducible apply Keeps.step); (with_reducible first
          | apply State.rwrite_keeps | apply State.setShadow_keeps))
    | ((with_reducible apply Keeps.frame); (with_reducible first
          | apply State.modPar_frame | apply State.bump_frame); exact rfl)
    | split
    | dsimp only

theorem State.optHeal_keeps (s : State) (handle) (step) (first) (npg) :
    Keeps s (State.optHeal s handle step first npg) := by
  unfold State.optHeal
  repeat' first
    | with_reducible exact Keeps.refl _
    | ((with_reducible apply Keeps.step); (with_reducible apply State.rheal_keeps))
    | split
    | dsimp only

theorem State.updDone_keeps (s : State) (u) (o) (aux) : Keeps s (State.updDone s u o aux) := by
  unfold State.updDone
  repeat' first
    | with_reducible exact Keeps.refl _
    | ((with_reducible apply Keeps.step); (with_reducible apply State.finish_keeps))
    | ((with_reducible apply Keeps.frame); (with_reducible first
          | apply State.bump_frame | apply State.updFree_frame | apply State.modClaim_frame); exact rfl)
    | split
    | dsimp only

theorem State.updPoison_keeps (s : State) (u) (o) (code) (aux) : Keeps s (State.updPoison s u o code aux) := by
  unfold State.updPoison
  repeat' first
    | with_reducible exact Keeps.refl _
    | ((with_reducible apply Keeps.step); (with_reducible first
          | apply State.markStep_keeps | apply State.finish_keeps))
    | ((with_reducible apply Keeps.frame); (with_reducible apply State.updFree_frame); exact rfl)
    | split
    | dsimp only

theorem State.updShipped_keeps (s : State) (u) (o) : Keeps s (State.updShipped s u o) := by
  unfold State.updShipped
  repeat' first
    | with_reducible exact Keeps.refl _
    | ((with_reducible apply Keeps.step); (with_reducible first
          | apply State.updDone_keeps | apply State.optHeal_keeps | apply State.updPoison_keeps
          | apply State.updatePage_keeps))
    | ((with_reducible apply Keeps.frame); (with_reducible first
          | apply State.chargeOp_frame | apply State.haltRun_frame); exact rfl)
    | ((with_reducible apply Keeps.foldl); intro _ _)
    | ((with_reducible apply Keeps.foldlPair); intro _ _)
    | split
    | dsimp only

theorem State.updCustom_keeps (s : State) (u) (o) : Keeps s (State.updCustom s u o) := by
  unfold State.updCustom
  repeat' first
    | with_reducible exact Keeps.refl _
    | ((with_reducible apply Keeps.step); (with_reducible first
          | apply State.optFails_keeps | apply State.updDone_keeps | apply State.updPoison_keeps))
    | split
    | dsimp only

theorem execUpdateComplete_keeps (set) (s : State) : Keeps s (nextState (execUpdateComplete set s) s) := by
  unfold execUpdateComplete State.runLive
  repeat' first
    | with_reducible exact Keeps.refl _
    | ((with_reducible apply Keeps.step); (with_reducible first
          | apply State.optFails_keeps | apply State.updCustom_keeps | apply State.updShipped_keeps))
    | ((with_reducible apply Keeps.frame); (with_reducible first
          | apply State.updFree_frame | apply State.haltRun_frame); exact rfl)
    | split
    | dsimp only [nextState]

theorem State.mirrorFails_keeps (s : State) (id) (m) : Keeps s (State.mirrorFails s id m) := by
  unfold State.mirrorFails
  repeat' first
    | with_reducible exact Keeps.refl _
    | ((with_reducible apply Keeps.step); (with_reducible apply State.mark_keeps))
    | ((with_reducible apply Keeps.frame); (with_reducible apply State.modPar_frame); exact rfl)
    | split
    | dsimp only

theorem execMirrorWaitExpiry_keeps (id) (s : State) : Keeps s (nextState (execMirrorWaitExpiry id s) s) := by
  unfold execMirrorWaitExpiry State.runLive
  repeat' first
    | with_reducible exact Keeps.refl _
    | ((with_reducible apply Keeps.step); (with_reducible apply State.mirrorFails_keeps))
    | split
    | dsimp only [nextState]

theorem State.returnSlots_keeps (s : State) (d) (ctx) : Keeps s (State.returnSlots s d ctx) := by
  unfold State.returnSlots
  repeat' first
    | with_reducible exact Keeps.refl _
    | ((with_reducible apply Keeps.step); (with_reducible first
          | apply State.setKvHdr_keeps | apply State.rawWrite_keeps))
    | ((with_reducible apply Keeps.foldl); intro _ _)
    | ((with_reducible apply Keeps.foldlPair); intro _ _)
    | split
    | dsimp only

theorem State.admitKvAppend_keeps (s : State) (k) (o) : Keeps s (State.admitKvAppend s k o) := by
  unfold State.admitKvAppend
  repeat' first
    | with_reducible exact Keeps.refl _
    | ((with_reducible apply Keeps.step); (with_reducible apply State.setKvCtx_keeps))
    | ((with_reducible apply Keeps.frame); (with_reducible apply State.modAtt_frame); exact rfl)
    | split
    | dsimp only

theorem State.cleanCtx_keeps (s : State) (d) (ctx) : Keeps s (State.cleanCtx s d ctx) := by
  unfold State.cleanCtx
  repeat' first
    | with_reducible exact Keeps.refl _
    | ((with_reducible apply Keeps.step); (with_reducible first
          | apply State.setKvCtx_keeps | apply State.returnSlots_keeps))
    | split
    | dsimp only

theorem State.bindSpill_keeps (s : State) (d) (r) : Keeps s (State.bindSpill s d r) := by
  unfold State.bindSpill
  repeat' first
    | with_reducible exact Keeps.refl _
    | ((with_reducible apply Keeps.step); (with_reducible apply State.setKvCtx_keeps))
    | ((with_reducible apply Keeps.frame); (with_reducible apply State.modAtt_frame); exact rfl)
    | split
    | dsimp only

theorem State.appendPage_keeps (s : State) (o) (d) (p) : Keeps s (State.appendPage s o d p) := by
  unfold State.appendPage
  repeat' first
    | with_reducible exact Keeps.refl _
    | ((with_reducible apply Keeps.step); (with_reducible first
          | apply State.rwrite_keeps | apply State.setKvHdr_keeps | apply State.setMapBit_keeps
          | apply State.rawWrite_keeps))
    | ((with_reducible apply Keeps.foldl); intro _ _)
    | ((with_reducible apply Keeps.foldlPair); intro _ _)
    | split
    | dsimp only

theorem execKvAppend_keeps (req) (seq) (s : State) : Keeps s (nextState (execKvAppend req seq s) s) := by
  unfold execKvAppend State.runLive
  repeat' first
    | with_reducible exact Keeps.refl _
    | ((with_reducible apply Keeps.step); (with_reducible first
          | apply State.finish_keeps | apply State.appendPage_keeps))
    | ((with_reducible apply Keeps.frame); (with_reducible first
          | apply State.dirtyFrom_frame | apply State.chargeOp_frame | apply State.wakeFor_frame); exact rfl)
    | ((with_reducible apply Keeps.foldl); intro _ _)
    | ((with_reducible apply Keeps.foldlPair); intro _ _)
    | split
    | dsimp only [nextState]

theorem State.endQuery_keeps (s : State) (k) (code) (aux) : Keeps s (State.endQuery s k code aux) := by
  unfold State.endQuery
  repeat' first
    | with_reducible exact Keeps.refl _
    | ((with_reducible apply Keeps.step); (with_reducible first
          | apply State.finish_keeps | apply State.stopTile_keeps))
    | ((with_reducible apply Keeps.frame); (with_reducible apply State.setAttSet_frame); exact rfl)
    | ((with_reducible apply Keeps.foldl); intro _ _)
    | ((with_reducible apply Keeps.foldlPair); intro _ _)
    | split
    | dsimp only

theorem State.spillFails_keeps (s : State) (k) (ep) : Keeps s (State.spillFails s k ep) := by
  unfold State.spillFails
  repeat' first
    | with_reducible exact Keeps.refl _
    | ((with_reducible apply Keeps.step); (with_reducible first
          | apply State.note_keeps | apply State.endQuery_keeps))
    | ((with_reducible apply Keeps.frame); (with_reducible apply State.bump_frame); exact rfl)
    | split
    | dsimp only

theorem State.forward_keeps (s : State) (o) (r) (i) : Keeps s (State.forward s o r i) := by
  unfold State.forward
  repeat' first
    | with_reducible exact Keeps.refl _
    | ((with_reducible apply Keeps.step); (with_reducible first
          | apply State.spillFails_keeps | apply State.noPeer_keeps))
    | ((with_reducible apply Keeps.frame); (with_reducible first
          | apply State.bump_frame | apply State.originate_frame); exact rfl)
    | ((apply Keeps.stepOpt (e := by assumption)); (with_reducible apply Keeps.frame);
        (with_reducible apply State.originate_frame); exact rfl; exact Keeps.refl _)
    | split
    | dsimp only

theorem State.forwardAll_keeps (s : State) (o) : Keeps s (State.forwardAll s o) := by
  unfold State.forwardAll
  repeat' first
    | with_reducible exact Keeps.refl _
    | ((with_reducible apply Keeps.step); (with_reducible apply State.forward_keeps))
    | ((with_reducible apply Keeps.frame); (with_reducible apply State.setQuery_frame); exact rfl)
    | ((with_reducible apply Keeps.foldl); intro _ _)
    | ((with_reducible apply Keeps.foldlPair); intro _ _)
    | split
    | dsimp only

theorem execAttnQuery_keeps (req) (seq) (s : State) : Keeps s (nextState (execAttnQuery req seq s) s) := by
  unfold execAttnQuery State.runLive
  repeat' first
    | with_reducible exact Keeps.refl _
    | ((with_reducible apply Keeps.step); (with_reducible first
          | apply State.forwardAll_keeps | apply State.endQuery_keeps))
    | ((with_reducible apply Keeps.frame); (with_reducible first
          | apply State.begin_frame | apply State.wakeFor_frame); exact rfl)
    | split
    | dsimp only [nextState]

theorem State.toInbox_keeps (s : State) (t) (part) (i) (b) : Keeps s (State.toInbox s t part i b) := by
  unfold State.toInbox
  repeat' first
    | with_reducible exact Keeps.refl _
    | ((with_reducible apply Keeps.step); (with_reducible apply State.hubSig_keeps))
    | ((with_reducible apply Keeps.frame); (with_reducible apply State.modTile_frame); exact rfl)
    | split
    | dsimp only

theorem State.startQuery_keeps (s : State) (i) (o) (q) : Keeps s (State.startQuery s i o q) := by
  unfold State.startQuery
  repeat' first
    | with_reducible exact Keeps.refl _
    | ((with_reducible apply Keeps.step); (with_reducible first
          | apply State.toInbox_keeps | apply State.issueEntry_keeps))
    | ((with_reducible apply Keeps.frame); (with_reducible first
          | apply State.bump_frame | apply State.beginRun_frame | apply State.setQuery_frame
          | apply State.modTile_frame); exact rfl)
    | ((with_reducible apply Keeps.foldl); intro _ _)
    | ((with_reducible apply Keeps.foldlPair); intro _ _)
    | split
    | dsimp only

theorem execQueryStart_keeps (set) (s : State) : Keeps s (nextState (execQueryStart set s) s) := by
  unfold execQueryStart State.runLive
  repeat' first
    | with_reducible exact Keeps.refl _
    | ((with_reducible apply Keeps.step); (with_reducible apply State.startQuery_keeps))
    | ((with_reducible apply Keeps.frame); (with_reducible first
          | apply State.setAttSet_frame | apply State.wakeRun_frame); exact rfl)
    | ((apply Keeps.stepPair (e := by assumption)); (with_reducible apply Keeps.frame);
        (with_reducible apply State.wakeRun_frame); exact rfl; exact Keeps.refl _)
    | split
    | dsimp only [nextState]

theorem State.attFault_keeps (s : State) (i) (o) : Keeps s (State.attFault s i o) := by
  unfold State.attFault
  repeat' first
    | with_reducible exact Keeps.refl _
    | ((with_reducible apply Keeps.step); (with_reducible first
          | apply State.finish_keeps | apply State.stopTile_keeps))
    | ((with_reducible apply Keeps.frame); (with_reducible apply State.setAttSet_frame); exact rfl)
    | ((with_reducible apply Keeps.foldl); intro _ _)
    | ((with_reducible apply Keeps.foldlPair); intro _ _)
    | split
    | dsimp only

theorem State.queryHeal_keeps (s : State) (o) : Keeps s (State.queryHeal s o) := by
  unfold State.queryHeal
  repeat' first
    | with_reducible exact Keeps.refl _
    | ((with_reducible apply Keeps.step); (with_reducible apply State.rheal_keeps))
    | ((with_reducible apply Keeps.foldl); intro _ _)
    | ((with_reducible apply Keeps.foldlPair); intro _ _)
    | split
    | dsimp only

theorem State.queryCustom_keeps (s : State) (i) (o) : Keeps s (State.queryCustom s i o) := by
  unfold State.queryCustom
  repeat' first
    | with_reducible exact Keeps.refl _
    | ((with_reducible apply Keeps.step); (with_reducible first
          | apply State.finish_keeps | apply State.attFault_keeps))
    | ((with_reducible apply Keeps.frame); (with_reducible first
          | apply State.attFree_frame | apply State.bump_frame); exact rfl)
    | split
    | dsimp only

theorem State.queryShipped_keeps (s : State) (i) (o) (q) : Keeps s (State.queryShipped s i o q) := by
  unfold State.queryShipped
  repeat' first
    | with_reducible exact Keeps.refl _
    | ((with_reducible apply Keeps.step); (with_reducible first
          | apply State.queryCustom_keeps | apply State.queryHeal_keeps | apply State.attFault_keeps))
    | ((with_reducible apply Keeps.frame); (with_reducible first
          | apply State.bump_frame | apply State.putCompletion_frame | apply State.spend_frame
          | apply State.chargeOp_frame | apply State.modTile_frame | apply State.haltRun_frame); exact rfl)
    | split
    | dsimp only

theorem execQueryComplete_keeps (set) (s : State) : Keeps s (nextState (execQueryComplete set s) s) := by
  unfold execQueryComplete State.runLive
  repeat' first
    | with_reducible exact Keeps.refl _
    | ((with_reducible apply Keeps.step); (with_reducible first
          | apply State.queryShipped_keeps | apply State.queryCustom_keeps | apply State.stopTile_keeps
          | apply State.attFault_keeps))
    | ((with_reducible apply Keeps.frame); (with_reducible first
          | apply State.attFree_frame | apply State.haltRun_frame); exact rfl)
    | ((with_reducible apply Keeps.foldl); intro _ _)
    | ((with_reducible apply Keeps.foldlPair); intro _ _)
    | split
    | dsimp only [nextState]

theorem State.spillCame_keeps (s : State) (k) (i) (q) (b) : Keeps s (State.spillCame s k i q b) := by
  unfold State.spillCame
  repeat' first
    | with_reducible exact Keeps.refl _
    | ((with_reducible apply Keeps.step); (with_reducible first
          | apply State.toInbox_keeps | apply State.spillFails_keeps))
    | ((with_reducible apply Keeps.frame); (with_reducible first
          | apply State.bump_frame | apply State.setQuery_frame); exact rfl)
    | split
    | dsimp only

theorem State.reissue_keeps (s : State) (k) (i) (q) : Keeps s (State.reissue s k i q) := by
  unfold State.reissue
  repeat' first
    | with_reducible exact Keeps.refl _
    | ((with_reducible apply Keeps.step); (with_reducible apply State.forward_keeps))
    | ((with_reducible apply Keeps.frame); (with_reducible apply State.bump_frame); exact rfl)
    | split
    | dsimp only

theorem execSpillAnswer_keeps (ep) (seq) (code) (orig) (aux) (notHeld) (payload) (s : State) :
    Keeps s (nextState (execSpillAnswer ep seq code orig aux notHeld payload s) s) := by
  unfold execSpillAnswer State.runLive
  repeat' first
    | with_reducible exact Keeps.refl _
    | ((with_reducible apply Keeps.step); (with_reducible first
          | apply State.spillFails_keeps | apply State.reissue_keeps | apply State.endQuery_keeps
          | apply State.spillCame_keeps))
    | ((with_reducible apply Keeps.frame); (with_reducible first
          | apply State.bump_frame | apply State.endOrig_frame | apply State.resendOrig_frame
          | apply State.lateAnswer_frame); exact rfl)
    | split
    | dsimp only [nextState]

theorem execSpillWaitExpiry_keeps (req) (seq) (n) (s : State) :
    Keeps s (nextState (execSpillWaitExpiry req seq n s) s) := by
  unfold execSpillWaitExpiry State.runLive
  repeat' first
    | with_reducible exact Keeps.refl _
    | ((with_reducible apply Keeps.step); (with_reducible apply State.endQuery_keeps))
    | ((with_reducible apply Keeps.frame); (with_reducible apply State.bump_frame); exact rfl)
    | split
    | dsimp only [nextState]

theorem State.ctxRelease_keeps (s : State) (handle) (ctx) : Keeps s ((State.ctxRelease s handle ctx).getD s) := by
  unfold State.ctxRelease
  repeat' first
    | with_reducible exact Keeps.refl _
    | ((with_reducible apply Keeps.step); (with_reducible apply State.setKvCtx_keeps))
    | ((with_reducible apply Keeps.frame); (with_reducible apply State.dropSpills_frame); exact rfl)
    | split
    | dsimp only [Option.getD_some, Option.getD_none]

theorem execContextFreed_keeps (handle) (ctx) (s : State) :
    Keeps s (nextState (execContextFreed handle ctx s) s) := by
  unfold execContextFreed State.runLive
  repeat' first
    | with_reducible exact Keeps.refl _
    | ((with_reducible apply Keeps.step); (with_reducible first
          | apply State.setKvCtx_keeps | apply State.cleanCtx_keeps | apply State.bindSpill_keeps))
    | ((with_reducible apply Keeps.frame); (with_reducible first
          | apply State.dropSpills_frame | apply State.modAtt_frame); exact rfl)
    | split
    | dsimp only [nextState]

theorem State.sealEntries_keeps (s : State) (c) : Keeps s (State.sealEntries s c) := by
  unfold State.sealEntries
  repeat' first
    | with_reducible exact Keeps.refl _
    | ((with_reducible apply Keeps.step); (with_reducible first
          | apply State.mirrorHeader_keeps | apply State.rawWrite_keeps))
    | ((with_reducible apply Keeps.foldl); intro _ _)
    | ((with_reducible apply Keeps.foldlPair); intro _ _)
    | split
    | dsimp only

theorem State.inDoubt_keeps (s : State) (i) : Keeps s (State.inDoubt s i) := by
  unfold State.inDoubt
  repeat' first
    | with_reducible exact Keeps.refl _
    | ((with_reducible apply Keeps.step); (with_reducible apply State.raise_keeps))
    | ((with_reducible apply Keeps.frame); (with_reducible apply State.modCtx_frame); exact rfl)
    | split
    | dsimp only

theorem State.castVote_keeps (s : State) (i) : Keeps s (State.castVote s i) := by
  unfold State.castVote
  repeat' first
    | with_reducible exact Keeps.refl _
    | ((with_reducible apply Keeps.step); (with_reducible first
          | apply State.noPeer_keeps | apply State.inDoubt_keeps))
    | ((with_reducible apply Keeps.frame); (with_reducible first
          | apply State.bump_frame | apply State.originate_frame | apply State.modCtx_frame); exact rfl)
    | ((apply Keeps.stepOpt (e := by assumption)); (with_reducible apply Keeps.frame);
        (with_reducible apply State.originate_frame); exact rfl; exact Keeps.refl _)
    | split
    | dsimp only

theorem execVote_keeps (part) (step) (s : State) : Keeps s (nextState (execVote part step s) s) := by
  unfold execVote State.runDuty
  repeat' first
    | with_reducible exact Keeps.refl _
    | ((with_reducible apply Keeps.step); (with_reducible first
          | apply State.sealEntries_keeps | apply State.castVote_keeps))
    | split
    | dsimp only [nextState]

theorem State.mirrorGone_keeps (s : State) (id) : Keeps s (State.mirrorGone s id) := by
  unfold State.mirrorGone
  repeat' first
    | with_reducible exact Keeps.refl _
    | ((with_reducible apply Keeps.step); (with_reducible apply State.mirrorFails_keeps))
    | split
    | dsimp only

theorem execMirrorAnswer_keeps (ep) (seq) (code) (orig) (s : State) :
    Keeps s (nextState (execMirrorAnswer ep seq code orig s) s) := by
  unfold execMirrorAnswer State.runLive
  repeat' first
    | with_reducible exact Keeps.refl _
    | ((with_reducible apply Keeps.step); (with_reducible first
          | apply State.castVote_keeps | apply State.mirrorGone_keeps))
    | ((with_reducible apply Keeps.frame); (with_reducible first
          | apply State.modPar_frame | apply State.bump_frame | apply State.endOrig_frame
          | apply State.resendOrig_frame | apply State.lateAnswer_frame | apply State.setMirrored_frame); exact rfl)
    | split
    | dsimp only [nextState]

theorem State.commitRegion_keeps (s : State) (desc) (step) : Keeps s (State.commitRegion s desc step) := by
  unfold State.commitRegion
  repeat' first
    | with_reducible exact Keeps.refl _
    | ((with_reducible apply Keeps.step); (with_reducible apply State.setPrmHdr_keeps))
    | ((with_reducible apply Keeps.frame); (with_reducible apply State.modPar_frame); exact rfl)
    | split
    | dsimp only

theorem State.discardRegion_keeps (s : State) (desc) : Keeps s (State.discardRegion s desc) := by
  unfold State.discardRegion
  repeat' first
    | with_reducible exact Keeps.refl _
    | ((with_reducible apply Keeps.step); (with_reducible apply State.setPrmHdr_keeps))
    | ((with_reducible apply Keeps.frame); (with_reducible apply State.modPar_frame); exact rfl)
    | split
    | dsimp only

theorem State.commitStep_keeps (s : State) (i) (k) : Keeps s (State.commitStep s i k) := by
  unfold State.commitStep
  repeat' first
    | with_reducible exact Keeps.refl _
    | ((with_reducible apply Keeps.step); (with_reducible apply State.commitRegion_keeps))
    | ((with_reducible apply Keeps.frame); (with_reducible first
          | apply State.modPar_frame | apply State.bump_frame | apply State.decided_frame | apply State.modCtx_frame
          | apply State.dropClaims_frame); exact rfl)
    | ((with_reducible apply Keeps.foldl); intro _ _)
    | ((with_reducible apply Keeps.foldlPair); intro _ _)
    | split
    | dsimp only

theorem State.releaseAt_keeps (s : State) (i) (k) : Keeps s (State.releaseAt s i k) := by
  unfold State.releaseAt
  repeat' first
    | with_reducible exact Keeps.refl _
    | ((with_reducible apply Keeps.step); (with_reducible first
          | apply State.raise_keeps | apply State.commitStep_keeps))
    | ((with_reducible apply Keeps.frame); (with_reducible first
          | apply State.bump_frame | apply State.modCtx_frame); exact rfl)
    | split
    | dsimp only

theorem State.voidEntries_keeps (s : State) (part) (step) : Keeps s (State.voidEntries s part step) := by
  unfold State.voidEntries
  repeat' first
    | with_reducible exact Keeps.refl _
    | ((with_reducible apply Keeps.step); (with_reducible first
          | apply State.mirrorHeader_keeps | apply State.rawWrite_keeps))
    | ((with_reducible apply Keeps.frame); (with_reducible apply State.modPar_frame); exact rfl)
    | ((with_reducible apply Keeps.foldl); intro _ _)
    | ((with_reducible apply Keeps.foldlPair); intro _ _)
    | split
    | dsimp only

theorem State.abortStep_keeps (s : State) (i) : Keeps s (State.abortStep s i) := by
  unfold State.abortStep
  repeat' first
    | with_reducible exact Keeps.refl _
    | ((with_reducible apply Keeps.step); (with_reducible first
          | apply State.discardRegion_keeps | apply State.replayFrames_keeps | apply State.voidEntries_keeps))
    | ((with_reducible apply Keeps.frame); (with_reducible first
          | apply State.modPar_frame | apply State.bump_frame | apply State.decided_frame | apply State.modCtx_frame
          | apply State.dropClaims_frame | apply State.freeSlots_frame); exact rfl)
    | ((with_reducible apply Keeps.foldl); intro _ _)
    | ((with_reducible apply Keeps.foldlPair); intro _ _)
    | split
    | dsimp only

theorem State.voteGone_keeps (s : State) (part) (step) (replay) : Keeps s (State.voteGone s part step replay) := by
  unfold State.voteGone
  repeat' first
    | with_reducible exact Keeps.refl _
    | ((with_reducible apply Keeps.step); (with_reducible first
          | apply State.abortStep_keeps | apply State.inDoubt_keeps))
    | split
    | dsimp only

theorem execVoteAnswer_keeps (ep) (seq) (code) (orig) (aux) (s : State) :
    Keeps s (nextState (execVoteAnswer ep seq code orig aux s) s) := by
  unfold execVoteAnswer State.runLive
  repeat' first
    | with_reducible exact Keeps.refl _
    | ((with_reducible apply Keeps.step); (with_reducible first
          | apply State.voteGone_keeps | apply State.releaseAt_keeps))
    | ((with_reducible apply Keeps.frame); (with_reducible first
          | apply State.endOrig_frame | apply State.resendOrig_frame | apply State.lateAnswer_frame); exact rfl)
    | split
    | dsimp only [nextState]

theorem State.homeRelease_keeps (s : State) (i) (k) : Keeps s (State.homeRelease s i k) := by
  unfold State.homeRelease
  repeat' first
    | with_reducible exact Keeps.refl _
    | ((with_reducible apply Keeps.step); (with_reducible apply State.doneAll_keeps))
    | ((with_reducible apply Keeps.frame); (with_reducible first
          | apply State.decided_frame | apply State.modCtx_frame); exact rfl)
    | split
    | dsimp only

theorem State.homeAbort_keeps (s : State) (i) : Keeps s (State.homeAbort s i) := by
  unfold State.homeAbort
  repeat' first
    | with_reducible exact Keeps.refl _
    | ((with_reducible apply Keeps.step); (with_reducible first
          | apply State.doneAll_keeps | apply State.abortStep_keeps | apply State.markCtx_keeps))
    | ((with_reducible apply Keeps.frame); (with_reducible first
          | apply State.modPar_frame | apply State.modCtx_frame); exact rfl)
    | split
    | dsimp only

theorem execCommitDecisionEdge_keeps (ctx) (s : State) : Keeps s (nextState (execCommitDecisionEdge ctx s) s) := by
  unfold execCommitDecisionEdge State.runDuty
  repeat' first
    | with_reducible exact Keeps.refl _
    | ((with_reducible apply Keeps.step); (with_reducible first
          | apply State.homeRelease_keeps | apply State.homeAbort_keeps))
    | split
    | dsimp only [nextState]

theorem execCommitEdge_keeps (part) (step) (s : State) : Keeps s (nextState (execCommitEdge part step s) s) := by
  unfold execCommitEdge State.runLive
  repeat' first
    | with_reducible exact Keeps.refl _
    | ((with_reducible apply Keeps.step); (with_reducible apply State.commitStep_keeps))
    | split
    | dsimp only [nextState]

theorem State.foldMap_keeps (s : State) (d) (fold) : Keeps s (State.foldMap s d fold) := by
  unfold State.foldMap
  repeat' first
    | with_reducible exact Keeps.refl _
    | ((with_reducible apply Keeps.step); (with_reducible apply State.rawWrite_keeps))
    | ((with_reducible apply Keeps.foldl); intro _ _)
    | ((with_reducible apply Keeps.foldlPair); intro _ _)
    | split
    | dsimp only

theorem State.foldEnd_keeps (s : State) (desc) (fold) : Keeps s (State.foldEnd s desc fold) := by
  unfold State.foldEnd
  repeat' first
    | with_reducible exact Keeps.refl _
    | ((with_reducible apply Keeps.step); (with_reducible first
          | apply State.rheal_keeps | apply State.healMap_keeps | apply State.foldMap_keeps
          | apply State.setPrmHdr_keeps))
    | ((with_reducible apply Keeps.frame); (with_reducible first
          | apply State.leavesHashed_frame | apply State.modRgn_frame); exact rfl)
    | split
    | dsimp only

theorem execFoldComplete_keeps (desc) (s : State) : Keeps s (nextState (execFoldComplete desc s) s) := by
  unfold execFoldComplete State.runLive
  repeat' first
    | with_reducible exact Keeps.refl _
    | ((with_reducible apply Keeps.step); (with_reducible apply State.foldEnd_keeps))
    | ((with_reducible apply Keeps.frame); (with_reducible apply State.bump_frame); exact rfl)
    | split
    | dsimp only [nextState]

theorem State.stepDecide_keeps (s : State) (step) (action) (k) :
    Keeps s ((State.stepDecide s step action k).getD s) := by
  unfold State.stepDecide
  repeat' first
    | with_reducible exact Keeps.refl _
    | ((with_reducible apply Keeps.step); (with_reducible first
          | apply State.abortStep_keeps | apply State.homeAbort_keeps | apply State.releaseAt_keeps))
    | split
    | dsimp only [Option.getD_some, Option.getD_none]

theorem State.setCkpt_keeps (s : State) (handle) (step) : Keeps s ((State.setCkpt s handle step).getD s) := by
  unfold State.setCkpt
  repeat' first
    | with_reducible exact Keeps.refl _
    | ((with_reducible apply Keeps.step); (with_reducible apply State.setLogHdr_keeps))
    | split
    | dsimp only [Option.getD_some, Option.getD_none]

theorem State.setCommitted_keeps (s : State) (handle) (step) :
    Keeps s ((State.setCommitted s handle step).getD s) := by
  unfold State.setCommitted
  repeat' first
    | with_reducible exact Keeps.refl _
    | ((with_reducible apply Keeps.step); (with_reducible apply State.setPrmHdr_keeps))
    | ((with_reducible apply Keeps.frame); (with_reducible apply State.modPar_frame); exact rfl)
    | split
    | dsimp only [Option.getD_some, Option.getD_none]

theorem State.restoreFails_keeps (s : State) (rule) (step) (c) : Keeps s (State.restoreFails s rule step c) := by
  unfold State.restoreFails
  repeat' first
    | with_reducible exact Keeps.refl _
    | ((with_reducible apply Keeps.step); (with_reducible apply State.noteCause_keeps))
    | ((with_reducible apply Keeps.frame); (with_reducible apply State.setRestore_frame); exact rfl)
    | split
    | dsimp only

theorem State.copyEntries_keeps (s : State) (d) (steps) (data) : Keeps s (State.copyEntries s d steps data) := by
  induction steps generalizing s d data with
  | nil =>
    simp only [State.copyEntries]
    repeat' first
      | with_reducible exact Keeps.refl _
      | ((with_reducible apply Keeps.step); (with_reducible first
            | apply State.restoreFails_keeps | apply State.rawWrite_keeps))
      | ((with_reducible apply Keeps.frame); (with_reducible first
            | apply State.bump_frame | apply State.setRestore_frame); exact rfl)
      | split
      | dsimp only
  | cons x r ih =>
    simp only [State.copyEntries]
    repeat' first
      | with_reducible exact Keeps.refl _
      | with_reducible apply Keeps.step (h := ih _ _ _)
      | ((with_reducible apply Keeps.step); (with_reducible first
            | apply State.restoreFails_keeps | apply State.rawWrite_keeps))
      | ((with_reducible apply Keeps.frame); (with_reducible first
            | apply State.bump_frame | apply State.setRestore_frame); exact rfl)
      | split
      | dsimp only

theorem State.restoreLog_keeps (s : State) (handle) (ep) (srcHandle) (first) (last) (data) :
    Keeps s ((State.restoreLog s handle ep srcHandle first last data).getD s) := by
  unfold State.restoreLog
  repeat' first
    | with_reducible exact Keeps.refl _
    | ((with_reducible apply Keeps.step); (with_reducible first
          | apply State.copyEntries_keeps | apply State.restoreFails_keeps | apply State.noPeer_keeps))
    | ((with_reducible apply Keeps.frame); (with_reducible apply State.numberReads_frame); exact rfl)
    | split
    | dsimp only [Option.getD_some, Option.getD_none]

theorem State.turn_keeps (s : State) (tiles) : Keeps s (State.turn s tiles) := by
  unfold State.turn
  repeat' first
    | with_reducible exact Keeps.refl _
    | ((with_reducible apply Keeps.step); (with_reducible first
          | apply State.xferStart_keeps | apply State.mmaNext_keeps | apply State.issueNext_keeps
          | apply State.xferEnd_keeps | apply State.fenceEnd_keeps))
    | ((with_reducible apply Keeps.frame); (with_reducible apply State.modClk_frame); exact rfl)
    | ((with_reducible apply Keeps.foldl); intro _ _)
    | ((with_reducible apply Keeps.foldlPair); intro _ _)
    | split
    | dsimp only

theorem State.runTiles_keeps (s : State) (tiles) (fuel) : Keeps s (State.runTiles s tiles fuel) := by
  induction fuel generalizing s tiles with
  | zero =>
    simp only [State.runTiles]
    repeat' first
      | with_reducible exact Keeps.refl _
      | ((with_reducible apply Keeps.step); (with_reducible apply State.turn_keeps))
      | split
      | dsimp only
  | succ n ih =>
    simp only [State.runTiles]
    repeat' first
      | with_reducible exact Keeps.refl _
      | with_reducible apply Keeps.step (h := ih _ _)
      | ((with_reducible apply Keeps.step); (with_reducible apply State.turn_keeps))
      | split
      | dsimp only

theorem State.replayCustom_keeps (s : State) (handle) (t) (u) (r) :
    Keeps s (State.replayCustom s handle t u r).1 := by
  unfold State.replayCustom
  repeat' first
    | with_reducible exact Keeps.refl _
    | ((with_reducible apply Keeps.step); (with_reducible first
          | apply State.runTiles_keeps | apply State.startRun_keeps | apply State.loadOpt_keeps))
    | ((with_reducible apply Keeps.frame); (with_reducible first
          | apply State.setOp_frame | apply State.modFrm_frame | apply State.setUpd_frame); exact rfl)
    | ((apply Keeps.stepPair (e := by assumption)); (with_reducible apply State.loadOpt_keeps))
    | split
    | dsimp only

theorem State.replayRecord_keeps (s : State) (handle) (t) (r) : Keeps s (State.replayRecord s handle t r).1 := by
  unfold State.replayRecord
  repeat' first
    | with_reducible exact Keeps.refl _
    | ((with_reducible apply Keeps.step); (with_reducible first
          | apply State.replayCustom_keeps | apply State.optHeal_keeps | apply State.updatePage_keeps))
    | ((apply Keeps.stepPair (e := by assumption)); (with_reducible apply State.replayCustom_keeps))
    | ((with_reducible apply Keeps.foldl); intro _ _)
    | ((with_reducible apply Keeps.foldlPair); intro _ _)
    | split
    | dsimp only

theorem State.replayStep_keeps (s : State) (handle) (t) : Keeps s (State.replayStep s handle t).1 := by
  unfold State.replayStep
  repeat' first
    | with_reducible exact Keeps.refl _
    | ((with_reducible apply Keeps.step); (with_reducible first
          | apply State.discardRegion_keeps | apply State.replayRecord_keeps | apply State.commitRegion_keeps
          | apply State.foldEnd_keeps | apply State.setPrmHdr_keeps))
    | ((with_reducible apply Keeps.frame); (with_reducible apply State.modPar_frame); exact rfl)
    | ((apply Keeps.stepPair (e := by assumption)); (with_reducible apply State.replayRecord_keeps))
    | ((with_reducible apply Keeps.foldl); intro _ _)
    | ((with_reducible apply Keeps.foldlPair); intro _ _)
    | split
    | dsimp only

theorem State.replaySteps_keeps (s : State) (handle) (steps) : Keeps s (State.replaySteps s handle steps) := by
  induction steps generalizing s handle with
  | nil =>
    simp only [State.replaySteps]
    repeat' first
      | with_reducible exact Keeps.refl _
      | ((with_reducible apply Keeps.step); (with_reducible first
            | apply State.replayStep_keeps | apply State.restoreFails_keeps))
      | ((with_reducible apply Keeps.frame); (with_reducible first
            | apply State.bump_frame | apply State.setRestore_frame); exact rfl)
      | ((apply Keeps.stepPair (e := by assumption)); (with_reducible apply State.replayStep_keeps))
      | split
      | dsimp only
  | cons x r ih =>
    simp only [State.replaySteps]
    repeat' first
      | with_reducible exact Keeps.refl _
      | with_reducible apply Keeps.step (h := ih _ _)
      | ((with_reducible apply Keeps.step); (with_reducible first
            | apply State.replayStep_keeps | apply State.restoreFails_keeps))
      | ((with_reducible apply Keeps.frame); (with_reducible first
            | apply State.bump_frame | apply State.setRestore_frame); exact rfl)
      | ((apply Keeps.stepPair (e := by assumption)); (with_reducible apply State.replayStep_keeps))
      | split
      | dsimp only

theorem State.restoreRun_keeps (s : State) (handle) (last) : Keeps s ((State.restoreRun s handle last).getD s) := by
  unfold State.restoreRun
  repeat' first
    | with_reducible exact Keeps.refl _
    | ((with_reducible apply Keeps.step); (with_reducible apply State.replaySteps_keeps))
    | split
    | dsimp only [Option.getD_some, Option.getD_none]

theorem State.applySync_keeps (s : State) (o) : Keeps s (State.applySync s o) := by
  unfold State.applySync
  repeat' first
    | with_reducible exact Keeps.refl _
    | ((with_reducible apply Keeps.step); (with_reducible first
          | apply State.refusedSig_keeps | apply State.done_keeps))
    | ((with_reducible apply Keeps.frame); (with_reducible apply State.applySig_frame); exact rfl)
    | ((apply Keeps.stepOpt (e := by assumption)); (with_reducible apply Keeps.frame);
        (with_reducible apply State.applySig_frame); exact rfl; exact Keeps.refl _)
    | split
    | dsimp only

theorem execSync_keeps (req) (seq) (s : State) : Keeps s (nextState (execSync req seq s) s) := by
  unfold execSync State.runLive
  repeat' first
    | with_reducible exact Keeps.refl _
    | ((with_reducible apply Keeps.step); (with_reducible apply State.applySync_keeps))
    | ((with_reducible apply Keeps.frame); (with_reducible first
          | apply State.holdSig_frame | apply State.reach_frame | apply State.begin_frame
          | apply State.wakeFor_frame); exact rfl)
    | split
    | dsimp only [nextState]

theorem State.countVote_keeps (s : State) (o) : Keeps s (State.countVote s o) := by
  unfold State.countVote
  repeat' first
    | with_reducible exact Keeps.refl _
    | ((with_reducible apply Keeps.step); (with_reducible apply State.done_keeps))
    | ((with_reducible apply Keeps.frame); (with_reducible first
          | apply State.modCtx_frame | apply State.begin_frame); exact rfl)
    | split
    | dsimp only

theorem State.countBar_keeps (s : State) (o) : Keeps s (State.countBar s o) := by
  unfold State.countBar
  repeat' first
    | with_reducible exact Keeps.refl _
    | ((with_reducible apply Keeps.step); (with_reducible first
          | apply State.barAdvance_keeps | apply State.done_keeps))
    | ((with_reducible apply Keeps.frame); (with_reducible first
          | apply State.setBar_frame | apply State.begin_frame); exact rfl)
    | split
    | dsimp only

theorem execBarrier_keeps (req) (seq) (s : State) : Keeps s (nextState (execBarrier req seq s) s) := by
  unfold execBarrier State.runLive
  split
  · rw [nextState_next]
    split
    · split
      · exact Keeps.frame (State.wakeFor_frame ..) rfl (Keeps.refl _)
      · split
        · exact State.countVote_keeps ..
        · exact State.countBar_keeps ..
    · exact Keeps.refl _
  · exact Keeps.refl _

theorem execBarrierAnswer_keeps (ep) (seq) (code) (orig) (aux) (s : State) :
    Keeps s (nextState (execBarrierAnswer ep seq code orig aux s) s) := by
  unfold execBarrierAnswer State.runLive
  repeat' first
    | with_reducible exact Keeps.refl _
    | ((with_reducible apply Keeps.step); (with_reducible first
          | apply State.barReleaseAll_keeps | apply State.abandonBarrier_keeps))
    | ((with_reducible apply Keeps.frame); (with_reducible first
          | apply State.bump_frame | apply State.endOrig_frame | apply State.resendOrig_frame
          | apply State.lateAnswer_frame); exact rfl)
    | split
    | dsimp only [nextState]

theorem State.remoteFreed_keeps (s : State) : Keeps s (State.remoteFreed s) := by
  unfold State.remoteFreed
  repeat' first
    | with_reducible exact Keeps.refl _
    | ((with_reducible apply Keeps.step); (with_reducible apply State.issueTiles_keeps))
    | split
    | dsimp only

theorem execRemoteSignalSend_keeps (s : State) : Keeps s (nextState (execRemoteSignalSend s) s) := by
  unfold execRemoteSignalSend State.runLive
  repeat' first
    | with_reducible exact Keeps.refl _
    | ((with_reducible apply Keeps.step); (with_reducible first
          | apply State.remoteFreed_keeps | apply State.abandonSignal_keeps | apply State.noPeer_keeps))
    | ((with_reducible apply Keeps.frame); (with_reducible first
          | apply State.bump_frame | apply State.originate_frame | apply State.modSyn_frame); exact rfl)
    | ((apply Keeps.stepOpt (e := by assumption)); (with_reducible apply Keeps.frame);
        (with_reducible apply State.originate_frame); exact rfl; exact Keeps.refl _)
    | split
    | dsimp only [nextState]

theorem execRemoteSignalAnswer_keeps (ep) (seq) (code) (orig) (s : State) :
    Keeps s (nextState (execRemoteSignalAnswer ep seq code orig s) s) := by
  unfold execRemoteSignalAnswer State.runLive
  repeat' first
    | with_reducible exact Keeps.refl _
    | ((with_reducible apply Keeps.step); (with_reducible apply State.abandonSignal_keeps))
    | ((with_reducible apply Keeps.frame); (with_reducible first
          | apply State.bump_frame | apply State.endOrig_frame | apply State.resendOrig_frame
          | apply State.lateAnswer_frame); exact rfl)
    | split
    | dsimp only [nextState]

theorem State.ladelSignal_keeps (s : State) (addr) (amount) : Keeps s (State.ladelSignal s addr amount).1 := by
  unfold State.ladelSignal
  repeat' first
    | with_reducible exact Keeps.refl _
    | ((with_reducible apply Keeps.step); (with_reducible first
          | apply State.hubSig_keeps | apply State.refusedSig_keeps))
    | split
    | dsimp only

theorem State.eggSet_keeps (s : State) (g) : Keeps s (State.eggSet s g) := by
  unfold State.eggSet
  repeat' first
    | with_reducible exact Keeps.refl _
    | ((with_reducible apply Keeps.step); (with_reducible apply State.raise_keeps))
    | ((with_reducible apply Keeps.frame); (with_reducible apply State.modSyn_frame); exact rfl)
    | split
    | dsimp only

theorem execEggTimerEvaluate_keeps (s : State) : Keeps s (nextState (execEggTimerEvaluate s) s) := by
  unfold execEggTimerEvaluate
  repeat' first
    | with_reducible exact Keeps.refl _
    | ((with_reducible apply Keeps.step); (with_reducible apply State.eggSet_keeps))
    | ((with_reducible apply Keeps.foldl); intro _ _)
    | ((with_reducible apply Keeps.foldlPair); intro _ _)
    | split
    | dsimp only [nextState]

theorem State.ftcState_keeps (s : State) (st) : Keeps s (State.ftcState s st) := by
  unfold State.ftcState
  repeat' first
    | with_reducible exact Keeps.refl _
    | ((with_reducible apply Keeps.step); (with_reducible apply State.raise_keeps))
    | ((with_reducible apply Keeps.frame); (with_reducible first
          | apply State.bump_frame | apply State.modDisc_frame); exact rfl)
    | split
    | dsimp only

theorem State.ftcLoad_keeps (s : State) (v) : Keeps s (State.ftcLoad s v) := by
  unfold State.ftcLoad
  repeat' first
    | with_reducible exact Keeps.refl _
    | ((with_reducible apply Keeps.step); (with_reducible apply State.ftcState_keeps))
    | ((with_reducible apply Keeps.frame); (with_reducible first
          | apply State.modClk_frame | apply State.modDisc_frame); exact rfl)
    | split
    | dsimp only

theorem State.pulse_keeps (s : State) (v) (e) : Keeps s (State.pulse s v e) := by
  unfold State.pulse
  repeat' first
    | with_reducible exact Keeps.refl _
    | ((with_reducible apply Keeps.step); (with_reducible first
          | apply State.ftcState_keeps | apply State.note_keeps | apply State.ftcLoad_keeps))
    | ((with_reducible apply Keeps.frame); (with_reducible first
          | apply State.bump_frame | apply State.servo_frame | apply State.modDisc_frame); exact rfl)
    | split
    | dsimp only

theorem execFtcPulse_keeps (valid) (value) (phase) (s : State) :
    Keeps s (nextState (execFtcPulse valid value phase s) s) := by
  unfold execFtcPulse runIf
  repeat' first
    | with_reducible exact Keeps.refl _
    | ((with_reducible apply Keeps.step); (with_reducible apply State.pulse_keeps))
    | ((with_reducible apply Keeps.frame); (with_reducible apply State.bump_frame); exact rfl)
    | split
    | dsimp only [nextState]

theorem State.toHoldover_keeps (s : State) : Keeps s (State.toHoldover s) := by
  unfold State.toHoldover
  repeat' first
    | with_reducible exact Keeps.refl _
    | ((with_reducible apply Keeps.step); (with_reducible apply State.ftcState_keeps))
    | ((with_reducible apply Keeps.frame); (with_reducible apply State.modDisc_frame); exact rfl)
    | split
    | dsimp only

theorem execPulseTimeout_keeps (s : State) : Keeps s (nextState (execPulseTimeout s) s) := by
  unfold execPulseTimeout
  repeat' first
    | with_reducible exact Keeps.refl _
    | ((with_reducible apply Keeps.step); (with_reducible apply State.toHoldover_keeps))
    | split
    | dsimp only [nextState]

theorem execHoldoverMaxExpiry_keeps (s : State) : Keeps s (nextState (execHoldoverMaxExpiry s) s) := by
  unfold execHoldoverMaxExpiry
  repeat' first
    | with_reducible exact Keeps.refl _
    | ((with_reducible apply Keeps.step); (with_reducible apply State.ftcState_keeps))
    | split
    | dsimp only [nextState]

theorem State.schedCheck_keeps (s : State) (handle) (ofs) (d) : Keeps s (State.schedCheck s handle ofs d) := by
  unfold State.schedCheck
  repeat' first
    | with_reducible exact Keeps.refl _
    | ((with_reducible apply Keeps.step); (with_reducible apply State.note_keeps))
    | ((with_reducible apply Keeps.frame); (with_reducible apply State.modRgn_frame); exact rfl)
    | split
    | dsimp only

theorem State.schedVerify_keeps (s : State) (handle) : Keeps s ((State.schedVerify s handle).getD s) := by
  unfold State.schedVerify
  repeat' first
    | with_reducible exact Keeps.refl _
    | ((with_reducible apply Keeps.step); (with_reducible apply State.schedCheck_keeps))
    | split
    | dsimp only [Option.getD_some, Option.getD_none]

theorem State.admitLaunch_keeps (s : State) (k) (h) : Keeps s (State.admitLaunch s k h) := by
  unfold State.admitLaunch
  repeat' first
    | with_reducible exact Keeps.refl _
    | ((with_reducible apply Keeps.step); (with_reducible apply State.doneAll_keeps))
    | ((with_reducible apply Keeps.frame); (with_reducible first
          | apply State.dropResv_frame | apply State.setCtx_frame); exact rfl)
    | split
    | dsimp only

theorem State.loadProg_keeps (s : State) (part) (e) : Keeps s (State.loadProg s part e).1 := by
  unfold State.loadProg
  repeat' first
    | with_reducible exact Keeps.refl _
    | ((with_reducible apply Keeps.step); (with_reducible apply State.loadImage_keeps))
    | ((apply Keeps.stepPair (e := by assumption)); (with_reducible apply State.loadImage_keeps))
    | split
    | dsimp only

theorem State.armEntry_keeps (s : State) (i) (c) (a) (es) (taken) (fresh : State) (e) (k) :
    Keeps s ((State.armEntry s i c a es taken fresh e k).getD s) := by
  unfold State.armEntry
  repeat' first
    | with_reducible exact Keeps.refl _
    | ((with_reducible apply Keeps.step); (with_reducible apply State.loadProg_keeps))
    | ((with_reducible apply Keeps.frame); (with_reducible apply State.reserveSlot_frame); exact rfl)
    | ((apply Keeps.stepPair (e := by assumption)); (with_reducible apply State.loadProg_keeps))
    | ((apply Keeps.stepOpt (e := by assumption)); (with_reducible apply Keeps.frame);
        (with_reducible apply State.reserveSlot_frame); exact rfl; exact Keeps.refl _)
    | split
    | dsimp only [Option.getD_some, Option.getD_none]

theorem State.armEntries_keeps (s : State) (i) (c) (a) (taken) (fresh : State) (l) (k) (t : State)
    (e : State.armEntries s i c a taken fresh l k = .inl t) :
    Keeps s t := by
  induction l generalizing s k with
  | nil =>
    unfold State.armEntries at e
    cases e
    exact Keeps.refl _
  | cons x r ih =>
    unfold State.armEntries at e
    split at e
    · exact Keeps.step (ih _ _ e) (Keeps.stepOpt (State.armEntry_keeps ..) (by assumption) (Keeps.refl _))
    · cases e

theorem State.armFails_keeps (s : State) (i) (entry) : Keeps s (State.armFails s i entry) := by
  unfold State.armFails
  repeat' first
    | with_reducible exact Keeps.refl _
    | ((with_reducible apply Keeps.step); (with_reducible first | apply State.note_keeps | apply State.done_keeps))
    | ((with_reducible apply Keeps.frame); (with_reducible first
          | apply State.bump_frame | apply State.setCtx_frame); exact rfl)
    | split
    | dsimp only

theorem State.abandonArm_keeps (s : State) (i) : Keeps s (State.abandonArm s i) := by
  unfold State.abandonArm
  repeat' first
    | with_reducible exact Keeps.refl _
    | ((with_reducible apply Keeps.step); (with_reducible apply State.markCtx_keeps))
    | ((with_reducible apply Keeps.frame); (with_reducible first
          | apply State.bump_frame | apply State.modCtx_frame | apply State.dropResv_frame); exact rfl)
    | split
    | dsimp only

theorem State.armed_keeps (s : State) (i) (a) : Keeps s (State.armed s i a) := by
  unfold State.armed
  repeat' first
    | with_reducible exact Keeps.refl _
    | ((with_reducible apply Keeps.step); (with_reducible apply State.finish_keeps))
    | ((with_reducible apply Keeps.frame); (with_reducible first
          | apply State.bump_frame | apply State.setCtx_frame); exact rfl)
    | split
    | dsimp only

theorem execArmingComplete_keeps (ctx) (s : State) : Keeps s (nextState (execArmingComplete ctx s) s) := by
  unfold execArmingComplete State.runDuty
  repeat' first
    | with_reducible exact Keeps.refl _
    | ((with_reducible apply Keeps.step); (with_reducible first
          | apply State.abandonArm_keeps | apply State.armFails_keeps | apply State.imgCheck_keeps
          | apply State.armed_keeps | apply State.schedCheck_keeps))
    | ((with_reducible apply Keeps.frame); (with_reducible first
          | apply State.wakeRun_frame | apply State.chargeOp_frame | apply State.freeSlots_frame); exact rfl)
    | ((apply Keeps.stepPair (e := by assumption)); (with_reducible apply Keeps.frame);
        (with_reducible apply State.wakeRun_frame); exact rfl; exact Keeps.refl _)
    | (with_reducible apply Keeps.step (h := State.armEntries_keeps _ _ _ _ _ _ _ _ _ (by assumption)))
    | ((with_reducible apply Keeps.foldl); intro _ _)
    | ((with_reducible apply Keeps.foldlPair); intro _ _)
    | split
    | dsimp only [nextState]

theorem execArmingDeadline_keeps (ctx) (s : State) : Keeps s (nextState (execArmingDeadline ctx s) s) := by
  unfold execArmingDeadline State.runLive
  repeat' first
    | with_reducible exact Keeps.refl _
    | ((with_reducible apply Keeps.step); (with_reducible apply State.abandonArm_keeps))
    | split
    | dsimp only [nextState]

theorem State.loadSpill_keeps (s : State) (r) : Keeps s (State.loadSpill s r) := by
  unfold State.loadSpill
  repeat' first
    | with_reducible exact Keeps.refl _
    | ((with_reducible apply Keeps.step); (with_reducible first
          | apply State.cleanCtx_keeps | apply State.bindSpill_keeps))
    | ((with_reducible apply Keeps.frame); (with_reducible apply State.modSch_frame); exact rfl)
    | split
    | dsimp only

theorem State.clearRun_keeps (s : State) (i) : Keeps s (State.clearRun s i) := by
  unfold State.clearRun
  repeat' first
    | with_reducible exact Keeps.refl _
    | ((with_reducible apply Keeps.step); (with_reducible apply State.stopTile_keeps))
    | ((with_reducible apply Keeps.frame); (with_reducible first
          | apply State.dropResv_frame | apply State.freeSlots_frame); exact rfl)
    | ((with_reducible apply Keeps.foldl); intro _ _)
    | ((with_reducible apply Keeps.foldlPair); intro _ _)
    | split
    | dsimp only

theorem execLaunchEdge_keeps (ctx) (s : State) : Keeps s (nextState (execLaunchEdge ctx s) s) := by
  unfold execLaunchEdge State.runLive
  repeat' first
    | with_reducible exact Keeps.refl _
    | ((with_reducible apply Keeps.step); (with_reducible first
          | apply State.clearRun_keeps | apply State.loadSpill_keeps))
    | ((with_reducible apply Keeps.frame); (with_reducible first
          | apply State.modPar_frame | apply State.takeResv_frame | apply State.modSch_frame
          | apply State.setCtx_frame); exact rfl)
    | ((with_reducible apply Keeps.foldl); intro _ _)
    | ((with_reducible apply Keeps.foldlPair); intro _ _)
    | split
    | dsimp only [nextState]

theorem execProgramEntryFire_keeps (ctx) (entry) (s : State) :
    Keeps s (nextState (execProgramEntryFire ctx entry s) s) := by
  unfold execProgramEntryFire State.runLive
  repeat' first
    | with_reducible exact Keeps.refl _
    | ((with_reducible apply Keeps.step); (with_reducible apply State.note_keeps))
    | ((with_reducible apply Keeps.frame); (with_reducible first
          | apply State.modCtx_frame | apply State.giveStart_frame); exact rfl)
    | ((apply Keeps.stepPair (e := by assumption)); (with_reducible apply Keeps.frame);
        (with_reducible apply State.giveStart_frame); exact rfl; exact Keeps.refl _)
    | ((with_reducible apply Keeps.foldl); intro _ _)
    | ((with_reducible apply Keeps.foldlPair); intro _ _)
    | split
    | dsimp only [nextState]

theorem execSlotOpenFtc_keeps (ctx) (entry) (s : State) : Keeps s (nextState (execSlotOpenFtc ctx entry s) s) := by
  unfold execSlotOpenFtc State.runLive
  repeat' first
    | with_reducible exact Keeps.refl _
    | ((with_reducible apply Keeps.step); (with_reducible first
          | apply State.note_keeps | apply State.mark_keeps | apply State.claimPages_keeps))
    | ((with_reducible apply Keeps.frame); (with_reducible first
          | apply State.setSlotRec_frame | apply State.dropResv_frame | apply State.modWsk_frame); exact rfl)
    | split
    | dsimp only [nextState]

theorem State.digestsReady_keeps (s : State) : Keeps s (State.digestsReady s) := by
  unfold State.digestsReady
  repeat' first
    | with_reducible exact Keeps.refl _
    | ((with_reducible apply Keeps.step); (with_reducible apply State.finish_keeps))
    | ((with_reducible apply Keeps.foldl); intro _ _)
    | ((with_reducible apply Keeps.foldlPair); intro _ _)
    | split
    | dsimp only

theorem execRehashPass_keeps (desc) (s : State) : Keeps s (nextState (execRehashPass desc s) s) := by
  unfold execRehashPass State.runLive
  repeat' first
    | with_reducible exact Keeps.refl _
    | ((with_reducible apply Keeps.step); (with_reducible apply State.digestsReady_keeps))
    | ((with_reducible apply Keeps.frame); (with_reducible first
          | apply State.leavesHashed_frame | apply State.modRgn_frame | apply State.markTouched_frame); exact rfl)
    | ((with_reducible apply Keeps.foldl); intro _ _)
    | ((with_reducible apply Keeps.foldlPair); intro _ _)
    | split
    | dsimp only [nextState]

theorem State.noteRefused_keeps (s : State) (h) (code) : Keeps s (State.noteRefused s h code) := by
  unfold State.noteRefused
  repeat' first
    | with_reducible exact Keeps.refl _
    | ((with_reducible apply Keeps.step); (with_reducible first
          | apply State.refusedSig_keeps | apply State.mark_keeps))
    | split
    | dsimp only

theorem State.admitUnit_keeps (s : State) (k) (h) : Keeps s (State.admitUnit s k h) := by
  unfold State.admitUnit
  repeat' first
    | with_reducible exact Keeps.refl _
    | ((with_reducible apply Keeps.step); (with_reducible first
          | apply State.admitLaunch_keeps | apply State.admitKvAppend_keeps | apply State.admitOptStep_keeps
          | apply State.admitRedOpen_keeps))
    | ((with_reducible apply Keeps.frame); (with_reducible first
          | apply State.admitAttn_frame | apply State.admitRedClose_frame | apply State.admitAccum_frame); exact rfl)
    | split
    | dsimp only

theorem State.admitAt_keeps (s : State) (p) (r) (req) (seq) (att) (h) (c) (yellow) :
    Keeps s (State.admitAt s p r req seq att h c yellow) := by
  unfold State.admitAt
  repeat' first
    | with_reducible exact Keeps.refl _
    | ((with_reducible apply Keeps.step); (with_reducible apply State.admitUnit_keeps))
    | ((with_reducible apply Keeps.frame); (with_reducible first
          | apply State.issueDone_frame | apply State.setSlot_frame | apply State.modFrm_frame
          | apply State.modRgn_frame | apply State.park_frame | apply State.markTouched_frame); exact rfl)
    | split
    | dsimp only

theorem State.judge_keeps (s : State) (p) (r) (req) (seq) (att) (h) (c) (colour) :
    Keeps s (State.judge s p r req seq att h c colour) := by
  unfold State.judge
  repeat' first
    | with_reducible exact Keeps.refl _
    | ((with_reducible apply Keeps.step); (with_reducible first
          | apply State.noteRefused_keeps | apply State.admitAt_keeps))
    | ((with_reducible apply Keeps.frame); (with_reducible apply State.refuse_frame); exact rfl)
    | split
    | dsimp only

theorem State.decideHeader_keeps (s : State) (p) (c) (colour) : Keeps s (State.decideHeader s p c colour) := by
  unfold State.decideHeader
  repeat' first
    | with_reducible exact Keeps.refl _
    | ((with_reducible apply Keeps.step); (with_reducible apply State.judge_keeps))
    | ((with_reducible apply Keeps.frame); (with_reducible first
          | apply State.answer_frame | apply State.takeOver_frame | apply State.portBump_frame
          | apply State.dupAnswer_frame); exact rfl)
    | split
    | dsimp only

theorem State.headerCell_keeps (s : State) (p) (c) : Keeps s (State.headerCell s p c) := by
  unfold State.headerCell
  repeat' first
    | with_reducible exact Keeps.refl _
    | ((with_reducible apply Keeps.step); (with_reducible apply State.decideHeader_keeps))
    | ((with_reducible apply Keeps.frame); (with_reducible first
          | apply State.portBump_frame | apply State.paint_frame); exact rfl)
    | ((apply Keeps.stepPair (e := by assumption)); (with_reducible apply Keeps.frame);
        (with_reducible apply State.paint_frame); exact rfl; exact Keeps.refl _)
    | split
    | dsimp only

theorem State.giveUp_keeps (s : State) (k) (x) : Keeps s (State.giveUp s k x) := by
  unfold State.giveUp
  repeat' first
    | with_reducible exact Keeps.refl _
    | ((with_reducible apply Keeps.step); (with_reducible apply State.finish_keeps))
    | ((with_reducible apply Keeps.frame); (with_reducible apply State.freeKey_frame); exact rfl)
    | split
    | dsimp only

theorem State.relieve_keeps (s : State) (p) : Keeps s (State.relieve s p) := by
  unfold State.relieve
  repeat' first
    | with_reducible exact Keeps.refl _
    | ((with_reducible apply Keeps.step); (with_reducible apply State.giveUp_keeps))
    | ((with_reducible apply Keeps.frame); (with_reducible apply State.portBump_frame); exact rfl)
    | ((with_reducible apply Keeps.foldl); intro _ _)
    | ((with_reducible apply Keeps.foldlPair); intro _ _)
    | split
    | dsimp only

theorem State.payloadCell_keeps (s : State) (p) (c) : Keeps s (State.payloadCell s p c) := by
  unfold State.payloadCell
  repeat' first
    | with_reducible exact Keeps.refl _
    | ((with_reducible apply Keeps.step); (with_reducible apply State.relieve_keeps))
    | ((with_reducible apply Keeps.frame); (with_reducible first
          | apply State.setOp_frame | apply State.portBump_frame | apply State.park_frame); exact rfl)
    | split
    | dsimp only

theorem execIngressCell_keeps (port) (cell) (s : State) : Keeps s (nextState (execIngressCell port cell s) s) := by
  unfold execIngressCell State.runLive
  repeat' first
    | with_reducible exact Keeps.refl _
    | ((with_reducible apply Keeps.step); (with_reducible first
          | apply State.headerCell_keeps | apply State.payloadCell_keeps | apply State.relieve_keeps))
    | ((with_reducible apply Keeps.frame); (with_reducible first
          | apply State.wakeDom_frame | apply State.portBump_frame); exact rfl)
    | split
    | dsimp only [nextState]

theorem execReassemblyTimeout_keeps (req) (seq) (att) (s : State) :
    Keeps s (nextState (execReassemblyTimeout req seq att s) s) := by
  unfold execReassemblyTimeout State.runLive
  repeat' first
    | with_reducible exact Keeps.refl _
    | ((with_reducible apply Keeps.step); (with_reducible apply State.giveUp_keeps))
    | ((with_reducible apply Keeps.frame); (with_reducible apply State.portBump_frame); exact rfl)
    | split
    | dsimp only [nextState]

theorem execRead_keeps (req) (seq) (s : State) : Keeps s (nextState (execRead req seq s) s) := by
  unfold execRead State.runLive
  repeat' first
    | with_reducible exact Keeps.refl _
    | ((with_reducible apply Keeps.step); (with_reducible first | apply State.rheal_keeps | apply State.finish_keeps))
    | ((with_reducible apply Keeps.frame); (with_reducible first
          | apply State.chargeOp_frame | apply State.wakeFor_frame); exact rfl)
    | split
    | dsimp only [nextState]

theorem execWrite_keeps (req) (seq) (s : State) : Keeps s (nextState (execWrite req seq s) s) := by
  unfold execWrite State.runLive
  repeat' first
    | with_reducible exact Keeps.refl _
    | ((with_reducible apply Keeps.step); (with_reducible first
          | apply State.rwrite_keeps | apply State.healMap_keeps | apply State.done_keeps))
    | ((with_reducible apply Keeps.frame); (with_reducible first
          | apply State.forgetImages_frame | apply State.chargeOp_frame | apply State.wakeFor_frame); exact rfl)
    | split
    | dsimp only [nextState]

theorem State.countErase_keeps (s : State) (k) : Keeps s (State.countErase s k) := by
  unfold State.countErase
  repeat' first
    | with_reducible exact Keeps.refl _
    | ((with_reducible apply Keeps.step); (with_reducible apply State.raise_keeps))
    | ((with_reducible apply Keeps.frame); (with_reducible first
          | apply State.bump_frame | apply State.modPer_frame); exact rfl)
    | split
    | dsimp only

theorem State.rejected_keeps (s : State) (x) : Keeps s (State.rejected s x) := by
  unfold State.rejected
  repeat' first
    | with_reducible exact Keeps.refl _
    | ((with_reducible apply Keeps.step); (with_reducible apply State.raise_keeps))
    | ((with_reducible apply Keeps.frame); (with_reducible apply State.spend_frame); exact rfl)
    | split
    | dsimp only

theorem State.pickSlot_keeps (s : State) : Keeps s (State.pickSlot s).1 := by
  unfold State.pickSlot
  repeat' first
    | with_reducible exact Keeps.refl _
    | ((with_reducible apply Keeps.step); (with_reducible apply State.rejected_keeps))
    | split
    | dsimp only

theorem State.putSector_keeps (s : State) (x) (p) (d) : Keeps s (State.putSector s x p d).1 := by
  unfold State.putSector
  repeat' first
    | with_reducible exact Keeps.refl _
    | ((with_reducible apply Keeps.step); (with_reducible first
          | apply State.countErase_keeps | apply State.raise_keeps))
    | ((with_reducible apply Keeps.frame); (with_reducible first
          | apply State.modPer_frame | apply State.flashClear_frame | apply State.flashPut_frame); exact rfl)
    | split
    | dsimp only

theorem State.putRecord_keeps (s : State) (x) (r) : Keeps s (State.putRecord s x r).1 := by
  unfold State.putRecord
  repeat' first
    | with_reducible exact Keeps.refl _
    | ((with_reducible apply Keeps.step); (with_reducible apply State.putSector_keeps))
    | ((apply Keeps.stepPair (e := by assumption)); (with_reducible apply State.putSector_keeps))
    | ((with_reducible apply Keeps.foldl); intro _ _)
    | ((with_reducible apply Keeps.foldlPair); intro _ _)
    | split
    | dsimp only

theorem State.pickRecord_keeps (s : State) : Keeps s (State.pickRecord s).1 := by
  unfold State.pickRecord
  repeat' first
    | with_reducible exact Keeps.refl _
    | ((with_reducible apply Keeps.step); (with_reducible apply State.putRecord_keeps))
    | ((apply Keeps.stepPair (e := by assumption)); (with_reducible apply State.putRecord_keeps))
    | split
    | dsimp only

theorem State.commitImage_keeps (s : State) (hours) (boost) : Keeps s (State.commitImage s hours boost) := by
  unfold State.commitImage
  repeat' first
    | with_reducible exact Keeps.refl _
    | ((with_reducible apply Keeps.step); (with_reducible apply State.putRecord_keeps))
    | ((with_reducible apply Keeps.frame); (with_reducible first
          | apply State.modDict_frame | apply State.bump_frame | apply State.modPer_frame | apply State.modLdl_frame);
          exact rfl)
    | ((apply Keeps.stepPair (e := by assumption)); (with_reducible apply State.putRecord_keeps))
    | split
    | dsimp only

theorem State.askCommit_keeps (s : State) (hours) (boost) : Keeps s (State.askCommit s hours boost) := by
  unfold State.askCommit
  repeat' first
    | with_reducible exact Keeps.refl _
    | ((with_reducible apply Keeps.step); (with_reducible apply State.commitImage_keeps))
    | ((with_reducible apply Keeps.frame); (with_reducible apply State.modPer_frame); exact rfl)
    | split
    | dsimp only

theorem State.applyEntry_keeps (s : State) (e) : Keeps s (State.applyEntry s e) := by
  unfold State.applyEntry
  repeat' first
    | with_reducible exact Keeps.refl _
    | ((with_reducible apply Keeps.step); (with_reducible apply State.raise_keeps))
    | ((with_reducible apply Keeps.frame); (with_reducible first
          | apply State.setBlob_frame | apply State.setParam_frame | apply State.modStress_frame); exact rfl)
    | split
    | dsimp only

theorem State.applyRecord_keeps (s : State) (r) : Keeps s (State.applyRecord s r) := by
  unfold State.applyRecord
  repeat' first
    | with_reducible exact Keeps.refl _
    | ((with_reducible apply Keeps.step); (with_reducible apply State.applyEntry_keeps))
    | ((with_reducible apply Keeps.frame); (with_reducible apply State.modPer_frame); exact rfl)
    | ((with_reducible apply Keeps.foldl); intro _ _)
    | ((with_reducible apply Keeps.foldlPair); intro _ _)
    | split
    | dsimp only

theorem State.maskStore_keeps (s : State) (bpa) (mask) (d) : Keeps s (State.maskStore s bpa mask d) := by
  unfold State.maskStore
  repeat' first
    | with_reducible exact Keeps.refl _
    | ((with_reducible apply Keeps.step); (with_reducible first | apply State.store_keeps | apply State.mwrite_keeps))
    | split
    | dsimp only

theorem State.poisonAt_keeps (s : State) (y) (g) : Keeps s (State.poisonAt s y g) := by
  unfold State.poisonAt
  repeat' first
    | with_reducible exact Keeps.refl _
    | ((with_reducible apply Keeps.step); (with_reducible first
          | apply State.poisonGranule_keeps | apply State.raise_keeps))
    | ((with_reducible apply Keeps.frame); (with_reducible apply State.modPot_frame); exact rfl)
    | split
    | dsimp only

theorem State.accepted_keeps (s : State) (st) (c) (r) (joins) : Keeps s (State.accepted s st c r joins) := by
  unfold State.accepted
  repeat' first
    | with_reducible exact Keeps.refl _
    | ((with_reducible apply Keeps.step); (with_reducible first
          | apply State.mwrite_keeps | apply State.maskStore_keeps | apply State.poisonAt_keeps))
    | ((with_reducible apply Keeps.frame); (with_reducible first
          | apply State.chargeReq_frame | apply State.markOver_frame); exact rfl)
    | split
    | dsimp only

theorem State.mergeWrite_keeps (s : State) (st) (c) (r) : Keeps s ((State.mergeWrite s st c r).getD s) := by
  unfold State.mergeWrite
  repeat' first
    | with_reducible exact Keeps.refl _
    | ((with_reducible apply Keeps.step); (with_reducible apply State.accepted_keeps))
    | ((with_reducible apply Keeps.frame); (with_reducible first
          | apply State.enterPool_frame | apply State.cancelMerge_frame | apply State.pcBump_frame
          | apply State.setPc_frame | apply State.modPc_frame); exact rfl)
    | split
    | dsimp only [Option.getD_some, Option.getD_none]

theorem State.mergeServe_keeps (s : State) (st) (c) (r) (m) : Keeps s (State.mergeServe s st c r m) := by
  unfold State.mergeServe
  repeat' first
    | with_reducible exact Keeps.refl _
    | ((with_reducible apply Keeps.step); (with_reducible apply State.accepted_keeps))
    | ((with_reducible apply Keeps.frame); (with_reducible apply State.modPc_frame); exact rfl)
    | split
    | dsimp only

theorem State.tryEnter_keeps (s : State) (st) (c) (r) : Keeps s ((State.tryEnter s st c r).getD s) := by
  unfold State.tryEnter
  repeat' first
    | with_reducible exact Keeps.refl _
    | ((with_reducible apply Keeps.step); (with_reducible first
          | apply State.mergeServe_keeps | apply State.mergeWrite_keeps | apply State.accepted_keeps))
    | ((with_reducible apply Keeps.frame); (with_reducible first
          | apply State.enterPool_frame | apply State.cancelMerge_frame | apply State.setPc_frame); exact rfl)
    | ((apply Keeps.stepOpt (e := by assumption)); (with_reducible apply State.mergeWrite_keeps))
    | split
    | dsimp only [Option.getD_some, Option.getD_none]

theorem State.pullOwn_keeps (s : State) (st) (c) (fuel) : Keeps s (State.pullOwn s st c fuel) := by
  induction fuel generalizing s st c with
  | zero =>
    simp only [State.pullOwn]
    repeat' first
      | with_reducible exact Keeps.refl _
      | ((with_reducible apply Keeps.step); (with_reducible apply State.tryEnter_keeps))
      | ((with_reducible apply Keeps.frame); (with_reducible apply State.modPc_frame); exact rfl)
      | ((apply Keeps.stepOpt (e := by assumption)); (with_reducible apply State.tryEnter_keeps))
      | split
      | dsimp only
  | succ n ih =>
    simp only [State.pullOwn]
    repeat' first
      | with_reducible exact Keeps.refl _
      | with_reducible apply Keeps.step (h := ih _ _ _)
      | ((with_reducible apply Keeps.step); (with_reducible apply State.tryEnter_keeps))
      | ((with_reducible apply Keeps.frame); (with_reducible apply State.modPc_frame); exact rfl)
      | ((apply Keeps.stepOpt (e := by assumption)); (with_reducible apply State.tryEnter_keeps))
      | split
      | dsimp only

theorem State.pullFifo_keeps (s : State) (st) (c) (fuel) : Keeps s (State.pullFifo s st c fuel) := by
  induction fuel generalizing s st c with
  | zero =>
    simp only [State.pullFifo]
    repeat' first
      | with_reducible exact Keeps.refl _
      | ((with_reducible apply Keeps.step); (with_reducible apply State.tryEnter_keeps))
      | ((with_reducible apply Keeps.frame); (with_reducible apply State.modPc_frame); exact rfl)
      | ((apply Keeps.stepOpt (e := by assumption)); (with_reducible apply State.tryEnter_keeps))
      | split
      | dsimp only
  | succ n ih =>
    simp only [State.pullFifo]
    repeat' first
      | with_reducible exact Keeps.refl _
      | with_reducible apply Keeps.step (h := ih _ _ _)
      | ((with_reducible apply Keeps.step); (with_reducible apply State.tryEnter_keeps))
      | ((with_reducible apply Keeps.frame); (with_reducible apply State.modPc_frame); exact rfl)
      | ((apply Keeps.stepOpt (e := by assumption)); (with_reducible apply State.tryEnter_keeps))
      | split
      | dsimp only

end Sys2Proof.Machine
end

