-- ==== Sys2Proof/Laws/KeepsCommands.lean ====
section
/-! SUPPORT. The operations that touch the stacked memory or the event log keep the invariant, one lemma per operation
(Pot, Retrain, Integrity, Phy, Egress, Power, Start, Firmware, Control, Create, Observe, DictRead, DictWrite,
DictLock, Dict, DictRows, Events, Resend, TileOps, Tick). -/

namespace Sys2Proof.Machine

theorem State.pullAll_keeps (s : State) (st) (c) : Keeps s (State.pullAll s st c) := by
  unfold State.pullAll
  repeat' first
    | with_reducible exact Keeps.refl _
    | ((with_reducible apply Keeps.step); (with_reducible first
          | apply State.pullOwn_keeps | apply State.pullFifo_keeps))
    | split
    | dsimp only

theorem State.leavePool_keeps (s : State) (st) (c) (r) : Keeps s (State.leavePool s st c r) := by
  unfold State.leavePool
  repeat' first
    | with_reducible exact Keeps.refl _
    | ((with_reducible apply Keeps.step); (with_reducible apply State.pullAll_keeps))
    | ((with_reducible apply Keeps.frame); (with_reducible apply State.quitPool_frame); exact rfl)
    | split
    | dsimp only

theorem State.offer_keeps (s : State) (st) (c) (r) : Keeps s ((State.offer s st c r).getD s) := by
  unfold State.offer
  repeat' first
    | with_reducible exact Keeps.refl _
    | ((with_reducible apply Keeps.step); (with_reducible apply State.tryEnter_keeps))
    | ((with_reducible apply Keeps.frame); (with_reducible apply State.setPc_frame); exact rfl)
    | ((apply Keeps.stepOpt (e := by assumption)); (with_reducible apply State.tryEnter_keeps))
    | split
    | dsimp only [Option.getD_some, Option.getD_none]

theorem State.offerAll_keeps (s : State) (r) (ps) : Keeps s ((State.offerAll s r ps).getD s) := by
  suffices h : ∀ t, State.offerAll s r ps = some t → Keeps s t by
    cases e : State.offerAll s r ps with
    | none => exact Keeps.refl _
    | some t => exact h t e
  induction ps generalizing s r with
  | nil =>
    intro t e
    cases e
    exact Keeps.refl _
  | cons y l ih =>
    intro t e
    unfold State.offerAll at e
    split at e
    · exact Keeps.step (ih _ _ _ e) (Keeps.stepOpt (State.offer_keeps ..) (by assumption) (Keeps.refl _))
    · cases e

theorem State.selfOffer_keeps (s : State) (r) (y) : Keeps s (State.selfOffer s r y) := by
  unfold State.selfOffer
  repeat' first
    | with_reducible exact Keeps.refl _
    | ((with_reducible apply Keeps.step); (with_reducible apply State.tryEnter_keeps))
    | ((with_reducible apply Keeps.frame); (with_reducible apply State.modPc_frame); exact rfl)
    | ((apply Keeps.stepOpt (e := by assumption)); (with_reducible apply State.tryEnter_keeps))
    | split
    | dsimp only

theorem State.selfWrite_keeps (s : State) (y) (g) (data) (who) : Keeps s (State.selfWrite s y g data who) := by
  unfold State.selfWrite
  repeat' first
    | with_reducible exact Keeps.refl _
    | ((with_reducible apply Keeps.step); (with_reducible apply State.selfOffer_keeps))
    | split
    | dsimp only

theorem State.selfPoison_keeps (s : State) (y) (g) (who) : Keeps s (State.selfPoison s y g who) := by
  unfold State.selfPoison
  repeat' first
    | with_reducible exact Keeps.refl _
    | ((with_reducible apply Keeps.step); (with_reducible apply State.selfOffer_keeps))
    | split
    | dsimp only

theorem execGranuleRequestAccept_keeps (stack) (write) (bpa) (mask) (data) (src) (unit) (tag) (s : State) :
    Keeps s (nextState (execGranuleRequestAccept stack write bpa mask data src unit tag s) s) := by
  unfold execGranuleRequestAccept
  repeat' first
    | with_reducible exact Keeps.refl _
    | ((with_reducible apply Keeps.step); (with_reducible apply State.offerAll_keeps))
    | ((with_reducible apply Keeps.frame); (with_reducible first
          | apply State.wakeDom_frame | apply State.markStand_frame); exact rfl)
    | ((apply Keeps.stepOpt (e := by assumption)); (with_reducible apply State.offerAll_keeps))
    | split
    | dsimp only [nextState]

theorem execWriteRetire_keeps (stack) (pc) (id) (s : State) :
    Keeps s (nextState (execWriteRetire stack pc id s) s) := by
  unfold execWriteRetire State.runLive
  repeat' first
    | with_reducible exact Keeps.refl _
    | ((with_reducible apply Keeps.step); (with_reducible apply State.leavePool_keeps))
    | split
    | dsimp only [nextState]

theorem execMergeWriteBack_keeps (stack) (pc) (gran) (s : State) :
    Keeps s (nextState (execMergeWriteBack stack pc gran s) s) := by
  unfold execMergeWriteBack State.runLive
  repeat' first
    | with_reducible exact Keeps.refl _
    | ((with_reducible apply Keeps.step); (with_reducible first
          | apply State.accepted_keeps | apply State.pullAll_keeps))
    | ((with_reducible apply Keeps.frame); (with_reducible first
          | apply State.enterPool_frame | apply State.pcBump_frame | apply State.setPc_frame); exact rfl)
    | split
    | dsimp only [nextState]

theorem State.askRebuild_keeps (s : State) (desc) : Keeps s (State.askRebuild s desc) := by
  unfold State.askRebuild
  repeat' first
    | with_reducible exact Keeps.refl _
    | ((with_reducible apply Keeps.step); (with_reducible apply State.raise_keeps))
    | split
    | dsimp only

theorem State.raiseRebuilds_keeps (s : State) : Keeps s (State.raiseRebuilds s) := by
  unfold State.raiseRebuilds
  repeat' first
    | with_reducible exact Keeps.refl _
    | ((with_reducible apply Keeps.step); (with_reducible apply State.askRebuild_keeps))
    | ((with_reducible apply Keeps.foldl); intro _ _)
    | ((with_reducible apply Keeps.foldlPair); intro _ _)
    | split
    | dsimp only

theorem State.rebuildAfter_keeps (s : State) (st) (ch) : Keeps s (State.rebuildAfter s st ch) := by
  unfold State.rebuildAfter
  repeat' first
    | with_reducible exact Keeps.refl _
    | ((with_reducible apply Keeps.step); (with_reducible apply State.raiseRebuilds_keeps))
    | split
    | dsimp only

theorem State.blockRetire_keeps (s : State) (st) (r) : Keeps s (State.blockRetire s st r) := by
  unfold State.blockRetire
  repeat' first
    | with_reducible exact Keeps.refl _
    | ((with_reducible apply Keeps.step); (with_reducible first
          | apply State.rebuildAfter_keeps | apply State.raise_keeps))
    | ((with_reducible apply Keeps.frame); (with_reducible first
          | apply State.setPot_frame | apply State.stackBump_frame); exact rfl)
    | split
    | dsimp only

theorem State.fillRank_keeps (s : State) (st) (r) : Keeps s (State.fillRank s st r) := by
  unfold State.fillRank
  repeat' first
    | with_reducible exact Keeps.refl _
    | ((with_reducible apply Keeps.step); (with_reducible apply State.blockRetire_keeps))
    | ((with_reducible apply Keeps.frame); (with_reducible apply State.setPot_frame); exact rfl)
    | split
    | dsimp only

theorem State.nextMove_keeps (s : State) (st) (fuel) : Keeps s (State.nextMove s st fuel) := by
  induction fuel generalizing s st with
  | zero =>
    simp only [State.nextMove]
    repeat' first
      | with_reducible exact Keeps.refl _
      | ((with_reducible apply Keeps.step); (with_reducible apply State.blockRetire_keeps))
      | ((with_reducible apply Keeps.frame); (with_reducible apply State.setPot_frame); exact rfl)
      | split
      | dsimp only
  | succ n ih =>
    simp only [State.nextMove]
    repeat' first
      | with_reducible exact Keeps.refl _
      | with_reducible apply Keeps.step (h := ih _ _)
      | ((with_reducible apply Keeps.step); (with_reducible apply State.blockRetire_keeps))
      | ((with_reducible apply Keeps.frame); (with_reducible apply State.setPot_frame); exact rfl)
      | split
      | dsimp only

theorem State.nextRetire_keeps (s : State) (st) : Keeps s (State.nextRetire s st) := by
  unfold State.nextRetire
  repeat' first
    | with_reducible exact Keeps.refl _
    | ((with_reducible apply Keeps.step); (with_reducible first
          | apply State.nextMove_keeps | apply State.fillRank_keeps))
    | ((with_reducible apply Keeps.frame); (with_reducible apply State.modPot_frame); exact rfl)
    | ((with_reducible apply Keeps.foldl); intro _ _)
    | ((with_reducible apply Keeps.foldlPair); intro _ _)
    | split
    | dsimp only

theorem State.askRetire_keeps (s : State) (st) (v) (sid) : Keeps s (State.askRetire s st v sid) := by
  unfold State.askRetire
  repeat' first
    | with_reducible exact Keeps.refl _
    | ((with_reducible apply Keeps.step); (with_reducible apply State.nextRetire_keeps))
    | ((with_reducible apply Keeps.frame); (with_reducible apply State.setPot_frame); exact rfl)
    | split
    | dsimp only

theorem State.triggerRetire_keeps (s : State) (st) (c) (sid) : Keeps s (State.triggerRetire s st c sid) := by
  unfold State.triggerRetire
  repeat' first
    | with_reducible exact Keeps.refl _
    | ((with_reducible apply Keeps.step); (with_reducible first
          | apply State.note_keeps | apply State.askRetire_keeps))
    | split
    | dsimp only

theorem State.chanEvent_keeps (s : State) (st) (ch) (trigger) : Keeps s (State.chanEvent s st ch trigger) := by
  unfold State.chanEvent
  repeat' first
    | with_reducible exact Keeps.refl _
    | ((with_reducible apply Keeps.step); (with_reducible apply State.raise_keeps))
    | split
    | dsimp only

theorem State.startSplit_keeps (s : State) (st) (ch) (trigger) : Keeps s (State.startSplit s st ch trigger) := by
  unfold State.startSplit
  repeat' first
    | with_reducible exact Keeps.refl _
    | ((with_reducible apply Keeps.step); (with_reducible apply State.chanEvent_keeps))
    | ((with_reducible apply Keeps.frame); (with_reducible apply State.modChan_frame); exact rfl)
    | split
    | dsimp only

theorem State.startStand_keeps (s : State) (st) (ch) (spare) (trigger) (retrain) :
    Keeps s (State.startStand s st ch spare trigger retrain) := by
  unfold State.startStand
  repeat' first
    | with_reducible exact Keeps.refl _
    | ((with_reducible apply Keeps.step); (with_reducible apply State.chanEvent_keeps))
    | ((with_reducible apply Keeps.frame); (with_reducible first
          | apply State.modChan_frame | apply State.modPot_frame); exact rfl)
    | ((with_reducible apply Keeps.foldl); intro _ _)
    | ((with_reducible apply Keeps.foldlPair); intro _ _)
    | split
    | dsimp only

theorem State.askRetrain_keeps (s : State) (st) (ch) (trigger) : Keeps s (State.askRetrain s st ch trigger) := by
  unfold State.askRetrain
  repeat' first
    | with_reducible exact Keeps.refl _
    | ((with_reducible apply Keeps.step); (with_reducible first
          | apply State.startStand_keeps | apply State.startSplit_keeps))
    | ((with_reducible apply Keeps.frame); (with_reducible apply State.modChan_frame); exact rfl)
    | split
    | dsimp only

theorem State.countLane_keeps (s : State) (st) (c) (sid) (lane) : Keeps s (State.countLane s st c sid lane) := by
  unfold State.countLane
  repeat' first
    | with_reducible exact Keeps.refl _
    | ((with_reducible apply Keeps.step); (with_reducible apply State.askRetrain_keeps))
    | ((with_reducible apply Keeps.frame); (with_reducible first
          | apply State.setPc_frame | apply State.modPc_frame); exact rfl)
    | split
    | dsimp only

theorem State.countLost_keeps (s : State) (st) (c) (n) : Keeps s (State.countLost s st c n) := by
  unfold State.countLost
  repeat' first
    | with_reducible exact Keeps.refl _
    | ((with_reducible apply Keeps.step); (with_reducible apply State.askRetrain_keeps))
    | ((with_reducible apply Keeps.frame); (with_reducible first
          | apply State.setChan_frame | apply State.pcBump_frame); exact rfl)
    | split
    | dsimp only

theorem State.countCe_keeps (s : State) (st) (c) (sid) (bank) (row) :
    Keeps s (State.countCe s st c sid bank row) := by
  unfold State.countCe
  repeat' first
    | with_reducible exact Keeps.refl _
    | ((with_reducible apply Keeps.step); (with_reducible apply State.triggerRetire_keeps))
    | ((with_reducible apply Keeps.frame); (with_reducible apply State.modPc_frame); exact rfl)
    | split
    | dsimp only

theorem State.countUe_keeps (s : State) (st) (c) (sid) (bank) (row) :
    Keeps s (State.countUe s st c sid bank row) := by
  unfold State.countUe
  repeat' first
    | with_reducible exact Keeps.refl _
    | ((with_reducible apply Keeps.step); (with_reducible apply State.triggerRetire_keeps))
    | ((with_reducible apply Keeps.frame); (with_reducible apply State.modPc_frame); exact rfl)
    | split
    | dsimp only

theorem State.countRead_keeps (s : State) (y) (v) (lost) : Keeps s (State.countRead s y v lost) := by
  unfold State.countRead
  repeat' first
    | with_reducible exact Keeps.refl _
    | ((with_reducible apply Keeps.step); (with_reducible first
          | apply State.countCe_keeps | apply State.countUe_keeps | apply State.countLost_keeps
          | apply State.countLane_keeps))
    | ((with_reducible apply Keeps.frame); (with_reducible first
          | apply State.modPot_frame | apply State.pcBump_frame); exact rfl)
    | ((with_reducible apply Keeps.foldl); intro _ _)
    | ((with_reducible apply Keeps.foldlPair); intro _ _)
    | split
    | dsimp only

theorem State.addFail_keeps (s : State) (req) (seq) (g) : Keeps s (State.addFail s req seq g) := by
  unfold State.addFail
  repeat' first
    | with_reducible exact Keeps.refl _
    | ((with_reducible apply Keeps.step); (with_reducible apply Keeps.modMem) <;> intro _ h <;> first
          | exact h | exact mapWf_filter _ h | exact mapWf_mapClear _ _ h | exact mapWf_mapPutList _ _ h
          | exact mapWf_mapPut _ h (by decide))
    | split
    | dsimp only

theorem State.addMisread_keeps (s : State) (req) (seq) (g) (b) : Keeps s (State.addMisread s req seq g b) := by
  unfold State.addMisread
  repeat' first
    | with_reducible exact Keeps.refl _
    | ((with_reducible apply Keeps.step); (with_reducible apply Keeps.modMem) <;> intro _ h <;> first
          | exact h | exact mapWf_filter _ h | exact mapWf_mapClear _ _ h | exact mapWf_mapPutList _ _ h
          | exact mapWf_mapPut _ h (by decide))
    | split
    | dsimp only

theorem State.failFor_keeps (s : State) (o) (g) : Keeps s (State.failFor s o g) := by
  unfold State.failFor
  repeat' first
    | with_reducible exact Keeps.refl _
    | ((with_reducible apply Keeps.step); (with_reducible apply State.addFail_keeps))
    | split
    | dsimp only

theorem State.failSlot_keeps (s : State) (y) : Keeps s (State.failSlot s y) := by
  unfold State.failSlot
  repeat' first
    | with_reducible exact Keeps.refl _
    | ((with_reducible apply Keeps.step); (with_reducible apply State.nextRetire_keeps))
    | ((with_reducible apply Keeps.frame); (with_reducible apply State.setPot_frame); exact rfl)
    | split
    | dsimp only

theorem State.storageRead_keeps (s : State) (req) (seq) (gran) (code) :
    Keeps s (State.storageRead s req seq gran code) := by
  unfold State.storageRead
  repeat' first
    | with_reducible exact Keeps.refl _
    | ((with_reducible apply Keeps.step); (with_reducible apply State.storageFails_keeps))
    | split
    | dsimp only

theorem State.mergeBack_keeps (s : State) (st) (c) (g) (data) : Keeps s (State.mergeBack s st c g data) := by
  unfold State.mergeBack
  repeat' first
    | with_reducible exact Keeps.refl _
    | ((with_reducible apply Keeps.step); (with_reducible apply State.mwrite_keeps))
    | ((with_reducible apply Keeps.frame); (with_reducible apply State.modPc_frame); exact rfl)
    | split
    | dsimp only

theorem State.mergeFails_keeps (s : State) (st) (c) (g) (uncorr) : Keeps s (State.mergeFails s st c g uncorr) := by
  unfold State.mergeFails
  repeat' first
    | with_reducible exact Keeps.refl _
    | ((with_reducible apply Keeps.step); (with_reducible apply State.failFor_keeps))
    | ((with_reducible apply Keeps.frame); (with_reducible apply State.modPc_frame); exact rfl)
    | ((with_reducible apply Keeps.foldl); intro _ _)
    | ((with_reducible apply Keeps.foldlPair); intro _ _)
    | split
    | dsimp only

theorem State.copyRow_keeps (s : State) (st) (c) (i) : Keeps s (State.copyRow s st c i) := by
  unfold State.copyRow
  repeat' first
    | with_reducible exact Keeps.refl _
    | ((with_reducible apply Keeps.step); (with_reducible apply State.selfOffer_keeps))
    | ((with_reducible apply Keeps.foldl); intro _ _)
    | ((with_reducible apply Keeps.foldlPair); intro _ _)
    | split
    | dsimp only

theorem State.copyGranule_keeps (s : State) (st) (c) (i) (r) (data) :
    Keeps s (State.copyGranule s st c i r data) := by
  unfold State.copyGranule
  repeat' first
    | with_reducible exact Keeps.refl _
    | ((with_reducible apply Keeps.step); (with_reducible first
          | apply State.selfWrite_keeps | apply State.selfPoison_keeps))
    | ((with_reducible apply Keeps.frame); (with_reducible apply State.modPc_frame); exact rfl)
    | split
    | dsimp only

theorem execGranuleReadDecode_keeps (stack) (pc) (id) (word) (lost) (req) (seq) (s : State) :
    Keeps s (nextState (execGranuleReadDecode stack pc id word lost req seq s) s) := by
  unfold execGranuleReadDecode State.runLive
  repeat' first
    | with_reducible exact Keeps.refl _
    | ((with_reducible apply Keeps.step); (with_reducible first
          | apply State.failSlot_keeps | apply State.mergeBack_keeps | apply State.mergeFails_keeps
          | apply State.addFail_keeps | apply State.selfWrite_keeps | apply State.selfPoison_keeps
          | apply State.storageRead_keeps | apply State.copyGranule_keeps | apply State.addMisread_keeps
          | apply State.countRead_keeps | apply State.pullAll_keeps))
    | ((with_reducible apply Keeps.frame); (with_reducible first
          | apply State.pcBump_frame | apply State.quitPool_frame); exact rfl)
    | split
    | dsimp only [nextState]

theorem State.compareMirror_keeps (s : State) (y) (g) : Keeps s (State.compareMirror s y g) := by
  unfold State.compareMirror
  repeat' first
    | with_reducible exact Keeps.refl _
    | ((with_reducible apply Keeps.step); (with_reducible first
          | apply State.note_keeps | apply State.store_keeps | apply State.askRebuild_keeps | apply State.mark_keeps
          | apply State.poisonAt_keeps))
    | ((with_reducible apply Keeps.frame); (with_reducible apply State.pcBump_frame); exact rfl)
    | split
    | dsimp only

theorem execPatrolScrub_keeps (stack) (pc) (word) (s : State) :
    Keeps s (nextState (execPatrolScrub stack pc word s) s) := by
  unfold execPatrolScrub State.runLive
  repeat' first
    | with_reducible exact Keeps.refl _
    | ((with_reducible apply Keeps.step); (with_reducible first
          | apply State.selfWrite_keeps | apply State.selfPoison_keeps | apply State.countRead_keeps
          | apply State.compareMirror_keeps))
    | ((with_reducible apply Keeps.frame); (with_reducible first
          | apply State.wakeDom_frame | apply State.pcBump_frame | apply State.modPc_frame); exact rfl)
    | split
    | dsimp only [nextState]

theorem execRemapRow_keeps (stack) (pc) (sid) (bank) (row) (s : State) :
    Keeps s (nextState (execRemapRow stack pc sid bank row s) s) := by
  unfold execRemapRow State.runDuty
  repeat' first
    | with_reducible exact Keeps.refl _
    | ((with_reducible apply Keeps.step); (with_reducible first
          | apply State.triggerRetire_keeps | apply State.copyRow_keeps))
    | ((with_reducible apply Keeps.frame); (with_reducible apply State.setPc_frame); exact rfl)
    | split
    | dsimp only [nextState]

theorem execRemapActive_keeps (stack) (pc) (entry) (s : State) :
    Keeps s (nextState (execRemapActive stack pc entry s) s) := by
  unfold execRemapActive State.runDuty
  repeat' first
    | with_reducible exact Keeps.refl _
    | ((with_reducible apply Keeps.step); (with_reducible apply State.copyRow_keeps))
    | ((with_reducible apply Keeps.frame); (with_reducible first
          | apply State.pcBump_frame | apply State.setPc_frame); exact rfl)
    | split
    | dsimp only [nextState]

theorem State.endMigration_keeps (s : State) (st) (m) : Keeps s (State.endMigration s st m) := by
  unfold State.endMigration
  repeat' first
    | with_reducible exact Keeps.refl _
    | ((with_reducible apply Keeps.step); (with_reducible first
          | apply State.rebuildAfter_keeps | apply State.nextRetire_keeps | apply State.raise_keeps))
    | ((with_reducible apply Keeps.frame); (with_reducible first
          | apply State.setPot_frame | apply State.stackBump_frame); exact rfl)
    | ((with_reducible apply Keeps.foldl); intro _ _)
    | ((with_reducible apply Keeps.foldlPair); intro _ _)
    | split
    | dsimp only

theorem State.fillRow_keeps (s : State) (st) (m) : Keeps s (State.fillRow s st m) := by
  unfold State.fillRow
  repeat' first
    | with_reducible exact Keeps.refl _
    | ((with_reducible apply Keeps.step); (with_reducible first
          | apply State.endMigration_keeps | apply State.selfPoison_keeps))
    | ((with_reducible apply Keeps.frame); (with_reducible apply State.modPot_frame); exact rfl)
    | ((with_reducible apply Keeps.foldl); intro _ _)
    | ((with_reducible apply Keeps.foldlPair); intro _ _)
    | split
    | dsimp only

theorem execMigrationRowCopy_keeps (stack) (words) (s : State) :
    Keeps s (nextState (execMigrationRowCopy stack words s) s) := by
  unfold execMigrationRowCopy State.runDuty
  repeat' first
    | with_reducible exact Keeps.refl _
    | ((with_reducible apply Keeps.step); (with_reducible first
          | apply State.endMigration_keeps | apply State.selfWrite_keeps | apply State.selfPoison_keeps
          | apply State.fillRow_keeps | apply State.countRead_keeps))
    | ((with_reducible apply Keeps.frame); (with_reducible first
          | apply State.thawPot_frame | apply State.modPot_frame | apply State.freezeInto_frame); exact rfl)
    | ((with_reducible apply Keeps.foldl); intro _ _)
    | ((with_reducible apply Keeps.foldlPair); intro _ _)
    | split
    | dsimp only [nextState]

theorem State.retireChannel_keeps (s : State) (st) (ch) : Keeps s (State.retireChannel s st ch) := by
  unfold State.retireChannel
  repeat' first
    | with_reducible exact Keeps.refl _
    | ((with_reducible apply Keeps.step); (with_reducible first
          | apply State.note_keeps | apply State.rebuildAfter_keeps | apply State.nextRetire_keeps))
    | ((with_reducible apply Keeps.frame); (with_reducible first
          | apply State.modChan_frame | apply State.setPot_frame); exact rfl)
    | ((with_reducible apply Keeps.foldl); intro _ _)
    | ((with_reducible apply Keeps.foldlPair); intro _ _)
    | split
    | dsimp only

theorem State.startReturn_keeps (s : State) (st) (n) : Keeps s (State.startReturn s st n) := by
  unfold State.startReturn
  repeat' first
    | with_reducible exact Keeps.refl _
    | ((with_reducible apply Keeps.step); (with_reducible apply State.chanEvent_keeps))
    | ((with_reducible apply Keeps.frame); (with_reducible first
          | apply State.modChan_frame | apply State.modPot_frame | apply State.chanBump_frame); exact rfl)
    | split
    | dsimp only

theorem State.endStand_keeps (s : State) (st) (n) : Keeps s (State.endStand s st n) := by
  unfold State.endStand
  repeat' first
    | with_reducible exact Keeps.refl _
    | ((with_reducible apply Keeps.step); (with_reducible apply State.askRetrain_keeps))
    | ((with_reducible apply Keeps.frame); (with_reducible first
          | apply State.modChan_frame | apply State.modPot_frame); exact rfl)
    | split
    | dsimp only

theorem State.afterTraining_keeps (s : State) (st) (ch) : Keeps s (State.afterTraining s st ch) := by
  unfold State.afterTraining
  repeat' first
    | with_reducible exact Keeps.refl _
    | ((with_reducible apply Keeps.step); (with_reducible first
          | apply State.startReturn_keeps | apply State.nextRetire_keeps | apply State.chanEvent_keeps))
    | ((with_reducible apply Keeps.frame); (with_reducible apply State.modChan_frame); exact rfl)
    | split
    | dsimp only

theorem State.noSetting_keeps (s : State) (st) (ch) (maps) (sieve) (dead) :
    Keeps s (State.noSetting s st ch maps sieve dead) := by
  unfold State.noSetting
  repeat' first
    | with_reducible exact Keeps.refl _
    | ((with_reducible apply Keeps.step); (with_reducible first
          | apply State.raise_keeps | apply State.endStand_keeps | apply State.retireChannel_keeps))
    | ((with_reducible apply Keeps.frame); (with_reducible first
          | apply State.modChan_frame | apply State.modPc_frame); exact rfl)
    | ((with_reducible apply Keeps.foldl); intro _ _)
    | ((with_reducible apply Keeps.foldlPair); intro _ _)
    | split
    | dsimp only

theorem execTraining_keeps (stack) (ch) (ok) (maps) (verify) (s : State) :
    Keeps s (nextState (execTraining stack ch ok maps verify s) s) := by
  unfold execTraining State.runDuty
  repeat' first
    | with_reducible exact Keeps.refl _
    | ((with_reducible apply Keeps.step); (with_reducible first
          | apply State.note_keeps | apply State.noSetting_keeps | apply State.afterTraining_keeps))
    | ((with_reducible apply Keeps.frame); (with_reducible first
          | apply State.modChan_frame | apply State.recordTraining_frame | apply State.publish_frame
          | apply State.binFallback_frame | apply State.modPc_frame); exact rfl)
    | ((apply Keeps.stepOpt (e := by assumption)); (with_reducible apply Keeps.frame);
        (with_reducible apply State.binFallback_frame); exact rfl; exact Keeps.refl _)
    | ((with_reducible apply Keeps.foldl); intro _ _)
    | ((with_reducible apply Keeps.foldlPair); intro _ _)
    | split
    | dsimp only [nextState]

theorem State.endTest_keeps (s : State) (st) (ch) : Keeps s (State.endTest s st ch) := by
  unfold State.endTest
  repeat' first
    | with_reducible exact Keeps.refl _
    | ((with_reducible apply Keeps.step); (with_reducible apply State.startReturn_keeps))
    | ((with_reducible apply Keeps.frame); (with_reducible first
          | apply State.modChan_frame | apply State.setParam_frame); exact rfl)
    | split
    | dsimp only

theorem State.testHold_keeps (s : State) (st) (ch) (value) : Keeps s (State.testHold s st ch value) := by
  unfold State.testHold
  repeat' first
    | with_reducible exact Keeps.refl _
    | ((with_reducible apply Keeps.step); (with_reducible first
          | apply State.endTest_keeps | apply State.startStand_keeps))
    | ((with_reducible apply Keeps.frame); (with_reducible apply State.modChan_frame); exact rfl)
    | split
    | dsimp only

theorem execHistogramComplete_keeps (stack) (ch) (lane) (bins) (s : State) :
    Keeps s (nextState (execHistogramComplete stack ch lane bins s) s) := by
  unfold execHistogramComplete State.runDuty
  repeat' first
    | with_reducible exact Keeps.refl _
    | ((with_reducible apply Keeps.step); (with_reducible first
          | apply State.chanEvent_keeps | apply State.askRetrain_keeps))
    | ((with_reducible apply Keeps.frame); (with_reducible first
          | apply State.setChan_frame | apply State.chanBump_frame); exact rfl)
    | ((with_reducible apply Keeps.foldl); intro _ _)
    | ((with_reducible apply Keeps.foldlPair); intro _ _)
    | split
    | dsimp only [nextState]

theorem State.askPoint_keeps (s : State) (st) (ch) : Keeps s (State.askPoint s st ch) := by
  unfold State.askPoint
  repeat' first
    | with_reducible exact Keeps.refl _
    | ((with_reducible apply Keeps.step); (with_reducible apply State.askRetrain_keeps))
    | ((with_reducible apply Keeps.frame); (with_reducible apply State.modChan_frame); exact rfl)
    | split
    | dsimp only

theorem execTempPoll_keeps (stack) (reading) (s : State) : Keeps s (nextState (execTempPoll stack reading s) s) := by
  unfold execTempPoll runIf
  repeat' first
    | with_reducible exact Keeps.refl _
    | ((with_reducible apply Keeps.step); (with_reducible first
          | apply State.note_keeps | apply State.askPoint_keeps))
    | ((with_reducible apply Keeps.frame); (with_reducible apply State.setPot_frame); exact rfl)
    | ((with_reducible apply Keeps.foldl); intro _ _)
    | ((with_reducible apply Keeps.foldlPair); intro _ _)
    | split
    | dsimp only [nextState]

theorem State.retrain_keeps (s : State) (st) (ch) (trigger) : Keeps s (State.retrain s st ch trigger) := by
  unfold State.retrain
  repeat' first
    | with_reducible exact Keeps.refl _
    | ((with_reducible apply Keeps.step); (with_reducible first
          | apply State.askPoint_keeps | apply State.askRetrain_keeps))
    | split
    | dsimp only

theorem execRetrainPeriodExpiry_keeps (stack) (ch) (s : State) :
    Keeps s (nextState (execRetrainPeriodExpiry stack ch s) s) := by
  unfold execRetrainPeriodExpiry State.runDuty
  repeat' first
    | with_reducible exact Keeps.refl _
    | ((with_reducible apply Keeps.step); (with_reducible apply State.askRetrain_keeps))
    | split
    | dsimp only [nextState]

theorem execCaParityAlert_keeps (stack) (ch) (s : State) : Keeps s (nextState (execCaParityAlert stack ch s) s) := by
  unfold execCaParityAlert State.runLive
  repeat' first
    | with_reducible exact Keeps.refl _
    | ((with_reducible apply Keeps.step); (with_reducible apply State.askRetrain_keeps))
    | ((with_reducible apply Keeps.frame); (with_reducible first
          | apply State.chanBump_frame | apply State.modPc_frame | apply State.freezeArb_frame); exact rfl)
    | ((with_reducible apply Keeps.foldl); intro _ _)
    | ((with_reducible apply Keeps.foldlPair); intro _ _)
    | split
    | dsimp only [nextState]

theorem execStandinFillEnd_keeps (stack) (s : State) : Keeps s (nextState (execStandinFillEnd stack s) s) := by
  unfold execStandinFillEnd State.runDuty
  repeat' first
    | with_reducible exact Keeps.refl _
    | ((with_reducible apply Keeps.step); (with_reducible first
          | apply State.startReturn_keeps | apply State.chanEvent_keeps))
    | ((with_reducible apply Keeps.frame); (with_reducible first
          | apply State.setChan_frame | apply State.modPot_frame | apply State.chanBump_frame); exact rfl)
    | split
    | dsimp only [nextState]

theorem execStandinReturnEnd_keeps (stack) (s : State) : Keeps s (nextState (execStandinReturnEnd stack s) s) := by
  unfold execStandinReturnEnd State.runDuty
  repeat' first
    | with_reducible exact Keeps.refl _
    | ((with_reducible apply Keeps.step); (with_reducible first
          | apply State.nextRetire_keeps | apply State.endStand_keeps | apply State.chanEvent_keeps))
    | ((with_reducible apply Keeps.frame); (with_reducible first
          | apply State.modChan_frame | apply State.chanBump_frame); exact rfl)
    | split
    | dsimp only [nextState]

theorem State.giveBack_keeps (s : State) (r) (sent) : Keeps s (State.giveBack s r sent) := by
  unfold State.giveBack
  repeat' first
    | with_reducible exact Keeps.refl _
    | ((with_reducible apply Keeps.step); (with_reducible apply State.undelivered_keeps))
    | ((with_reducible apply Keeps.frame); (with_reducible first
          | apply State.stagePick_frame | apply State.startHold_frame); exact rfl)
    | split
    | dsimp only

theorem execDoneTableWriteAccepted_keeps (entry) (slot) (s : State) :
    Keeps s (nextState (execDoneTableWriteAccepted entry slot s) s) := by
  unfold execDoneTableWriteAccepted State.runLive
  repeat' first
    | with_reducible exact Keeps.refl _
    | ((with_reducible apply Keeps.step); (with_reducible apply State.giveBack_keeps))
    | ((with_reducible apply Keeps.frame); (with_reducible first
          | apply State.stage_frame | apply State.chargeClass_frame | apply State.modFrm_frame
          | apply State.portBump_frame); exact rfl)
    | split
    | dsimp only [nextState]

theorem State.headerLeaves_keeps (s : State) (x) (f) :
    Keeps s (State.headerLeaves s x f).1 := by
  unfold State.headerLeaves
  cases s.lateBy x f with
  | none =>
    dsimp only
    repeat' first
        | with_reducible exact Keeps.refl _
        | ((with_reducible apply Keeps.step); (with_reducible apply State.delivered_keeps))
        | ((with_reducible apply Keeps.frame); (with_reducible first
            | apply State.startHold_frame | apply State.classTally_frame); exact rfl)
        | split
        | dsimp only
  | some d =>
    dsimp only
    repeat' first
        | with_reducible exact Keeps.refl _
        | ((with_reducible apply Keeps.step); (with_reducible apply State.delivered_keeps))
        | ((with_reducible apply Keeps.frame); (with_reducible first
            | apply State.startHold_frame | apply State.classTally_frame); exact rfl)
        | split
        | dsimp only

theorem State.sendCell_keeps (s : State) (p) (q) : Keeps s (State.sendCell s p q) := by
  unfold State.sendCell
  repeat' first
    | with_reducible exact Keeps.refl _
    | ((with_reducible apply Keeps.step); (with_reducible apply State.headerLeaves_keeps))
    | ((with_reducible apply Keeps.frame); (with_reducible first
          | apply State.modPort_frame | apply State.classTally_frame | apply State.portBump_frame); exact rfl)
    | ((apply Keeps.stepPair (e := by assumption)); (with_reducible apply State.headerLeaves_keeps))
    | split
    | dsimp only

theorem State.serve_keeps (s : State) (p) (w) : Keeps s (State.serve s p w) := by
  unfold State.serve
  repeat' first
    | with_reducible exact Keeps.refl _
    | ((with_reducible apply Keeps.step); (with_reducible apply State.sendCell_keeps))
    | ((with_reducible apply Keeps.frame); (with_reducible apply State.modPort_frame); exact rfl)
    | split
    | dsimp only

theorem execEgressCell_keeps (port) (s : State) : Keeps s (nextState (execEgressCell port s) s) := by
  unfold execEgressCell State.runLive
  repeat' first
    | with_reducible exact Keeps.refl _
    | ((with_reducible apply Keeps.step); (with_reducible first
          | apply State.serve_keeps | apply State.oweStale_keeps))
    | ((with_reducible apply Keeps.frame); (with_reducible first
          | apply State.setPort_frame | apply State.setArb_frame | apply State.releasePort_frame
          | apply State.portBump_frame); exact rfl)
    | split
    | dsimp only [nextState]

theorem State.dropPort_keeps (s : State) (p) : Keeps s (State.dropPort s p) := by
  unfold State.dropPort
  repeat' first
    | with_reducible exact Keeps.refl _
    | ((with_reducible apply Keeps.step); (with_reducible apply State.giveBack_keeps))
    | ((with_reducible apply Keeps.frame); (with_reducible first
          | apply State.setPort_frame | apply State.releasePort_frame | apply State.portBump_frame); exact rfl)
    | ((with_reducible apply Keeps.foldl); intro _ _)
    | ((with_reducible apply Keeps.foldlPair); intro _ _)
    | split
    | dsimp only

theorem execPortDown_keeps (port) (s : State) : Keeps s (nextState (execPortDown port s) s) := by
  unfold execPortDown runIf
  repeat' first
    | with_reducible exact Keeps.refl _
    | ((with_reducible apply Keeps.step); (with_reducible apply State.dropPort_keeps))
    | ((with_reducible apply Keeps.frame); (with_reducible apply State.modPort_frame); exact rfl)
    | split
    | dsimp only [nextState]

theorem State.drainPc_keeps (s : State) (st) (c) (fuel) : Keeps s (State.drainPc s st c fuel) := by
  induction fuel generalizing s st c with
  | zero =>
    simp only [State.drainPc]
    repeat' first
      | with_reducible exact Keeps.refl _
      | ((with_reducible apply Keeps.step); (with_reducible apply State.pullAll_keeps))
      | ((with_reducible apply Keeps.frame); (with_reducible first
            | apply State.pcBump_frame | apply State.setPc_frame); exact rfl)
      | split
      | dsimp only
  | succ n ih =>
    simp only [State.drainPc]
    repeat' first
      | with_reducible exact Keeps.refl _
      | with_reducible apply Keeps.step (h := ih _ _ _)
      | ((with_reducible apply Keeps.step); (with_reducible apply State.pullAll_keeps))
      | ((with_reducible apply Keeps.frame); (with_reducible first
            | apply State.pcBump_frame | apply State.setPc_frame); exact rfl)
      | split
      | dsimp only

theorem State.drainPot_keeps (s : State) (st) : Keeps s (State.drainPot s st) := by
  unfold State.drainPot
  repeat' first
    | with_reducible exact Keeps.refl _
    | ((with_reducible apply Keeps.step); (with_reducible apply State.drainPc_keeps))
    | ((with_reducible apply Keeps.foldl); intro _ _)
    | ((with_reducible apply Keeps.foldlPair); intro _ _)
    | split
    | dsimp only

theorem State.applyHeld_keeps (s : State) (h) : Keeps s (State.applyHeld s h) := by
  unfold State.applyHeld
  repeat' first
    | with_reducible exact Keeps.refl _
    | ((with_reducible apply Keeps.step); (with_reducible first
          | apply State.sigRefused_keeps | apply State.applySync_keeps))
    | ((with_reducible apply Keeps.frame); (with_reducible first
          | apply State.applySig_frame | apply State.handCtr_frame); exact rfl)
    | ((apply Keeps.stepOpt (e := by assumption)); (with_reducible apply Keeps.frame);
        (with_reducible apply State.applySig_frame); exact rfl; exact Keeps.refl _)
    | split
    | dsimp only

theorem State.exitDom_keeps (s : State) (d) : Keeps s (State.exitDom s d) := by
  unfold State.exitDom
  repeat' first
    | with_reducible exact Keeps.refl _
    | ((with_reducible apply Keeps.step); (with_reducible first
          | apply State.restoreTile_keeps | apply State.applyHeld_keeps))
    | ((with_reducible apply Keeps.frame); (with_reducible first
          | apply State.settleDom_frame | apply State.stackUp_frame | apply State.modDom_frame
          | apply State.domBump_frame | apply State.freezeInto_frame); exact rfl)
    | ((with_reducible apply Keeps.foldl); intro _ _)
    | ((with_reducible apply Keeps.foldlPair); intro _ _)
    | split
    | dsimp only

theorem execDomainExit_keeps (d) (s : State) : Keeps s (nextState (execDomainExit d s) s) := by
  unfold execDomainExit State.runLive
  repeat' first
    | with_reducible exact Keeps.refl _
    | ((with_reducible apply Keeps.step); (with_reducible apply State.exitDom_keeps))
    | split
    | dsimp only [nextState]

theorem State.endAttSet_keeps (s : State) (i) (state) (unit) (dom) :
    Keeps s (State.endAttSet s i state unit dom) := by
  unfold State.endAttSet
  repeat' first
    | with_reducible exact Keeps.refl _
    | ((with_reducible apply Keeps.step); (with_reducible first
          | apply State.stopTile_keeps | apply State.endEpoch_keeps))
    | ((with_reducible apply Keeps.frame); (with_reducible apply State.setAttSet_frame); exact rfl)
    | ((with_reducible apply Keeps.foldl); intro _ _)
    | ((with_reducible apply Keeps.foldlPair); intro _ _)
    | split
    | dsimp only

theorem State.endUpdSet_keeps (s : State) (u) (state) (unit) (dom) :
    Keeps s (State.endUpdSet s u state unit dom) := by
  unfold State.endUpdSet
  repeat' first
    | with_reducible exact Keeps.refl _
    | ((with_reducible apply Keeps.step); (with_reducible first
          | apply State.stopTile_keeps | apply State.endEpoch_keeps))
    | ((with_reducible apply Keeps.frame); (with_reducible apply State.setUpd_frame); exact rfl)
    | ((with_reducible apply Keeps.foldl); intro _ _)
    | ((with_reducible apply Keeps.foldlPair); intro _ _)
    | split
    | dsimp only

theorem State.breakEpoch_keeps (s : State) (x) (unit) (dom) : Keeps s (State.breakEpoch s x unit dom) := by
  unfold State.breakEpoch
  repeat' first
    | with_reducible exact Keeps.refl _
    | ((with_reducible apply Keeps.step); (with_reducible apply State.breakSlot_keeps))
    | split
    | dsimp only

theorem State.cutXfer_keeps (s : State) (t) : Keeps s (State.cutXfer s t) := by
  unfold State.cutXfer
  repeat' first
    | with_reducible exact Keeps.refl _
    | ((with_reducible apply Keeps.step); (with_reducible first
          | apply State.settle_keeps | apply State.asyncFault_keeps))
    | ((with_reducible apply Keeps.frame); (with_reducible first
          | apply State.tileBump_frame | apply State.modTile_frame); exact rfl)
    | split
    | dsimp only

theorem State.cutXfers_keeps (s : State) (hit) : Keeps s (State.cutXfers s hit) := by
  unfold State.cutXfers
  repeat' first
    | with_reducible exact Keeps.refl _
    | ((with_reducible apply Keeps.step); (with_reducible apply State.cutXfer_keeps))
    | ((with_reducible apply Keeps.foldl); intro _ _)
    | ((with_reducible apply Keeps.foldlPair); intro _ _)
    | split
    | dsimp only

theorem State.resetSkillet_keeps (s : State) (n) : Keeps s (State.resetSkillet s n) := by
  unfold State.resetSkillet
  repeat' first
    | with_reducible exact Keeps.refl _
    | ((with_reducible apply Keeps.step); (with_reducible first
          | apply State.endUpdSet_keeps | apply State.endEpoch_keeps | apply State.endAttSet_keeps
          | apply State.cutXfers_keeps))
    | ((with_reducible apply Keeps.frame); (with_reducible first
          | apply State.bumpEpoch_frame | apply State.modTl_frame); exact rfl)
    | ((with_reducible apply Keeps.foldl); intro _ _)
    | ((with_reducible apply Keeps.foldlPair); intro _ _)
    | split
    | dsimp only

theorem State.potQueries_keeps (s : State) (st) (i) : Keeps s (State.potQueries s st i) := by
  unfold State.potQueries
  repeat' first
    | with_reducible exact Keeps.refl _
    | ((with_reducible apply Keeps.step); (with_reducible first
          | apply State.stopTile_keeps | apply State.endEpoch_keeps))
    | ((with_reducible apply Keeps.frame); (with_reducible apply State.setAttSet_frame); exact rfl)
    | ((with_reducible apply Keeps.foldl); intro _ _)
    | ((with_reducible apply Keeps.foldlPair); intro _ _)
    | split
    | dsimp only

theorem State.potUpdates_keeps (s : State) (st) (u) : Keeps s (State.potUpdates s st u) := by
  unfold State.potUpdates
  repeat' first
    | with_reducible exact Keeps.refl _
    | ((with_reducible apply Keeps.step); (with_reducible first
          | apply State.stopTile_keeps | apply State.endEpoch_keeps))
    | ((with_reducible apply Keeps.frame); (with_reducible apply State.setUpd_frame); exact rfl)
    | ((with_reducible apply Keeps.foldl); intro _ _)
    | ((with_reducible apply Keeps.foldlPair); intro _ _)
    | split
    | dsimp only

theorem State.resetPot_keeps (s : State) (st) : Keeps s (State.resetPot s st) := by
  unfold State.resetPot
  repeat' first
    | with_reducible exact Keeps.refl _
    | ((with_reducible apply Keeps.step); (with_reducible first
          | apply State.breakEpoch_keeps | apply State.potUpdates_keeps | apply State.drainPot_keeps
          | apply State.potQueries_keeps | apply State.cutXfers_keeps))
    | ((with_reducible apply Keeps.frame); (with_reducible first
          | apply State.stackUp_frame | apply State.bumpEpoch_frame | apply State.modFree_frame); exact rfl)
    | ((with_reducible apply Keeps.foldl); intro _ _)
    | ((with_reducible apply Keeps.foldlPair); intro _ _)
    | split
    | dsimp only

theorem State.resetPorts_keeps (s : State) (g) : Keeps s (State.resetPorts s g) := by
  unfold State.resetPorts
  repeat' first
    | with_reducible exact Keeps.refl _
    | ((with_reducible apply Keeps.step); (with_reducible apply State.dropPort_keeps))
    | ((with_reducible apply Keeps.frame); (with_reducible first
          | apply State.modPort_frame | apply State.raisePort_frame | apply State.modCls_frame
          | apply State.bumpEpoch_frame | apply State.discardCells_frame); exact rfl)
    | ((with_reducible apply Keeps.foldl); intro _ _)
    | ((with_reducible apply Keeps.foldlPair); intro _ _)
    | split
    | dsimp only

theorem State.resetQuad_keeps (s : State) (q) : Keeps s (State.resetQuad s q) := by
  unfold State.resetQuad
  repeat' first
    | with_reducible exact Keeps.refl _
    | ((with_reducible apply Keeps.step); (with_reducible apply State.breakEpoch_keeps))
    | ((with_reducible apply Keeps.frame); (with_reducible apply State.bumpEpoch_frame); exact rfl)
    | ((with_reducible apply Keeps.foldl); intro _ _)
    | ((with_reducible apply Keeps.foldlPair); intro _ _)
    | split
    | dsimp only

theorem State.endCtx_keeps (s : State) (i) (rule) : Keeps s (State.endCtx s i rule) := by
  unfold State.endCtx
  repeat' first
    | with_reducible exact Keeps.refl _
    | ((with_reducible apply Keeps.step); (with_reducible apply State.raise_keeps))
    | ((with_reducible apply Keeps.frame); (with_reducible first
          | apply State.bump_frame | apply State.modSch_frame | apply State.dropResv_frame); exact rfl)
    | split
    | dsimp only

theorem State.resetHub_keeps (s : State) : Keeps s (State.resetHub s) := by
  unfold State.resetHub
  repeat' first
    | with_reducible exact Keeps.refl _
    | ((with_reducible apply Keeps.step); (with_reducible first
          | apply State.endCtx_keeps | apply State.endUpdSet_keeps | apply State.endEpoch_keeps
          | apply State.endAttSet_keeps))
    | ((with_reducible apply Keeps.frame); (with_reducible first
          | apply State.modSch_frame | apply State.bumpEpoch_frame); exact rfl)
    | ((with_reducible apply Keeps.foldl); intro _ _)
    | ((with_reducible apply Keeps.foldlPair); intro _ _)
    | split
    | dsimp only

theorem State.resetSync_keeps (s : State) : Keeps s (State.resetSync s) := by
  unfold State.resetSync
  repeat' first
    | with_reducible exact Keeps.refl _
    | ((with_reducible apply Keeps.step); (with_reducible first
          | apply State.markStep_keeps | apply State.barLocalDone_keeps | apply State.endEpoch_keeps))
    | ((with_reducible apply Keeps.frame); (with_reducible first
          | apply State.setBar_frame | apply State.modSyn_frame | apply State.bumpEpoch_frame); exact rfl)
    | ((with_reducible apply Keeps.foldl); intro _ _)
    | ((with_reducible apply Keeps.foldlPair); intro _ _)
    | split
    | dsimp only

theorem State.resetDom_keeps (s : State) (d) : Keeps s (State.resetDom s d) := by
  unfold State.resetDom
  repeat' first
    | with_reducible exact Keeps.refl _
    | ((with_reducible apply Keeps.step); (with_reducible first
          | apply State.resetPot_keeps | apply State.resetPorts_keeps | apply State.resetSkillet_keeps
          | apply State.resetHub_keeps | apply State.resetQuad_keeps | apply State.resetSync_keeps))
    | split
    | dsimp only

theorem State.domainReset_keeps (s : State) (d) : Keeps s ((State.domainReset s d).getD s) := by
  unfold State.domainReset
  repeat' first
    | with_reducible exact Keeps.refl _
    | ((with_reducible apply Keeps.step); (with_reducible apply State.resetDom_keeps))
    | ((with_reducible apply Keeps.frame); (with_reducible first
          | apply State.modDom_frame | apply State.freezeInto_frame); exact rfl)
    | split
    | dsimp only [Option.getD_some, Option.getD_none]

theorem State.endDrains_keeps (s : State) : Keeps s (State.endDrains s) := by
  unfold State.endDrains
  repeat' first
    | with_reducible exact Keeps.refl _
    | ((with_reducible apply Keeps.step); (with_reducible apply State.resetDom_keeps))
    | ((with_reducible apply Keeps.foldl); intro _ _)
    | ((with_reducible apply Keeps.foldlPair); intro _ _)
    | split
    | dsimp only

theorem execDrainLimitExpiry_keeps (d) (s : State) : Keeps s (nextState (execDrainLimitExpiry d s) s) := by
  unfold execDrainLimitExpiry State.runLive
  repeat' first
    | with_reducible exact Keeps.refl _
    | ((with_reducible apply Keeps.step); (with_reducible apply State.resetDom_keeps))
    | split
    | dsimp only [nextState]

theorem State.parkBlock_keeps (s : State) : Keeps s (State.parkBlock s) := by
  unfold State.parkBlock
  repeat' first
    | with_reducible exact Keeps.refl _
    | ((with_reducible apply Keeps.step); (with_reducible first
          | apply State.dropPort_keeps | apply State.drainPot_keeps))
    | ((with_reducible apply Keeps.frame); (with_reducible first
          | apply State.modPwr_frame | apply State.settleDom_frame | apply State.modDom_frame
          | apply State.stackDown_frame | apply State.modPin_frame); exact rfl)
    | ((with_reducible apply Keeps.foldl); intro _ _)
    | ((with_reducible apply Keeps.foldlPair); intro _ _)
    | split
    | dsimp only

theorem State.blockPark_keeps (s : State) : Keeps s ((State.blockPark s).getD s) := by
  unfold State.blockPark
  repeat' first
    | with_reducible exact Keeps.refl _
    | ((with_reducible apply Keeps.step); (with_reducible apply State.parkBlock_keeps))
    | split
    | dsimp only [Option.getD_some, Option.getD_none]

theorem execMainPowerFail_keeps (s : State) : Keeps s (nextState (execMainPowerFail s) s) := by
  unfold execMainPowerFail
  repeat' first
    | with_reducible exact Keeps.refl _
    | ((with_reducible apply Keeps.step); (with_reducible first
          | apply State.parkBlock_keeps | apply State.raise_keeps))
    | ((with_reducible apply Keeps.frame); (with_reducible apply State.modPwr_frame); exact rfl)
    | split
    | dsimp only [nextState]

theorem execRailGoodLost_keeps (rail) (s : State) : Keeps s (nextState (execRailGoodLost rail s) s) := by
  unfold execRailGoodLost runIf
  repeat' first
    | with_reducible exact Keeps.refl _
    | ((with_reducible apply Keeps.step); (with_reducible first
          | apply State.parkBlock_keeps | apply State.raise_keeps))
    | ((with_reducible apply Keeps.frame); (with_reducible first
          | apply State.modPwr_frame | apply State.modPin_frame); exact rfl)
    | split
    | dsimp only [nextState]

theorem execKeepSwitch_keeps (s : State) : Keeps s (nextState (execKeepSwitch s) s) := by
  unfold execKeepSwitch
  repeat' first
    | with_reducible exact Keeps.refl _
    | ((with_reducible apply Keeps.step); (with_reducible apply State.raise_keeps))
    | ((with_reducible apply Keeps.frame); (with_reducible first
          | apply State.modPwr_frame | apply State.bump_frame); exact rfl)
    | split
    | dsimp only [nextState]

theorem execKeepReturn_keeps (s : State) : Keeps s (nextState (execKeepReturn s) s) := by
  unfold execKeepReturn
  repeat' first
    | with_reducible exact Keeps.refl _
    | ((with_reducible apply Keeps.step); (with_reducible apply State.raise_keeps))
    | ((with_reducible apply Keeps.frame); (with_reducible first
          | apply State.modPwr_frame | apply State.bump_frame); exact rfl)
    | split
    | dsimp only [nextState]

theorem execPllLockLost_keeps (s : State) : Keeps s (nextState (execPllLockLost s) s) := by
  unfold execPllLockLost
  repeat' first
    | with_reducible exact Keeps.refl _
    | ((with_reducible apply Keeps.step); (with_reducible first
          | apply State.toHoldover_keeps | apply State.raise_keeps | apply State.drainPot_keeps))
    | ((with_reducible apply Keeps.frame); (with_reducible first
          | apply State.modPwr_frame | apply State.dropSplits_frame | apply State.modClk_frame
          | apply State.stackDown_frame); exact rfl)
    | ((with_reducible apply Keeps.foldl); intro _ _)
    | ((with_reducible apply Keeps.foldlPair); intro _ _)
    | split
    | dsimp only [nextState]

theorem State.judgeHot_keeps (s : State) : Keeps s (State.judgeHot s) := by
  unfold State.judgeHot
  repeat' first
    | with_reducible exact Keeps.refl _
    | ((with_reducible apply Keeps.step); (with_reducible apply State.raise_keeps))
    | ((with_reducible apply Keeps.frame); (with_reducible first
          | apply State.modPwr_frame | apply State.spend_frame); exact rfl)
    | split
    | dsimp only

theorem State.thermTrip_keeps (s : State) (x) : Keeps s (State.thermTrip s x) := by
  unfold State.thermTrip
  repeat' first
    | with_reducible exact Keeps.refl _
    | ((with_reducible apply Keeps.step); (with_reducible first
          | apply State.parkBlock_keeps | apply State.raise_keeps))
    | ((with_reducible apply Keeps.frame); (with_reducible first
          | apply State.modPwr_frame | apply State.failStart_frame | apply State.modPin_frame); exact rfl)
    | split
    | dsimp only

theorem State.countUnmet_keeps (s : State) (p) : Keeps s (State.countUnmet s p) := by
  unfold State.countUnmet
  repeat' first
    | with_reducible exact Keeps.refl _
    | ((with_reducible apply Keeps.step); (with_reducible apply State.raise_keeps))
    | ((with_reducible apply Keeps.frame); (with_reducible first
          | apply State.bump_frame | apply State.modStress_frame); exact rfl)
    | split
    | dsimp only

theorem State.updateDuty_keeps (s : State) (p) : Keeps s (State.updateDuty s p) := by
  unfold State.updateDuty
  repeat' first
    | with_reducible exact Keeps.refl _
    | ((with_reducible apply Keeps.step); (with_reducible apply State.countUnmet_keeps))
    | ((with_reducible apply Keeps.frame); (with_reducible first
          | apply State.modPwr_frame | apply State.bump_frame); exact rfl)
    | ((with_reducible apply Keeps.foldl); intro _ _)
    | ((with_reducible apply Keeps.foldlPair); intro _ _)
    | split
    | dsimp only

theorem State.updateStress_keeps (s : State) : Keeps s (State.updateStress s) := by
  unfold State.updateStress
  repeat' first
    | with_reducible exact Keeps.refl _
    | ((with_reducible apply Keeps.step); (with_reducible apply State.raise_keeps))
    | ((with_reducible apply Keeps.frame); (with_reducible apply State.modStress_frame); exact rfl)
    | ((with_reducible apply Keeps.foldl); intro _ _)
    | ((with_reducible apply Keeps.foldlPair); intro _ _)
    | split
    | dsimp only

theorem execTrivetInterval_keeps (temps) (s : State) : Keeps s (nextState (execTrivetInterval temps s) s) := by
  unfold execTrivetInterval runIf
  repeat' first
    | with_reducible exact Keeps.refl _
    | ((with_reducible apply Keeps.step); (with_reducible first
          | apply State.judgeHot_keeps | apply State.thermTrip_keeps | apply State.updateDuty_keeps
          | apply State.updateStress_keeps))
    | ((with_reducible apply Keeps.frame); (with_reducible first
          | apply State.modPwr_frame | apply State.spend_frame | apply State.takeTemps_frame
          | apply State.updateBoost_frame); exact rfl)
    | split
    | dsimp only [nextState]

theorem State.readStacks_keeps (s : State) : Keeps s (State.readStacks s) := by
  unfold State.readStacks
  repeat' first
    | with_reducible exact Keeps.refl _
    | ((with_reducible apply Keeps.step); (with_reducible apply State.note_keeps))
    | ((with_reducible apply Keeps.frame); (with_reducible first
          | apply State.setTiming_frame | apply State.setParam_frame | apply State.failStart_frame
          | apply State.modPot_frame); exact rfl)
    | ((with_reducible apply Keeps.foldl); intro _ _)
    | ((with_reducible apply Keeps.foldlPair); intro _ _)
    | split
    | dsimp only

theorem State.clearWhisk_keeps (s : State) : Keeps s (State.clearWhisk s) := by
  unfold State.clearWhisk
  repeat' first
    | with_reducible exact Keeps.refl _
    | ((with_reducible apply Keeps.step); (with_reducible apply State.breakEpoch_keeps))
    | ((with_reducible apply Keeps.frame); (with_reducible apply State.modWsk_frame); exact rfl)
    | ((with_reducible apply Keeps.foldl); intro _ _)
    | ((with_reducible apply Keeps.foldlPair); intro _ _)
    | split
    | dsimp only

theorem State.clearMcast_keeps (s : State) : Keeps s (State.clearMcast s) := by
  unfold State.clearMcast
  repeat' first
    | with_reducible exact Keeps.refl _
    | ((with_reducible apply Keeps.step); (with_reducible apply State.markStep_keeps))
    | ((with_reducible apply Keeps.frame); (with_reducible apply State.modMc_frame); exact rfl)
    | ((with_reducible apply Keeps.foldl); intro _ _)
    | ((with_reducible apply Keeps.foldlPair); intro _ _)
    | split
    | dsimp only

theorem State.clearSchedule_keeps (s : State) : Keeps s (State.clearSchedule s) := by
  unfold State.clearSchedule
  repeat' first
    | with_reducible exact Keeps.refl _
    | ((with_reducible apply Keeps.step); (with_reducible apply State.endCtx_keeps))
    | ((with_reducible apply Keeps.frame); (with_reducible apply State.modSch_frame); exact rfl)
    | ((with_reducible apply Keeps.foldl); intro _ _)
    | ((with_reducible apply Keeps.foldlPair); intro _ _)
    | split
    | dsimp only

theorem State.discardOpen_keeps (s : State) : Keeps s (State.discardOpen s) := by
  unfold State.discardOpen
  repeat' first
    | with_reducible exact Keeps.refl _
    | ((with_reducible apply Keeps.step); (with_reducible apply State.setPrmHdr_keeps))
    | ((with_reducible apply Keeps.foldl); intro _ _)
    | ((with_reducible apply Keeps.foldlPair); intro _ _)
    | split
    | dsimp only

theorem State.clearUnits_keeps (s : State) : Keeps s (State.clearUnits s) := by
  unfold State.clearUnits
  repeat' first
    | with_reducible exact Keeps.refl _
    | ((with_reducible apply Keeps.step); (with_reducible apply State.markStep_keeps))
    | ((with_reducible apply Keeps.frame); (with_reducible first
          | apply State.modPar_frame | apply State.modObs_frame | apply State.modCls_frame | apply State.modAtt_frame
          | apply State.modArb_frame | apply State.modSyn_frame | apply State.modRgn_frame | apply State.modTl_frame);
          exact rfl)
    | ((with_reducible apply Keeps.step); (with_reducible apply Keeps.modMem) <;> intro _ h <;> first
          | exact h | exact mapWf_filter _ h | exact mapWf_mapClear _ _ h | exact mapWf_mapPutList _ _ h
          | exact mapWf_mapPut _ h (by decide))
    | ((with_reducible apply Keeps.foldl); intro _ _)
    | ((with_reducible apply Keeps.foldlPair); intro _ _)
    | split
    | dsimp only

theorem State.releaseWarm_keeps (s : State) : Keeps s (State.releaseWarm s) := by
  unfold State.releaseWarm
  repeat' first
    | with_reducible exact Keeps.refl _
    | ((with_reducible apply Keeps.step); (with_reducible first
          | apply State.clearUnits_keeps | apply State.clearWhisk_keeps | apply State.discardOpen_keeps
          | apply State.clearMcast_keeps | apply State.clearSchedule_keeps))
    | ((with_reducible apply Keeps.frame); (with_reducible first
          | apply State.modPwr_frame | apply State.clearLadel_frame | apply State.clearFrames_frame
          | apply State.endTests_frame | apply State.nextEpochs_frame | apply State.modStk_frame
          | apply State.countSleep_frame); exact rfl)
    | ((with_reducible apply Keeps.foldl); intro _ _)
    | ((with_reducible apply Keeps.foldlPair); intro _ _)
    | split
    | dsimp only

theorem State.continueStart_keeps (s : State) : Keeps s (State.continueStart s) := by
  unfold State.continueStart
  repeat' first
    | with_reducible exact Keeps.refl _
    | ((with_reducible apply Keeps.step); (with_reducible first
          | apply State.readStacks_keeps | apply State.releaseWarm_keeps))
    | ((with_reducible apply Keeps.frame); (with_reducible first
          | apply State.railsOn_frame | apply State.modLdl_frame); exact rfl)
    | ((apply Keeps.stepPair (e := by assumption)); (with_reducible apply Keeps.frame);
        (with_reducible apply State.railsOn_frame); exact rfl; exact Keeps.refl _)
    | split
    | dsimp only

theorem State.beginWarm_keeps (s : State) (k) : Keeps s (State.beginWarm s k) := by
  unfold State.beginWarm
  repeat' first
    | with_reducible exact Keeps.refl _
    | ((with_reducible apply Keeps.step); (with_reducible first
          | apply State.parkBlock_keeps | apply State.continueStart_keeps))
    | ((with_reducible apply Keeps.frame); (with_reducible apply State.modPin_frame); exact rfl)
    | split
    | dsimp only

theorem State.warmRequest_keeps (s : State) (k) : Keeps s (State.warmRequest s k) := by
  unfold State.warmRequest
  repeat' first
    | with_reducible exact Keeps.refl _
    | ((with_reducible apply Keeps.step); (with_reducible first
          | apply State.note_keeps | apply State.beginWarm_keeps))
    | ((with_reducible apply Keeps.frame); (with_reducible apply State.modPin_frame); exact rfl)
    | split
    | dsimp only

theorem State.bootOn_keeps (s : State) : Keeps s (State.bootOn s) := by
  unfold State.bootOn
  repeat' first
    | with_reducible exact Keeps.refl _
    | ((with_reducible apply Keeps.step); (with_reducible first
          | apply State.pickRecord_keeps | apply State.applyRecord_keeps | apply State.continueStart_keeps
          | apply State.pickSlot_keeps))
    | ((with_reducible apply Keeps.frame); (with_reducible first
          | apply State.modPwr_frame | apply State.failStart_frame | apply State.modLdl_frame); exact rfl)
    | ((apply Keeps.stepPair (e := by assumption)); (with_reducible first
          | apply State.pickRecord_keeps | apply State.pickSlot_keeps))
    | split
    | dsimp only

theorem State.startStep_keeps (s : State) : Keeps s (State.startStep s) := by
  unfold State.startStep
  repeat' first
    | with_reducible exact Keeps.refl _
    | ((with_reducible apply Keeps.step); (with_reducible first
          | apply State.bootOn_keeps | apply State.continueStart_keeps))
    | ((with_reducible apply Keeps.frame); (with_reducible first
          | apply State.passTime_frame | apply State.openAdmission_frame | apply State.failStart_frame
          | apply State.modLdl_frame); exact rfl)
    | split
    | dsimp only

theorem execColdStart_keeps (bins) (s : State) : Keeps s (nextState (execColdStart bins s) s) := by
  unfold execColdStart runIf
  split
  · split
    · exact Keeps.refl _
    · exact ⟨fun _ => rfl, fun _ => Evt.Sound.empty⟩
  · exact Keeps.refl _

theorem execKeepLost_keeps (s : State) : Keeps s (nextState (execKeepLost s) s) :=
  ⟨fun _ => rfl, fun _ => Evt.Sound.empty⟩

theorem execPllLock_keeps (s : State) : Keeps s (nextState (execPllLock s) s) := by
  unfold execPllLock
  repeat' first
    | with_reducible exact Keeps.refl _
    | ((with_reducible apply Keeps.step); (with_reducible apply State.continueStart_keeps))
    | ((with_reducible apply Keeps.frame); (with_reducible first
          | apply State.modPwr_frame | apply State.passTime_frame | apply State.modClk_frame
          | apply State.failStart_frame | apply State.modLdl_frame); exact rfl)
    | split
    | dsimp only [nextState]

theorem execRailGoodRise_keeps (rail) (s : State) : Keeps s (nextState (execRailGoodRise rail s) s) := by
  unfold execRailGoodRise runIf
  repeat' first
    | with_reducible exact Keeps.refl _
    | ((with_reducible apply Keeps.step); (with_reducible apply State.continueStart_keeps))
    | ((with_reducible apply Keeps.frame); (with_reducible apply State.modPin_frame); exact rfl)
    | split
    | dsimp only [nextState]

theorem execPwrMainFailClear_keeps (s : State) : Keeps s (nextState (execPwrMainFailClear s) s) := by
  unfold execPwrMainFailClear
  repeat' first
    | with_reducible exact Keeps.refl _
    | ((with_reducible apply Keeps.step); (with_reducible apply State.beginWarm_keeps))
    | ((with_reducible apply Keeps.frame); (with_reducible apply State.modPwr_frame); exact rfl)
    | split
    | dsimp only [nextState]

theorem State.setFwState_keeps (s : State) (st) : Keeps s (State.setFwState s st) := by
  unfold State.setFwState
  repeat' first
    | with_reducible exact Keeps.refl _
    | ((with_reducible apply Keeps.step); (with_reducible apply State.raise_keeps))
    | ((with_reducible apply Keeps.frame); (with_reducible apply State.modLdl_frame); exact rfl)
    | split
    | dsimp only

theorem State.rollBack_keeps (s : State) : Keeps s (State.rollBack s) := by
  unfold State.rollBack
  repeat' first
    | with_reducible exact Keeps.refl _
    | ((with_reducible apply Keeps.step); (with_reducible apply State.setFwState_keeps))
    | ((with_reducible apply Keeps.frame); (with_reducible apply State.modLdl_frame); exact rfl)
    | split
    | dsimp only

theorem execCoreWatchdogExpiry_keeps (core) (s : State) : Keeps s (nextState (execCoreWatchdogExpiry core s) s) := by
  unfold execCoreWatchdogExpiry runIf
  repeat' first
    | with_reducible exact Keeps.refl _
    | ((with_reducible apply Keeps.step); (with_reducible first
          | apply State.raise_keeps | apply State.rollBack_keeps))
    | ((with_reducible apply Keeps.frame); (with_reducible apply State.setCore_frame); exact rfl)
    | split
    | dsimp only [nextState]

theorem State.programOther_keeps (s : State) : Keeps s (State.programOther s) := by
  unfold State.programOther
  repeat' first
    | with_reducible exact Keeps.refl _
    | ((with_reducible apply Keeps.step); (with_reducible apply State.countErase_keeps))
    | ((with_reducible apply Keeps.frame); (with_reducible first
          | apply State.modLdl_frame | apply State.flashClear_frame | apply State.flashPut_frame); exact rfl)
    | split
    | dsimp only

theorem State.askProgram_keeps (s : State) : Keeps s ((State.askProgram s).getD s) := by
  unfold State.askProgram
  repeat' first
    | with_reducible exact Keeps.refl _
    | ((with_reducible apply Keeps.step); (with_reducible apply State.programOther_keeps))
    | split
    | dsimp only [Option.getD_some, Option.getD_none]

theorem State.askUpdate_keeps (s : State) : Keeps s ((State.askUpdate s).getD s) := by
  unfold State.askUpdate
  repeat' first
    | with_reducible exact Keeps.refl _
    | ((with_reducible apply Keeps.step); (with_reducible apply State.setFwState_keeps))
    | ((with_reducible apply Keeps.frame); (with_reducible first
          | apply State.setCore_frame | apply State.modLdl_frame); exact rfl)
    | split
    | dsimp only [Option.getD_some, Option.getD_none]

theorem execDutyHandover_keeps (s : State) : Keeps s (nextState (execDutyHandover s) s) := by
  unfold execDutyHandover
  repeat' first
    | with_reducible exact Keeps.refl _
    | ((with_reducible apply Keeps.step); (with_reducible apply State.setFwState_keeps))
    | ((with_reducible apply Keeps.frame); (with_reducible first
          | apply State.setCore_frame | apply State.modLdl_frame); exact rfl)
    | split
    | dsimp only [nextState]

theorem execProbationEnd_keeps (s : State) : Keeps s (nextState (execProbationEnd s) s) := by
  unfold execProbationEnd
  repeat' first
    | with_reducible exact Keeps.refl _
    | ((with_reducible apply Keeps.step); (with_reducible first
          | apply State.setFwState_keeps | apply State.askCommit_keeps | apply State.countErase_keeps))
    | ((with_reducible apply Keeps.frame); (with_reducible first
          | apply State.modLdl_frame | apply State.flashClear_frame | apply State.flashPut_frame); exact rfl)
    | split
    | dsimp only [nextState]

theorem execCommitMinGapExpiry_keeps (s : State) : Keeps s (nextState (execCommitMinGapExpiry s) s) := by
  unfold execCommitMinGapExpiry
  repeat' first
    | with_reducible exact Keeps.refl _
    | ((with_reducible apply Keeps.step); (with_reducible apply State.commitImage_keeps))
    | split
    | dsimp only [nextState]

theorem execStressSave_keeps (s : State) : Keeps s (nextState (execStressSave s) s) := by
  unfold execStressSave
  repeat' first
    | with_reducible exact Keeps.refl _
    | ((with_reducible apply Keeps.step); (with_reducible apply State.askCommit_keeps))
    | ((with_reducible apply Keeps.frame); (with_reducible apply State.modStress_frame); exact rfl)
    | split
    | dsimp only [nextState]

theorem State.libInstall_keeps (s : State) (number) (handle) (ofs) :
    Keeps s ((State.libInstall s number handle ofs).getD s) := by
  unfold State.libInstall
  repeat' first
    | with_reducible exact Keeps.refl _
    | ((with_reducible apply Keeps.step); (with_reducible apply State.rwrite_keeps))
    | ((with_reducible apply Keeps.frame); (with_reducible first
          | apply State.forgetImages_frame | apply State.modRgn_frame); exact rfl)
    | split
    | dsimp only [Option.getD_some, Option.getD_none]

theorem execHold_keeps (tag) (arg) (s : State) : Keeps s (nextState (execHold tag arg s) s) := by
  unfold execHold runIf State.ctlAt
  repeat' first
    | with_reducible exact Keeps.refl _
    | ((with_reducible apply Keeps.step); (with_reducible apply State.bootOn_keeps))
    | ((with_reducible apply Keeps.frame); (with_reducible first
          | apply State.ctlDone_frame | apply State.modLdl_frame | apply State.portAnswer_frame
          | apply State.portAnswer_frame); exact rfl)
    | split
    | dsimp only [nextState]

theorem State.countAt_keeps (s : State) (addr) : Keeps s (State.countAt s addr) := by
  unfold State.countAt
  repeat' first
    | with_reducible exact Keeps.refl _
    | ((with_reducible apply Keeps.step); (with_reducible apply State.countErase_keeps))
    | split
    | dsimp only

theorem execFlashErase_keeps (tag) (addr) (s : State) : Keeps s (nextState (execFlashErase tag addr s) s) := by
  unfold execFlashErase runIf State.ctlAt
  repeat' first
    | with_reducible exact Keeps.refl _
    | ((with_reducible apply Keeps.step); (with_reducible apply State.countAt_keeps))
    | ((with_reducible apply Keeps.frame); (with_reducible first
          | apply State.ctlDone_frame | apply State.flashClear_frame | apply State.portAnswer_frame); exact rfl)
    | split
    | dsimp only [nextState]

theorem State.crHeader_keeps (s : State) (d) (r) : Keeps s (State.crHeader s d r) := by
  unfold State.crHeader
  repeat' first
    | with_reducible exact Keeps.refl _
    | ((with_reducible apply Keeps.step); (with_reducible first
          | apply State.rawWrite_keeps | apply State.setLogHdr_keeps))
    | split
    | dsimp only

theorem State.crMake_keeps (s : State) (r) : Keeps s (State.crMake s r).1 := by
  unfold State.crMake
  repeat' first
    | with_reducible exact Keeps.refl _
    | ((with_reducible apply Keeps.step); (with_reducible apply State.crHeader_keeps))
    | ((with_reducible apply Keeps.frame); (with_reducible apply State.modRgn_frame); exact rfl)
    | split
    | dsimp only

theorem State.regionCreate_keeps (s : State) (reader) (r) : Keeps s (State.regionCreate s reader r).1 := by
  unfold State.regionCreate
  repeat' first
    | with_reducible exact Keeps.refl _
    | ((with_reducible apply Keeps.step); (with_reducible apply State.crMake_keeps))
    | ((with_reducible apply Keeps.frame); (with_reducible first
          | apply State.setResult_frame | apply State.spend_frame); exact rfl)
    | ((apply Keeps.stepPair (e := by assumption)); (with_reducible apply State.crMake_keeps))
    | split
    | dsimp only

theorem State.zeroRange_keeps (s : State) (a) (n) : Keeps s (State.zeroRange s a n) := by
  unfold State.zeroRange
  repeat' first
    | with_reducible exact Keeps.refl _
    | ((with_reducible apply Keeps.step); (with_reducible apply Keeps.modMem) <;> intro _ h <;> first
          | exact h | exact mapWf_filter _ h | exact mapWf_mapClear _ _ h | exact mapWf_mapPutList _ _ h
          | exact mapWf_mapPut _ h (by decide))
    | split
    | dsimp only

theorem execZeroingComplete_keeps (desc) (s : State) : Keeps s (nextState (execZeroingComplete desc s) s) := by
  unfold execZeroingComplete State.runLive
  repeat' first
    | with_reducible exact Keeps.refl _
    | ((with_reducible apply Keeps.step); (with_reducible apply State.zeroRange_keeps))
    | ((with_reducible apply Keeps.frame); (with_reducible apply State.forgetRegion_frame); exact rfl)
    | split
    | dsimp only [nextState]

theorem State.grantCopy_keeps (s : State) (missed) (p) : Keeps s (State.grantCopy s missed p) := by
  unfold State.grantCopy
  repeat' first
    | with_reducible exact Keeps.refl _
    | ((with_reducible apply Keeps.step); (with_reducible apply State.rwrite_keeps))
    | split
    | dsimp only

theorem execSnapshotCapture_keeps (s : State) : Keeps s (nextState (execSnapshotCapture s) s) := by
  unfold execSnapshotCapture
  repeat' first
    | with_reducible exact Keeps.refl _
    | ((with_reducible apply Keeps.step); (with_reducible apply State.grantCopy_keeps))
    | ((with_reducible apply Keeps.frame); (with_reducible first
          | apply State.bump_frame | apply State.modObs_frame); exact rfl)
    | ((with_reducible apply Keeps.foldl); intro _ _)
    | ((with_reducible apply Keeps.foldlPair); intro _ _)
    | split
    | dsimp only [nextState]

theorem State.tileControl_keeps (s : State) (reader) (t) (action) :
    Keeps s ((State.tileControl s reader t action).getD s) := by
  unfold State.tileControl
  repeat' first
    | with_reducible exact Keeps.refl _
    | ((with_reducible apply Keeps.step); (with_reducible apply State.stopTile_keeps))
    | ((with_reducible apply Keeps.frame); (with_reducible first
          | apply State.wakeDom_frame | apply State.resumeTile_frame | apply State.modTile_frame); exact rfl)
    | split
    | dsimp only [Option.getD_some, Option.getD_none]

theorem State.healSel_keeps (s : State) (r) (idx) (sub) : Keeps s (State.healSel s r idx sub) := by
  unfold State.healSel
  repeat' first
    | with_reducible exact Keeps.refl _
    | ((with_reducible apply Keeps.step); (with_reducible apply State.healRaw_keeps))
    | split
    | dsimp only

theorem State.readObj_keeps (s : State) (src) (o) (bulk) (idx) (ofs) (len) :
    Keeps s (State.readObj s src o bulk idx ofs len).1 := by
  unfold State.readObj
  dsimp only
  split
  · split
    · exact Keeps.refl _
    · have h := State.drawChallenge_frame _ _ _ (by assumption)
      exact Keeps.frame h rfl (Keeps.refl _)
  · repeat' first
      | with_reducible exact Keeps.refl _
      | ((with_reducible apply Keeps.step); (with_reducible apply State.healSel_keeps))
      | ((with_reducible apply Keeps.frame); (with_reducible first
            | apply State.windowRead_frame | apply State.modPot_frame); exact rfl)
      | split
      | dsimp only

theorem State.accessRead_keeps (s : State) (src) (bulk) (idx) (sub) (ofs) (len) :
    Keeps s (State.accessRead s src bulk idx sub ofs len).1 := by
  unfold State.accessRead
  repeat' first
    | with_reducible exact Keeps.refl _
    | ((with_reducible apply Keeps.step); (with_reducible apply State.readObj_keeps))
    | ((apply Keeps.stepPair (e := by assumption)); (with_reducible apply State.readObj_keeps))
    | split
    | dsimp only

theorem State.writeNow_keeps (s : State) (o) (idx) (ofs) (d) : Keeps s (State.writeNow s o idx ofs d).1 := by
  unfold State.writeNow
  repeat' first
    | with_reducible exact Keeps.refl _
    | ((with_reducible apply Keeps.frame); (with_reducible first
          | apply State.setBlob_frame | apply State.markDirty_frame | apply State.setParam_frame
          | apply State.wordHook_frame); exact rfl)
    | ((with_reducible apply Keeps.step); (with_reducible apply Keeps.modEvt); intro h; exact ⟨h.bound, h.fits,
        h.positions, h.notified⟩)
    | split
    | dsimp only

theorem State.operate_keeps (s : State) (r) (o) (idx) (d) (returned) :
    Keeps s ((State.operate s r o idx d returned).getD s) := by
  unfold State.operate
  repeat' first
    | with_reducible exact Keeps.refl _
    | ((with_reducible apply Keeps.step); (with_reducible first
          | apply State.askProgram_keeps | apply State.askCommit_keeps | apply State.ctxRelease_keeps
          | apply State.askUpdate_keeps | apply State.blockPark_keeps | apply State.askRetire_keeps
          | apply State.restoreLog_keeps | apply State.stepDecide_keeps | apply State.restoreRun_keeps
          | apply State.setCommitted_keeps | apply State.domainReset_keeps | apply State.setCkpt_keeps
          | apply State.tileControl_keeps | apply State.libInstall_keeps | apply State.schedVerify_keeps
          | apply State.askRetrain_keeps))
    | ((with_reducible apply Keeps.frame); (with_reducible first
          | apply State.counterSet_frame | apply State.arbFreeze_frame | apply State.regionRdonly_frame
          | apply State.clearSamples_frame | apply State.debugLock_frame | apply State.ftcResync_frame
          | apply State.bpSet_frame | apply State.zeroCtrs_frame); exact rfl)
    | ((apply Keeps.stepOpt (e := by assumption)); (with_reducible first
          | apply State.askProgram_keeps | apply State.ctxRelease_keeps | apply State.askUpdate_keeps
          | apply State.blockPark_keeps | apply State.restoreLog_keeps | apply State.stepDecide_keeps
          | apply State.restoreRun_keeps | apply State.setCommitted_keeps | apply State.domainReset_keeps
          | apply State.setCkpt_keeps | apply State.tileControl_keeps | apply State.libInstall_keeps
          | apply State.schedVerify_keeps))
    | ((apply Keeps.stepOpt (e := by assumption)); (with_reducible apply Keeps.frame); (with_reducible first
          | apply State.counterSet_frame | apply State.arbFreeze_frame | apply State.regionRdonly_frame
          | apply State.debugLock_frame | apply State.ftcResync_frame | apply State.bpSet_frame); exact rfl; exact
          Keeps.refl _)
    | split
    | dsimp only [Option.getD_some, Option.getD_none]

theorem State.afterAnswer_keeps (s : State) (o) (a) : Keeps s (State.afterAnswer s o a) := by
  unfold State.afterAnswer
  repeat' first
    | with_reducible exact Keeps.refl _
    | ((with_reducible apply Keeps.step); (with_reducible first
          | apply State.warmRequest_keeps | apply State.blockPark_keeps))
    | ((apply Keeps.stepOpt (e := by assumption)); (with_reducible apply State.blockPark_keeps))
    | split
    | dsimp only

theorem State.writeOp_keeps (s : State) (r) (again) (o) (idx) (ofs) (d) (returned) :
    Keeps s (State.writeOp s r again o idx ofs d returned).1 := by
  unfold State.writeOp
  repeat' first
    | with_reducible exact Keeps.refl _
    | ((with_reducible apply Keeps.step); (with_reducible first
          | apply State.note_keeps | apply State.regionCreate_keeps | apply State.operate_keeps
          | apply State.ladelSignal_keeps))
    | ((with_reducible apply Keeps.frame); (with_reducible first
          | apply State.regionRetire_frame | apply State.takeResponse_frame | apply State.modLdl_frame); exact rfl)
    | ((apply Keeps.stepPair (e := by assumption)); (with_reducible first
          | apply State.regionCreate_keeps | apply State.ladelSignal_keeps))
    | ((apply Keeps.stepPair (e := by assumption)); (with_reducible apply Keeps.frame); (with_reducible first
          | apply State.regionRetire_frame | apply State.takeResponse_frame); exact rfl; exact Keeps.refl _)
    | ((apply Keeps.stepOpt (e := by assumption)); (with_reducible apply State.operate_keeps))
    | split
    | dsimp only

theorem State.restoreBar_keeps (t : State) (b) : Keeps t (State.restoreBar t b) := by
  unfold State.restoreBar
  repeat' first
    | with_reducible exact Keeps.refl _
    | ((with_reducible apply Keeps.step); (with_reducible apply State.barAdvance_keeps))
    | ((with_reducible apply Keeps.frame); (with_reducible apply State.setBar_frame); exact rfl)
    | split
    | dsimp only

theorem State.requeue_keeps (t : State) (same) (q) : Keeps t (State.requeue t same q).1 := by
  unfold State.requeue
  repeat' first
    | with_reducible exact Keeps.refl _
    | ((with_reducible apply Keeps.step); (with_reducible apply State.doneAll_keeps))
    | split
    | dsimp only

theorem State.renewAtt_keeps (s : State) (t : State) (i) : Keeps t (State.renewAtt s t i) := by
  unfold State.renewAtt
  repeat' first
    | with_reducible exact Keeps.refl _
    | ((with_reducible apply Keeps.step); (with_reducible apply State.requeue_keeps))
    | ((with_reducible apply Keeps.frame); (with_reducible apply State.setAttSet_frame); exact rfl)
    | ((apply Keeps.stepPair (e := by assumption)); (with_reducible apply State.requeue_keeps))
    | split
    | dsimp only

theorem State.renewUpd_keeps (s : State) (t : State) (u) : Keeps t (State.renewUpd s t u) := by
  unfold State.renewUpd
  repeat' first
    | with_reducible exact Keeps.refl _
    | ((with_reducible apply Keeps.step); (with_reducible apply State.requeue_keeps))
    | ((with_reducible apply Keeps.frame); (with_reducible apply State.setUpd_frame); exact rfl)
    | ((apply Keeps.stepPair (e := by assumption)); (with_reducible apply State.requeue_keeps))
    | split
    | dsimp only

theorem State.commitHook_keeps (s : State) (t : State) (w) : Keeps t (State.commitHook s t w) := by
  unfold State.commitHook
  repeat' first
    | with_reducible exact Keeps.refl _
    | ((with_reducible apply Keeps.step); (with_reducible first
          | apply State.drainPot_keeps | apply State.testHold_keeps))
    | ((with_reducible apply Keeps.frame); (with_reducible first
          | apply State.rebind_frame | apply State.renumber_frame | apply State.refillClass_frame
          | apply State.letGo_frame | apply State.startPattern_frame | apply State.clearCmp_frame); exact rfl)
    | ((with_reducible apply Keeps.foldl); intro _ _)
    | ((with_reducible apply Keeps.foldlPair); intro _ _)
    | split
    | dsimp only

theorem State.commitUnits_keeps (s : State) (t : State) (l) : Keeps t (State.commitUnits s t l) := by
  unfold State.commitUnits
  repeat' first
    | with_reducible exact Keeps.refl _
    | ((with_reducible apply Keeps.step); (with_reducible first
          | apply State.restoreBar_keeps | apply State.renewUpd_keeps | apply State.renewAtt_keeps))
    | ((with_reducible apply Keeps.foldl); intro _ _)
    | ((with_reducible apply Keeps.foldlPair); intro _ _)
    | split
    | dsimp only

theorem State.lockCommit_keeps (s : State) (r) (digit) : Keeps s (State.lockCommit s r digit).1 := by
  unfold State.lockCommit
  repeat' first
    | with_reducible exact Keeps.refl _
    | ((with_reducible apply Keeps.step); (with_reducible first
          | apply State.commitHook_keeps | apply State.commitUnits_keeps))
    | ((with_reducible apply Keeps.frame); (with_reducible first
          | apply State.modDict_frame | apply State.putAll_frame | apply State.unlock_frame); exact rfl)
    | ((with_reducible apply Keeps.foldl); intro _ _)
    | ((with_reducible apply Keeps.foldlPair); intro _ _)
    | split
    | dsimp only

theorem execLockExpired_keeps (digit) (s : State) : Keeps s (nextState (execLockExpired digit s) s) := by
  unfold execLockExpired runIf
  repeat' first
    | with_reducible exact Keeps.refl _
    | ((with_reducible apply Keeps.step); (with_reducible apply State.raise_keeps))
    | ((with_reducible apply Keeps.frame); (with_reducible first
          | apply State.bump_frame | apply State.unlock_frame); exact rfl)
    | split
    | dsimp only [nextState]

theorem State.respond_keeps (s : State) (src) (kind) (a) : Keeps s (State.respond s src kind a) := by
  unfold State.respond
  repeat' first
    | with_reducible exact Keeps.refl _
    | ((with_reducible apply Keeps.step); (with_reducible apply State.finish_keeps))
    | ((with_reducible apply Keeps.frame); (with_reducible first
          | apply State.bump_frame | apply State.portAnswer_frame); exact rfl)
    | split
    | dsimp only

theorem State.writeObj_keeps (s : State) (r) (again) (o) (a) (returned) :
    Keeps s (State.writeObj s r again o a returned).1 := by
  unfold State.writeObj
  repeat' first
    | with_reducible exact Keeps.refl _
    | ((with_reducible apply Keeps.step); (with_reducible first
          | apply State.writeNow_keeps | apply State.writeOp_keeps | apply State.lockCommit_keeps))
    | ((with_reducible apply Keeps.frame); (with_reducible first
          | apply State.lockReq_frame | apply State.writeSel_frame | apply State.stageWrite_frame
          | apply State.lockAbort_frame); exact rfl)
    | ((apply Keeps.stepPair (e := by assumption)); (with_reducible first
          | apply State.writeNow_keeps | apply State.writeOp_keeps | apply State.lockCommit_keeps))
    | ((apply Keeps.stepPair (e := by assumption)); (with_reducible apply Keeps.frame); (with_reducible first
          | apply State.lockReq_frame | apply State.writeSel_frame | apply State.stageWrite_frame
          | apply State.lockAbort_frame); exact rfl; exact Keeps.refl _)
    | split
    | dsimp only

theorem State.perform_keeps (s : State) (src) (again) (a) (returned) :
    Keeps s (State.perform s src again a returned) := by
  unfold State.perform
  repeat' first
    | with_reducible exact Keeps.refl _
    | ((with_reducible apply Keeps.step); (with_reducible first
          | apply State.accessRead_keeps | apply State.respond_keeps | apply State.afterAnswer_keeps
          | apply State.writeObj_keeps))
    | ((apply Keeps.stepPair (e := by assumption)); (with_reducible first
          | apply State.accessRead_keeps | apply State.writeObj_keeps))
    | split
    | dsimp only

theorem State.access_keeps (s : State) (src) (a) (returned) : Keeps s (State.access s src a returned) := by
  unfold State.access
  repeat' first
    | with_reducible exact Keeps.refl _
    | ((with_reducible apply Keeps.step); (with_reducible first
          | apply State.perform_keeps | apply State.respond_keeps))
    | ((with_reducible apply Keeps.frame); (with_reducible apply State.wakeFor_frame); exact rfl)
    | split
    | dsimp only

theorem execReadObject_keeps (src) (idx) (sub) (ofs) (len) (s : State) :
    Keeps s (nextState (execReadObject src idx sub ofs len s) s) := by
  unfold execReadObject State.runAccess runIf
  repeat' first
    | with_reducible exact Keeps.refl _
    | ((with_reducible apply Keeps.step); (with_reducible apply State.access_keeps))
    | split
    | dsimp only [nextState]

theorem execWriteObject_keeps (src) (idx) (sub) (ofs) (data) (s : State) :
    Keeps s (nextState (execWriteObject src idx sub ofs data s) s) := by
  unfold execWriteObject State.runAccess runIf
  repeat' first
    | with_reducible exact Keeps.refl _
    | ((with_reducible apply Keeps.step); (with_reducible apply State.access_keeps))
    | split
    | dsimp only [nextState]

theorem execBulkRead_keeps (src) (idx) (sub) (ofs) (len) (s : State) :
    Keeps s (nextState (execBulkRead src idx sub ofs len s) s) := by
  unfold execBulkRead State.runAccess runIf
  repeat' first
    | with_reducible exact Keeps.refl _
    | ((with_reducible apply Keeps.step); (with_reducible apply State.access_keeps))
    | split
    | dsimp only [nextState]

theorem execBulkWrite_keeps (src) (idx) (sub) (ofs) (data) (s : State) :
    Keeps s (nextState (execBulkWrite src idx sub ofs data s) s) := by
  unfold execBulkWrite State.runAccess runIf
  repeat' first
    | with_reducible exact Keeps.refl _
    | ((with_reducible apply Keeps.step); (with_reducible apply State.access_keeps))
    | split
    | dsimp only [nextState]

theorem execLockReq_keeps (src) (digit) (s : State) : Keeps s (nextState (execLockReq src digit s) s) := by
  unfold execLockReq State.runAccess runIf
  repeat' first
    | with_reducible exact Keeps.refl _
    | ((with_reducible apply Keeps.step); (with_reducible apply State.access_keeps))
    | split
    | dsimp only [nextState]

theorem execLockCommit_keeps (src) (digit) (s : State) : Keeps s (nextState (execLockCommit src digit s) s) := by
  unfold execLockCommit State.runAccess runIf
  repeat' first
    | with_reducible exact Keeps.refl _
    | ((with_reducible apply Keeps.step); (with_reducible apply State.access_keeps))
    | split
    | dsimp only [nextState]

theorem execLockAbort_keeps (src) (digit) (s : State) : Keeps s (nextState (execLockAbort src digit s) s) := by
  unfold execLockAbort State.runAccess runIf
  repeat' first
    | with_reducible exact Keeps.refl _
    | ((with_reducible apply Keeps.step); (with_reducible apply State.access_keeps))
    | split
    | dsimp only [nextState]

theorem execCtxRelease_keeps (src) (handle) (ctx) (s : State) :
    Keeps s (nextState (execCtxRelease src handle ctx s) s) := by
  unfold execCtxRelease State.runAccess runIf
  repeat' first
    | with_reducible exact Keeps.refl _
    | ((with_reducible apply Keeps.step); (with_reducible apply State.access_keeps))
    | split
    | dsimp only [nextState]

theorem execStepDecide_keeps (src) (step) (action) (k) (s : State) :
    Keeps s (nextState (execStepDecide src step action k s) s) := by
  unfold execStepDecide State.runAccess runIf
  repeat' first
    | with_reducible exact Keeps.refl _
    | ((with_reducible apply Keeps.step); (with_reducible apply State.access_keeps))
    | split
    | dsimp only [nextState]

theorem execSetCkpt_keeps (src) (handle) (step) (s : State) :
    Keeps s (nextState (execSetCkpt src handle step s) s) := by
  unfold execSetCkpt State.runAccess runIf
  repeat' first
    | with_reducible exact Keeps.refl _
    | ((with_reducible apply Keeps.step); (with_reducible apply State.access_keeps))
    | split
    | dsimp only [nextState]

theorem execSetCommitted_keeps (src) (handle) (step) (s : State) :
    Keeps s (nextState (execSetCommitted src handle step s) s) := by
  unfold execSetCommitted State.runAccess runIf
  repeat' first
    | with_reducible exact Keeps.refl _
    | ((with_reducible apply Keeps.step); (with_reducible apply State.access_keeps))
    | split
    | dsimp only [nextState]

theorem execRestoreLog_keeps (src) (handle) (ep) (srcHandle) (first) (last) (data) (s : State) :
    Keeps s (nextState (execRestoreLog src handle ep srcHandle first last data s) s) := by
  unfold execRestoreLog runIf
  repeat' first
    | with_reducible exact Keeps.refl _
    | ((with_reducible apply Keeps.step); (with_reducible apply State.access_keeps))
    | split
    | dsimp only [nextState]

theorem execRestoreRun_keeps (src) (handle) (last) (s : State) :
    Keeps s (nextState (execRestoreRun src handle last s) s) := by
  unfold execRestoreRun State.runAccess runIf
  repeat' first
    | with_reducible exact Keeps.refl _
    | ((with_reducible apply Keeps.step); (with_reducible apply State.access_keeps))
    | split
    | dsimp only [nextState]

theorem execRegionCreate_keeps (src) (rec_) (s : State) : Keeps s (nextState (execRegionCreate src rec_ s) s) := by
  unfold execRegionCreate State.runAccess runIf
  repeat' first
    | with_reducible exact Keeps.refl _
    | ((with_reducible apply Keeps.step); (with_reducible apply State.access_keeps))
    | split
    | dsimp only [nextState]

theorem execRegionRetire_keeps (src) (handle) (s : State) :
    Keeps s (nextState (execRegionRetire src handle s) s) := by
  unfold execRegionRetire State.runAccess runIf
  repeat' first
    | with_reducible exact Keeps.refl _
    | ((with_reducible apply Keeps.step); (with_reducible apply State.access_keeps))
    | split
    | dsimp only [nextState]

theorem execRegionRdonly_keeps (src) (handle) (value) (s : State) :
    Keeps s (nextState (execRegionRdonly src handle value s) s) := by
  unfold execRegionRdonly State.runAccess runIf
  repeat' first
    | with_reducible exact Keeps.refl _
    | ((with_reducible apply Keeps.step); (with_reducible apply State.access_keeps))
    | split
    | dsimp only [nextState]

theorem execSchedVerify_keeps (src) (handle) (s : State) : Keeps s (nextState (execSchedVerify src handle s) s) := by
  unfold execSchedVerify State.runAccess runIf
  repeat' first
    | with_reducible exact Keeps.refl _
    | ((with_reducible apply Keeps.step); (with_reducible apply State.access_keeps))
    | split
    | dsimp only [nextState]

theorem execRegionHeader_keeps (src) (handle) (s : State) :
    Keeps s (nextState (execRegionHeader src handle s) s) := by
  unfold execRegionHeader State.runAccess runIf
  repeat' first
    | with_reducible exact Keeps.refl _
    | ((with_reducible apply Keeps.step); (with_reducible apply State.access_keeps))
    | split
    | dsimp only [nextState]

theorem execDigestStatus_keeps (src) (handle) (s : State) :
    Keeps s (nextState (execDigestStatus src handle s) s) := by
  unfold execDigestStatus State.runAccess runIf
  repeat' first
    | with_reducible exact Keeps.refl _
    | ((with_reducible apply Keeps.step); (with_reducible apply State.access_keeps))
    | split
    | dsimp only [nextState]

theorem execRegionDesc_keeps (src) (handle) (s : State) : Keeps s (nextState (execRegionDesc src handle s) s) := by
  unfold execRegionDesc State.runAccess runIf
  repeat' first
    | with_reducible exact Keeps.refl _
    | ((with_reducible apply Keeps.step); (with_reducible apply State.access_keeps))
    | split
    | dsimp only [nextState]

theorem execLadelSignal_keeps (src) (ctr) (amount) (s : State) :
    Keeps s (nextState (execLadelSignal src ctr amount s) s) := by
  unfold execLadelSignal State.runAccess runIf
  repeat' first
    | with_reducible exact Keeps.refl _
    | ((with_reducible apply Keeps.step); (with_reducible apply State.access_keeps))
    | split
    | dsimp only [nextState]

theorem execFtcResync_keeps (src) (value) (s : State) : Keeps s (nextState (execFtcResync src value s) s) := by
  unfold execFtcResync State.runAccess runIf
  repeat' first
    | with_reducible exact Keeps.refl _
    | ((with_reducible apply Keeps.step); (with_reducible apply State.access_keeps))
    | split
    | dsimp only [nextState]

theorem execRetireRank_keeps (src) (stack) (vpc) (sid) (s : State) :
    Keeps s (nextState (execRetireRank src stack vpc sid s) s) := by
  unfold execRetireRank State.runAccess runIf
  repeat' first
    | with_reducible exact Keeps.refl _
    | ((with_reducible apply Keeps.step); (with_reducible apply State.access_keeps))
    | split
    | dsimp only [nextState]

theorem execPatgenCtl_keeps (src) (stack) (ch) (w) (s : State) :
    Keeps s (nextState (execPatgenCtl src stack ch w s) s) := by
  unfold execPatgenCtl State.runAccess runIf
  repeat' first
    | with_reducible exact Keeps.refl _
    | ((with_reducible apply Keeps.step); (with_reducible apply State.access_keeps))
    | split
    | dsimp only [nextState]

theorem execSweepCtl_keeps (src) (stack) (ch) (w) (s : State) :
    Keeps s (nextState (execSweepCtl src stack ch w s) s) := by
  unfold execSweepCtl State.runAccess runIf
  repeat' first
    | with_reducible exact Keeps.refl _
    | ((with_reducible apply Keeps.step); (with_reducible apply State.access_keeps))
    | split
    | dsimp only [nextState]

theorem execCmpCtl_keeps (src) (stack) (ch) (w) (s : State) :
    Keeps s (nextState (execCmpCtl src stack ch w s) s) := by
  unfold execCmpCtl State.runAccess runIf
  repeat' first
    | with_reducible exact Keeps.refl _
    | ((with_reducible apply Keeps.step); (with_reducible apply State.access_keeps))
    | split
    | dsimp only [nextState]

theorem execTestHold_keeps (src) (stack) (ch) (value) (s : State) :
    Keeps s (nextState (execTestHold src stack ch value s) s) := by
  unfold execTestHold State.runAccess runIf
  repeat' first
    | with_reducible exact Keeps.refl _
    | ((with_reducible apply Keeps.step); (with_reducible apply State.access_keeps))
    | split
    | dsimp only [nextState]

theorem execRetrain_keeps (src) (stack) (ch) (trig) (s : State) :
    Keeps s (nextState (execRetrain src stack ch trig s) s) := by
  unfold execRetrain State.runAccess runIf State.runDuty
  repeat' first
    | with_reducible exact Keeps.refl _
    | ((with_reducible apply Keeps.step); (with_reducible first
          | apply State.retrain_keeps | apply State.access_keeps))
    | split
    | dsimp only [nextState]

theorem execDomainReset_keeps (src) (d) (s : State) : Keeps s (nextState (execDomainReset src d s) s) := by
  unfold execDomainReset State.runAccess runIf
  repeat' first
    | with_reducible exact Keeps.refl _
    | ((with_reducible apply Keeps.step); (with_reducible apply State.access_keeps))
    | split
    | dsimp only [nextState]

theorem execBlockPark_keeps (src) (s : State) : Keeps s (nextState (execBlockPark src s) s) := by
  unfold execBlockPark State.runAccess runIf
  repeat' first
    | with_reducible exact Keeps.refl _
    | ((with_reducible apply Keeps.step); (with_reducible apply State.access_keeps))
    | split
    | dsimp only [nextState]

theorem execWarmStart_keeps (src) (s : State) : Keeps s (nextState (execWarmStart src s) s) := by
  unfold execWarmStart State.runAccess runIf
  repeat' first
    | with_reducible exact Keeps.refl _
    | ((with_reducible apply Keeps.step); (with_reducible first
          | apply State.warmRequest_keeps | apply State.access_keeps))
    | split
    | dsimp only [nextState]

theorem execImageProgram_keeps (src) (s : State) : Keeps s (nextState (execImageProgram src s) s) := by
  unfold execImageProgram State.runAccess runIf
  repeat' first
    | with_reducible exact Keeps.refl _
    | ((with_reducible apply Keeps.step); (with_reducible apply State.access_keeps))
    | split
    | dsimp only [nextState]

theorem execFwUpdate_keeps (src) (s : State) : Keeps s (nextState (execFwUpdate src s) s) := by
  unfold execFwUpdate State.runAccess runIf
  repeat' first
    | with_reducible exact Keeps.refl _
    | ((with_reducible apply Keeps.step); (with_reducible apply State.access_keeps))
    | split
    | dsimp only [nextState]

theorem execImageCommit_keeps (src) (s : State) : Keeps s (nextState (execImageCommit src s) s) := by
  unfold execImageCommit State.runAccess runIf
  repeat' first
    | with_reducible exact Keeps.refl _
    | ((with_reducible apply Keeps.step); (with_reducible apply State.access_keeps))
    | split
    | dsimp only [nextState]

theorem execLibInstall_keeps (src) (number) (handle) (ofs) (s : State) :
    Keeps s (nextState (execLibInstall src number handle ofs s) s) := by
  unfold execLibInstall State.runAccess runIf
  repeat' first
    | with_reducible exact Keeps.refl _
    | ((with_reducible apply Keeps.step); (with_reducible apply State.access_keeps))
    | split
    | dsimp only [nextState]

theorem execEventAck_keeps (src) (pos) (s : State) : Keeps s (nextState (execEventAck src pos s) s) := by
  unfold execEventAck State.runAccess runIf
  repeat' first
    | with_reducible exact Keeps.refl _
    | ((with_reducible apply Keeps.step); (with_reducible apply State.access_keeps))
    | split
    | dsimp only [nextState]

theorem execCtrCtl_keeps (src) (d) (k) (w) (s : State) : Keeps s (nextState (execCtrCtl src d k w s) s) := by
  unfold execCtrCtl State.runAccess runIf
  repeat' first
    | with_reducible exact Keeps.refl _
    | ((with_reducible apply Keeps.step); (with_reducible apply State.access_keeps))
    | split
    | dsimp only [nextState]

theorem execCtrClear_keeps (src) (d) (s : State) : Keeps s (nextState (execCtrClear src d s) s) := by
  unfold execCtrClear State.runAccess runIf
  repeat' first
    | with_reducible exact Keeps.refl _
    | ((with_reducible apply Keeps.step); (with_reducible apply State.access_keeps))
    | split
    | dsimp only [nextState]

theorem execSampleCtl_keeps (src) (n) (w) (s : State) : Keeps s (nextState (execSampleCtl src n w s) s) := by
  unfold execSampleCtl State.runAccess runIf
  repeat' first
    | with_reducible exact Keeps.refl _
    | ((with_reducible apply Keeps.step); (with_reducible apply State.access_keeps))
    | split
    | dsimp only [nextState]

theorem execSampleClear_keeps (src) (n) (s : State) : Keeps s (nextState (execSampleClear src n s) s) := by
  unfold execSampleClear State.runAccess runIf
  repeat' first
    | with_reducible exact Keeps.refl _
    | ((with_reducible apply Keeps.step); (with_reducible apply State.access_keeps))
    | split
    | dsimp only [nextState]

theorem execDebugChallenge_keeps (src) (s : State) : Keeps s (nextState (execDebugChallenge src s) s) := by
  unfold execDebugChallenge State.runAccess runIf
  repeat' first
    | with_reducible exact Keeps.refl _
    | ((with_reducible apply Keeps.step); (with_reducible apply State.access_keeps))
    | split
    | dsimp only [nextState]

theorem execDebugResponse_keeps (src) (data) (s : State) : Keeps s (nextState (execDebugResponse src data s) s) := by
  unfold execDebugResponse State.runAccess runIf
  repeat' first
    | with_reducible exact Keeps.refl _
    | ((with_reducible apply Keeps.step); (with_reducible apply State.access_keeps))
    | split
    | dsimp only [nextState]

theorem execDebugLock_keeps (src) (s : State) : Keeps s (nextState (execDebugLock src s) s) := by
  unfold execDebugLock State.runAccess runIf
  repeat' first
    | with_reducible exact Keeps.refl _
    | ((with_reducible apply Keeps.step); (with_reducible apply State.access_keeps))
    | split
    | dsimp only [nextState]

theorem execCounterSet_keeps (src) (data) (s : State) : Keeps s (nextState (execCounterSet src data s) s) := by
  unfold execCounterSet State.runAccess runIf
  repeat' first
    | with_reducible exact Keeps.refl _
    | ((with_reducible apply Keeps.step); (with_reducible apply State.access_keeps))
    | split
    | dsimp only [nextState]

theorem execTileControl_keeps (src) (data) (s : State) : Keeps s (nextState (execTileControl src data s) s) := by
  unfold execTileControl State.runAccess runIf
  repeat' first
    | with_reducible exact Keeps.refl _
    | ((with_reducible apply Keeps.step); (with_reducible apply State.access_keeps))
    | split
    | dsimp only [nextState]

theorem execBpSet_keeps (src) (data) (s : State) : Keeps s (nextState (execBpSet src data s) s) := by
  unfold execBpSet State.runAccess runIf
  repeat' first
    | with_reducible exact Keeps.refl _
    | ((with_reducible apply Keeps.step); (with_reducible apply State.access_keeps))
    | split
    | dsimp only [nextState]

theorem execArbFreeze_keeps (src) (data) (s : State) : Keeps s (nextState (execArbFreeze src data s) s) := by
  unfold execArbFreeze State.runAccess runIf
  repeat' first
    | with_reducible exact Keeps.refl _
    | ((with_reducible apply Keeps.step); (with_reducible apply State.access_keeps))
    | split
    | dsimp only [nextState]

theorem mem_insertBy {α : Type} (key : α → Nat) (x y : α) (l : List α) (h : y ∈ insertBy key x l) : y = x ∨ y ∈ l := by
  induction l with
  | nil => exact .inl (by simpa [insertBy] using h)
  | cons z l ih =>
    simp only [insertBy] at h
    split at h
    · rcases List.mem_cons.mp h with e | e
      · exact .inl e
      · exact .inr e
    · rcases List.mem_cons.mp h with e | e
      · exact .inr (e ▸ List.mem_cons_self ..)
      · exact (ih e).imp_right (List.mem_cons_of_mem _)

theorem mem_sortBy {α : Type} (key : α → Nat) (y : α) (l : List α) (h : y ∈ sortBy key l) : y ∈ l := by
  have go : ∀ (l a : List α), y ∈ l.foldl (fun a x => insertBy key x a) a → y ∈ l ∨ y ∈ a := by
    intro l
    induction l with
    | nil => intro a h; exact .inr h
    | cons x l ih =>
      intro a h
      rcases ih _ h with e | e
      · exact .inl (List.mem_cons_of_mem _ e)
      · exact (mem_insertBy key x y a e).elim (fun e => .inl (e ▸ List.mem_cons_self ..)) .inr
  exact (go l [] h).elim id fun e => nomatch e

theorem execEventNotification_keeps (s : State) : Keeps s (nextState (execEventNotification s) s) := by
  unfold execEventNotification State.runDuty
  repeat' first
    | with_reducible exact Keeps.refl _
    | ((with_reducible apply Keeps.frame); (with_reducible first
          | apply State.bump_frame | apply State.modFrm_frame | apply State.stagePick_frame); exact rfl)
    | ((with_reducible apply Keeps.step); (with_reducible apply Keeps.modEvt); intro h
       exact h.notify fun r hr =>
         (List.mem_filter.mp (List.mem_of_mem_drop (List.mem_of_mem_take (mem_sortBy _ _ _ (mem_sortBy _ _ _ hr))))).1)
    | split
    | dsimp only [nextState]

theorem State.abandonFor_keeps (s : State) (o) : Keeps s (State.abandonFor s o) := by
  unfold State.abandonFor
  repeat' first
    | with_reducible exact Keeps.refl _
    | ((with_reducible apply Keeps.step); (with_reducible first
          | apply State.spillFails_keeps | apply State.abandonSignal_keeps | apply State.partialGone_keeps
          | apply State.voteGone_keeps | apply State.mirrorGone_keeps | apply State.abandonBarrier_keeps))
    | split
    | dsimp only

theorem execOriginatedFrameResend_keeps (ep) (seq) (s : State) :
    Keeps s (nextState (execOriginatedFrameResend ep seq s) s) := by
  unfold execOriginatedFrameResend State.runLive
  repeat' first
    | with_reducible exact Keeps.refl _
    | ((with_reducible apply Keeps.step); (with_reducible apply State.abandonFor_keeps))
    | ((with_reducible apply Keeps.frame); (with_reducible first
          | apply State.abandonOrig_frame | apply State.resendOrig_frame); exact rfl)
    | split
    | dsimp only [nextState]

theorem execLdv_keeps (tile) (word) (s : State) : Keeps s (nextState (execLdv tile word s) s) := by
  unfold execLdv State.runLive
  repeat' first
    | with_reducible exact Keeps.refl _
    | ((with_reducible apply Keeps.step); (with_reducible apply State.issue_keeps))
    | split
    | dsimp only [nextState]

theorem execStv_keeps (tile) (word) (s : State) : Keeps s (nextState (execStv tile word s) s) := by
  unfold execStv State.runLive
  repeat' first
    | with_reducible exact Keeps.refl _
    | ((with_reducible apply Keeps.step); (with_reducible apply State.issue_keeps))
    | split
    | dsimp only [nextState]

theorem execLds_keeps (tile) (word) (s : State) : Keeps s (nextState (execLds tile word s) s) := by
  unfold execLds State.runLive
  repeat' first
    | with_reducible exact Keeps.refl _
    | ((with_reducible apply Keeps.step); (with_reducible apply State.issue_keeps))
    | split
    | dsimp only [nextState]

theorem execSts_keeps (tile) (word) (s : State) : Keeps s (nextState (execSts tile word s) s) := by
  unfold execSts State.runLive
  repeat' first
    | with_reducible exact Keeps.refl _
    | ((with_reducible apply Keeps.step); (with_reducible apply State.issue_keeps))
    | split
    | dsimp only [nextState]

theorem execMovi_keeps (tile) (word) (s : State) : Keeps s (nextState (execMovi tile word s) s) := by
  unfold execMovi State.runLive
  repeat' first
    | with_reducible exact Keeps.refl _
    | ((with_reducible apply Keeps.step); (with_reducible apply State.issue_keeps))
    | split
    | dsimp only [nextState]

theorem execAlu_keeps (tile) (word) (s : State) : Keeps s (nextState (execAlu tile word s) s) := by
  unfold execAlu State.runLive
  repeat' first
    | with_reducible exact Keeps.refl _
    | ((with_reducible apply Keeps.step); (with_reducible apply State.issue_keeps))
    | split
    | dsimp only [nextState]

theorem execAlui_keeps (tile) (word) (s : State) : Keeps s (nextState (execAlui tile word s) s) := by
  unfold execAlui State.runLive
  repeat' first
    | with_reducible exact Keeps.refl _
    | ((with_reducible apply Keeps.step); (with_reducible apply State.issue_keeps))
    | split
    | dsimp only [nextState]

theorem execBcast_keeps (tile) (word) (s : State) : Keeps s (nextState (execBcast tile word s) s) := by
  unfold execBcast State.runLive
  repeat' first
    | with_reducible exact Keeps.refl _
    | ((with_reducible apply Keeps.step); (with_reducible apply State.issue_keeps))
    | split
    | dsimp only [nextState]

theorem execVtog_keeps (tile) (word) (s : State) : Keeps s (nextState (execVtog tile word s) s) := by
  unfold execVtog State.runLive
  repeat' first
    | with_reducible exact Keeps.refl _
    | ((with_reducible apply Keeps.step); (with_reducible apply State.issue_keeps))
    | split
    | dsimp only [nextState]

theorem execLdm_keeps (tile) (word) (s : State) : Keeps s (nextState (execLdm tile word s) s) := by
  unfold execLdm State.runLive
  repeat' first
    | with_reducible exact Keeps.refl _
    | ((with_reducible apply Keeps.step); (with_reducible apply State.issue_keeps))
    | split
    | dsimp only [nextState]

theorem execStm_keeps (tile) (word) (s : State) : Keeps s (nextState (execStm tile word s) s) := by
  unfold execStm State.runLive
  repeat' first
    | with_reducible exact Keeps.refl _
    | ((with_reducible apply Keeps.step); (with_reducible apply State.issue_keeps))
    | split
    | dsimp only [nextState]

theorem execXfer_keeps (tile) (word) (s : State) : Keeps s (nextState (execXfer tile word s) s) := by
  unfold execXfer State.runLive
  repeat' first
    | with_reducible exact Keeps.refl _
    | ((with_reducible apply Keeps.step); (with_reducible apply State.issue_keeps))
    | split
    | dsimp only [nextState]

theorem execRdctr_keeps (tile) (word) (s : State) : Keeps s (nextState (execRdctr tile word s) s) := by
  unfold execRdctr State.runLive
  repeat' first
    | with_reducible exact Keeps.refl _
    | ((with_reducible apply Keeps.step); (with_reducible apply State.issue_keeps))
    | split
    | dsimp only [nextState]

theorem execRdcr_keeps (tile) (word) (s : State) : Keeps s (nextState (execRdcr tile word s) s) := by
  unfold execRdcr State.runLive
  repeat' first
    | with_reducible exact Keeps.refl _
    | ((with_reducible apply Keeps.step); (with_reducible apply State.issue_keeps))
    | split
    | dsimp only [nextState]

theorem execSetl_keeps (tile) (word) (s : State) : Keeps s (nextState (execSetl tile word s) s) := by
  unfold execSetl State.runLive
  repeat' first
    | with_reducible exact Keeps.refl _
    | ((with_reducible apply Keeps.step); (with_reducible apply State.issue_keeps))
    | split
    | dsimp only [nextState]

theorem execWrcr_keeps (tile) (word) (s : State) : Keeps s (nextState (execWrcr tile word s) s) := by
  unfold execWrcr State.runLive
  repeat' first
    | with_reducible exact Keeps.refl _
    | ((with_reducible apply Keeps.step); (with_reducible apply State.issue_keeps))
    | split
    | dsimp only [nextState]

theorem execMma_keeps (tile) (word) (s : State) : Keeps s (nextState (execMma tile word s) s) := by
  unfold execMma State.runLive
  repeat' first
    | with_reducible exact Keeps.refl _
    | ((with_reducible apply Keeps.step); (with_reducible apply State.issue_keeps))
    | split
    | dsimp only [nextState]

theorem execAczero_keeps (tile) (word) (s : State) : Keeps s (nextState (execAczero tile word s) s) := by
  unfold execAczero State.runLive
  repeat' first
    | with_reducible exact Keeps.refl _
    | ((with_reducible apply Keeps.step); (with_reducible apply State.issue_keeps))
    | split
    | dsimp only [nextState]

theorem execFadd_keeps (tile) (word) (s : State) : Keeps s (nextState (execFadd tile word s) s) := by
  unfold execFadd State.runLive
  repeat' first
    | with_reducible exact Keeps.refl _
    | ((with_reducible apply Keeps.step); (with_reducible apply State.issue_keeps))
    | split
    | dsimp only [nextState]

theorem execFsub_keeps (tile) (word) (s : State) : Keeps s (nextState (execFsub tile word s) s) := by
  unfold execFsub State.runLive
  repeat' first
    | with_reducible exact Keeps.refl _
    | ((with_reducible apply Keeps.step); (with_reducible apply State.issue_keeps))
    | split
    | dsimp only [nextState]

theorem execFmul_keeps (tile) (word) (s : State) : Keeps s (nextState (execFmul tile word s) s) := by
  unfold execFmul State.runLive
  repeat' first
    | with_reducible exact Keeps.refl _
    | ((with_reducible apply Keeps.step); (with_reducible apply State.issue_keeps))
    | split
    | dsimp only [nextState]

theorem execFfma_keeps (tile) (word) (s : State) : Keeps s (nextState (execFfma tile word s) s) := by
  unfold execFfma State.runLive
  repeat' first
    | with_reducible exact Keeps.refl _
    | ((with_reducible apply Keeps.step); (with_reducible apply State.issue_keeps))
    | split
    | dsimp only [nextState]

theorem execFmax_keeps (tile) (word) (s : State) : Keeps s (nextState (execFmax tile word s) s) := by
  unfold execFmax State.runLive
  repeat' first
    | with_reducible exact Keeps.refl _
    | ((with_reducible apply Keeps.step); (with_reducible apply State.issue_keeps))
    | split
    | dsimp only [nextState]

theorem execFmin_keeps (tile) (word) (s : State) : Keeps s (nextState (execFmin tile word s) s) := by
  unfold execFmin State.runLive
  repeat' first
    | with_reducible exact Keeps.refl _
    | ((with_reducible apply Keeps.step); (with_reducible apply State.issue_keeps))
    | split
    | dsimp only [nextState]

theorem execFsgn_keeps (tile) (word) (s : State) : Keeps s (nextState (execFsgn tile word s) s) := by
  unfold execFsgn State.runLive
  repeat' first
    | with_reducible exact Keeps.refl _
    | ((with_reducible apply Keeps.step); (with_reducible apply State.issue_keeps))
    | split
    | dsimp only [nextState]

theorem execFcmp_keeps (tile) (word) (s : State) : Keeps s (nextState (execFcmp tile word s) s) := by
  unfold execFcmp State.runLive
  repeat' first
    | with_reducible exact Keeps.refl _
    | ((with_reducible apply Keeps.step); (with_reducible apply State.issue_keeps))
    | split
    | dsimp only [nextState]

theorem execSel_keeps (tile) (word) (s : State) : Keeps s (nextState (execSel tile word s) s) := by
  unfold execSel State.runLive
  repeat' first
    | with_reducible exact Keeps.refl _
    | ((with_reducible apply Keeps.step); (with_reducible apply State.issue_keeps))
    | split
    | dsimp only [nextState]

theorem execFexp_keeps (tile) (word) (s : State) : Keeps s (nextState (execFexp tile word s) s) := by
  unfold execFexp State.runLive
  repeat' first
    | with_reducible exact Keeps.refl _
    | ((with_reducible apply Keeps.step); (with_reducible apply State.issue_keeps))
    | split
    | dsimp only [nextState]

theorem execFexpa_keeps (tile) (word) (s : State) : Keeps s (nextState (execFexpa tile word s) s) := by
  unfold execFexpa State.runLive
  repeat' first
    | with_reducible exact Keeps.refl _
    | ((with_reducible apply Keeps.step); (with_reducible apply State.issue_keeps))
    | split
    | dsimp only [nextState]

theorem execFrcp_keeps (tile) (word) (s : State) : Keeps s (nextState (execFrcp tile word s) s) := by
  unfold execFrcp State.runLive
  repeat' first
    | with_reducible exact Keeps.refl _
    | ((with_reducible apply Keeps.step); (with_reducible apply State.issue_keeps))
    | split
    | dsimp only [nextState]

theorem execFsqrt_keeps (tile) (word) (s : State) : Keeps s (nextState (execFsqrt tile word s) s) := by
  unfold execFsqrt State.runLive
  repeat' first
    | with_reducible exact Keeps.refl _
    | ((with_reducible apply Keeps.step); (with_reducible apply State.issue_keeps))
    | split
    | dsimp only [nextState]

theorem execFmuli_keeps (tile) (word) (s : State) : Keeps s (nextState (execFmuli tile word s) s) := by
  unfold execFmuli State.runLive
  repeat' first
    | with_reducible exact Keeps.refl _
    | ((with_reducible apply Keeps.step); (with_reducible apply State.issue_keeps))
    | split
    | dsimp only [nextState]

theorem execFaddi_keeps (tile) (word) (s : State) : Keeps s (nextState (execFaddi tile word s) s) := by
  unfold execFaddi State.runLive
  repeat' first
    | with_reducible exact Keeps.refl _
    | ((with_reducible apply Keeps.step); (with_reducible apply State.issue_keeps))
    | split
    | dsimp only [nextState]

theorem execIadd_keeps (tile) (word) (s : State) : Keeps s (nextState (execIadd tile word s) s) := by
  unfold execIadd State.runLive
  repeat' first
    | with_reducible exact Keeps.refl _
    | ((with_reducible apply Keeps.step); (with_reducible apply State.issue_keeps))
    | split
    | dsimp only [nextState]

theorem execIsub_keeps (tile) (word) (s : State) : Keeps s (nextState (execIsub tile word s) s) := by
  unfold execIsub State.runLive
  repeat' first
    | with_reducible exact Keeps.refl _
    | ((with_reducible apply Keeps.step); (with_reducible apply State.issue_keeps))
    | split
    | dsimp only [nextState]

theorem execImul_keeps (tile) (word) (s : State) : Keeps s (nextState (execImul tile word s) s) := by
  unfold execImul State.runLive
  repeat' first
    | with_reducible exact Keeps.refl _
    | ((with_reducible apply Keeps.step); (with_reducible apply State.issue_keeps))
    | split
    | dsimp only [nextState]

theorem execLogic_keeps (tile) (word) (s : State) : Keeps s (nextState (execLogic tile word s) s) := by
  unfold execLogic State.runLive
  repeat' first
    | with_reducible exact Keeps.refl _
    | ((with_reducible apply Keeps.step); (with_reducible apply State.issue_keeps))
    | split
    | dsimp only [nextState]

theorem execShift_keeps (tile) (word) (s : State) : Keeps s (nextState (execShift tile word s) s) := by
  unfold execShift State.runLive
  repeat' first
    | with_reducible exact Keeps.refl _
    | ((with_reducible apply Keeps.step); (with_reducible apply State.issue_keeps))
    | split
    | dsimp only [nextState]

theorem execIminmax_keeps (tile) (word) (s : State) : Keeps s (nextState (execIminmax tile word s) s) := by
  unfold execIminmax State.runLive
  repeat' first
    | with_reducible exact Keeps.refl _
    | ((with_reducible apply Keeps.step); (with_reducible apply State.issue_keeps))
    | split
    | dsimp only [nextState]

theorem execRed_keeps (tile) (word) (s : State) : Keeps s (nextState (execRed tile word s) s) := by
  unfold execRed State.runLive
  repeat' first
    | with_reducible exact Keeps.refl _
    | ((with_reducible apply Keeps.step); (with_reducible apply State.issue_keeps))
    | split
    | dsimp only [nextState]

theorem execPerm_keeps (tile) (word) (s : State) : Keeps s (nextState (execPerm tile word s) s) := by
  unfold execPerm State.runLive
  repeat' first
    | with_reducible exact Keeps.refl _
    | ((with_reducible apply Keeps.step); (with_reducible apply State.issue_keeps))
    | split
    | dsimp only [nextState]

theorem execCvtn_keeps (tile) (word) (s : State) : Keeps s (nextState (execCvtn tile word s) s) := by
  unfold execCvtn State.runLive
  repeat' first
    | with_reducible exact Keeps.refl _
    | ((with_reducible apply Keeps.step); (with_reducible apply State.issue_keeps))
    | split
    | dsimp only [nextState]

theorem execCvts_keeps (tile) (word) (s : State) : Keeps s (nextState (execCvts tile word s) s) := by
  unfold execCvts State.runLive
  repeat' first
    | with_reducible exact Keeps.refl _
    | ((with_reducible apply Keeps.step); (with_reducible apply State.issue_keeps))
    | split
    | dsimp only [nextState]

theorem execCvtw_keeps (tile) (word) (s : State) : Keeps s (nextState (execCvtw tile word s) s) := by
  unfold execCvtw State.runLive
  repeat' first
    | with_reducible exact Keeps.refl _
    | ((with_reducible apply Keeps.step); (with_reducible apply State.issue_keeps))
    | split
    | dsimp only [nextState]

theorem execCvti_keeps (tile) (word) (s : State) : Keeps s (nextState (execCvti tile word s) s) := by
  unfold execCvti State.runLive
  repeat' first
    | with_reducible exact Keeps.refl _
    | ((with_reducible apply Keeps.step); (with_reducible apply State.issue_keeps))
    | split
    | dsimp only [nextState]

theorem execAcrd_keeps (tile) (word) (s : State) : Keeps s (nextState (execAcrd tile word s) s) := by
  unfold execAcrd State.runLive
  repeat' first
    | with_reducible exact Keeps.refl _
    | ((with_reducible apply Keeps.step); (with_reducible apply State.issue_keeps))
    | split
    | dsimp only [nextState]

theorem execAcwr_keeps (tile) (word) (s : State) : Keeps s (nextState (execAcwr tile word s) s) := by
  unfold execAcwr State.runLive
  repeat' first
    | with_reducible exact Keeps.refl _
    | ((with_reducible apply Keeps.step); (with_reducible apply State.issue_keeps))
    | split
    | dsimp only [nextState]

theorem execSig_keeps (tile) (word) (s : State) : Keeps s (nextState (execSig tile word s) s) := by
  unfold execSig State.runLive
  repeat' first
    | with_reducible exact Keeps.refl _
    | ((with_reducible apply Keeps.step); (with_reducible apply State.issue_keeps))
    | split
    | dsimp only [nextState]

theorem execSubCtr_keeps (tile) (word) (s : State) : Keeps s (nextState (execSubCtr tile word s) s) := by
  unfold execSubCtr State.runLive
  repeat' first
    | with_reducible exact Keeps.refl _
    | ((with_reducible apply Keeps.step); (with_reducible apply State.issue_keeps))
    | split
    | dsimp only [nextState]

theorem execWait_keeps (tile) (word) (s : State) : Keeps s (nextState (execWait tile word s) s) := by
  unfold execWait State.runLive
  repeat' first
    | with_reducible exact Keeps.refl _
    | ((with_reducible apply Keeps.step); (with_reducible apply State.issue_keeps))
    | split
    | dsimp only [nextState]

theorem execFence_keeps (tile) (word) (s : State) : Keeps s (nextState (execFence tile word s) s) := by
  unfold execFence State.runLive
  repeat' first
    | with_reducible exact Keeps.refl _
    | ((with_reducible apply Keeps.step); (with_reducible apply State.issue_keeps))
    | split
    | dsimp only [nextState]

theorem execBr_keeps (tile) (word) (s : State) : Keeps s (nextState (execBr tile word s) s) := by
  unfold execBr State.runLive
  repeat' first
    | with_reducible exact Keeps.refl _
    | ((with_reducible apply Keeps.step); (with_reducible apply State.issue_keeps))
    | split
    | dsimp only [nextState]

theorem execBrz_keeps (tile) (word) (s : State) : Keeps s (nextState (execBrz tile word s) s) := by
  unfold execBrz State.runLive
  repeat' first
    | with_reducible exact Keeps.refl _
    | ((with_reducible apply Keeps.step); (with_reducible apply State.issue_keeps))
    | split
    | dsimp only [nextState]

theorem execLoop_keeps (tile) (word) (s : State) : Keeps s (nextState (execLoop tile word s) s) := by
  unfold execLoop State.runLive
  repeat' first
    | with_reducible exact Keeps.refl _
    | ((with_reducible apply Keeps.step); (with_reducible apply State.issue_keeps))
    | split
    | dsimp only [nextState]

theorem execHalt_keeps (tile) (word) (s : State) : Keeps s (nextState (execHalt tile word s) s) := by
  unfold execHalt State.runLive
  repeat' first
    | with_reducible exact Keeps.refl _
    | ((with_reducible apply Keeps.step); (with_reducible apply State.issue_keeps))
    | split
    | dsimp only [nextState]

theorem State.tileEdge_keeps (s : State) : Keeps s (State.tileEdge s) := by
  unfold State.tileEdge
  repeat' first
    | with_reducible exact Keeps.refl _
    | ((with_reducible apply Keeps.step); (with_reducible first
          | apply State.issueTiles_keeps | apply State.mmaNext_keeps))
    | ((with_reducible apply Keeps.frame); (with_reducible apply State.modTile_frame); exact rfl)
    | ((with_reducible apply Keeps.foldl); intro _ _)
    | ((with_reducible apply Keeps.foldlPair); intro _ _)
    | split
    | dsimp only

theorem State.liveTick_keeps (s : State) : Keeps s (State.liveTick s) := by
  unfold State.liveTick
  repeat' first
    | with_reducible exact Keeps.refl _
    | ((with_reducible apply Keeps.step); (with_reducible first
          | apply State.endDrains_keeps | apply State.tileEdge_keeps))
    | ((with_reducible apply Keeps.frame); (with_reducible first
          | apply State.levelCounts_frame | apply State.modFrm_frame | apply State.watchIdle_frame
          | apply State.wakeTimed_frame); exact rfl)
    | ((with_reducible apply Keeps.foldl); intro _ _)
    | ((with_reducible apply Keeps.foldlPair); intro _ _)
    | split
    | dsimp only

theorem State.tick_keeps (s : State) : Keeps s (State.tick s) := by
  unfold State.tick
  repeat' first
    | with_reducible exact Keeps.refl _
    | ((with_reducible apply Keeps.step); (with_reducible first
          | apply State.liveTick_keeps | apply State.startStep_keeps))
    | ((with_reducible apply Keeps.frame); (with_reducible apply State.passTime_frame); exact rfl)
    | split
    | dsimp only

end Sys2Proof.Machine
end

