-- ==== Sys2Proof/Laws/Outcome.lean ====
section
/-! SUPPORT. What a meaning answers, said once: the three shapes of a meaning, and that none of them faults. -/

namespace Sys2Proof.Machine

theorem runIf_true {ok : Bool} (t : State) (h : ok = true) : runIf ok t = .next t := by rw [runIf, if_pos h]

theorem runIf_false {ok : Bool} (t : State) (h : ok = false) : runIf ok t = .refused .illFormed := by
  rw [runIf, h]; rfl

/-- A meaning of a unit of the switched domains while they run. -/
theorem State.runLive_on {s : State} {ok : Bool} (t : State) (h : ok = true) (l : s.live = true) :
    s.runLive ok t = .next t := by rw [State.runLive, if_pos h, if_pos l]

/-- The same while they do not run. -/
theorem State.runLive_off {s : State} {ok : Bool} (t : State) (h : ok = true) (l : s.live = false) :
    s.runLive ok t = .next s := by rw [State.runLive, if_pos h, l]; rfl

theorem State.runLive_false {s : State} {ok : Bool} (t : State) (h : ok = false) :
    s.runLive ok t = .refused .illFormed := by rw [State.runLive, h]; rfl

/-- A meaning that a duty of Ladel carries out, while it is served. -/
theorem State.runDuty_on {s : State} {duty : Nat} {ok : Bool} (t : State) (h : ok = true) (l : s.live = true)
    (d : s.served duty = true) : s.runDuty duty ok t = .next t := by
  rw [State.runDuty, if_pos h, l, d]; rfl

/-- The same while it is not served, or while the switched domains do not run. -/
theorem State.runDuty_off {s : State} {duty : Nat} {ok : Bool} (t : State) (h : ok = true)
    (l : (s.live && s.served duty) = false) : s.runDuty duty ok t = .next s := by
  rw [State.runDuty, if_pos h, l]; rfl

theorem State.runDuty_false {s : State} {duty : Nat} {ok : Bool} (t : State) (h : ok = false) :
    s.runDuty duty ok t = .refused .illFormed := by rw [State.runDuty, h]; rfl

end Sys2Proof.Machine
end

