-- ==== Sys2Proof/Laws/State.lean ====
section
/-! SUPPORT. One lemma per group and update: what an update changes, and that it changes nothing else. -/

namespace Sys2Proof.Machine

@[simp] theorem State.modClk_build (s : State) (f) : (s.modClk f).build = s.build := rfl
@[simp] theorem State.modClk_pending (s : State) (f) : (s.modClk f).pending = s.pending := rfl
@[simp] theorem State.modClk_clk (s : State) (f) : (s.modClk f).clk = f s.clk := rfl
@[simp] theorem State.modClk_mem (s : State) (f) : (s.modClk f).mem = s.mem := rfl
@[simp] theorem State.modClk_dict (s : State) (f) : (s.modClk f).dict = s.dict := rfl
@[simp] theorem State.modClk_frm (s : State) (f) : (s.modClk f).frm = s.frm := rfl
@[simp] theorem State.modClk_rgn (s : State) (f) : (s.modClk f).rgn = s.rgn := rfl
@[simp] theorem State.modClk_wsk (s : State) (f) : (s.modClk f).wsk = s.wsk := rfl
@[simp] theorem State.modClk_mc (s : State) (f) : (s.modClk f).mc = s.mc := rfl
@[simp] theorem State.modClk_tl (s : State) (f) : (s.modClk f).tl = s.tl := rfl
@[simp] theorem State.modClk_syn (s : State) (f) : (s.modClk f).syn = s.syn := rfl
@[simp] theorem State.modClk_sch (s : State) (f) : (s.modClk f).sch = s.sch := rfl
@[simp] theorem State.modClk_ldl (s : State) (f) : (s.modClk f).ldl = s.ldl := rfl
@[simp] theorem State.modClk_per (s : State) (f) : (s.modClk f).per = s.per := rfl
@[simp] theorem State.modClk_pwr (s : State) (f) : (s.modClk f).pwr = s.pwr := rfl
@[simp] theorem State.modClk_stress (s : State) (f) : (s.modClk f).stress = s.stress := rfl
@[simp] theorem State.modClk_evt (s : State) (f) : (s.modClk f).evt = s.evt := rfl
@[simp] theorem State.modClk_att (s : State) (f) : (s.modClk f).att = s.att := rfl
@[simp] theorem State.modClk_par (s : State) (f) : (s.modClk f).par = s.par := rfl
@[simp] theorem State.modClk_obs (s : State) (f) : (s.modClk f).obs = s.obs := rfl
@[simp] theorem State.modClk_cls (s : State) (f) : (s.modClk f).cls = s.cls := rfl
@[simp] theorem State.modClk_stk (s : State) (f) : (s.modClk f).stk = s.stk := rfl
@[simp] theorem State.modClk_pin (s : State) (f) : (s.modClk f).pin = s.pin := rfl
@[simp] theorem State.modClk_arb (s : State) (f) : (s.modClk f).arb = s.arb := rfl
@[simp] theorem State.modClk_tally (s : State) (f) : (s.modClk f).tally = s.tally := rfl
@[simp] theorem State.modClk_mgtRsp (s : State) (f) : (s.modClk f).mgtRsp = s.mgtRsp := rfl
@[simp] theorem State.modClk_free (s : State) (f) : (s.modClk f).free = s.free := rfl
@[simp] theorem State.modMem_build (s : State) (f) : (s.modMem f).build = s.build := rfl
@[simp] theorem State.modMem_pending (s : State) (f) : (s.modMem f).pending = s.pending := rfl
@[simp] theorem State.modMem_clk (s : State) (f) : (s.modMem f).clk = s.clk := rfl
@[simp] theorem State.modMem_mem (s : State) (f) : (s.modMem f).mem = f s.mem := rfl
@[simp] theorem State.modMem_dict (s : State) (f) : (s.modMem f).dict = s.dict := rfl
@[simp] theorem State.modMem_frm (s : State) (f) : (s.modMem f).frm = s.frm := rfl
@[simp] theorem State.modMem_rgn (s : State) (f) : (s.modMem f).rgn = s.rgn := rfl
@[simp] theorem State.modMem_wsk (s : State) (f) : (s.modMem f).wsk = s.wsk := rfl
@[simp] theorem State.modMem_mc (s : State) (f) : (s.modMem f).mc = s.mc := rfl
@[simp] theorem State.modMem_tl (s : State) (f) : (s.modMem f).tl = s.tl := rfl
@[simp] theorem State.modMem_syn (s : State) (f) : (s.modMem f).syn = s.syn := rfl
@[simp] theorem State.modMem_sch (s : State) (f) : (s.modMem f).sch = s.sch := rfl
@[simp] theorem State.modMem_ldl (s : State) (f) : (s.modMem f).ldl = s.ldl := rfl
@[simp] theorem State.modMem_per (s : State) (f) : (s.modMem f).per = s.per := rfl
@[simp] theorem State.modMem_pwr (s : State) (f) : (s.modMem f).pwr = s.pwr := rfl
@[simp] theorem State.modMem_stress (s : State) (f) : (s.modMem f).stress = s.stress := rfl
@[simp] theorem State.modMem_evt (s : State) (f) : (s.modMem f).evt = s.evt := rfl
@[simp] theorem State.modMem_att (s : State) (f) : (s.modMem f).att = s.att := rfl
@[simp] theorem State.modMem_par (s : State) (f) : (s.modMem f).par = s.par := rfl
@[simp] theorem State.modMem_obs (s : State) (f) : (s.modMem f).obs = s.obs := rfl
@[simp] theorem State.modMem_cls (s : State) (f) : (s.modMem f).cls = s.cls := rfl
@[simp] theorem State.modMem_stk (s : State) (f) : (s.modMem f).stk = s.stk := rfl
@[simp] theorem State.modMem_pin (s : State) (f) : (s.modMem f).pin = s.pin := rfl
@[simp] theorem State.modMem_arb (s : State) (f) : (s.modMem f).arb = s.arb := rfl
@[simp] theorem State.modMem_tally (s : State) (f) : (s.modMem f).tally = s.tally := rfl
@[simp] theorem State.modMem_mgtRsp (s : State) (f) : (s.modMem f).mgtRsp = s.mgtRsp := rfl
@[simp] theorem State.modMem_free (s : State) (f) : (s.modMem f).free = s.free := rfl
@[simp] theorem State.modDict_build (s : State) (f) : (s.modDict f).build = s.build := rfl
@[simp] theorem State.modDict_pending (s : State) (f) : (s.modDict f).pending = s.pending := rfl
@[simp] theorem State.modDict_clk (s : State) (f) : (s.modDict f).clk = s.clk := rfl
@[simp] theorem State.modDict_mem (s : State) (f) : (s.modDict f).mem = s.mem := rfl
@[simp] theorem State.modDict_dict (s : State) (f) : (s.modDict f).dict = f s.dict := rfl
@[simp] theorem State.modDict_frm (s : State) (f) : (s.modDict f).frm = s.frm := rfl
@[simp] theorem State.modDict_rgn (s : State) (f) : (s.modDict f).rgn = s.rgn := rfl
@[simp] theorem State.modDict_wsk (s : State) (f) : (s.modDict f).wsk = s.wsk := rfl
@[simp] theorem State.modDict_mc (s : State) (f) : (s.modDict f).mc = s.mc := rfl
@[simp] theorem State.modDict_tl (s : State) (f) : (s.modDict f).tl = s.tl := rfl
@[simp] theorem State.modDict_syn (s : State) (f) : (s.modDict f).syn = s.syn := rfl
@[simp] theorem State.modDict_sch (s : State) (f) : (s.modDict f).sch = s.sch := rfl
@[simp] theorem State.modDict_ldl (s : State) (f) : (s.modDict f).ldl = s.ldl := rfl
@[simp] theorem State.modDict_per (s : State) (f) : (s.modDict f).per = s.per := rfl
@[simp] theorem State.modDict_pwr (s : State) (f) : (s.modDict f).pwr = s.pwr := rfl
@[simp] theorem State.modDict_stress (s : State) (f) : (s.modDict f).stress = s.stress := rfl
@[simp] theorem State.modDict_evt (s : State) (f) : (s.modDict f).evt = s.evt := rfl
@[simp] theorem State.modDict_att (s : State) (f) : (s.modDict f).att = s.att := rfl
@[simp] theorem State.modDict_par (s : State) (f) : (s.modDict f).par = s.par := rfl
@[simp] theorem State.modDict_obs (s : State) (f) : (s.modDict f).obs = s.obs := rfl
@[simp] theorem State.modDict_cls (s : State) (f) : (s.modDict f).cls = s.cls := rfl
@[simp] theorem State.modDict_stk (s : State) (f) : (s.modDict f).stk = s.stk := rfl
@[simp] theorem State.modDict_pin (s : State) (f) : (s.modDict f).pin = s.pin := rfl
@[simp] theorem State.modDict_arb (s : State) (f) : (s.modDict f).arb = s.arb := rfl
@[simp] theorem State.modDict_tally (s : State) (f) : (s.modDict f).tally = s.tally := rfl
@[simp] theorem State.modDict_mgtRsp (s : State) (f) : (s.modDict f).mgtRsp = s.mgtRsp := rfl
@[simp] theorem State.modDict_free (s : State) (f) : (s.modDict f).free = s.free := rfl
@[simp] theorem State.modFrm_build (s : State) (f) : (s.modFrm f).build = s.build := rfl
@[simp] theorem State.modFrm_pending (s : State) (f) : (s.modFrm f).pending = s.pending := rfl
@[simp] theorem State.modFrm_clk (s : State) (f) : (s.modFrm f).clk = s.clk := rfl
@[simp] theorem State.modFrm_mem (s : State) (f) : (s.modFrm f).mem = s.mem := rfl
@[simp] theorem State.modFrm_dict (s : State) (f) : (s.modFrm f).dict = s.dict := rfl
@[simp] theorem State.modFrm_frm (s : State) (f) : (s.modFrm f).frm = f s.frm := rfl
@[simp] theorem State.modFrm_rgn (s : State) (f) : (s.modFrm f).rgn = s.rgn := rfl
@[simp] theorem State.modFrm_wsk (s : State) (f) : (s.modFrm f).wsk = s.wsk := rfl
@[simp] theorem State.modFrm_mc (s : State) (f) : (s.modFrm f).mc = s.mc := rfl
@[simp] theorem State.modFrm_tl (s : State) (f) : (s.modFrm f).tl = s.tl := rfl
@[simp] theorem State.modFrm_syn (s : State) (f) : (s.modFrm f).syn = s.syn := rfl
@[simp] theorem State.modFrm_sch (s : State) (f) : (s.modFrm f).sch = s.sch := rfl
@[simp] theorem State.modFrm_ldl (s : State) (f) : (s.modFrm f).ldl = s.ldl := rfl
@[simp] theorem State.modFrm_per (s : State) (f) : (s.modFrm f).per = s.per := rfl
@[simp] theorem State.modFrm_pwr (s : State) (f) : (s.modFrm f).pwr = s.pwr := rfl
@[simp] theorem State.modFrm_stress (s : State) (f) : (s.modFrm f).stress = s.stress := rfl
@[simp] theorem State.modFrm_evt (s : State) (f) : (s.modFrm f).evt = s.evt := rfl
@[simp] theorem State.modFrm_att (s : State) (f) : (s.modFrm f).att = s.att := rfl
@[simp] theorem State.modFrm_par (s : State) (f) : (s.modFrm f).par = s.par := rfl
@[simp] theorem State.modFrm_obs (s : State) (f) : (s.modFrm f).obs = s.obs := rfl
@[simp] theorem State.modFrm_cls (s : State) (f) : (s.modFrm f).cls = s.cls := rfl
@[simp] theorem State.modFrm_stk (s : State) (f) : (s.modFrm f).stk = s.stk := rfl
@[simp] theorem State.modFrm_pin (s : State) (f) : (s.modFrm f).pin = s.pin := rfl
@[simp] theorem State.modFrm_arb (s : State) (f) : (s.modFrm f).arb = s.arb := rfl
@[simp] theorem State.modFrm_tally (s : State) (f) : (s.modFrm f).tally = s.tally := rfl
@[simp] theorem State.modFrm_mgtRsp (s : State) (f) : (s.modFrm f).mgtRsp = s.mgtRsp := rfl
@[simp] theorem State.modFrm_free (s : State) (f) : (s.modFrm f).free = s.free := rfl
@[simp] theorem State.modRgn_build (s : State) (f) : (s.modRgn f).build = s.build := rfl
@[simp] theorem State.modRgn_pending (s : State) (f) : (s.modRgn f).pending = s.pending := rfl
@[simp] theorem State.modRgn_clk (s : State) (f) : (s.modRgn f).clk = s.clk := rfl
@[simp] theorem State.modRgn_mem (s : State) (f) : (s.modRgn f).mem = s.mem := rfl
@[simp] theorem State.modRgn_dict (s : State) (f) : (s.modRgn f).dict = s.dict := rfl
@[simp] theorem State.modRgn_frm (s : State) (f) : (s.modRgn f).frm = s.frm := rfl
@[simp] theorem State.modRgn_rgn (s : State) (f) : (s.modRgn f).rgn = f s.rgn := rfl
@[simp] theorem State.modRgn_wsk (s : State) (f) : (s.modRgn f).wsk = s.wsk := rfl
@[simp] theorem State.modRgn_mc (s : State) (f) : (s.modRgn f).mc = s.mc := rfl
@[simp] theorem State.modRgn_tl (s : State) (f) : (s.modRgn f).tl = s.tl := rfl
@[simp] theorem State.modRgn_syn (s : State) (f) : (s.modRgn f).syn = s.syn := rfl
@[simp] theorem State.modRgn_sch (s : State) (f) : (s.modRgn f).sch = s.sch := rfl
@[simp] theorem State.modRgn_ldl (s : State) (f) : (s.modRgn f).ldl = s.ldl := rfl
@[simp] theorem State.modRgn_per (s : State) (f) : (s.modRgn f).per = s.per := rfl
@[simp] theorem State.modRgn_pwr (s : State) (f) : (s.modRgn f).pwr = s.pwr := rfl
@[simp] theorem State.modRgn_stress (s : State) (f) : (s.modRgn f).stress = s.stress := rfl
@[simp] theorem State.modRgn_evt (s : State) (f) : (s.modRgn f).evt = s.evt := rfl
@[simp] theorem State.modRgn_att (s : State) (f) : (s.modRgn f).att = s.att := rfl
@[simp] theorem State.modRgn_par (s : State) (f) : (s.modRgn f).par = s.par := rfl
@[simp] theorem State.modRgn_obs (s : State) (f) : (s.modRgn f).obs = s.obs := rfl
@[simp] theorem State.modRgn_cls (s : State) (f) : (s.modRgn f).cls = s.cls := rfl
@[simp] theorem State.modRgn_stk (s : State) (f) : (s.modRgn f).stk = s.stk := rfl
@[simp] theorem State.modRgn_pin (s : State) (f) : (s.modRgn f).pin = s.pin := rfl
@[simp] theorem State.modRgn_arb (s : State) (f) : (s.modRgn f).arb = s.arb := rfl
@[simp] theorem State.modRgn_tally (s : State) (f) : (s.modRgn f).tally = s.tally := rfl
@[simp] theorem State.modRgn_mgtRsp (s : State) (f) : (s.modRgn f).mgtRsp = s.mgtRsp := rfl
@[simp] theorem State.modRgn_free (s : State) (f) : (s.modRgn f).free = s.free := rfl
@[simp] theorem State.modWsk_build (s : State) (f) : (s.modWsk f).build = s.build := rfl
@[simp] theorem State.modWsk_pending (s : State) (f) : (s.modWsk f).pending = s.pending := rfl
@[simp] theorem State.modWsk_clk (s : State) (f) : (s.modWsk f).clk = s.clk := rfl
@[simp] theorem State.modWsk_mem (s : State) (f) : (s.modWsk f).mem = s.mem := rfl
@[simp] theorem State.modWsk_dict (s : State) (f) : (s.modWsk f).dict = s.dict := rfl
@[simp] theorem State.modWsk_frm (s : State) (f) : (s.modWsk f).frm = s.frm := rfl
@[simp] theorem State.modWsk_rgn (s : State) (f) : (s.modWsk f).rgn = s.rgn := rfl
@[simp] theorem State.modWsk_wsk (s : State) (f) : (s.modWsk f).wsk = f s.wsk := rfl
@[simp] theorem State.modWsk_mc (s : State) (f) : (s.modWsk f).mc = s.mc := rfl
@[simp] theorem State.modWsk_tl (s : State) (f) : (s.modWsk f).tl = s.tl := rfl
@[simp] theorem State.modWsk_syn (s : State) (f) : (s.modWsk f).syn = s.syn := rfl
@[simp] theorem State.modWsk_sch (s : State) (f) : (s.modWsk f).sch = s.sch := rfl
@[simp] theorem State.modWsk_ldl (s : State) (f) : (s.modWsk f).ldl = s.ldl := rfl
@[simp] theorem State.modWsk_per (s : State) (f) : (s.modWsk f).per = s.per := rfl
@[simp] theorem State.modWsk_pwr (s : State) (f) : (s.modWsk f).pwr = s.pwr := rfl
@[simp] theorem State.modWsk_stress (s : State) (f) : (s.modWsk f).stress = s.stress := rfl
@[simp] theorem State.modWsk_evt (s : State) (f) : (s.modWsk f).evt = s.evt := rfl
@[simp] theorem State.modWsk_att (s : State) (f) : (s.modWsk f).att = s.att := rfl
@[simp] theorem State.modWsk_par (s : State) (f) : (s.modWsk f).par = s.par := rfl
@[simp] theorem State.modWsk_obs (s : State) (f) : (s.modWsk f).obs = s.obs := rfl
@[simp] theorem State.modWsk_cls (s : State) (f) : (s.modWsk f).cls = s.cls := rfl
@[simp] theorem State.modWsk_stk (s : State) (f) : (s.modWsk f).stk = s.stk := rfl
@[simp] theorem State.modWsk_pin (s : State) (f) : (s.modWsk f).pin = s.pin := rfl
@[simp] theorem State.modWsk_arb (s : State) (f) : (s.modWsk f).arb = s.arb := rfl
@[simp] theorem State.modWsk_tally (s : State) (f) : (s.modWsk f).tally = s.tally := rfl
@[simp] theorem State.modWsk_mgtRsp (s : State) (f) : (s.modWsk f).mgtRsp = s.mgtRsp := rfl
@[simp] theorem State.modWsk_free (s : State) (f) : (s.modWsk f).free = s.free := rfl
@[simp] theorem State.modMc_build (s : State) (f) : (s.modMc f).build = s.build := rfl
@[simp] theorem State.modMc_pending (s : State) (f) : (s.modMc f).pending = s.pending := rfl
@[simp] theorem State.modMc_clk (s : State) (f) : (s.modMc f).clk = s.clk := rfl
@[simp] theorem State.modMc_mem (s : State) (f) : (s.modMc f).mem = s.mem := rfl
@[simp] theorem State.modMc_dict (s : State) (f) : (s.modMc f).dict = s.dict := rfl
@[simp] theorem State.modMc_frm (s : State) (f) : (s.modMc f).frm = s.frm := rfl
@[simp] theorem State.modMc_rgn (s : State) (f) : (s.modMc f).rgn = s.rgn := rfl
@[simp] theorem State.modMc_wsk (s : State) (f) : (s.modMc f).wsk = s.wsk := rfl
@[simp] theorem State.modMc_mc (s : State) (f) : (s.modMc f).mc = f s.mc := rfl
@[simp] theorem State.modMc_tl (s : State) (f) : (s.modMc f).tl = s.tl := rfl
@[simp] theorem State.modMc_syn (s : State) (f) : (s.modMc f).syn = s.syn := rfl
@[simp] theorem State.modMc_sch (s : State) (f) : (s.modMc f).sch = s.sch := rfl
@[simp] theorem State.modMc_ldl (s : State) (f) : (s.modMc f).ldl = s.ldl := rfl
@[simp] theorem State.modMc_per (s : State) (f) : (s.modMc f).per = s.per := rfl
@[simp] theorem State.modMc_pwr (s : State) (f) : (s.modMc f).pwr = s.pwr := rfl
@[simp] theorem State.modMc_stress (s : State) (f) : (s.modMc f).stress = s.stress := rfl
@[simp] theorem State.modMc_evt (s : State) (f) : (s.modMc f).evt = s.evt := rfl
@[simp] theorem State.modMc_att (s : State) (f) : (s.modMc f).att = s.att := rfl
@[simp] theorem State.modMc_par (s : State) (f) : (s.modMc f).par = s.par := rfl
@[simp] theorem State.modMc_obs (s : State) (f) : (s.modMc f).obs = s.obs := rfl
@[simp] theorem State.modMc_cls (s : State) (f) : (s.modMc f).cls = s.cls := rfl
@[simp] theorem State.modMc_stk (s : State) (f) : (s.modMc f).stk = s.stk := rfl
@[simp] theorem State.modMc_pin (s : State) (f) : (s.modMc f).pin = s.pin := rfl
@[simp] theorem State.modMc_arb (s : State) (f) : (s.modMc f).arb = s.arb := rfl
@[simp] theorem State.modMc_tally (s : State) (f) : (s.modMc f).tally = s.tally := rfl
@[simp] theorem State.modMc_mgtRsp (s : State) (f) : (s.modMc f).mgtRsp = s.mgtRsp := rfl
@[simp] theorem State.modMc_free (s : State) (f) : (s.modMc f).free = s.free := rfl
@[simp] theorem State.modTl_build (s : State) (f) : (s.modTl f).build = s.build := rfl
@[simp] theorem State.modTl_pending (s : State) (f) : (s.modTl f).pending = s.pending := rfl
@[simp] theorem State.modTl_clk (s : State) (f) : (s.modTl f).clk = s.clk := rfl
@[simp] theorem State.modTl_mem (s : State) (f) : (s.modTl f).mem = s.mem := rfl
@[simp] theorem State.modTl_dict (s : State) (f) : (s.modTl f).dict = s.dict := rfl
@[simp] theorem State.modTl_frm (s : State) (f) : (s.modTl f).frm = s.frm := rfl
@[simp] theorem State.modTl_rgn (s : State) (f) : (s.modTl f).rgn = s.rgn := rfl
@[simp] theorem State.modTl_wsk (s : State) (f) : (s.modTl f).wsk = s.wsk := rfl
@[simp] theorem State.modTl_mc (s : State) (f) : (s.modTl f).mc = s.mc := rfl
@[simp] theorem State.modTl_tl (s : State) (f) : (s.modTl f).tl = f s.tl := rfl
@[simp] theorem State.modTl_syn (s : State) (f) : (s.modTl f).syn = s.syn := rfl
@[simp] theorem State.modTl_sch (s : State) (f) : (s.modTl f).sch = s.sch := rfl
@[simp] theorem State.modTl_ldl (s : State) (f) : (s.modTl f).ldl = s.ldl := rfl
@[simp] theorem State.modTl_per (s : State) (f) : (s.modTl f).per = s.per := rfl
@[simp] theorem State.modTl_pwr (s : State) (f) : (s.modTl f).pwr = s.pwr := rfl
@[simp] theorem State.modTl_stress (s : State) (f) : (s.modTl f).stress = s.stress := rfl
@[simp] theorem State.modTl_evt (s : State) (f) : (s.modTl f).evt = s.evt := rfl
@[simp] theorem State.modTl_att (s : State) (f) : (s.modTl f).att = s.att := rfl
@[simp] theorem State.modTl_par (s : State) (f) : (s.modTl f).par = s.par := rfl
@[simp] theorem State.modTl_obs (s : State) (f) : (s.modTl f).obs = s.obs := rfl
@[simp] theorem State.modTl_cls (s : State) (f) : (s.modTl f).cls = s.cls := rfl
@[simp] theorem State.modTl_stk (s : State) (f) : (s.modTl f).stk = s.stk := rfl
@[simp] theorem State.modTl_pin (s : State) (f) : (s.modTl f).pin = s.pin := rfl
@[simp] theorem State.modTl_arb (s : State) (f) : (s.modTl f).arb = s.arb := rfl
@[simp] theorem State.modTl_tally (s : State) (f) : (s.modTl f).tally = s.tally := rfl
@[simp] theorem State.modTl_mgtRsp (s : State) (f) : (s.modTl f).mgtRsp = s.mgtRsp := rfl
@[simp] theorem State.modTl_free (s : State) (f) : (s.modTl f).free = s.free := rfl
@[simp] theorem State.modSyn_build (s : State) (f) : (s.modSyn f).build = s.build := rfl
@[simp] theorem State.modSyn_pending (s : State) (f) : (s.modSyn f).pending = s.pending := rfl
@[simp] theorem State.modSyn_clk (s : State) (f) : (s.modSyn f).clk = s.clk := rfl
@[simp] theorem State.modSyn_mem (s : State) (f) : (s.modSyn f).mem = s.mem := rfl
@[simp] theorem State.modSyn_dict (s : State) (f) : (s.modSyn f).dict = s.dict := rfl
@[simp] theorem State.modSyn_frm (s : State) (f) : (s.modSyn f).frm = s.frm := rfl
@[simp] theorem State.modSyn_rgn (s : State) (f) : (s.modSyn f).rgn = s.rgn := rfl
@[simp] theorem State.modSyn_wsk (s : State) (f) : (s.modSyn f).wsk = s.wsk := rfl
@[simp] theorem State.modSyn_mc (s : State) (f) : (s.modSyn f).mc = s.mc := rfl
@[simp] theorem State.modSyn_tl (s : State) (f) : (s.modSyn f).tl = s.tl := rfl
@[simp] theorem State.modSyn_syn (s : State) (f) : (s.modSyn f).syn = f s.syn := rfl
@[simp] theorem State.modSyn_sch (s : State) (f) : (s.modSyn f).sch = s.sch := rfl
@[simp] theorem State.modSyn_ldl (s : State) (f) : (s.modSyn f).ldl = s.ldl := rfl
@[simp] theorem State.modSyn_per (s : State) (f) : (s.modSyn f).per = s.per := rfl
@[simp] theorem State.modSyn_pwr (s : State) (f) : (s.modSyn f).pwr = s.pwr := rfl
@[simp] theorem State.modSyn_stress (s : State) (f) : (s.modSyn f).stress = s.stress := rfl
@[simp] theorem State.modSyn_evt (s : State) (f) : (s.modSyn f).evt = s.evt := rfl
@[simp] theorem State.modSyn_att (s : State) (f) : (s.modSyn f).att = s.att := rfl
@[simp] theorem State.modSyn_par (s : State) (f) : (s.modSyn f).par = s.par := rfl
@[simp] theorem State.modSyn_obs (s : State) (f) : (s.modSyn f).obs = s.obs := rfl
@[simp] theorem State.modSyn_cls (s : State) (f) : (s.modSyn f).cls = s.cls := rfl
@[simp] theorem State.modSyn_stk (s : State) (f) : (s.modSyn f).stk = s.stk := rfl
@[simp] theorem State.modSyn_pin (s : State) (f) : (s.modSyn f).pin = s.pin := rfl
@[simp] theorem State.modSyn_arb (s : State) (f) : (s.modSyn f).arb = s.arb := rfl
@[simp] theorem State.modSyn_tally (s : State) (f) : (s.modSyn f).tally = s.tally := rfl
@[simp] theorem State.modSyn_mgtRsp (s : State) (f) : (s.modSyn f).mgtRsp = s.mgtRsp := rfl
@[simp] theorem State.modSyn_free (s : State) (f) : (s.modSyn f).free = s.free := rfl
@[simp] theorem State.modSch_build (s : State) (f) : (s.modSch f).build = s.build := rfl
@[simp] theorem State.modSch_pending (s : State) (f) : (s.modSch f).pending = s.pending := rfl
@[simp] theorem State.modSch_clk (s : State) (f) : (s.modSch f).clk = s.clk := rfl
@[simp] theorem State.modSch_mem (s : State) (f) : (s.modSch f).mem = s.mem := rfl
@[simp] theorem State.modSch_dict (s : State) (f) : (s.modSch f).dict = s.dict := rfl
@[simp] theorem State.modSch_frm (s : State) (f) : (s.modSch f).frm = s.frm := rfl
@[simp] theorem State.modSch_rgn (s : State) (f) : (s.modSch f).rgn = s.rgn := rfl
@[simp] theorem State.modSch_wsk (s : State) (f) : (s.modSch f).wsk = s.wsk := rfl
@[simp] theorem State.modSch_mc (s : State) (f) : (s.modSch f).mc = s.mc := rfl
@[simp] theorem State.modSch_tl (s : State) (f) : (s.modSch f).tl = s.tl := rfl
@[simp] theorem State.modSch_syn (s : State) (f) : (s.modSch f).syn = s.syn := rfl
@[simp] theorem State.modSch_sch (s : State) (f) : (s.modSch f).sch = f s.sch := rfl
@[simp] theorem State.modSch_ldl (s : State) (f) : (s.modSch f).ldl = s.ldl := rfl
@[simp] theorem State.modSch_per (s : State) (f) : (s.modSch f).per = s.per := rfl
@[simp] theorem State.modSch_pwr (s : State) (f) : (s.modSch f).pwr = s.pwr := rfl
@[simp] theorem State.modSch_stress (s : State) (f) : (s.modSch f).stress = s.stress := rfl
@[simp] theorem State.modSch_evt (s : State) (f) : (s.modSch f).evt = s.evt := rfl
@[simp] theorem State.modSch_att (s : State) (f) : (s.modSch f).att = s.att := rfl
@[simp] theorem State.modSch_par (s : State) (f) : (s.modSch f).par = s.par := rfl
@[simp] theorem State.modSch_obs (s : State) (f) : (s.modSch f).obs = s.obs := rfl
@[simp] theorem State.modSch_cls (s : State) (f) : (s.modSch f).cls = s.cls := rfl
@[simp] theorem State.modSch_stk (s : State) (f) : (s.modSch f).stk = s.stk := rfl
@[simp] theorem State.modSch_pin (s : State) (f) : (s.modSch f).pin = s.pin := rfl
@[simp] theorem State.modSch_arb (s : State) (f) : (s.modSch f).arb = s.arb := rfl
@[simp] theorem State.modSch_tally (s : State) (f) : (s.modSch f).tally = s.tally := rfl
@[simp] theorem State.modSch_mgtRsp (s : State) (f) : (s.modSch f).mgtRsp = s.mgtRsp := rfl
@[simp] theorem State.modSch_free (s : State) (f) : (s.modSch f).free = s.free := rfl
@[simp] theorem State.modLdl_build (s : State) (f) : (s.modLdl f).build = s.build := rfl
@[simp] theorem State.modLdl_pending (s : State) (f) : (s.modLdl f).pending = s.pending := rfl
@[simp] theorem State.modLdl_clk (s : State) (f) : (s.modLdl f).clk = s.clk := rfl
@[simp] theorem State.modLdl_mem (s : State) (f) : (s.modLdl f).mem = s.mem := rfl
@[simp] theorem State.modLdl_dict (s : State) (f) : (s.modLdl f).dict = s.dict := rfl
@[simp] theorem State.modLdl_frm (s : State) (f) : (s.modLdl f).frm = s.frm := rfl
@[simp] theorem State.modLdl_rgn (s : State) (f) : (s.modLdl f).rgn = s.rgn := rfl
@[simp] theorem State.modLdl_wsk (s : State) (f) : (s.modLdl f).wsk = s.wsk := rfl
@[simp] theorem State.modLdl_mc (s : State) (f) : (s.modLdl f).mc = s.mc := rfl
@[simp] theorem State.modLdl_tl (s : State) (f) : (s.modLdl f).tl = s.tl := rfl
@[simp] theorem State.modLdl_syn (s : State) (f) : (s.modLdl f).syn = s.syn := rfl
@[simp] theorem State.modLdl_sch (s : State) (f) : (s.modLdl f).sch = s.sch := rfl
@[simp] theorem State.modLdl_ldl (s : State) (f) : (s.modLdl f).ldl = f s.ldl := rfl
@[simp] theorem State.modLdl_per (s : State) (f) : (s.modLdl f).per = s.per := rfl
@[simp] theorem State.modLdl_pwr (s : State) (f) : (s.modLdl f).pwr = s.pwr := rfl
@[simp] theorem State.modLdl_stress (s : State) (f) : (s.modLdl f).stress = s.stress := rfl
@[simp] theorem State.modLdl_evt (s : State) (f) : (s.modLdl f).evt = s.evt := rfl
@[simp] theorem State.modLdl_att (s : State) (f) : (s.modLdl f).att = s.att := rfl
@[simp] theorem State.modLdl_par (s : State) (f) : (s.modLdl f).par = s.par := rfl
@[simp] theorem State.modLdl_obs (s : State) (f) : (s.modLdl f).obs = s.obs := rfl
@[simp] theorem State.modLdl_cls (s : State) (f) : (s.modLdl f).cls = s.cls := rfl
@[simp] theorem State.modLdl_stk (s : State) (f) : (s.modLdl f).stk = s.stk := rfl
@[simp] theorem State.modLdl_pin (s : State) (f) : (s.modLdl f).pin = s.pin := rfl
@[simp] theorem State.modLdl_arb (s : State) (f) : (s.modLdl f).arb = s.arb := rfl
@[simp] theorem State.modLdl_tally (s : State) (f) : (s.modLdl f).tally = s.tally := rfl
@[simp] theorem State.modLdl_mgtRsp (s : State) (f) : (s.modLdl f).mgtRsp = s.mgtRsp := rfl
@[simp] theorem State.modLdl_free (s : State) (f) : (s.modLdl f).free = s.free := rfl
@[simp] theorem State.modPer_build (s : State) (f) : (s.modPer f).build = s.build := rfl
@[simp] theorem State.modPer_pending (s : State) (f) : (s.modPer f).pending = s.pending := rfl
@[simp] theorem State.modPer_clk (s : State) (f) : (s.modPer f).clk = s.clk := rfl
@[simp] theorem State.modPer_mem (s : State) (f) : (s.modPer f).mem = s.mem := rfl
@[simp] theorem State.modPer_dict (s : State) (f) : (s.modPer f).dict = s.dict := rfl
@[simp] theorem State.modPer_frm (s : State) (f) : (s.modPer f).frm = s.frm := rfl
@[simp] theorem State.modPer_rgn (s : State) (f) : (s.modPer f).rgn = s.rgn := rfl
@[simp] theorem State.modPer_wsk (s : State) (f) : (s.modPer f).wsk = s.wsk := rfl
@[simp] theorem State.modPer_mc (s : State) (f) : (s.modPer f).mc = s.mc := rfl
@[simp] theorem State.modPer_tl (s : State) (f) : (s.modPer f).tl = s.tl := rfl
@[simp] theorem State.modPer_syn (s : State) (f) : (s.modPer f).syn = s.syn := rfl
@[simp] theorem State.modPer_sch (s : State) (f) : (s.modPer f).sch = s.sch := rfl
@[simp] theorem State.modPer_ldl (s : State) (f) : (s.modPer f).ldl = s.ldl := rfl
@[simp] theorem State.modPer_per (s : State) (f) : (s.modPer f).per = f s.per := rfl
@[simp] theorem State.modPer_pwr (s : State) (f) : (s.modPer f).pwr = s.pwr := rfl
@[simp] theorem State.modPer_stress (s : State) (f) : (s.modPer f).stress = s.stress := rfl
@[simp] theorem State.modPer_evt (s : State) (f) : (s.modPer f).evt = s.evt := rfl
@[simp] theorem State.modPer_att (s : State) (f) : (s.modPer f).att = s.att := rfl
@[simp] theorem State.modPer_par (s : State) (f) : (s.modPer f).par = s.par := rfl
@[simp] theorem State.modPer_obs (s : State) (f) : (s.modPer f).obs = s.obs := rfl
@[simp] theorem State.modPer_cls (s : State) (f) : (s.modPer f).cls = s.cls := rfl
@[simp] theorem State.modPer_stk (s : State) (f) : (s.modPer f).stk = s.stk := rfl
@[simp] theorem State.modPer_pin (s : State) (f) : (s.modPer f).pin = s.pin := rfl
@[simp] theorem State.modPer_arb (s : State) (f) : (s.modPer f).arb = s.arb := rfl
@[simp] theorem State.modPer_tally (s : State) (f) : (s.modPer f).tally = s.tally := rfl
@[simp] theorem State.modPer_mgtRsp (s : State) (f) : (s.modPer f).mgtRsp = s.mgtRsp := rfl
@[simp] theorem State.modPer_free (s : State) (f) : (s.modPer f).free = s.free := rfl
@[simp] theorem State.modPwr_build (s : State) (f) : (s.modPwr f).build = s.build := rfl
@[simp] theorem State.modPwr_pending (s : State) (f) : (s.modPwr f).pending = s.pending := rfl
@[simp] theorem State.modPwr_clk (s : State) (f) : (s.modPwr f).clk = s.clk := rfl
@[simp] theorem State.modPwr_mem (s : State) (f) : (s.modPwr f).mem = s.mem := rfl
@[simp] theorem State.modPwr_dict (s : State) (f) : (s.modPwr f).dict = s.dict := rfl
@[simp] theorem State.modPwr_frm (s : State) (f) : (s.modPwr f).frm = s.frm := rfl
@[simp] theorem State.modPwr_rgn (s : State) (f) : (s.modPwr f).rgn = s.rgn := rfl
@[simp] theorem State.modPwr_wsk (s : State) (f) : (s.modPwr f).wsk = s.wsk := rfl
@[simp] theorem State.modPwr_mc (s : State) (f) : (s.modPwr f).mc = s.mc := rfl
@[simp] theorem State.modPwr_tl (s : State) (f) : (s.modPwr f).tl = s.tl := rfl
@[simp] theorem State.modPwr_syn (s : State) (f) : (s.modPwr f).syn = s.syn := rfl
@[simp] theorem State.modPwr_sch (s : State) (f) : (s.modPwr f).sch = s.sch := rfl
@[simp] theorem State.modPwr_ldl (s : State) (f) : (s.modPwr f).ldl = s.ldl := rfl
@[simp] theorem State.modPwr_per (s : State) (f) : (s.modPwr f).per = s.per := rfl
@[simp] theorem State.modPwr_pwr (s : State) (f) : (s.modPwr f).pwr = f s.pwr := rfl
@[simp] theorem State.modPwr_stress (s : State) (f) : (s.modPwr f).stress = s.stress := rfl
@[simp] theorem State.modPwr_evt (s : State) (f) : (s.modPwr f).evt = s.evt := rfl
@[simp] theorem State.modPwr_att (s : State) (f) : (s.modPwr f).att = s.att := rfl
@[simp] theorem State.modPwr_par (s : State) (f) : (s.modPwr f).par = s.par := rfl
@[simp] theorem State.modPwr_obs (s : State) (f) : (s.modPwr f).obs = s.obs := rfl
@[simp] theorem State.modPwr_cls (s : State) (f) : (s.modPwr f).cls = s.cls := rfl
@[simp] theorem State.modPwr_stk (s : State) (f) : (s.modPwr f).stk = s.stk := rfl
@[simp] theorem State.modPwr_pin (s : State) (f) : (s.modPwr f).pin = s.pin := rfl
@[simp] theorem State.modPwr_arb (s : State) (f) : (s.modPwr f).arb = s.arb := rfl
@[simp] theorem State.modPwr_tally (s : State) (f) : (s.modPwr f).tally = s.tally := rfl
@[simp] theorem State.modPwr_mgtRsp (s : State) (f) : (s.modPwr f).mgtRsp = s.mgtRsp := rfl
@[simp] theorem State.modPwr_free (s : State) (f) : (s.modPwr f).free = s.free := rfl
@[simp] theorem State.modStress_build (s : State) (f) : (s.modStress f).build = s.build := rfl
@[simp] theorem State.modStress_pending (s : State) (f) : (s.modStress f).pending = s.pending := rfl
@[simp] theorem State.modStress_clk (s : State) (f) : (s.modStress f).clk = s.clk := rfl
@[simp] theorem State.modStress_mem (s : State) (f) : (s.modStress f).mem = s.mem := rfl
@[simp] theorem State.modStress_dict (s : State) (f) : (s.modStress f).dict = s.dict := rfl
@[simp] theorem State.modStress_frm (s : State) (f) : (s.modStress f).frm = s.frm := rfl
@[simp] theorem State.modStress_rgn (s : State) (f) : (s.modStress f).rgn = s.rgn := rfl
@[simp] theorem State.modStress_wsk (s : State) (f) : (s.modStress f).wsk = s.wsk := rfl
@[simp] theorem State.modStress_mc (s : State) (f) : (s.modStress f).mc = s.mc := rfl
@[simp] theorem State.modStress_tl (s : State) (f) : (s.modStress f).tl = s.tl := rfl
@[simp] theorem State.modStress_syn (s : State) (f) : (s.modStress f).syn = s.syn := rfl
@[simp] theorem State.modStress_sch (s : State) (f) : (s.modStress f).sch = s.sch := rfl
@[simp] theorem State.modStress_ldl (s : State) (f) : (s.modStress f).ldl = s.ldl := rfl
@[simp] theorem State.modStress_per (s : State) (f) : (s.modStress f).per = s.per := rfl
@[simp] theorem State.modStress_pwr (s : State) (f) : (s.modStress f).pwr = s.pwr := rfl
@[simp] theorem State.modStress_stress (s : State) (f) : (s.modStress f).stress = f s.stress := rfl
@[simp] theorem State.modStress_evt (s : State) (f) : (s.modStress f).evt = s.evt := rfl
@[simp] theorem State.modStress_att (s : State) (f) : (s.modStress f).att = s.att := rfl
@[simp] theorem State.modStress_par (s : State) (f) : (s.modStress f).par = s.par := rfl
@[simp] theorem State.modStress_obs (s : State) (f) : (s.modStress f).obs = s.obs := rfl
@[simp] theorem State.modStress_cls (s : State) (f) : (s.modStress f).cls = s.cls := rfl
@[simp] theorem State.modStress_stk (s : State) (f) : (s.modStress f).stk = s.stk := rfl
@[simp] theorem State.modStress_pin (s : State) (f) : (s.modStress f).pin = s.pin := rfl
@[simp] theorem State.modStress_arb (s : State) (f) : (s.modStress f).arb = s.arb := rfl
@[simp] theorem State.modStress_tally (s : State) (f) : (s.modStress f).tally = s.tally := rfl
@[simp] theorem State.modStress_mgtRsp (s : State) (f) : (s.modStress f).mgtRsp = s.mgtRsp := rfl
@[simp] theorem State.modStress_free (s : State) (f) : (s.modStress f).free = s.free := rfl
@[simp] theorem State.modEvt_build (s : State) (f) : (s.modEvt f).build = s.build := rfl
@[simp] theorem State.modEvt_pending (s : State) (f) : (s.modEvt f).pending = s.pending := rfl
@[simp] theorem State.modEvt_clk (s : State) (f) : (s.modEvt f).clk = s.clk := rfl
@[simp] theorem State.modEvt_mem (s : State) (f) : (s.modEvt f).mem = s.mem := rfl
@[simp] theorem State.modEvt_dict (s : State) (f) : (s.modEvt f).dict = s.dict := rfl
@[simp] theorem State.modEvt_frm (s : State) (f) : (s.modEvt f).frm = s.frm := rfl
@[simp] theorem State.modEvt_rgn (s : State) (f) : (s.modEvt f).rgn = s.rgn := rfl
@[simp] theorem State.modEvt_wsk (s : State) (f) : (s.modEvt f).wsk = s.wsk := rfl
@[simp] theorem State.modEvt_mc (s : State) (f) : (s.modEvt f).mc = s.mc := rfl
@[simp] theorem State.modEvt_tl (s : State) (f) : (s.modEvt f).tl = s.tl := rfl
@[simp] theorem State.modEvt_syn (s : State) (f) : (s.modEvt f).syn = s.syn := rfl
@[simp] theorem State.modEvt_sch (s : State) (f) : (s.modEvt f).sch = s.sch := rfl
@[simp] theorem State.modEvt_ldl (s : State) (f) : (s.modEvt f).ldl = s.ldl := rfl
@[simp] theorem State.modEvt_per (s : State) (f) : (s.modEvt f).per = s.per := rfl
@[simp] theorem State.modEvt_pwr (s : State) (f) : (s.modEvt f).pwr = s.pwr := rfl
@[simp] theorem State.modEvt_stress (s : State) (f) : (s.modEvt f).stress = s.stress := rfl
@[simp] theorem State.modEvt_evt (s : State) (f) : (s.modEvt f).evt = f s.evt := rfl
@[simp] theorem State.modEvt_att (s : State) (f) : (s.modEvt f).att = s.att := rfl
@[simp] theorem State.modEvt_par (s : State) (f) : (s.modEvt f).par = s.par := rfl
@[simp] theorem State.modEvt_obs (s : State) (f) : (s.modEvt f).obs = s.obs := rfl
@[simp] theorem State.modEvt_cls (s : State) (f) : (s.modEvt f).cls = s.cls := rfl
@[simp] theorem State.modEvt_stk (s : State) (f) : (s.modEvt f).stk = s.stk := rfl
@[simp] theorem State.modEvt_pin (s : State) (f) : (s.modEvt f).pin = s.pin := rfl
@[simp] theorem State.modEvt_arb (s : State) (f) : (s.modEvt f).arb = s.arb := rfl
@[simp] theorem State.modEvt_tally (s : State) (f) : (s.modEvt f).tally = s.tally := rfl
@[simp] theorem State.modEvt_mgtRsp (s : State) (f) : (s.modEvt f).mgtRsp = s.mgtRsp := rfl
@[simp] theorem State.modEvt_free (s : State) (f) : (s.modEvt f).free = s.free := rfl
@[simp] theorem State.modAtt_build (s : State) (f) : (s.modAtt f).build = s.build := rfl
@[simp] theorem State.modAtt_pending (s : State) (f) : (s.modAtt f).pending = s.pending := rfl
@[simp] theorem State.modAtt_clk (s : State) (f) : (s.modAtt f).clk = s.clk := rfl
@[simp] theorem State.modAtt_mem (s : State) (f) : (s.modAtt f).mem = s.mem := rfl
@[simp] theorem State.modAtt_dict (s : State) (f) : (s.modAtt f).dict = s.dict := rfl
@[simp] theorem State.modAtt_frm (s : State) (f) : (s.modAtt f).frm = s.frm := rfl
@[simp] theorem State.modAtt_rgn (s : State) (f) : (s.modAtt f).rgn = s.rgn := rfl
@[simp] theorem State.modAtt_wsk (s : State) (f) : (s.modAtt f).wsk = s.wsk := rfl
@[simp] theorem State.modAtt_mc (s : State) (f) : (s.modAtt f).mc = s.mc := rfl
@[simp] theorem State.modAtt_tl (s : State) (f) : (s.modAtt f).tl = s.tl := rfl
@[simp] theorem State.modAtt_syn (s : State) (f) : (s.modAtt f).syn = s.syn := rfl
@[simp] theorem State.modAtt_sch (s : State) (f) : (s.modAtt f).sch = s.sch := rfl
@[simp] theorem State.modAtt_ldl (s : State) (f) : (s.modAtt f).ldl = s.ldl := rfl
@[simp] theorem State.modAtt_per (s : State) (f) : (s.modAtt f).per = s.per := rfl
@[simp] theorem State.modAtt_pwr (s : State) (f) : (s.modAtt f).pwr = s.pwr := rfl
@[simp] theorem State.modAtt_stress (s : State) (f) : (s.modAtt f).stress = s.stress := rfl
@[simp] theorem State.modAtt_evt (s : State) (f) : (s.modAtt f).evt = s.evt := rfl
@[simp] theorem State.modAtt_att (s : State) (f) : (s.modAtt f).att = f s.att := rfl
@[simp] theorem State.modAtt_par (s : State) (f) : (s.modAtt f).par = s.par := rfl
@[simp] theorem State.modAtt_obs (s : State) (f) : (s.modAtt f).obs = s.obs := rfl
@[simp] theorem State.modAtt_cls (s : State) (f) : (s.modAtt f).cls = s.cls := rfl
@[simp] theorem State.modAtt_stk (s : State) (f) : (s.modAtt f).stk = s.stk := rfl
@[simp] theorem State.modAtt_pin (s : State) (f) : (s.modAtt f).pin = s.pin := rfl
@[simp] theorem State.modAtt_arb (s : State) (f) : (s.modAtt f).arb = s.arb := rfl
@[simp] theorem State.modAtt_tally (s : State) (f) : (s.modAtt f).tally = s.tally := rfl
@[simp] theorem State.modAtt_mgtRsp (s : State) (f) : (s.modAtt f).mgtRsp = s.mgtRsp := rfl
@[simp] theorem State.modAtt_free (s : State) (f) : (s.modAtt f).free = s.free := rfl
@[simp] theorem State.modPar_build (s : State) (f) : (s.modPar f).build = s.build := rfl
@[simp] theorem State.modPar_pending (s : State) (f) : (s.modPar f).pending = s.pending := rfl
@[simp] theorem State.modPar_clk (s : State) (f) : (s.modPar f).clk = s.clk := rfl
@[simp] theorem State.modPar_mem (s : State) (f) : (s.modPar f).mem = s.mem := rfl
@[simp] theorem State.modPar_dict (s : State) (f) : (s.modPar f).dict = s.dict := rfl
@[simp] theorem State.modPar_frm (s : State) (f) : (s.modPar f).frm = s.frm := rfl
@[simp] theorem State.modPar_rgn (s : State) (f) : (s.modPar f).rgn = s.rgn := rfl
@[simp] theorem State.modPar_wsk (s : State) (f) : (s.modPar f).wsk = s.wsk := rfl
@[simp] theorem State.modPar_mc (s : State) (f) : (s.modPar f).mc = s.mc := rfl
@[simp] theorem State.modPar_tl (s : State) (f) : (s.modPar f).tl = s.tl := rfl
@[simp] theorem State.modPar_syn (s : State) (f) : (s.modPar f).syn = s.syn := rfl
@[simp] theorem State.modPar_sch (s : State) (f) : (s.modPar f).sch = s.sch := rfl
@[simp] theorem State.modPar_ldl (s : State) (f) : (s.modPar f).ldl = s.ldl := rfl
@[simp] theorem State.modPar_per (s : State) (f) : (s.modPar f).per = s.per := rfl
@[simp] theorem State.modPar_pwr (s : State) (f) : (s.modPar f).pwr = s.pwr := rfl
@[simp] theorem State.modPar_stress (s : State) (f) : (s.modPar f).stress = s.stress := rfl
@[simp] theorem State.modPar_evt (s : State) (f) : (s.modPar f).evt = s.evt := rfl
@[simp] theorem State.modPar_att (s : State) (f) : (s.modPar f).att = s.att := rfl
@[simp] theorem State.modPar_par (s : State) (f) : (s.modPar f).par = f s.par := rfl
@[simp] theorem State.modPar_obs (s : State) (f) : (s.modPar f).obs = s.obs := rfl
@[simp] theorem State.modPar_cls (s : State) (f) : (s.modPar f).cls = s.cls := rfl
@[simp] theorem State.modPar_stk (s : State) (f) : (s.modPar f).stk = s.stk := rfl
@[simp] theorem State.modPar_pin (s : State) (f) : (s.modPar f).pin = s.pin := rfl
@[simp] theorem State.modPar_arb (s : State) (f) : (s.modPar f).arb = s.arb := rfl
@[simp] theorem State.modPar_tally (s : State) (f) : (s.modPar f).tally = s.tally := rfl
@[simp] theorem State.modPar_mgtRsp (s : State) (f) : (s.modPar f).mgtRsp = s.mgtRsp := rfl
@[simp] theorem State.modPar_free (s : State) (f) : (s.modPar f).free = s.free := rfl
@[simp] theorem State.modObs_build (s : State) (f) : (s.modObs f).build = s.build := rfl
@[simp] theorem State.modObs_pending (s : State) (f) : (s.modObs f).pending = s.pending := rfl
@[simp] theorem State.modObs_clk (s : State) (f) : (s.modObs f).clk = s.clk := rfl
@[simp] theorem State.modObs_mem (s : State) (f) : (s.modObs f).mem = s.mem := rfl
@[simp] theorem State.modObs_dict (s : State) (f) : (s.modObs f).dict = s.dict := rfl
@[simp] theorem State.modObs_frm (s : State) (f) : (s.modObs f).frm = s.frm := rfl
@[simp] theorem State.modObs_rgn (s : State) (f) : (s.modObs f).rgn = s.rgn := rfl
@[simp] theorem State.modObs_wsk (s : State) (f) : (s.modObs f).wsk = s.wsk := rfl
@[simp] theorem State.modObs_mc (s : State) (f) : (s.modObs f).mc = s.mc := rfl
@[simp] theorem State.modObs_tl (s : State) (f) : (s.modObs f).tl = s.tl := rfl
@[simp] theorem State.modObs_syn (s : State) (f) : (s.modObs f).syn = s.syn := rfl
@[simp] theorem State.modObs_sch (s : State) (f) : (s.modObs f).sch = s.sch := rfl
@[simp] theorem State.modObs_ldl (s : State) (f) : (s.modObs f).ldl = s.ldl := rfl
@[simp] theorem State.modObs_per (s : State) (f) : (s.modObs f).per = s.per := rfl
@[simp] theorem State.modObs_pwr (s : State) (f) : (s.modObs f).pwr = s.pwr := rfl
@[simp] theorem State.modObs_stress (s : State) (f) : (s.modObs f).stress = s.stress := rfl
@[simp] theorem State.modObs_evt (s : State) (f) : (s.modObs f).evt = s.evt := rfl
@[simp] theorem State.modObs_att (s : State) (f) : (s.modObs f).att = s.att := rfl
@[simp] theorem State.modObs_par (s : State) (f) : (s.modObs f).par = s.par := rfl
@[simp] theorem State.modObs_obs (s : State) (f) : (s.modObs f).obs = f s.obs := rfl
@[simp] theorem State.modObs_cls (s : State) (f) : (s.modObs f).cls = s.cls := rfl
@[simp] theorem State.modObs_stk (s : State) (f) : (s.modObs f).stk = s.stk := rfl
@[simp] theorem State.modObs_pin (s : State) (f) : (s.modObs f).pin = s.pin := rfl
@[simp] theorem State.modObs_arb (s : State) (f) : (s.modObs f).arb = s.arb := rfl
@[simp] theorem State.modObs_tally (s : State) (f) : (s.modObs f).tally = s.tally := rfl
@[simp] theorem State.modObs_mgtRsp (s : State) (f) : (s.modObs f).mgtRsp = s.mgtRsp := rfl
@[simp] theorem State.modObs_free (s : State) (f) : (s.modObs f).free = s.free := rfl
@[simp] theorem State.modCls_build (s : State) (f) : (s.modCls f).build = s.build := rfl
@[simp] theorem State.modCls_pending (s : State) (f) : (s.modCls f).pending = s.pending := rfl
@[simp] theorem State.modCls_clk (s : State) (f) : (s.modCls f).clk = s.clk := rfl
@[simp] theorem State.modCls_mem (s : State) (f) : (s.modCls f).mem = s.mem := rfl
@[simp] theorem State.modCls_dict (s : State) (f) : (s.modCls f).dict = s.dict := rfl
@[simp] theorem State.modCls_frm (s : State) (f) : (s.modCls f).frm = s.frm := rfl
@[simp] theorem State.modCls_rgn (s : State) (f) : (s.modCls f).rgn = s.rgn := rfl
@[simp] theorem State.modCls_wsk (s : State) (f) : (s.modCls f).wsk = s.wsk := rfl
@[simp] theorem State.modCls_mc (s : State) (f) : (s.modCls f).mc = s.mc := rfl
@[simp] theorem State.modCls_tl (s : State) (f) : (s.modCls f).tl = s.tl := rfl
@[simp] theorem State.modCls_syn (s : State) (f) : (s.modCls f).syn = s.syn := rfl
@[simp] theorem State.modCls_sch (s : State) (f) : (s.modCls f).sch = s.sch := rfl
@[simp] theorem State.modCls_ldl (s : State) (f) : (s.modCls f).ldl = s.ldl := rfl
@[simp] theorem State.modCls_per (s : State) (f) : (s.modCls f).per = s.per := rfl
@[simp] theorem State.modCls_pwr (s : State) (f) : (s.modCls f).pwr = s.pwr := rfl
@[simp] theorem State.modCls_stress (s : State) (f) : (s.modCls f).stress = s.stress := rfl
@[simp] theorem State.modCls_evt (s : State) (f) : (s.modCls f).evt = s.evt := rfl
@[simp] theorem State.modCls_att (s : State) (f) : (s.modCls f).att = s.att := rfl
@[simp] theorem State.modCls_par (s : State) (f) : (s.modCls f).par = s.par := rfl
@[simp] theorem State.modCls_obs (s : State) (f) : (s.modCls f).obs = s.obs := rfl
@[simp] theorem State.modCls_cls (s : State) (f) : (s.modCls f).cls = f s.cls := rfl
@[simp] theorem State.modCls_stk (s : State) (f) : (s.modCls f).stk = s.stk := rfl
@[simp] theorem State.modCls_pin (s : State) (f) : (s.modCls f).pin = s.pin := rfl
@[simp] theorem State.modCls_arb (s : State) (f) : (s.modCls f).arb = s.arb := rfl
@[simp] theorem State.modCls_tally (s : State) (f) : (s.modCls f).tally = s.tally := rfl
@[simp] theorem State.modCls_mgtRsp (s : State) (f) : (s.modCls f).mgtRsp = s.mgtRsp := rfl
@[simp] theorem State.modCls_free (s : State) (f) : (s.modCls f).free = s.free := rfl
@[simp] theorem State.modStk_build (s : State) (f) : (s.modStk f).build = s.build := rfl
@[simp] theorem State.modStk_pending (s : State) (f) : (s.modStk f).pending = s.pending := rfl
@[simp] theorem State.modStk_clk (s : State) (f) : (s.modStk f).clk = s.clk := rfl
@[simp] theorem State.modStk_mem (s : State) (f) : (s.modStk f).mem = s.mem := rfl
@[simp] theorem State.modStk_dict (s : State) (f) : (s.modStk f).dict = s.dict := rfl
@[simp] theorem State.modStk_frm (s : State) (f) : (s.modStk f).frm = s.frm := rfl
@[simp] theorem State.modStk_rgn (s : State) (f) : (s.modStk f).rgn = s.rgn := rfl
@[simp] theorem State.modStk_wsk (s : State) (f) : (s.modStk f).wsk = s.wsk := rfl
@[simp] theorem State.modStk_mc (s : State) (f) : (s.modStk f).mc = s.mc := rfl
@[simp] theorem State.modStk_tl (s : State) (f) : (s.modStk f).tl = s.tl := rfl
@[simp] theorem State.modStk_syn (s : State) (f) : (s.modStk f).syn = s.syn := rfl
@[simp] theorem State.modStk_sch (s : State) (f) : (s.modStk f).sch = s.sch := rfl
@[simp] theorem State.modStk_ldl (s : State) (f) : (s.modStk f).ldl = s.ldl := rfl
@[simp] theorem State.modStk_per (s : State) (f) : (s.modStk f).per = s.per := rfl
@[simp] theorem State.modStk_pwr (s : State) (f) : (s.modStk f).pwr = s.pwr := rfl
@[simp] theorem State.modStk_stress (s : State) (f) : (s.modStk f).stress = s.stress := rfl
@[simp] theorem State.modStk_evt (s : State) (f) : (s.modStk f).evt = s.evt := rfl
@[simp] theorem State.modStk_att (s : State) (f) : (s.modStk f).att = s.att := rfl
@[simp] theorem State.modStk_par (s : State) (f) : (s.modStk f).par = s.par := rfl
@[simp] theorem State.modStk_obs (s : State) (f) : (s.modStk f).obs = s.obs := rfl
@[simp] theorem State.modStk_cls (s : State) (f) : (s.modStk f).cls = s.cls := rfl
@[simp] theorem State.modStk_stk (s : State) (f) : (s.modStk f).stk = f s.stk := rfl
@[simp] theorem State.modStk_pin (s : State) (f) : (s.modStk f).pin = s.pin := rfl
@[simp] theorem State.modStk_arb (s : State) (f) : (s.modStk f).arb = s.arb := rfl
@[simp] theorem State.modStk_tally (s : State) (f) : (s.modStk f).tally = s.tally := rfl
@[simp] theorem State.modStk_mgtRsp (s : State) (f) : (s.modStk f).mgtRsp = s.mgtRsp := rfl
@[simp] theorem State.modStk_free (s : State) (f) : (s.modStk f).free = s.free := rfl
@[simp] theorem State.modPin_build (s : State) (f) : (s.modPin f).build = s.build := rfl
@[simp] theorem State.modPin_pending (s : State) (f) : (s.modPin f).pending = s.pending := rfl
@[simp] theorem State.modPin_clk (s : State) (f) : (s.modPin f).clk = s.clk := rfl
@[simp] theorem State.modPin_mem (s : State) (f) : (s.modPin f).mem = s.mem := rfl
@[simp] theorem State.modPin_dict (s : State) (f) : (s.modPin f).dict = s.dict := rfl
@[simp] theorem State.modPin_frm (s : State) (f) : (s.modPin f).frm = s.frm := rfl
@[simp] theorem State.modPin_rgn (s : State) (f) : (s.modPin f).rgn = s.rgn := rfl
@[simp] theorem State.modPin_wsk (s : State) (f) : (s.modPin f).wsk = s.wsk := rfl
@[simp] theorem State.modPin_mc (s : State) (f) : (s.modPin f).mc = s.mc := rfl
@[simp] theorem State.modPin_tl (s : State) (f) : (s.modPin f).tl = s.tl := rfl
@[simp] theorem State.modPin_syn (s : State) (f) : (s.modPin f).syn = s.syn := rfl
@[simp] theorem State.modPin_sch (s : State) (f) : (s.modPin f).sch = s.sch := rfl
@[simp] theorem State.modPin_ldl (s : State) (f) : (s.modPin f).ldl = s.ldl := rfl
@[simp] theorem State.modPin_per (s : State) (f) : (s.modPin f).per = s.per := rfl
@[simp] theorem State.modPin_pwr (s : State) (f) : (s.modPin f).pwr = s.pwr := rfl
@[simp] theorem State.modPin_stress (s : State) (f) : (s.modPin f).stress = s.stress := rfl
@[simp] theorem State.modPin_evt (s : State) (f) : (s.modPin f).evt = s.evt := rfl
@[simp] theorem State.modPin_att (s : State) (f) : (s.modPin f).att = s.att := rfl
@[simp] theorem State.modPin_par (s : State) (f) : (s.modPin f).par = s.par := rfl
@[simp] theorem State.modPin_obs (s : State) (f) : (s.modPin f).obs = s.obs := rfl
@[simp] theorem State.modPin_cls (s : State) (f) : (s.modPin f).cls = s.cls := rfl
@[simp] theorem State.modPin_stk (s : State) (f) : (s.modPin f).stk = s.stk := rfl
@[simp] theorem State.modPin_pin (s : State) (f) : (s.modPin f).pin = f s.pin := rfl
@[simp] theorem State.modPin_arb (s : State) (f) : (s.modPin f).arb = s.arb := rfl
@[simp] theorem State.modPin_tally (s : State) (f) : (s.modPin f).tally = s.tally := rfl
@[simp] theorem State.modPin_mgtRsp (s : State) (f) : (s.modPin f).mgtRsp = s.mgtRsp := rfl
@[simp] theorem State.modPin_free (s : State) (f) : (s.modPin f).free = s.free := rfl
@[simp] theorem State.modArb_build (s : State) (f) : (s.modArb f).build = s.build := rfl
@[simp] theorem State.modArb_pending (s : State) (f) : (s.modArb f).pending = s.pending := rfl
@[simp] theorem State.modArb_clk (s : State) (f) : (s.modArb f).clk = s.clk := rfl
@[simp] theorem State.modArb_mem (s : State) (f) : (s.modArb f).mem = s.mem := rfl
@[simp] theorem State.modArb_dict (s : State) (f) : (s.modArb f).dict = s.dict := rfl
@[simp] theorem State.modArb_frm (s : State) (f) : (s.modArb f).frm = s.frm := rfl
@[simp] theorem State.modArb_rgn (s : State) (f) : (s.modArb f).rgn = s.rgn := rfl
@[simp] theorem State.modArb_wsk (s : State) (f) : (s.modArb f).wsk = s.wsk := rfl
@[simp] theorem State.modArb_mc (s : State) (f) : (s.modArb f).mc = s.mc := rfl
@[simp] theorem State.modArb_tl (s : State) (f) : (s.modArb f).tl = s.tl := rfl
@[simp] theorem State.modArb_syn (s : State) (f) : (s.modArb f).syn = s.syn := rfl
@[simp] theorem State.modArb_sch (s : State) (f) : (s.modArb f).sch = s.sch := rfl
@[simp] theorem State.modArb_ldl (s : State) (f) : (s.modArb f).ldl = s.ldl := rfl
@[simp] theorem State.modArb_per (s : State) (f) : (s.modArb f).per = s.per := rfl
@[simp] theorem State.modArb_pwr (s : State) (f) : (s.modArb f).pwr = s.pwr := rfl
@[simp] theorem State.modArb_stress (s : State) (f) : (s.modArb f).stress = s.stress := rfl
@[simp] theorem State.modArb_evt (s : State) (f) : (s.modArb f).evt = s.evt := rfl
@[simp] theorem State.modArb_att (s : State) (f) : (s.modArb f).att = s.att := rfl
@[simp] theorem State.modArb_par (s : State) (f) : (s.modArb f).par = s.par := rfl
@[simp] theorem State.modArb_obs (s : State) (f) : (s.modArb f).obs = s.obs := rfl
@[simp] theorem State.modArb_cls (s : State) (f) : (s.modArb f).cls = s.cls := rfl
@[simp] theorem State.modArb_stk (s : State) (f) : (s.modArb f).stk = s.stk := rfl
@[simp] theorem State.modArb_pin (s : State) (f) : (s.modArb f).pin = s.pin := rfl
@[simp] theorem State.modArb_arb (s : State) (f) : (s.modArb f).arb = f s.arb := rfl
@[simp] theorem State.modArb_tally (s : State) (f) : (s.modArb f).tally = s.tally := rfl
@[simp] theorem State.modArb_mgtRsp (s : State) (f) : (s.modArb f).mgtRsp = s.mgtRsp := rfl
@[simp] theorem State.modArb_free (s : State) (f) : (s.modArb f).free = s.free := rfl
@[simp] theorem State.modTally_build (s : State) (f) : (s.modTally f).build = s.build := rfl
@[simp] theorem State.modTally_pending (s : State) (f) : (s.modTally f).pending = s.pending := rfl
@[simp] theorem State.modTally_clk (s : State) (f) : (s.modTally f).clk = s.clk := rfl
@[simp] theorem State.modTally_mem (s : State) (f) : (s.modTally f).mem = s.mem := rfl
@[simp] theorem State.modTally_dict (s : State) (f) : (s.modTally f).dict = s.dict := rfl
@[simp] theorem State.modTally_frm (s : State) (f) : (s.modTally f).frm = s.frm := rfl
@[simp] theorem State.modTally_rgn (s : State) (f) : (s.modTally f).rgn = s.rgn := rfl
@[simp] theorem State.modTally_wsk (s : State) (f) : (s.modTally f).wsk = s.wsk := rfl
@[simp] theorem State.modTally_mc (s : State) (f) : (s.modTally f).mc = s.mc := rfl
@[simp] theorem State.modTally_tl (s : State) (f) : (s.modTally f).tl = s.tl := rfl
@[simp] theorem State.modTally_syn (s : State) (f) : (s.modTally f).syn = s.syn := rfl
@[simp] theorem State.modTally_sch (s : State) (f) : (s.modTally f).sch = s.sch := rfl
@[simp] theorem State.modTally_ldl (s : State) (f) : (s.modTally f).ldl = s.ldl := rfl
@[simp] theorem State.modTally_per (s : State) (f) : (s.modTally f).per = s.per := rfl
@[simp] theorem State.modTally_pwr (s : State) (f) : (s.modTally f).pwr = s.pwr := rfl
@[simp] theorem State.modTally_stress (s : State) (f) : (s.modTally f).stress = s.stress := rfl
@[simp] theorem State.modTally_evt (s : State) (f) : (s.modTally f).evt = s.evt := rfl
@[simp] theorem State.modTally_att (s : State) (f) : (s.modTally f).att = s.att := rfl
@[simp] theorem State.modTally_par (s : State) (f) : (s.modTally f).par = s.par := rfl
@[simp] theorem State.modTally_obs (s : State) (f) : (s.modTally f).obs = s.obs := rfl
@[simp] theorem State.modTally_cls (s : State) (f) : (s.modTally f).cls = s.cls := rfl
@[simp] theorem State.modTally_stk (s : State) (f) : (s.modTally f).stk = s.stk := rfl
@[simp] theorem State.modTally_pin (s : State) (f) : (s.modTally f).pin = s.pin := rfl
@[simp] theorem State.modTally_arb (s : State) (f) : (s.modTally f).arb = s.arb := rfl
@[simp] theorem State.modTally_tally (s : State) (f) : (s.modTally f).tally = f s.tally := rfl
@[simp] theorem State.modTally_mgtRsp (s : State) (f) : (s.modTally f).mgtRsp = s.mgtRsp := rfl
@[simp] theorem State.modTally_free (s : State) (f) : (s.modTally f).free = s.free := rfl
@[simp] theorem State.modMgtRsp_build (s : State) (f) : (s.modMgtRsp f).build = s.build := rfl
@[simp] theorem State.modMgtRsp_pending (s : State) (f) : (s.modMgtRsp f).pending = s.pending := rfl
@[simp] theorem State.modMgtRsp_clk (s : State) (f) : (s.modMgtRsp f).clk = s.clk := rfl
@[simp] theorem State.modMgtRsp_mem (s : State) (f) : (s.modMgtRsp f).mem = s.mem := rfl
@[simp] theorem State.modMgtRsp_dict (s : State) (f) : (s.modMgtRsp f).dict = s.dict := rfl
@[simp] theorem State.modMgtRsp_frm (s : State) (f) : (s.modMgtRsp f).frm = s.frm := rfl
@[simp] theorem State.modMgtRsp_rgn (s : State) (f) : (s.modMgtRsp f).rgn = s.rgn := rfl
@[simp] theorem State.modMgtRsp_wsk (s : State) (f) : (s.modMgtRsp f).wsk = s.wsk := rfl
@[simp] theorem State.modMgtRsp_mc (s : State) (f) : (s.modMgtRsp f).mc = s.mc := rfl
@[simp] theorem State.modMgtRsp_tl (s : State) (f) : (s.modMgtRsp f).tl = s.tl := rfl
@[simp] theorem State.modMgtRsp_syn (s : State) (f) : (s.modMgtRsp f).syn = s.syn := rfl
@[simp] theorem State.modMgtRsp_sch (s : State) (f) : (s.modMgtRsp f).sch = s.sch := rfl
@[simp] theorem State.modMgtRsp_ldl (s : State) (f) : (s.modMgtRsp f).ldl = s.ldl := rfl
@[simp] theorem State.modMgtRsp_per (s : State) (f) : (s.modMgtRsp f).per = s.per := rfl
@[simp] theorem State.modMgtRsp_pwr (s : State) (f) : (s.modMgtRsp f).pwr = s.pwr := rfl
@[simp] theorem State.modMgtRsp_stress (s : State) (f) : (s.modMgtRsp f).stress = s.stress := rfl
@[simp] theorem State.modMgtRsp_evt (s : State) (f) : (s.modMgtRsp f).evt = s.evt := rfl
@[simp] theorem State.modMgtRsp_att (s : State) (f) : (s.modMgtRsp f).att = s.att := rfl
@[simp] theorem State.modMgtRsp_par (s : State) (f) : (s.modMgtRsp f).par = s.par := rfl
@[simp] theorem State.modMgtRsp_obs (s : State) (f) : (s.modMgtRsp f).obs = s.obs := rfl
@[simp] theorem State.modMgtRsp_cls (s : State) (f) : (s.modMgtRsp f).cls = s.cls := rfl
@[simp] theorem State.modMgtRsp_stk (s : State) (f) : (s.modMgtRsp f).stk = s.stk := rfl
@[simp] theorem State.modMgtRsp_pin (s : State) (f) : (s.modMgtRsp f).pin = s.pin := rfl
@[simp] theorem State.modMgtRsp_arb (s : State) (f) : (s.modMgtRsp f).arb = s.arb := rfl
@[simp] theorem State.modMgtRsp_tally (s : State) (f) : (s.modMgtRsp f).tally = s.tally := rfl
@[simp] theorem State.modMgtRsp_mgtRsp (s : State) (f) : (s.modMgtRsp f).mgtRsp = f s.mgtRsp := rfl
@[simp] theorem State.modMgtRsp_free (s : State) (f) : (s.modMgtRsp f).free = s.free := rfl
@[simp] theorem State.modFree_build (s : State) (f) : (s.modFree f).build = s.build := rfl
@[simp] theorem State.modFree_pending (s : State) (f) : (s.modFree f).pending = s.pending := rfl
@[simp] theorem State.modFree_clk (s : State) (f) : (s.modFree f).clk = s.clk := rfl
@[simp] theorem State.modFree_mem (s : State) (f) : (s.modFree f).mem = s.mem := rfl
@[simp] theorem State.modFree_dict (s : State) (f) : (s.modFree f).dict = s.dict := rfl
@[simp] theorem State.modFree_frm (s : State) (f) : (s.modFree f).frm = s.frm := rfl
@[simp] theorem State.modFree_rgn (s : State) (f) : (s.modFree f).rgn = s.rgn := rfl
@[simp] theorem State.modFree_wsk (s : State) (f) : (s.modFree f).wsk = s.wsk := rfl
@[simp] theorem State.modFree_mc (s : State) (f) : (s.modFree f).mc = s.mc := rfl
@[simp] theorem State.modFree_tl (s : State) (f) : (s.modFree f).tl = s.tl := rfl
@[simp] theorem State.modFree_syn (s : State) (f) : (s.modFree f).syn = s.syn := rfl
@[simp] theorem State.modFree_sch (s : State) (f) : (s.modFree f).sch = s.sch := rfl
@[simp] theorem State.modFree_ldl (s : State) (f) : (s.modFree f).ldl = s.ldl := rfl
@[simp] theorem State.modFree_per (s : State) (f) : (s.modFree f).per = s.per := rfl
@[simp] theorem State.modFree_pwr (s : State) (f) : (s.modFree f).pwr = s.pwr := rfl
@[simp] theorem State.modFree_stress (s : State) (f) : (s.modFree f).stress = s.stress := rfl
@[simp] theorem State.modFree_evt (s : State) (f) : (s.modFree f).evt = s.evt := rfl
@[simp] theorem State.modFree_att (s : State) (f) : (s.modFree f).att = s.att := rfl
@[simp] theorem State.modFree_par (s : State) (f) : (s.modFree f).par = s.par := rfl
@[simp] theorem State.modFree_obs (s : State) (f) : (s.modFree f).obs = s.obs := rfl
@[simp] theorem State.modFree_cls (s : State) (f) : (s.modFree f).cls = s.cls := rfl
@[simp] theorem State.modFree_stk (s : State) (f) : (s.modFree f).stk = s.stk := rfl
@[simp] theorem State.modFree_pin (s : State) (f) : (s.modFree f).pin = s.pin := rfl
@[simp] theorem State.modFree_arb (s : State) (f) : (s.modFree f).arb = s.arb := rfl
@[simp] theorem State.modFree_tally (s : State) (f) : (s.modFree f).tally = s.tally := rfl
@[simp] theorem State.modFree_mgtRsp (s : State) (f) : (s.modFree f).mgtRsp = s.mgtRsp := rfl
@[simp] theorem State.modFree_free (s : State) (f) : (s.modFree f).free = f s.free := rfl

end Sys2Proof.Machine
end

