-- ==== Sys2Proof/Laws/Response.lean ====
section
/-! SUPPORT. What the final response of an operation leaves, said once. -/

namespace Sys2Proof.Machine

/-- Cells that are freed change ports alone. -/
theorem State.freeCells_frm (s : State) (l : List Parked) :
    ∃ q, (l.foldl (fun s c => s.freeCell c.port) s).frm = { s.frm with ports := q } := by
  induction l generalizing s with
  | nil => exact ⟨s.frm.ports, rfl⟩
  | cons c l ih =>
    obtain ⟨q, h⟩ := ih (s.freeCell c.port)
    exact ⟨q, by rw [List.foldl_cons, h]; rfl⟩

theorem State.freeKey_frm (s : State) (k : Nat) :
    ∃ q r, (s.freeKey k).frm = { s.frm with ports := q, reasm := r } := by
  unfold State.freeKey
  split
  · exact ⟨_, _, rfl⟩
  · obtain ⟨q, h⟩ := State.freeCells_frm s (mapVals ‹Reasm›.cells)
    exact ⟨q, _, by simp only [State.modFrm_frm, h]; rfl⟩

/-- An operation that is not listed is not listed after a change of the listed ones in place. -/
theorem mapFind_map_none {α : Type} (m : Map α) (f : Nat × α → α) (k : Nat) (h : mapFind m k = none) :
    mapFind (m.map fun p => (p.1, f p)) k = none := by
  induction m with
  | nil => rfl
  | cons p r ih =>
    obtain ⟨j, v⟩ := p
    simp only [mapFind] at h
    simp only [List.map, mapFind]
    split at h
    · cases h
    · rw [if_neg ‹_›]; exact ih h

theorem State.unwait_frm (s : State) (req seq k : Nat) (h : mapFind s.frm.ops k = none) :
    ∃ m, (s.unwait req seq).frm = { s.frm with ops := m } ∧ mapFind m k = none := by
  refine ⟨_, rfl, ?_⟩
  have e : (s.frm.ops.map fun p => if p.2.req = req then (p.1, { p.2 with waits := p.2.waits.filter (· ≠ seq) }) else p) =
      s.frm.ops.map fun p => (p.1, if p.2.req = req then { p.2 with waits := p.2.waits.filter (· ≠ seq) } else p.2) := by
    apply List.map_congr_left
    intro p _
    split <;> rfl
  rw [e]
  exact mapFind_map_none _ _ _ h

theorem State.unwaitKv_frm (s : State) (o : OpRec) (k : Nat) (h : mapFind s.frm.ops k = none) :
    ∃ m, (s.unwaitKv o).frm = { s.frm with ops := m } ∧ mapFind m k = none := by
  unfold State.unwaitKv
  split
  · refine ⟨_, rfl, ?_⟩
    have e : (s.frm.ops.map fun p =>
          if (p.2.opcode = opKvAppend ∨ p.2.opcode = opAttnQuery) ∧ o.ord < p.2.ord ∧ kvOverlap o.hdr p.2.hdr = true ∧
              s.opWhole p.2 = true then
            (p.1, { p.2 with sub := s.clk.now - p.2.last })
          else p) = s.frm.ops.map fun p => (p.1,
          if (p.2.opcode = opKvAppend ∨ p.2.opcode = opAttnQuery) ∧ o.ord < p.2.ord ∧ kvOverlap o.hdr p.2.hdr = true ∧
              s.opWhole p.2 = true then { p.2 with sub := s.clk.now - p.2.last } else p.2) := by
      apply List.map_congr_left
      intro p _
      split <;> rfl
    rw [e]
    exact mapFind_map_none _ _ _ h
  · exact ⟨_, rfl, h⟩

theorem State.chargeClass_frm (s : State) (c n : Nat) : (s.chargeClass c n).frm = s.frm :=
  (State.chargeClass_frame s c n).same .frm rfl

theorem State.hold_frm (s : State) (port r i : Nat) (x : Resp) :
    ∃ h p, (s.hold port r i x).1.frm = { s.frm with holds := h, holdPos := p } := by
  unfold State.hold
  dsimp only
  split
  · exact ⟨_, _, rfl⟩
  · split
    · refine ⟨s.frm.holds, s.frm.holdPos, ?_⟩
      have := (State.portBump_frame s port 9 1 none).same .frm rfl
      exact this
    · dsimp only
      rw [State.modFrm_frm, State.chargeClass_frm]
      exact ⟨_, _, rfl⟩

theorem State.summary_setSlot (s : State) (r seq st : Nat) :
    ((s.setSlot r seq st).summary r).slots = (s.summary r).slots.set (seq % 64) st := by
  have e : ∀ x : Summary, (s.setSummary r x).summary r = x := by
    intro x
    unfold State.summary State.setSummary
    rw [State.modFrm_frm, mapFind_mapPut_self]
  unfold State.setSlot
  rw [e]

theorem State.summary_congr {s t : State} (h : t.frm.summ = s.frm.summ) (d : t.dict = s.dict) (r : Nat) :
    t.summary r = s.summary r := by
  unfold State.summary State.reqEntry State.blob
  rw [h, d]

/-- The final response of an operation that is listed under its own key. -/
theorem State.finishNow_answered (s : State) (o : OpRec) (f : Final) :
    Answered s (s.finishNow o.key o f) o f.code f.aux f.payload := by
  unfold State.finishNow
  dsimp only
  generalize hx : Resp.mk _ _ _ _ _ _ _ _ _ _ _ _ _ _ _ _ _ _ _ _ _ _ = x
  have hx1 : x.req = o.req ∧ x.seq = o.seq ∧ x.att = o.att ∧ x.op = o.opcode + 128 ∧ x.code = f.code ∧
      x.aux = f.aux % 2 ^ 32 ∧ x.payload = f.payload := by
    subst hx; exact ⟨rfl, rfl, rfl, rfl, rfl, rfl, rfl⟩
  obtain ⟨hh, hp, hhold⟩ := State.hold_frm s o.port o.r (o.seq % 64) x
  generalize hm : s.hold o.port o.r (o.seq % 64) x = m at hhold ⊢
  have hdict : m.1.dict = s.dict := by
    rw [← hm]; exact (State.hold_frame s o.port o.r (o.seq % 64) x).same .dict rfl
  generalize he : DoneEntry.mk _ _ _ _ _ _ _ _ = e
  have he1 : e.seq = o.seq ∧ e.state = codeState f.code ∧ e.attempt = o.att ∧ e.code = f.code ∧ e.opcode = o.opcode ∧
      e.aux = f.aux % 2 ^ 32 := by
    subst he; exact ⟨rfl, rfl, rfl, rfl, rfl, rfl⟩
  clear he hx
  generalize ha : (m.1.setSlot o.r o.seq (codeState f.code)).issueDone o.r (o.seq % 64) o.cls e (some (x, o.port)) = a
  have hasum : (a.summary o.r).slots = (s.summary o.r).slots.set (o.seq % 64) (codeState f.code) := by
    subst ha
    have h1 : ∀ (b : State) i c e y, (b.issueDone o.r i c e y).summary o.r = b.summary o.r := fun b i c e y => rfl
    rw [h1, State.summary_setSlot, State.summary_congr (s := s) (by rw [hhold]) hdict]
  have hapend : ({ r := o.r, slot := o.seq % 64, entry := e, cls := o.cls, resp := some (x, o.port) } : PendDone) ∈ a.frm.pend := by
    subst ha
    simp [State.issueDone]
  clear ha
  generalize hb : @ite State _ (_) (a.bump tallyBlock tbDigest 1) a = b
  have hbf : b.frm = a.frm ∧ b.dict = a.dict := by
    subst hb
    split
    · exact ⟨(State.bump_frame a _ _ _).same .frm rfl, (State.bump_frame a _ _ _).same .dict rfl⟩
    · exact ⟨rfl, rfl⟩
  clear hb
  have hc := State.dropOp_frame b o.key o.hdr
  generalize b.dropOp o.key o.hdr = c at hc ⊢
  have hcf : c.frm = b.frm := hc.same .frm rfl
  have hcd : c.dict = b.dict := hc.same .dict rfl
  have hd := State.freeKey_frame c o.raKey
  obtain ⟨q, r, hk⟩ := State.freeKey_frm c o.raKey
  generalize c.freeKey o.raKey = d at hd hk ⊢
  have hdd : d.dict = c.dict := hd.same .dict rfl
  have hg := State.release_frame d o.region
  generalize d.release o.region = g at hg ⊢
  have hgf : g.frm = d.frm := hg.same .frm rfl
  have hgd : g.dict = d.dict := hg.same .dict rfl
  generalize hu0 : g.modMem _ = u0
  have hu0f : u0.frm = g.frm ∧ u0.dict = g.dict := by subst hu0; exact ⟨rfl, rfl⟩
  clear hu0
  generalize hu : u0.modFrm (fun y => { y with ops := mapDel y.ops o.key }) = u
  have huf : u.frm = { g.frm with ops := mapDel g.frm.ops o.key } := by subst hu; rw [← hu0f.1]; rfl
  have hud : u.dict = g.dict := by subst hu; rw [← hu0f.2]; rfl
  clear hu
  have hn : mapFind u.frm.ops o.key = none := by rw [huf]; simp
  obtain ⟨m1, hv, hvn⟩ := State.unwait_frm u o.req o.seq o.key hn
  have hvd : (u.unwait o.req o.seq).dict = u.dict := (State.unwait_frame u o.req o.seq).same .dict rfl
  generalize u.unwait o.req o.seq = v at hv hvd ⊢
  have hvn' : mapFind v.frm.ops o.key = none := by rw [hv]; exact hvn
  obtain ⟨m2, hw, hwn⟩ := State.unwaitKv_frm v o o.key hvn'
  have hwd : (v.unwaitKv o).dict = v.dict := (State.unwaitKv_frame v o).same .dict rfl
  generalize v.unwaitKv o = w at hw hwd ⊢
  have hwa : w.frm.summ = a.frm.summ ∧ w.frm.pend = a.frm.pend := by
    rw [hw, hv, huf, hgf, hk, hcf, hbf.1]
    exact ⟨rfl, rfl⟩
  refine ⟨by unfold State.op; rw [hw]; exact hwn, ?_, ?_⟩
  · rw [State.summary_congr (s := a) hwa.1 (by rw [hwd, hvd, hud, hgd, hdd, hcd, hbf.2]), hasum]
  · refine ⟨_, by rw [hwa.2]; exact hapend, rfl, rfl, he1.1, he1.2.1, he1.2.2.1, he1.2.2.2.1, he1.2.2.2.2.1,
      he1.2.2.2.2.2, x, rfl, hx1⟩

/-- An outcome whose digest waits for nothing is answered at once. -/
theorem State.finish_answered (s : State) (o : OpRec) (f : Final) (h : s.op o.key = some o)
    (w : s.weightsWait o f = false) : Answered s (s.finish o.key f) o f.code f.aux f.payload := by
  unfold State.finish
  simp only [h, w]
  exact s.finishNow_answered o f

/-- A refusal waits for nothing. -/
theorem State.weightsWait_code (s : State) (o : OpRec) (f : Final) (h : f.code ≠ 0) : s.weightsWait o f = false := by
  simp [State.weightsWait, h]

end Sys2Proof.Machine
end

