-- ==== Sys2Proof/Tests/Slice0.lean ====
section
/-! SUPPORT. Tests: for each clause of each statement a concrete state and operands that meet its hypotheses, an ill-formed
term for each check of WellFormed, and small checks of single steps against worked values of the spec. -/

namespace Sys2Proof.Tests

open Sys2Proof Sys2Proof.Machine

set_option Elab.async false

/-! ### Small states -/

/-- The block after reset with port 0 up for long and requester 7 bound to partition 0 as entry 0, its numbers from 1. -/
def base : State :=
  { clk := { now := 960000000, ftc := 120000000 }
    dict := { blob := mapPutList 0 [] (bkey 0xC000 5 0) (beBytes 8 (2 ^ 63 + 7 * 2 ^ 32 + 1)) }
    frm := {
      ports := [(0, { start := some 0, host := true, up := true, txCredit := 4 })]
      summ := [(0, { high := 100, slots := List.replicate 64 0 })] } }

/-- A request header: opcode, partition, requester, number, LENGTH, handle, offset, and operands from byte 36 on. -/
def hdr (op part req seq len handle ofs : Nat) (args : List Byte := []) (flags : Nat := 0) : List Byte :=
  mkHdr (beBytes 1 op ++ beBytes 2 (part * 16) ++ beBytes 1 0x30 ++ beBytes 4 (req * 4096) ++ beBytes 4 seq ++
    beBytes 4 len ++ beBytes 8 0 ++ beBytes 3 handle ++ beBytes 5 ofs ++ beBytes 4 flags ++ args)

/-- The cells of a frame of requester 7. -/
def cells (seq att : Nat) (h payload : List Byte) : List (List Byte) :=
  let n := cellCount payload.length
  mkCell (mkPfx 7 seq 1 0 n att) (h ++ sliceBytes payload 0 176) ::
    (List.range (n - 1)).map fun i => mkCell (mkPfx 7 seq 2 (i + 1) n att) (sliceBytes payload (176 + 240 * i) 240)

/-- An operation of requester 7 that has been admitted with a header. -/
def opOf (seq : Nat) (h : List Byte) : OpRec :=
  { req := 7, seq := seq, att := 0, port := 0, r := 0, hdr := h, yellow := false, ord := 0, adm := 950000000,
    admFtc := 118750000, last := 950000000, waits := [], region := none }

/-- A state with the operation of one header admitted and whole, under number 90 of requester 7. -/
def withOp (s : State) (h payload : List Byte) : State :=
  { s with frm := { s.frm with
      ops := [(opKey 7 90, opOf 90 h)]
      summ := [(0, { high := 100, slots := (List.replicate 64 0).set 26 1 })]
      reasm := [(raKey 7 90 0, { cells := (cells 90 0 h payload).mapIdx fun i c => (i, { port := 0, cell := c, ord := i }), admitted := true })] } }

/-- An active region of kind k in DESC 1 of partition 0, of one unit of 2 MiB at unit 4, with its handle. -/
def regionAt (k : Nat) (len : Nat := 1) : Desc := { state := 1, kind := k, base := 4, length := len, handle := 1 }

/-- A state with one region in DESC 1. -/
def withRegion (s : State) (k : Nat) (len : Nat := 1) : State := { s with rgn := { s.rgn with desc := [(1, regionAt k len)] } }

/-! ### Attach ports and frames -/

/-- A READ header cell, a payload cell, and damaged ones. -/
def readHdr (seq : Nat) : List Byte := hdr 1 0 7 seq 64 1 0
def readCell (seq : Nat) : List Byte := (cells seq 0 (readHdr seq) []).getD 0 []
def dataCell : List Byte := mkCell (mkPfx 7 101 2 1 3 0) [1, 2, 3]
def badCell : List Byte := dataCell.set 20 9
def badPfxCell : List Byte := mkCell (mkPfx 7 101 2 0 3 0) []
def answerCell : List Byte := mkCell (mkPfx 7 101 3 0 3 0) []
def badHdrCell : List Byte := mkCell (mkPfx 7 101 1 0 1 0) (beBytes 1 1)

theorem wit_cells_checked : base.live = true ∧ 0 < base.build.A ∧ dataCell.length = 256 ∧ base.credits 1 = 0 ∧
    base.credits 0 ≠ 0 ∧ (badCell.length = 256 ∧ ccrcBad badCell = true) ∧
    (badPfxCell.length = 256 ∧ ccrcBad badPfxCell = false ∧ pfxBad badPfxCell = true) ∧
    (answerCell.length = 256 ∧ ccrcBad answerCell = false ∧ pfxBad answerCell = false ∧ 3 ≤ pfxKind answerCell) ∧
    (badHdrCell.length = 256 ∧ ccrcBad badHdrCell = false ∧ pfxBad badHdrCell = false ∧
      base.isLate (cellKey badHdrCell) = false ∧ pfxKind badHdrCell = 1 ∧ hcrcBad (cellHdr badHdrCell) = true) := by
  decide +kernel

/-- `base` with one payload cell parked, with its key late, and with an exhausted meter. -/
def parked1 : State := base.park 0 (cellKey dataCell) dataCell
def late1 : State := { base with frm := { base.frm with late := [(cellKey dataCell, 960000000)] } }
def dry1 : State := { base with cls := { meters := [(0, ⟨0, 0, 160000000⟩)] } }

theorem wit_cells_parked : base.isLate (cellKey dataCell) = false ∧ ccrcBad dataCell = false ∧ pfxBad dataCell = false ∧
    pfxKind dataCell = 2 ∧ mapFind base.frm.reasm (cellKey dataCell) = none ∧
    (base.park 0 (cellKey dataCell) dataCell).crowd 0 < 3072 ∧ late1.isLate (cellKey dataCell) = true ∧
    parked1.credits 0 ≠ 0 ∧ parked1.isLate (cellKey dataCell) = false ∧
    ((mapFind parked1.frm.reasm (cellKey dataCell)).bind fun x => mapFind x.cells (pfxIndex dataCell)).isSome = true := by
  decide +kernel

/-- A header cell passes steps 1 to 3 on port 0 of a state, with a colour. -/
def arrives (s : State) (c : List Byte) (colour : Nat) : Bool :=
  s.live && decide (0 < s.build.A) && decide (c.length = 256) && decide (s.credits 0 ≠ 0) && !ccrcBad c && !pfxBad c &&
    decide (pfxKind c = 1) && !s.isLate (cellKey c) && !hcrcBad (cellHdr c) && decide ((s.painted 0 c).2 = colour)

/-- How step 5 sees it, and what it meets at steps 6, 8 and 9, once its number has taken its slot over. -/
structure Seen where
  cls : SeqClass
  fmt : Option Nat := none
  addr : Option (Nat × Nat) := none
  chap : Option (Nat × Nat) := none
  deriving DecidableEq, Repr

def seen (s : State) (c : List Byte) : Option Seen :=
  let v := (s.painted 0 c).1
  (v.findReq (pfxReq c)).map fun r =>
    let k := v.classify r (pfxSeq c) (pfxAtt c)
    let w := if k = .takeover then v.takeOver r (pfxSeq c) else v
    ⟨k, w.formatFault (cellHdr c) (pfxReq c) (pfxSeq c) (pfxAtt c) (pfxCount c),
      w.checkAddress (cellHdr c) (pfxReq c), w.checkState (cellHdr c)⟩

/-- Header cells: of a requester not bound, of another partition, far out of the window, of a wrong VERSION, of a region
that is absent, of a slot that is not open. -/
def strangerCell : List Byte := mkCell (mkPfx 8 101 1 0 1 0) (hdr 1 0 8 101 64 1 0)
def otherPartCell : List Byte := mkCell (mkPfx 7 101 1 0 1 0) (hdr 1 1 7 101 64 1 0)
def versionCell : List Byte := mkCell (mkPfx 7 101 1 0 1 0) (mkHdr ((hdr 1 0 7 101 64 1 0).take 60 |>.set 3 0x20))
def closeCell : List Byte := (cells 101 0 (hdr 0x12 0 7 101 0 1 0) []).getD 0 []

def againCell : List Byte := (cells 90 1 (mkHdr ((readHdr 90).take 60 |>.set 2 1)) []).getD 0 []

/-- `base` with a region and with slot 26 of requester 7 in a state. -/
def slotIs (n : Nat) : State :=
  { withRegion base 0 with
    frm := { base.frm with
      summ := [(0, { high := 100, slots := (List.replicate 64 0).set 26 n })]
      done := [(26, { seq := 90, state := n, attempt := 0, code := if n = 2 then 0 else 0x12, opcode := 1 })] } }

theorem wit_header_requester :
    (arrives base strangerCell 0 = true ∧ (base.painted 0 strangerCell).1.findReq 8 = none) ∧
    (arrives base otherPartCell 0 = true ∧ (base.painted 0 otherPartCell).1.findReq 7 = some 0 ∧
      (base.painted 0 otherPartCell).1.bindsPart 0 7 (cellHdr otherPartCell) = false) ∧
    (base.painted 0 (readCell 101)).1.bindsPart 0 7 (cellHdr (readCell 101)) = true := by decide +kernel

theorem wit_header_sequence :
    (arrives base (readCell 300) 0 = true ∧ (seen base (readCell 300)).map (·.cls) = some .out) ∧
    (arrives (slotIs 1) (readCell 160) 0 = true ∧ (seen (slotIs 1) (readCell 160)).map (·.cls) = some .violation) ∧
    (arrives (slotIs 1) (readCell 90) 0 = true ∧ (seen (slotIs 1) (readCell 90)).map (·.cls) = some .progress) := by
  decide +kernel

theorem wit_header_judged :
    (arrives (slotIs 0) versionCell 0 = true ∧
      (seen (slotIs 0) versionCell).map (fun x => (x.cls, x.fmt)) = some (.takeover, some 3)) ∧
    (arrives dry1 (readCell 90) 2 = true ∧ (seen dry1 (readCell 90)).map (fun x => (x.cls, x.fmt)) = some (.fresh, none)) ∧
    (arrives base (readCell 90) 0 = true ∧ seen base (readCell 90) = some { cls := .fresh, addr := some (0x13, 4) }) ∧
    (arrives (slotIs 0) closeCell 0 = true ∧
      seen (slotIs 0) closeCell = some { cls := .takeover, chap := some (0x16, 0) }) := by decide +kernel

theorem wit_header_admitted :
    (arrives (slotIs 0) (readCell 101) 0 = true ∧ seen (slotIs 0) (readCell 101) = some { cls := .takeover }) ∧
    (arrives (slotIs 0) (readCell 90) 0 = true ∧ seen (slotIs 0) (readCell 90) = some { cls := .fresh }) ∧
    (arrives (slotIs 3) againCell 0 = true ∧ seen (slotIs 3) againCell = some { cls := .attempt }) ∧
    (((slotIs 0).painted 0 (readCell 90)).1.admitAt 0 0 7 90 0 (readHdr 90) (readCell 90) false).crowd 0 < 3072 := by decide +kernel

/-- The duplicate of a number whose response is held, and of one whose response is not. -/
def heldDup : State :=
  { slotIs 2 with
    frm := { (slotIs 2).frm with
      done := [(26, { seq := 90, state := 2, opcode := 1, held := true })],
      holds := [
        { r := 0, slot := 26, first := 0, cells := 1, left := some 959999990,
          resp := { req := 7, seq := 90, op := 0x81, code := 0, payload := [1, 2, 3, 4], cls := 0 } }] } }

theorem wit_duplicates :
    (arrives (slotIs 2) (readCell 90) 0 = true ∧ (seen (slotIs 2) (readCell 90)).map (·.cls) = some .dup ∧
      ((slotIs 2).doneView 0 26).held = false ∧ (slotIs 2).egressQ 0 < ((slotIs 2).port 0).queues.length ∧
      (((slotIs 2).painted 0 (readCell 90)).1.dupAnswer 0 0 7 90 0 (readHdr 90)).crowd 0 < 3072) ∧
    (arrives heldDup (readCell 90) 0 = true ∧ (seen heldDup (readCell 90)).map (·.cls) = some .dup ∧
      (heldDup.doneView 0 26).held = true ∧
      (heldDup.frm.holds.find? fun g => decide (g.resp.req = 7) && decide (g.resp.seq = 90)).isSome = true) := by
  decide +kernel

/-- A frame of number 90 without its header, and one whose header was admitted, both long since. -/
def orphan : State :=
  { base with frm := { base.frm with reasm := [(raKey 7 90 0, { cells := [(1, ⟨0, mkCell (mkPfx 7 90 2 1 3 0) [], 0⟩)] })] } }
def incomplete : State :=
  { base with
    frm := { base.frm with
      ops := [(opKey 7 90, opOf 90 (hdr 2 0 7 90 400 1 0))],
      reasm := [(raKey 7 90 0, { cells := [(0, ⟨0, (cells 90 0 (hdr 2 0 7 90 400 1 0) (List.replicate 400 1)).getD 0 [], 0⟩)],
                                 admitted := true })] } }
def late0 : State := { base with frm := { base.frm with late := [(raKey 7 90 0, 0)] } }
def ordered : State :=
  { base with frm := { base.frm with ops := [(opKey 7 90, { opOf 90 (readHdr 90) with waits := [90] })] } }
def heldOld : State :=
  { heldDup with frm := { heldDup.frm with holds := heldDup.frm.holds.map fun g => { g with left := some 0 } } }

theorem wit_time_events :
    (orphan.since 0 (usR (orphan.param 0x5100 2)) = true ∧ orphan.op (opKey 7 90) = none ∧
      (mapFind orphan.frm.reasm (raKey 7 90 0)).map Reasm.whole = some false) ∧
    ((mapFind incomplete.frm.reasm (raKey 7 90 0)).map (fun x => (x.whole, x.admitted, x.first)) = some (false, true, 0) ∧
      (incomplete.op (opKey 7 90)).map (fun o => (o.req, o.seq, o.att)) = some (7, 90, 0)) ∧
    (mapFind late0.frm.late (raKey 7 90 0) = some 0 ∧ late0.since 0 (usR (late0.param 0x5100 2)) = true) ∧
    (ordered.op (opKey 7 90)).map (fun o => (o.req, o.seq, o.waits)) = some (7, 90, [90]) ∧
    ((heldOld.frm.holds.find? fun g => decide (g.resp.req = 7) && decide (g.resp.seq = 90)).map (fun g => (g.r, g.slot, g.left))
        = some (0, 26, some 0) ∧
      heldOld.since 0 (usR (heldOld.param 0x5100 1)) = true ∧ (heldOld.doneView 0 26).seq = 90 ∧
      (heldOld.doneView 0 26).held = true) := by decide +kernel

/-- Done-table writes that wait: without a response, with one for port 0, with one for port 1, which is down. -/
def aResp : Resp := { req := 7, seq := 90, op := 0x81, code := 0, cls := 0, payload := List.replicate 200 5 }
def pendIs (r : Option (Resp × Nat)) : State :=
  { base with frm := { base.frm with pend := [⟨0, 26, { seq := 90, state := 2, opcode := 1 }, 0, r⟩] } }
/-- Frames staged on port 0 in one queue. -/
def stagedIn (q : Nat) (f : EgFrame) : State :=
  { base with
    frm := { base.frm with
      ports := [(0, { base.port 0 with queues := (List.replicate 16 []).set q [f] })] } }
def f0 : EgFrame := { resp := aResp, at_ := 0 }
def fLate : EgFrame := { resp := { aResp with home := some (0, 26), target := 1000 }, at_ := 0 }
def peers : State :=
  { base with
    dict := { base.dict with vals := mapPut base.dict.vals (okey 0x5100 6) 3 }
    frm := { base.frm with
      orig := [(opKey 9 5, { ep := 9, seq := 5, part := 0, cls := 0, op := 2, body := [], payload := [1, 2, 3, 4],
                             purpose := .mirror 3 })] } }

/-- The state in which port 0 sends: what has waited out OWE_WAIT is owed. -/
def egOwed (q : Nat) (f : EgFrame) : State := (stagedIn q f).oweStale 0
/-- Port 0 of a state once its W queues have woken, and what wins its round. -/
def egPort (s : State) : Port := (s.port 0).woken s.clk.now
def egWin (s : State) : Option (Nat × Nat) × Option Nat :=
  ((s.arbAt 4 0).winner 4 (s.waitLimit 4) ((egPort s).requests s.clk.now), (egPort s).pickW s.clk.now)

theorem wit_egress :
    (((pendIs none).frm.pend.find? fun p => decide (p.r = 0) && decide (p.slot = 26)).map (·.resp) = some none ∧
      0 < base.build.reqEntries) ∧
    ((pendIs (some (aResp, 0))).frm.pend.map (·.resp) = [some (aResp, 0)] ∧ (base.port 0).up = true ∧
      aResp.eq < (base.port 0).queues.length ∧ (base.port 1).up = false ∧ aResp.kind = 3) ∧
    (((egOwed 0 f0).arbAt 4 0).freeze = 0 ∧ (egWin (egOwed 0 f0)).1 = some (0, 3) ∧ ((egOwed 0 f0).port 0).up = true ∧
      ((egOwed 0 f0).port 0).queues.length = 16 ∧ ((egOwed 0 f0).port 0).txCredit = 4 ∧
      ((egOwed 0 f0).port 0).txAt ≠ some (egOwed 0 f0).pclk ∧ (egPort (egOwed 0 f0)).queues.getD 0 [] = [f0] ∧
      (egOwed 0 f0).lateBy (egPort (egOwed 0 f0)) f0 = none ∧
      (((stagedIn 0 f0).port 0).queues.flatten.all fun h => ((stagedIn 0 f0).delivOf h.resp).isNone) = true) ∧
    (egWin (egOwed 7 f0) = (some (4, 3), some 3) ∧ (egPort (egOwed 7 f0)).queues.getD 7 [] = [f0]) ∧
    ((egWin (egOwed 0 fLate)).1 = some (0, 3) ∧
      (egOwed 0 fLate).lateBy (egPort (egOwed 0 fLate)) fLate = some 99999000) := by decide +kernel

theorem wit_ports :
    (base.rdy = true ∧ (base.port 1).up = false ∧ (base.port 0).up = true) ∧
    ((stagedIn 0 f0).port 0).queues.flatten = [f0] ∧ f0.resp.kind = 3 ∧
    ((mapFind peers.frm.orig (opKey 9 5)).map (fun x => (x.att, x.dead)) = some (0, false) ∧ peers.blockEp = 3 ∧ peers.live = true) := by
  decide +kernel

/-! ### READ, WRITE and the Whisk -/

/-- Bytes at the start of the region of DESC 1, and its granule 1 poisoned. -/
def filled (s : State) : State := { s with mem := { s.mem with bytes := mapPutList 0 [] 8388608 [1, 2, 3, 4, 5, 6, 7, 8] } }
def poisoned1 (s : State) : State := { s with mem := { s.mem with poison := [(131073, 1)] } }
def rd : State := withOp (filled (withRegion base 0)) (hdr 1 0 7 90 128 1 0) []
def rdBad : State := poisoned1 rd
def rdOp : OpRec := opOf 90 (hdr 1 0 7 90 128 1 0)
/-- A PARAM region whose header is poisoned. -/
def badTables (s : State) : State :=
  { s with rgn := { s.rgn with desc := [(1, regionAt kParam)] }, mem := { s.mem with poison := [(131072, 1)] } }
def rdTab : State := badTables rd
def wrHdr : List Byte := hdr 2 0 7 90 8 1 64
def wr : State := withOp (withRegion base 0) wrHdr [9, 8, 7, 6, 5, 4, 3, 2]
def wrBad : State := poisoned1 wr
def wrTab : State := badTables wr

theorem wit_read :
    rd.live = true ∧ rd.ready 7 90 opRead = some rdOp ∧ rdOp.req = 7 ∧ rdOp.seq = 90 ∧ (rd.descOf 1).mirror = false ∧
    (rd.rheal (rd.descOf 1) 0 128).tablesFail (rd.descOf 1) 0 128 = none ∧
    (rdBad.rheal (rdBad.descOf 1) 0 128).tablesFail (rdBad.descOf 1) 0 128 = none ∧ rdTab.ready 7 90 opRead = some rdOp ∧
    (rdTab.rheal (rdTab.descOf 1) 0 128).tablesFail (rdTab.descOf 1) 0 128 = some 131072 ∧
    (rd.rheal (rd.descOf 1) 0 128).rreadFail rdOp (rd.descOf 1) 0 128 = none ∧
    rdBad.ready 7 90 opRead = some rdOp ∧
    (rdBad.rheal (rdBad.descOf 1) 0 128).rreadFail rdOp (rdBad.descOf 1) 0 128 = some (0x21, 1) := by decide +kernel

theorem wit_write :
    wr.ready 7 90 opWrite = some (opOf 90 wrHdr) ∧ (wr.opPayload (opOf 90 wrHdr)).length = 8 ∧
    wr.rwriteFail (wr.descOf 1) 64 8 = none ∧ wrBad.ready 7 90 opWrite = some (opOf 90 wrHdr) ∧
    (wrBad.opPayload (opOf 90 wrHdr)).length = 8 ∧ wrBad.rwriteFail (wrBad.descOf 1) 64 8 = some 131073 ∧
    wr.pieces (wr.descOf 1) 64 8 false = [(64, 8)] ∧ (wr.descOf 1).mirror = false ∧
    wr.tablesFail (wr.descOf 1) 64 8 = none ∧ wrBad.tablesFail (wrBad.descOf 1) 64 8 = none ∧
    wrTab.ready 7 90 opWrite = some (opOf 90 wrHdr) ∧ (wrTab.opPayload (opOf 90 wrHdr)).length = 8 ∧
    wrTab.tablesFail (wrTab.descOf 1) 64 8 = some 131072 := by decide +kernel

/-- A slot of four FP32 elements in partition 0 over the region of DESC 1, in step 3. -/
def slot5 : Slot :=
  { part := 0, slot := 5, state := 1, q0 := 0, n := 4, od := 5, rnd := 0, step := 3, expect := 0, handle := 1, ofs := 0,
    length := 16, seed := 0 }
def withSlot (s : State) (x : Slot) : State :=
  { s with wsk := { s.wsk with slots := [(slotKey x.part x.slot, x)] } }
def accHdr (dtype len : Nat) : List Byte :=
  hdr 0x10 0 7 90 len 1 4 (beBytes 1 dtype ++ beBytes 3 0 ++ beBytes 4 5 ++ beBytes 8 3)
/-- 1.0 and 2.0 in FP32, and the windowed form of two accumulators. -/
def twoFp32 : List Byte := beBytes 4 0x3F800000 ++ beBytes 4 0x40000000
def window2 : List Byte :=
  beBytes 8 fprint ++ beBytes 6 2 ++ beBytes 2 1 ++ windowBlock [⟨2 ^ 149, 0⟩, ⟨2 ^ 150, 0⟩]
def acc (x : Slot) : State := withSlot (withOp (withRegion base 0) (accHdr 5 8) twoFp32) x
def win (b : List Byte) : State := withSlot (withOp (withRegion base 0) (accHdr 0x20 b.length) b) slot5
/-- A schedule context of partition 0 that runs step 3. -/
def withCtx (s : State) (x : Ctx := {}) : State :=
  { s with sch := { s.sch with ctxs := [(2, { x with state := 3, part := 0, step := 3 })] } }

/-- No granule of the spill area has failed. -/
def quiet (s : State) : Bool :=
  !(s.mem.fails.any fun f => s.inSpill f.gran) && !(s.mem.poison.any fun p => s.inSpill p.1)

theorem quiet_spillQuiet {s : State} (h : quiet s = true) : s.spillQuiet := by
  simpa [quiet, State.spillQuiet] using h

theorem wit_accum :
    ((withOp (withRegion base 0) (accHdr 5 8) twoFp32).ready 7 90 opAccum).map (·.hdr) = some (accHdr 5 8) ∧
    (withOp (withRegion base 0) (accHdr 5 8) twoFp32).opSlotAt (opOf 90 (accHdr 5 8)) = none ∧
    ((acc slot5).ready 7 90 opAccum).map (·.hdr) = some (accHdr 5 8) ∧
    (acc slot5).opSlotAt (opOf 90 (accHdr 5 8)) = some slot5 ∧
    slot5.key = slotKey (hPart (accHdr 5 8)) (hArg (accHdr 5 8) 40 4) ∧ hArg (accHdr 5 8) 36 1 ≠ 0x20 ∧
    ((touched 1 2).any slot5.outside = false ∨ quiet (acc slot5) = true) ∧
    ((accumValues 5 ((acc slot5).opPayload (opOf 90 (accHdr 5 8)))).map accOf) = [⟨2 ^ 149, 0⟩, ⟨2 ^ 150, 0⟩] := by
  decide +kernel

theorem wit_windowed :
    ((win window2).ready 7 90 opAccum).map (·.hdr) = some (accHdr 0x20 window2.length) ∧
    readWindowed slot5 1 ((win window2).opPayload (opOf 90 (accHdr 0x20 window2.length))) =
      some ([⟨2 ^ 149, 0⟩, ⟨2 ^ 150, 0⟩], 2) ∧
    ((win window2).findRoom slot5 1 2).isSome = true ∧
    ((win twoFp32).ready 7 90 opAccum).map (·.hdr) = some (accHdr 0x20 8) ∧ readWindowed slot5 1 twoFp32 = none ∧
    (win twoFp32).ctxOf 0 3 = none ∧ (withCtx (win twoFp32)).ctxOf 0 3 = some 2 ∧
    ((withCtx (win twoFp32)).ctx 2).voted = false ∧ ((withCtx (win twoFp32)).ctx 2).committed = false ∧
    quiet (win window2) = true := by decide +kernel

def openHdr : List Byte :=
  hdr 0x11 0 7 90 16 1 0 (beBytes 1 5 ++ beBytes 3 0 ++ beBytes 4 5 ++ beBytes 8 3 ++ beBytes 4 0)
def closeHdr : List Byte := hdr 0x12 0 7 90 0 1 0 (beBytes 4 0 ++ beBytes 4 5 ++ beBytes 8 3)
def opn (x : Slot) : State := withSlot (withOp (withRegion base 0) openHdr []) x
def cls (x : Slot) : State := withSlot (withOp (withRegion base 0) closeHdr []) x

theorem wit_slot_frames :
    ((opn slot5).ready 7 90 opRedOpen = some (opOf 90 openHdr) ∧ (opn slot5).opSlotAt (opOf 90 openHdr) = some slot5 ∧
      slot5.step = hArg openHdr 44 8) ∧
    ((opn { slot5 with state := 4 }).ready 7 90 opRedOpen = some (opOf 90 openHdr) ∧
      (opn { slot5 with state := 4 }).opSlotAt (opOf 90 openHdr) = some { slot5 with state := 4 }) ∧
    ((cls { slot5 with state := 2, closers := [opKey 7 90] }).ready 7 90 opRedClose = some (opOf 90 closeHdr) ∧
      (cls { slot5 with state := 2, closers := [opKey 7 90] }).opSlotAt (opOf 90 closeHdr) =
        some { slot5 with state := 2, closers := [opKey 7 90] } ∧ (opOf 90 closeHdr).key = opKey 7 90) ∧
    ((cls { slot5 with state := 3 }).ready 7 90 opRedClose = some (opOf 90 closeHdr) ∧
      (cls { slot5 with state := 3 }).opSlotAt (opOf 90 closeHdr) = some { slot5 with state := 3 } ∧
      slot5.step = hArg closeHdr 44 8) ∧
    (base.slotAt slot5.key = none ∧ base.slotsUsed < 4096 ∧ base.placeBlocks base.wsk.q0 slot5.n = some ([1, 0, 0, 0], 0)) := by
  decide +kernel

/-- A closing slot with its sums, one that is short, and one of a feeder whose owner is endpoint 9. -/
def closing : Slot := { slot5 with state := 2, acc := [(1, ⟨2 ^ 149, 0⟩)], closers := [opKey 7 90] }
def closingState : State := cls closing
def short5 : Slot := { slot5 with state := 2, expect := 2, cApp := 4 }
def feeder5 : Slot :=
  { closing with
    decl := some { ctx := 2, openFtc := 0, closeFtc := 0, feeder := true, ownerEp := 9, ownerHandle := 1, ownerOfs := 0,
                   ownerOd := 5 } }
/-- The block is endpoint 3 and knows peer 9. -/
def withPeer (s : State) : State :=
  { s with
    dict := { s.dict with
      vals := mapPut s.dict.vals (okey 0x5100 6) 3,
      blob := mapPutList 0 s.dict.blob (bkey 0x5100 8 0) (beBytes 8 (2 ^ 63 + 9 * 2 ^ 32)) } }
def feederState : State := withPeer (cls feeder5)

theorem wit_closing :
    (closingState.slotAt (slotKey 0 5) = some closing ∧ closing.openOps = [] ∧ closing.isShort = false ∧
      closing.partials = 0 ∧ closing.decl = none ∧ closing.spill = 0 ∧ closing.wide = [] ∧ (closingState.descOf 1).handle = 1 ∧ (closingState.descOf 1).state = 1 ∧
      (closingState.descOf 1).kind = kData ∧ (closingState.descOf 1).mirror = false ∧
      closingState.rwriteFail (closingState.descOf 1) 0 16 = none ∧ (closingState.slotBytes closing).length = 16) ∧
    ((cls short5).slotAt (slotKey 0 5) = some short5 ∧ short5.isShort = true) ∧
    (feederState.slotAt (slotKey 0 5) = some feeder5 ∧ feeder5.isShort = false ∧ feederState.blockEp = 3 ∧
      (feederState.findPeer 9).isSome = true ∧ (feederState.partialPayloads feeder5).length = 1 ∧
      feederState.mayOriginate 9 = true ∧ feederState.frm.waiting = [] ∧ feeder5.partials = 0 ∧ feeder5.openOps = [] ∧
      feeder5.spill = 0 ∧ feeder5.wide = []) ∧
    (short5.partials = 0 ∧ short5.openOps = []) := by decide +kernel

/-- The sums round to 0, 1.0, 0, 0 (03 R96). -/
theorem test_close_rounds : closingState.slotBytes closing =
    beBytes 4 0 ++ beBytes 4 0x3F800000 ++ beBytes 4 0 ++ beBytes 4 0 := by decide +kernel

def declared : State :=
  { withRegion base 0 with
    wsk := { slots := [],
             resv := [(2 * 4096 + 1, { slot5 with decl := some { ctx := 2, openFtc := 120000000, closeFtc := 120000009,
                                                                 feeder := false } })] } }
def waiting5 : Slot :=
  { slot5 with pendAt := some 0, decl := some { ctx := 2, openFtc := 0, closeFtc := 120000000, feeder := false } }
def shortWait : Slot := { waiting5 with expect := 2 }
/-- A partial frame of a feeder slot that waits for its answer. -/
def partialOut (x : Slot) (n : Nat := 0) : State :=
  { withPeer (cls x) with
    frm := { (cls x).frm with
      orig := [(opKey 9 5, { ep := 9, seq := 5, part := 0, cls := 0, op := 0x10, body := [], payload := [],
                             purpose := .partialSum (slotKey 0 5) n })] } }

theorem wit_slot_events :
    ((mapFind declared.wsk.resv (2 * 4096 + 1)).map (fun y => (y.slot, declared.openVerdict y, declared.checkLogOpen y)) =
      some (5, none, none) ∧ declared.clk.ftc = 120000000 ∧ declared.inTurn 2 1 = true) ∧
    ((cls waiting5).slotAt (slotKey 0 5) = some waiting5 ∧ waiting5.expect = 0 ∧
      (cls waiting5).since 0 (usR ((cls waiting5).param 0x7000 6)) = true ∧ (cls waiting5).clk.ftc = 120000000) ∧
    ((cls shortWait).slotAt (slotKey 0 5) = some shortWait ∧ shortWait.openOps = [] ∧ shortWait.cApp < 2 * shortWait.n) ∧
    ((partialOut { feeder5 with partials := 2 }).slotAt (slotKey 0 5) = some { feeder5 with partials := 2 } ∧
      (partialOut { feeder5 with partials := 1 }).slotAt (slotKey 0 5) = some { feeder5 with partials := 1 } ∧
      feeder5.key = slotKey 0 5 ∧ feeder5.state = 2 ∧
      ((partialOut feeder5).frm.orig.map fun p => (p.1, p.2.att, p.2.dead)) = [(opKey 9 5, 0, false)] ∧
      feeder5.close = 0 ∧
      ((partialOut feeder5 4).frm.orig.map fun p => (p.2.purpose, p.2.dead)) = [(.partialSum feeder5.key 4, false)] ∧
      (partialOut feeder5).blockEp = 3 ∧
      verdict cDone 0 0 false = .done ∧ verdict cRed 0 0 false = .resend ∧ verdict cDupInProgress 0 0 false = .waiting ∧
      verdict cState 0 0 false = .failed) := by decide +kernel

/-! ### Multicast -/

/-- Group 4 of partition 0: retention region 1, one member: endpoint 9 behind port 0, alternative port 1. -/
def withGroup (s : State) : State :=
  { s with
    dict := { s.dict with
      vals := mapPut s.dict.vals (okey 0x7404 2) 1,
      blob := mapPutList 0 s.dict.blob (bkey 0x7404 3 0) (beBytes 8 (9 * 2 ^ 44 + 1 * 2 ^ 32 + 2 ^ 31)) } }
def mcHdr : List Byte := hdr 0x18 0 7 90 64 1 0 (beBytes 4 0 ++ beBytes 4 4 ++ beBytes 8 3)
def mc0 : State := withGroup (withOp (filled (withRegion base 0)) mcHdr [])
def deliv0 : Deliv :=
  { group := 4, step := 3, part := 0, member := 0, ep := 9, ofs := 0, len := 64, handle := 1, op := opKey 7 90, cls := 0, eq := 0,
    deadline := 5, sched := false, at_ := 0 }
def withDeliv (d : Deliv) : State := { mc0 with mc := { ops := [(opKey 7 90, { members := 1 })], list := [d] } }
/-- The same with port 0 down and port 1 up, and with every port down. -/
def onlyPort1 (s : State) : State := { s with frm := { s.frm with ports := [(1, base.port 0)] } }
def noPorts (s : State) : State := { s with frm := { s.frm with ports := [] } }

/-- The same MCAST with another retention region, in DESC 2, that its copy meets a failing granule of. -/
def mcKept (bad : Bool) : State :=
  { mc0 with
    dict := { mc0.dict with vals := mapPut mc0.dict.vals (okey 0x7404 2) 2 }
    rgn := { mc0.rgn with desc := [(1, regionAt 0), (2, { regionAt 0 with base := 8, handle := 2 })] }
    mem := { mc0.mem with poison := if bad then [(262144, 1)] else [] } }

/-- A resend whose copy an attempt before has finished. -/
def mcAgain : State :=
  { mcKept false with
    frm := { (mcKept false).frm with
      ops := [(opKey 7 90, { opOf 90 mcHdr with att := 1 })]
      reasm := (mcKept false).frm.reasm.map fun x => (raKey 7 90 1, x.2) }
    mc := { copied := [opKey 7 90] } }

theorem wit_mcast :
    (mc0.ready 7 90 opMcast = some (opOf 90 mcHdr) ∧
      (mc0.rheal (mc0.descOf 1) 0 64).rreadFail (opOf 90 mcHdr) (mc0.descOf 1) 0 64 = none ∧ mc0.groupRetain 4 = 1 ∧
      (mc0.mcDelivs (opOf 90 mcHdr)).length = 1 ∧ (mc0.mcDelivs (opOf 90 mcHdr)).all (fun x => mc0.memberUp x) = true) ∧
    ((poisoned1 mc0).ready 7 90 opMcast = some (opOf 90 mcHdr) ∧
      { mc0 with mem := { mc0.mem with poison := [(131072, 1)] } }.rreadFail (opOf 90 mcHdr) (mc0.descOf 1) 0 64 =
        some (0x21, 0)) ∧
    ((mcKept false).ready 7 90 opMcast = some (opOf 90 mcHdr) ∧ (mcKept false).groupRetain 4 = 2 ∧
      (mcKept false).rwriteFail ((mcKept false).descOf 2) 0 32 = none ∧
      (mcKept true).rwriteFail ((mcKept true).descOf 2) 0 32 = some 262144 ∧ (opOf 90 mcHdr).att = 0) ∧
    (mc0.tablesFail (mc0.descOf 1) 0 64 = none ∧ (badTables mc0).ready 7 90 opMcast = some (opOf 90 mcHdr) ∧
      (badTables mc0).tablesFail ((badTables mc0).descOf 1) 0 64 = some 131072) ∧
    (mcAgain.ready 7 90 opMcast = some { opOf 90 mcHdr with att := 1 } ∧ mcAgain.groupRetain 4 = 2 ∧
      mcAgain.mc.copied.contains (opKey 7 90) = true) := by decide +kernel

def fresh0 : Deliv := { deliv0 with at_ := 959999990 }
def owed0 : Deliv := { deliv0 with owed := true }
/-- One whose deadline has not come, and an owed one on whose deadline's edge the block is. -/
def later0 : Deliv := { deliv0 with deadline := 2 ^ 40 }
def due0 : Deliv := { owed0 with deadline := 120000000 }
def retried0 : Deliv := { owed0 with staged := some 0, alt := true }

theorem wit_deliveries :
    ((withDeliv fresh0).findDeliv 4 3 0 0 = some fresh0 ∧ (withDeliv fresh0).portTakes 0 = true ∧
      (withDeliv fresh0).isNext fresh0 = true ∧
      (withDeliv fresh0).since 959999990 (usR ((withDeliv fresh0).param 0x7000 8)) = false ∧
      mbPort ((withDeliv fresh0).member 4 0) = 0 ∧ fresh0.eq < ((withDeliv fresh0).port 0).queues.length) ∧
    ((onlyPort1 (withDeliv owed0)).findDeliv 4 3 0 0 = some owed0 ∧ owed0.staged = none ∧
      (onlyPort1 (withDeliv deliv0)).since 0 (usR ((withDeliv deliv0).param 0x7000 9)) = true ∧
      (([mbPort ((onlyPort1 (withDeliv owed0)).member 4 0)] ++
        (mbAlt ((onlyPort1 (withDeliv owed0)).member 4 0)).toList).find? (onlyPort1 (withDeliv owed0)).portTakes) = some 1 ∧
      (([mbPort ((noPorts (withDeliv owed0)).member 4 0)] ++
        (mbAlt ((noPorts (withDeliv owed0)).member 4 0)).toList).find? (noPorts (withDeliv owed0)).portTakes) = none) ∧
    ((withDeliv retried0).findDeliv 4 3 0 0 = some retried0 ∧ retried0.staged = some 0 ∧
      (withDeliv retried0).since 0 (usR ((withDeliv retried0).param 0x7000 8)) = true) ∧
    ((noPorts (withDeliv deliv0)).isNext deliv0 = true ∧ (noPorts (withDeliv deliv0)).memberUp deliv0 = false ∧
      (withDeliv deliv0).since 0 (usR ((withDeliv deliv0).param 0x7000 8)) = true ∧
      ((withDeliv deliv0).op deliv0.op).map (·.key) = some deliv0.op ∧
      mapFind (withDeliv deliv0).mc.ops deliv0.op = some { members := 1 }) ∧
    ((noPorts (withDeliv deliv0)).past deliv0 = true ∧ (noPorts (withDeliv deliv0)).schedules deliv0 = false ∧
      (noPorts (withDeliv later0)).isNext later0 = true ∧ (noPorts (withDeliv later0)).past later0 = false ∧
      ((noPorts (withDeliv later0)).mc.list.filter (·.owed)).length < 65536) ∧
    ((withDeliv due0).mc.list.all (fun d => (withDeliv due0).dueNow d && d.owed && !(withDeliv due0).schedules d) = true ∧
      (withDeliv { due0 with sched := true }).mc.list.any (fun d => (withDeliv { due0 with sched := true }).dueNow d &&
        (withDeliv { due0 with sched := true }).schedules d) = true ∧
      ((withCtx (withDeliv { owed0 with sched := true })).ctxOf 0 3) = some 2 ∧
      ((withCtx (withDeliv owed0)).ctx 2).voted = false ∧ ((withCtx (withDeliv owed0)).ctx 2).committed = false) := by
  decide +kernel

/-! ### The attention service -/

/-- The directory of a KV region: FP8, 64 wide, one layer, one KV head, two contexts of two pages, three slots. -/
def kvHead : Nat :=
  1 * 2 ^ 504 + 64 * 2 ^ 488 + 1 * 2 ^ 472 + 1 * 2 ^ 456 + 2 * 2 ^ 440 + 2 * 2 ^ 408 + 3 * 2 ^ 376 + 2 * 2 ^ 344 +
    4096 * 2 ^ 280 + 8192 * 2 ^ 240 + 65536 * 2 ^ 200 + 524288 * 2 ^ 168
/-- Context 0 has a ROLE, and its page 0 is slot 0 with two tokens. -/
def kvMem (role : Nat) : Map Byte :=
  let m := mapPutList 0 [] 8388608 (beBytes 64 kvHead ++ beBytes 16 (role * 2 ^ 126))
  let m := mapPutList 0 m (8388608 + 4096) (beBytes 8 (2 ^ 63 + 2 * 2 ^ 50))
  let m := mapPutList 0 m (8388608 + 8192) [0xC0]
  mapPutList 0 m (8388608 + 65536) (List.replicate 128 0x38)
def kvBase0 (role : Nat := 1) : State := { withRegion base 2 with mem := { bytes := kvMem role } }
def appHdr (tok : Nat) : List Byte :=
  hdr 0x20 0 7 90 128 1 0 (beBytes 1 1 ++ beBytes 1 0 ++ beBytes 2 0 ++ beBytes 4 0 ++ beBytes 2 0 ++ beBytes 2 64 ++
    beBytes 4 tok ++ beBytes 4 1)
def app (tok : Nat) : State := withOp (kvBase0) (appHdr tok) (List.replicate 128 0x39)
def appOp (tok : Nat) : OpRec := { opOf 90 (appHdr tok) with ord := 1 }
/-- An append to the same token admitted before. -/
def appBlocked : State :=
  { app 2 with
    frm := { (app 2).frm with
      ops := [(opKey 7 89, { opOf 89 (appHdr 2) with waits := [89] }), (opKey 7 90, appOp 2)] } }

theorem wit_append :
    ((app 2).ready 7 90 opKvAppend).map (·.hdr) = some (appHdr 2) ∧ (app 2).kvWaits (opOf 90 (appHdr 2)) = false ∧
    (app 2).dirFail (opOf 90 (appHdr 2)) ((app 2).descOf 1) 0 1 = none ∧
    (app 2).poisonIn (8388608 + 8192) 512 = none ∧
    { app 2 with mem := { (app 2).mem with poison := [(131200, 1)] } }.dirFail (opOf 90 (appHdr 2)) ((app 2).descOf 1) 0 1 =
      none ∧
    { app 2 with mem := { (app 2).mem with poison := [(131200, 1)] } }.poisonIn (8388608 + 8192) 512 = some 131200 ∧
    appBlocked.ready 7 90 opKvAppend = some (appOp 2) ∧ appBlocked.kvWaits (appOp 2) = true ∧
    { app 2 with mem := { (app 2).mem with poison := [(131072, 1)] } }.dirFail (opOf 90 (appHdr 2)) ((app 2).descOf 1) 0 1 =
      some 0x21 := by decide +kernel

theorem wit_append_bytes :
    ((app 2).descOf 1).kind = kKv ∧ ((app 2).descOf 1).mirror = false ∧ (app 2).appendAt (opOf 90 (appHdr 2)) ((app 2).descOf 1) 0 =
      65536 + 128 ∧ (app 2).mem.poison = [] ∧ (app 2).stk.pots = [] ∧ ((app 2).opPayload (opOf 90 (appHdr 2))).length = 2 * (1 * 64) := by decide +kernel

def qHdr (tokens : Nat) : List Byte :=
  hdr 0x21 0 7 90 64 1 0 (beBytes 1 1 ++ beBytes 1 1 ++ beBytes 2 0 ++ beBytes 4 0 ++ beBytes 2 0 ++ beBytes 2 64 ++
    beBytes 4 tokens ++ beBytes 4 0x3E000000)
/-- Set 5 of partition 0 has tiles 32 and 33. -/
def withSet (s : State) (x : AttSet) (q : Query) : State :=
  { s with
    dict := { s.dict with vals := mapPut (mapPut s.dict.vals (okey 0x6815 2) 32) (okey 0x6815 3) 2 }
    att := { sets := [(5, x)], queries := [(opKey 7 90, q)], next := 1 } }
def qry0 : Query := { number := 0, set := 5, forwarded := true }
def query (tokens : Nat) (x : AttSet) (q : Query := qry0) (phase : Nat := 0) : State :=
  let s := withSet (withOp kvBase0 (qHdr tokens) (List.replicate 64 0x38)) x q
  { s with frm := { s.frm with ops := [(opKey 7 90, { opOf 90 (qHdr tokens) with phase := phase })] } }
/-- Tiles 32 and 33 hold a shipped image in a state. -/
def tilesIn (s : State) (st lib : Nat) : State :=
  { s with tl := { s.tl with tiles := [32, 33].map fun i => (i, { c := { state := st, nbundle := 1, lib := lib } }) } }
def queued : AttSet := { state := 2, queue := [opKey 7 90] }
def busy : AttSet := { state := 3, running := some (opKey 7 90) }

theorem wit_query_begins :
    ((query 2 queued).ready 7 90 opAttnQuery).map (·.hdr) = some (qHdr 2) ∧
    (mapFind (query 2 queued).att.queries (opKey 7 90)).map (·.forwarded) = some true ∧
    (query 2 queued).kvWaits (opOf 90 (qHdr 2)) = false ∧
    (query 2 queued).dirFail (opOf 90 (qHdr 2)) ((query 2 queued).descOf 1) 0 1 = none ∧
    (query 2 queued).pagesThere (opOf 90 (qHdr 2)) = true ∧ (query 3 queued).pagesThere (opOf 90 (qHdr 3)) = false ∧
    kvLocals (kvHead) ((query 2 queued).kvCtx ((query 2 queued).descOf 1) 0) (kvG (qHdr 2)) = 1 := by decide +kernel

def starting : State := tilesIn (query 2 queued qry0 1) 2 1
def running (st : Nat) : State := tilesIn (query 2 busy qry0 1) st 1

/-- The run as `queryComplete` leaves it before its answer. -/
def queryHalted : State :=
  (((running 3).queryHeal (opOf 90 (qHdr 2))).haltRun [32, 33]).modTile 32
    (fun x => { x with r := x.r.setCtr 47 (x.r.getCtr 47 + 2 ^ 32 - qry0.spills.length) })

theorem wit_query_runs :
    ((starting.attSet 5).state = 2 ∧ (starting.attSet 5).queue = [opKey 7 90] ∧
      (starting.op (opKey 7 90)).map (fun o => (o.phase, o.adm)) = some (1, 950000000) ∧
      (mapFind starting.att.queries (opKey 7 90)).isSome = true ∧
      950000000 / 8 < starting.clk.now / 8 ∧ (starting.wakeRun (starting.attRun 5)).2 = true ∧
      starting.attRun 5 = [32, 33] ∧ (starting.tile 32).c.lib ≠ 0 ∧ (starting.tile 33).c.lib ≠ 0 ∧
      ((starting.attRun 5).all fun t => [2, 4].contains (starting.tile t).c.state) = true) ∧
    (((running 5).attSet 5).running = some (opKey 7 90) ∧
      (((running 5).attRun 5).any fun t => decide (((running 5).tile t).c.state = 5)) = true) ∧
    ((((running 3).attRun 5).any fun t => decide (((running 3).tile t).c.state = 5)) = false ∧
      (running 3).attRun 5 = [32, 33] ∧ (running 3).attFirst 5 = 32 ∧
      (running 3).runsLib ((running 3).attRun 5) = true ∧ libDim (queryHalted.tile 32).c.lib = kvDim kvHead ∧
      queryHalted.queryFail (opOf 90 (qHdr 2)) = none ∧ (qry0.spills.all fun x => x.data.isSome) = true ∧
      kcSpill ((running 3).kvCtx ((running 3).descOf 1) 0) = false) := by decide +kernel

theorem wit_query_answer :
    (queryHalted.queryAnswer (opOf 90 (qHdr 2)) (queryHalted.queryHeads (opOf 90 (qHdr 2)) qry0)).length =
      hArg (qHdr 2) 37 1 * hArg (qHdr 2) 46 2 * castWidth (hArg (qHdr 2) 36 1) ∧
    hArg (qHdr 2) 37 1 * hArg (qHdr 2) 46 2 * castWidth (hArg (qHdr 2) 36 1) ≤ 0x1CB00 := by decide +kernel

/-- The record of a spill block for page 1, the frame that asked for it, and the query that waits for it. -/
def srec1 : List Byte :=
  beBytes 32 (1 * 2 ^ 232 + 1 * 2 ^ 190 + 9 * 2 ^ 166 + 3 * 2 ^ 142 + 3 * 2 ^ 90)
def qrySpill : Query := { qry0 with spills := [{ srec := srec1, sent := some 0 }] }
def spillState (att : Nat := 0) : State :=
  let s := query 4098 queued qrySpill
  { s with
    frm := { s.frm with
      orig := [(opKey 9 5, { ep := 9, seq := 5, att := att, part := 0, cls := 0, op := 0x21, body := [], payload := [],
                             purpose := .spill (opKey 7 90) 0 })] } }
def spillBack : List Byte :=
  beBytes 1 0 ++ beBytes 1 1 ++ beBytes 2 1 ++ beBytes 2 64 ++ beBytes 10 0 ++ beBytes 8 fprint ++ List.replicate 272 0
def releasing : State := kvBase0 3
def ahead : State :=
  let s := query 2 { state := 3, queue := [opKey 7 90] } qry0
  { s with dict := { s.dict with vals := mapPut s.dict.vals (okey 0x6800 4) 4 } }

theorem wit_query_events :
    ((mapFind (spillState).frm.orig (opKey 9 5)).map (fun f => (f.purpose, f.att, f.dead)) =
        some (.spill (opKey 7 90) 0, 0, false) ∧
      (mapFind (spillState).att.queries (opKey 7 90)).map (fun q => (q.spills.length, q.set)) = some (1, 5) ∧
      ((spillState).attSet 5).running ≠ some (opKey 7 90) ∧ (spillState).frm.waiting = [] ∧
      ((spillState).op (opKey 7 90)).map (·.key) = some (opKey 7 90) ∧ (withPeer spillState).blockEp ≠ 0 ∧
      recFits (qHdr 4098) srec1 spillBack = true ∧ spillBack.length < 2 ^ 24) ∧
    ((qrySpill.spills.map (·.sent)) = [some 0] ∧ (qrySpill.spills.map (·.data)) = [none] ∧
      (spillState).since 0 (usR ((spillState).param 0x6800 5)) = true ∧
      (({ srec := srec1, sent := none } : Spill).data = none)) ∧
    ((ahead.attSet 5).state = 3 ∧ (ahead.attSet 5).queue = [opKey 7 90] ∧ 0 < ahead.param 0x6800 4 ∧ 1 < ahead.attTiles 5 ∧
      65536 ≤ kvPageBytes (ahead.kvHdr (ahead.descOf 1)) ∧ 0 < kvPages (ahead.kvHdr (ahead.descOf 1)) ∧
      0 < kvG (qHdr 2) ∧ qry0.pieces = [] ∧ kcSpill (ahead.kvCtx (ahead.descOf 1) 0) = false ∧
      kpValid (ahead.kvEntry (ahead.descOf 1) (qHdr 2) 0) = true) ∧
    (releasing.activeDesc 1 = some (regionAt 2) ∧ kcRole (releasing.kvCtx (regionAt 2) 0) = 3 ∧
      0 < kvContexts (releasing.kvHdr (regionAt 2)) ∧ releasing.ctxBusy 1 0 = false ∧
      mapFind releasing.att.cleaned (1 * 65536 + 0) = none ∧ (regionAt 2).mirror = false ∧
      releasing.poisonIn (8388608 + 64) 16 = none ∧
      kcSpill (releasing.kvCtx (regionAt 2) 0) = false) := by decide +kernel

/-! ### The parameter service and two-phase commit -/

/-- The header of a PARAM region: two planes, two pages, one extent, log handle 2, no cast; COMMITTED_STEP 2. -/
def prmHead (st pend nupd : Nat) : Nat :=
  2 * 2 ^ 508 + 2 * 2 ^ 493 + 1 * 2 ^ 482 + 2 * 2 ^ 458 + st * 2 ^ 384 + pend * 2 ^ 320 + 2 * 2 ^ 256 + nupd * 2 ^ 250
/-- The header of a primary LOG region: FP32, four entries, PARAM handle 1, a buddy at an endpoint, two pages. -/
def logHead (peer : Nat) : Nat :=
  1 * 2 ^ 510 + 5 * 2 ^ 502 + 4 * 2 ^ 498 + 1 * 2 ^ 474 + peer * 2 ^ 454 + 1 * 2 ^ 430 + 2 * 2 ^ 415 + 139264 * 2 ^ 383
/-- Both regions: frames 0 and 1 back page 0 (W as given), 2 and 3 page 1; step 3 fills its entry, with a WRITTEN map. -/
def prmMem (st pend peer ent written : Nat) (w : Bool) : Map Byte :=
  let m := mapPutList 0 [] 8388608 (beBytes 64 (prmHead st pend 0) ++ beBytes 16 (2 * 2 ^ 35))
  let m := mapPutList 0 m (8388608 + 65536)
    (beBytes 8 (1 * 2 ^ 16 + (if w then 2 ^ 14 else 0)) ++ beBytes 8 (2 * 2 ^ 40 + 3 * 2 ^ 16))
  let m := mapPutList 0 m 16777216 (beBytes 64 (logHead peer))
  let m := mapPutList 0 m (16777216 + 483328) (beBytes 8 3 ++ [BitVec.ofNat 8 ent, 0])
  mapPutList 0 m (16777216 + 483328 + 4096) [BitVec.ofNat 8 written]
def prm (st : Nat := 0) (pend : Nat := 0) (written : Nat := 0x80) (w : Bool := false) (peer : Nat := 9) (ent : Nat := 1) :
    State :=
  { base with
    rgn := { base.rgn with
      desc := [(1, { state := 1, kind := 1, base := 4, length := 2, handle := 1 }),
               (2, { state := 1, kind := 3, base := 8, length := 1, handle := 2 })] }
    mem := { bytes := prmMem st pend peer ent written w } }
/-- Update set 2 of partition 0 has tiles 32 and 33. -/
def withUpd (s : State) (x : UpdSet) : State :=
  { s with
    dict := { s.dict with vals := mapPut (mapPut s.dict.vals (okey 0x6912 2) 32) (okey 0x6912 3) 2 }
    par := { s.par with sets := [(2, x)] } }
/-- OPT 1 on page 0 for a step. -/
def optHdr (step : Nat) : List Byte :=
  hdr 0x28 0 7 90 131072 1 0 (beBytes 1 1 ++ beBytes 3 0 ++ beBytes 4 0 ++ beBytes 8 step ++ beBytes 3 2)
def claim3 : Claim := { part := 0, step := 3, desc := 1, req := 7, seq := 90, first := 0, npg := 1 }
def optOpen (s : State) (step : Nat) (c : Claim := claim3) (phase : Nat := 0) : State :=
  let s := withOp s (optHdr step) []
  { s with
    frm := { s.frm with ops := [(opKey 7 90, { opOf 90 (optHdr step) with phase := phase })] }
    par := { s.par with claims := [c] } }
def setReady : UpdSet := { state := 2 }
def stepOp : OpRec := opOf 90 (optHdr 3)

theorem wit_opt_waits :
    ((optOpen (prm 2 3) 3).ready 7 90 opOptStep = some stepOp ∧
      prmState ((optOpen (prm 2 3) 3).prmHdr ((optOpen (prm 2 3) 3).descOf (hdDesc (hHandle stepOp.hdr)))) = 2) ∧
    ((optOpen (prm 0 0) 2).ready 7 90 opOptStep = some (opOf 90 (optHdr 2)) ∧
      hArg (optHdr 2) 44 8 = prmCommitted ((optOpen (prm 0 0) 2).prmHdr ((optOpen (prm 0 0) 2).descOf 1))) ∧
    ((optOpen (prm 1 4) 3).ready 7 90 opOptStep = some stepOp ∧
      prmPend ((optOpen (prm 1 4) 3).prmHdr ((optOpen (prm 1 4) 3).descOf 1)) ≠ hArg (optHdr 3) 44 8) := by decide +kernel

theorem wit_opt_runs :
    ((optOpen (prm 0 0 0) 3).ready 7 90 opOptStep = some stepOp ∧ (optOpen (prm 0 0 0) 3).claimOf stepOp = some claim3 ∧
      claim3.opened = false ∧ ((optOpen (prm 0 0 0) 3).descOf 1).mirror = false ∧
      (optOpen (prm 0 0 0) 3).lost (((optOpen (prm 0 0 0) 3).descOf 1).bpa0 / 64) = false ∧
      ((optOpen (prm 0 0 0) 3).openParam stepOp).gradReady stepOp = false) ∧
    (((optOpen (withUpd (prm 1 3) setReady) 3).openParam stepOp).gradReady stepOp = true ∧
      ((optOpen (withUpd (prm 1 3) setReady) 3).openParam stepOp).updReady 0 = some 2) ∧
    (((optOpen (prm 1 3) 3).openParam stepOp).gradReady stepOp = true ∧
      ((optOpen (prm 1 3) 3).openParam stepOp).updReady 0 = none) := by decide +kernel

/-- The entry of step 3 holds its update record, and the set has it queued, or runs it. -/
def recorded (x : UpdSet) (tiles : Map Tile) : State :=
  let s := optOpen (withUpd (prm 1 3) x) 3 { claim3 with opened := true, urec := some 0 } 1
  { s with
    mem := { bytes := mapPutList 0 s.mem.bytes (16777216 + 483328 + 0x40) (updRecord 0 1 1 0 (List.replicate 64 0)) }
    tl := { s.tl with tiles := tiles } }
def tiles2 (st lib : Nat) : Map Tile := [32, 33].map fun i => (i, { c := { state := st, nbundle := 1, lib := lib } })
def updQueued : UpdSet := { state := 2, queue := [opKey 7 90] }
def updBusy : UpdSet := { state := 3, running := some (opKey 7 90) }

theorem wit_update_start :
    ((recorded updQueued (tiles2 2 17)).updSet 2).queue = [opKey 7 90] ∧
    ((recorded updQueued (tiles2 2 17)).updSet 2).state = 2 ∧
    (recorded updQueued (tiles2 2 17)).op (opKey 7 90) = some { stepOp with phase := 1 } ∧
    mapFind (recorded updQueued (tiles2 2 17)).par.ops (opKey 7 90) = none ∧
    ((recorded updQueued (tiles2 2 17)).wakeRun ((recorded updQueued (tiles2 2 17)).updRun 2)).2 = true ∧
    urOpt ((recorded updQueued (tiles2 2 17)).urecOf stepOp) = 1 ∧ optLib 1 ≠ 0 ∧
    (recorded updQueued (tiles2 2 17)).holdsOpt 2 1 = true ∧
    ((recorded updQueued (tiles2 2 17)).loadOpt 2 1).2 = true := by decide +kernel

theorem wit_update_complete :
    (((recorded updBusy (tiles2 3 17)).updSet 2).running = some (opKey 7 90) ∧
      (recorded updBusy (tiles2 3 17)).runsLib [32, 33] = true ∧ (recorded updBusy (tiles2 3 17)).updRun 2 = [32, 33] ∧
      (((recorded updBusy (tiles2 3 17)).optHeal 1 3 0 1).haltRun [32, 33]).optFail 1 1 3 0 1 = none ∧
      urFirst ((recorded updBusy (tiles2 3 17)).urecOf stepOp) = 0 ∧
      urNpg ((recorded updBusy (tiles2 3 17)).urecOf stepOp) = 1) ∧
    ((recorded updBusy (tiles2 3 0)).runsLib [32, 33] = false ∧ (recorded updBusy (tiles2 3 0)).runFaulted [32, 33] = false ∧
      (recorded updBusy (tiles2 3 0)).runBusy [32, 33] = true) ∧
    ((recorded updBusy (tiles2 4 0)).runsLib [32, 33] = false ∧ (recorded updBusy (tiles2 4 0)).runFaulted [32, 33] = false ∧
      (recorded updBusy (tiles2 4 0)).runBusy [32, 33] = false ∧
      natAt ((recorded updBusy (tiles2 4 0)).completion 32) 0 1 = 0) ∧
    ((recorded updBusy (tiles2 5 0)).runsLib [32, 33] = false ∧ (recorded updBusy (tiles2 5 0)).runFaulted [32, 33] = true ∧
      (recorded updBusy (tiles2 5 0)).ctxOf 0 3 = none) := by
  decide +kernel

/-- A frame of a mirror copy under way to endpoint 9, and the copy. -/
def copying (m : Mirror) (att : Nat := 0) : State :=
  { prm 1 3 with
    frm := { (prm 1 3).frm with
      orig := [(opKey 9 5, { ep := 9, seq := 5, att := att, part := 0, cls := 0, op := 2, body := [], payload := [],
                             purpose := .mirror 4 })] }
    par := { (prm 1 3).par with mirrors := [(4, m)] } }
def copy1 : Mirror := { part := 0, step := 3, desc := 2, entry := 3, pages := some (0, 2), left := 1, since := 0 }

theorem wit_mirror :
    ((copying copy1).frm.orig.map fun p => (p.1, p.2.purpose, p.2.dead)) = [(opKey 9 5, .mirror 4, false)] ∧
    mapFind (copying copy1).par.mirrors 4 = some copy1 ∧
    mapFind (copying { copy1 with left := 2 }).par.mirrors 4 = some { copy1 with left := 2 } ∧
    verdict cDone 0 0 true = .done ∧ verdict cEpoch 0 0 true = .resend ∧ verdict cState 0 0 true = .failed ∧
    verdict cDupInProgress 0 0 true = .waiting ∧ (withPeer (copying copy1)).blockEp ≠ 0 ∧ copy1.failed = false ∧
    (copying copy1).since 0 (usR ((copying copy1).param 0x6900 5)) = true ∧ (copying copy1).ctxOf 0 3 = none ∧
    (withCtx (copying copy1)).ctxOf 0 3 = some 2 ∧ ((withCtx (copying copy1)).ctx 2).voted = false ∧
    ((withCtx (copying copy1)).ctx 2).committed = false := by decide +kernel

/-- A COMMIT entry: barrier 7, C_0 1,000 after the launch, a home, two participants; the context that holds it. -/
def commitEnt (home : Nat) : List Byte :=
  beBytes 1 4 ++ beBytes 1 0 ++ beBytes 2 7 ++ beBytes 4 1000 ++ beBytes 4 home ++ beBytes 2 2 ++ beBytes 50 0
def ctxC (home : Nat) (x : Ctx := {}) : Ctx := { x with state := 3, part := 0, step := 3, entries := [commitEnt home] }
/-- The hub runs, the block is endpoint 3 and knows peer 9, and context 2 runs step 3 with a COMMIT entry. -/
def votingState (home : Nat) (x : Ctx := {}) (s : State := prm 1 3 (peer := 0) (ent := 2)) : State :=
  let s := withPeer s
  { s with
    sch := { s.sch with ctxs := [(2, ctxC home x)] }
    par := { s.par with sealed := [(entKey 2 3, 4)] } }
def votedOut (x : Ctx) (att : Nat := 0) : State :=
  let s := votingState 9 x
  { s with
    frm := { s.frm with
      orig := [(opKey 9 5, { ep := 9, seq := 5, att := att, part := 0, cls := 0, op := 0x31, body := [], payload := [],
                             purpose := .vote 0 3 })] } }
/-- The buddy is endpoint 9, and the header of the entry, sealed, is not mirrored yet. -/
def unmirrored : State := { votingState 9 {} (prm 1 3 (ent := 2)) with par := {} }

theorem wit_vote :
    ((votingState 3).served 3 = true ∧ (votingState 3).ctxOf 0 3 = some 2 ∧ ((votingState 3).ctx 2).voted = false ∧
      ((votingState 3).ctx 2).commitEntry = some (commitEnt 3) ∧ (votingState 3).isReady ((votingState 3).ctx 2) = true ∧
      ((votingState 3).sealEntries ((votingState 3).ctx 2)).ctx 2 = (votingState 3).ctx 2 ∧
      ((votingState 3).sealEntries ((votingState 3).ctx 2)).isReady ((votingState 3).ctx 2) = true ∧
      ((votingState 3).sealEntries ((votingState 3).ctx 2)).headersMirrored ((votingState 3).ctx 2) = true ∧
      ((votingState 3).sealEntries ((votingState 3).ctx 2)).isHome ((votingState 3).ctx 2) = true) := by decide +kernel

theorem wit_vote_away :
    ((votingState 9).isHome ((votingState 9).ctx 2) = false ∧ (votingState 9).blockEp = 3 ∧
      ((votingState 9).findPeer (cmHome (commitEnt 9))).isSome = true ∧ (votingState 9).mayOriginate 9 = true ∧
      ((votingState 9).sealEntries ((votingState 9).ctx 2)).mayOriginate 9 = true ∧
      ((votingState 9).sealEntries ((votingState 9).ctx 2)).headersMirrored ((votingState 9).ctx 2) = true ∧
      ((votingState 9).sealEntries ((votingState 9).ctx 2)).frm.waiting = []) ∧
    (unmirrored.isReady (unmirrored.ctx 2) = true ∧
      (unmirrored.sealEntries (unmirrored.ctx 2)).headersMirrored (unmirrored.ctx 2) = false) := by decide +kernel

theorem wit_vote_answer :
    ((votedOut { voted := true, launch := 119999000 }).ctxOf 0 3 = some 2 ∧
      ((votedOut { voted := true, launch := 119999000 }).frm.orig.map fun p => (p.1, p.2.purpose, p.2.dead)) =
        [(opKey 9 5, .vote 0 3, false)] ∧ verdict cDone 0 0 false = .done ∧ (3 + 2 ^ 32 - 3 % 2 ^ 32) % 2 ^ 32 = 0 ∧
      (votedOut { voted := true, launch := 119999000 }).clk.ftc ≤
        (votedOut { voted := true, launch := 119999000 }).commitPoint
          ((votedOut { voted := true, launch := 119999000 }).ctx 2) 0 ∧
      ((votedOut { voted := true, launch := 119999000 }).ctx 2).committed = false ∧
      ((votedOut { voted := true, launch := 119999000 }).ctx 2).aborted = false ∧
      (votedOut { voted := true, launch := 119999000 }).blockEp = 3) ∧ verdict cDupInProgress 0 0 false = .waiting ∧
    verdict cRed 0 0 false = .resend ∧ verdict cReplay 0 0 false = .failed ∧ verdict cState 0 0 false = .failed := by
  decide +kernel

/-- The home on its first decision edge, with one vote of another participant or none; and past its last edge. -/
def homeAt (launch : Nat) (v : List Nat) : State :=
  votingState 3 { launch := launch, own := true, votes := v }
    (withOp (prm 1 3 (peer := 0) (ent := 2)) (hdr 0x31 0 7 90 0 0 0 []) [])
def homeDue : Nat := 120000000 - 1000 + (prm).param 0x6900 3

theorem wit_commit :
    ((homeAt homeDue [opKey 7 90]).served 3 = true ∧ ((homeAt homeDue [opKey 7 90]).ctx 2).state = 3 ∧
      (homeAt homeDue [opKey 7 90]).isHome ((homeAt homeDue [opKey 7 90]).ctx 2) = true ∧
      ((List.range ((homeAt homeDue [opKey 7 90]).param 0x6900 4)).find? fun k =>
        decide ((homeAt homeDue [opKey 7 90]).decisionEdge ((homeAt homeDue [opKey 7 90]).ctx 2) k =
          (homeAt homeDue [opKey 7 90]).clk.ftc)) = some 0 ∧
      ((homeAt homeDue [opKey 7 90]).ctx 2).allVotes = true ∧ ((homeAt homeDue [opKey 7 90]).ctx 2).released = none ∧
      ((homeAt homeDue [opKey 7 90]).op (opKey 7 90)).map (·.opcode) = some opBarrier) ∧
    ((homeAt homeDue []).ctx 2).allVotes = false ∧
    (((List.range ((homeAt 0 []).param 0x6900 4)).find? fun k =>
        decide ((homeAt 0 []).decisionEdge ((homeAt 0 []).ctx 2) k = (homeAt 0 []).clk.ftc)) = none ∧
      (homeAt 0 []).decisionEdge ((homeAt 0 []).ctx 2) ((homeAt 0 []).param 0x6900 4 - 1) < (homeAt 0 []).clk.ftc) ∧
    ((votingState 9 { launch := 119999000, point := some 0 }).ctxOf 0 3 = some 2 ∧
      (votingState 9 { launch := 119999000, point := some 0 }).commitPoint
        ((votingState 9 { launch := 119999000, point := some 0 }).ctx 2) 0 =
        (votingState 9 { launch := 119999000, point := some 0 }).clk.ftc ∧
      ((votingState 9 { launch := 119999000, point := some 0 }).ctx 2).point = some 0 ∧
      ((votingState 9 { launch := 119999000, point := some 0 }).descOf 1).mirror = false ∧
      (votingState 9 { launch := 119999000, point := some 0 }).lost
        (((votingState 9 { launch := 119999000, point := some 0 }).descOf 1).bpa0 / 64) = false ∧
      (votingState 9 { launch := 119999000, point := some 0 }).openRegions 0 3 = [1]) := by decide +kernel

/-- Where every channel has a setting, no granule is out of reach. -/
theorem wit_reached {s : State} (h : s.stk.pots = []) (g : Nat) : s.lost g = false := by
  simp [State.lost, h]

theorem wit_whole {s : State} (h : s.stk.pots = []) (hp : s.mem.poison = []) (g : Nat) : s.failing g = false := by
  simp [State.failing, wit_reached h, State.poisoned, hp, mapFind]

theorem wit_fold :
    (prmState ((prm 2 3 (w := true)).prmHdr ((prm 2 3 (w := true)).descOf 1)) = 2 ∧
      peW ((prm 2 3 (w := true)).pageEntry ((prm 2 3 (w := true)).descOf 1) 0) = true ∧
      peW ((prm 2 3 (w := true)).pageEntry ((prm 2 3 (w := true)).descOf 1) 1) = false) ∧
    prmState ((prm 3 3 (w := true)).prmHdr ((prm 3 3 (w := true)).descOf 1)) = 3 ∧
    ((prm 2 3).descOf 1).kind = kParam ∧ ((prm 2 3).descOf 1).mirror = false ∧ (prm 2 3 (w := true)).stk.pots = [] ∧
    (prm 3 3 (w := true)).stk.pots = [] := by decide +kernel

/-! ### Synchronisation and schedules -/

def syncHdr : List Byte := hdr 0x30 0 7 90 0 0 0 (beBytes 3 (64 * 5 + 3) ++ beBytes 1 0 ++ beBytes 4 9)
/-- A SYNC of 9 to counter 3 of tile 5, which is in a state and belongs to partition 0. -/
def syn (st : Nat) : State :=
  { withOp base syncHdr [] with
    tl := { tiles := [(5, { c := { state := st, nbundle := 1 } })]
            saves := if st = 6 then [(5, { r := {}, cr := {}, c := {} })] else [] } }
def gated (s : State) : State := { s with pwr := { s.pwr with doms := [(0, { state := 2 })] } }
/-- The same with a full queue at its doorkeeper. -/
def crowded (s : State) : State :=
  { s with
    pwr := { s.pwr with
      doms := [(0, { state := 2, held := List.replicate 16 { addr := 1, amount := 1, part := 0, path := 0 } })] } }
def syncOp : OpRec := opOf 90 syncHdr

theorem wit_sync :
    ((syn 2).ready 7 90 opSync = some syncOp ∧ (syn 2).awake (hArg syncHdr 36 3 / 64 / 32) = true ∧
      (syn 2).sigAccepts (hArg syncHdr 36 3) 0 = true ∧ ((syn 2).tile 5).c.state ≠ 6) ∧
    ((syn 6).ready 7 90 opSync = some syncOp ∧ (syn 6).sigAccepts (hArg syncHdr 36 3) 0 = true ∧
      ((syn 6).tile 5).c.state = 6 ∧ (mapFind (syn 6).tl.saves 5).isSome = true) ∧
    ((gated (syn 2)).ready 7 90 opSync = some syncOp ∧ (gated (syn 2)).awake 0 = false ∧ ((gated (syn 2)).dom 0).held = [] ∧
      (crowded (syn 2)).ready 7 90 opSync = some syncOp ∧ (crowded (syn 2)).awake 0 = false ∧
      ((crowded (syn 2)).dom 0).held.length = 16) ∧
    ((syn 0).ready 7 90 opSync = some syncOp ∧ (syn 0).awake 0 = true ∧
      (syn 0).sigAccepts (hArg syncHdr 36 3) 0 = false) := by decide +kernel

def barHdr (g parts : Nat) : List Byte :=
  hdr 0x31 0 7 90 0 0 0 (beBytes 2 7 ++ beBytes 2 0 ++ beBytes 4 g ++ beBytes 8 3 ++ beBytes 4 parts)
/-- Barrier 7 of partition 0: tiles 32 and 33, counter 6, two local arrivals, a number of remote ones, home here. -/
def barAt (x : Barrier) (remote : Nat) (g : Nat := 4) : State :=
  let s := withOp base (barHdr g (remote + 1)) []
  { s with
    dict := { s.dict with
      vals := [(2, 32), (3, 2), (4, 6), (5, 2), (7, remote)].foldl (fun m p => mapPut m (okey 0x8207 p.1) p.2) s.dict.vals }
    syn := { bars := [(7, x)] }
    tl := { tiles := [(32, { c := { state := 2, nbundle := 1 } })] } }
def barOp (g parts : Nat) : OpRec := opOf 90 (barHdr g parts)
def voteAt (x : Ctx) : State := votingState 3 x (withOp (prm 1 3 (peer := 0) (ent := 2)) (barHdr 3 2) [])

theorem wit_barrier :
    ((barAt { gen := 5 } 1).ready 7 90 opBarrier = some (barOp 4 2) ∧ (barAt { gen := 5 } 1).commitBarrier 7 = false ∧
      later 32 5 4 = true ∧ later 32 4 4 = false) ∧
    ((barAt { gen := 4, arrived := 1 } 1).barHome 7 = 0 ∧ (barAt { gen := 4, arrived := 1 } 1).barLocal 7 = 2 ∧
      (barAt { gen := 4, arrived := 2 } 1).barRemote 7 = 1 ∧ (barAt { gen := 4, arrived := 2 } 1).barRctr 7 = 6 ∧
      ((barAt { gen := 4, arrived := 2 } 1).tile 32).c.owner = (barAt { gen := 4, arrived := 2 } 1).barPart 7 ∧
      (barAt { gen := 4, arrived := 2 } 1).awake 1 = true) ∧
    ((voteAt {}).commitBarrier 7 = true ∧ (voteAt {}).voteCtx (barHdr 3 2) = some 2 ∧
      (voteAt {}).ready 7 90 opBarrier = some (barOp 3 2) ∧ ((voteAt {}).ctx 2).released = none ∧
      ((voteAt { released := some 1 }).ctx 2).released = some 1 ∧
      ((barAt { gen := 4, arrived := 2 } 1).bar 7).frames = [] ∧
      ((voteAt { aborted := true }).ctx 2).released = none ∧ ((voteAt { aborted := true }).ctx 2).aborted = true ∧
      (voteAt { aborted := true }).voteCtx (barHdr 3 2) = some 2) := by decide +kernel

/-- A frame under way to endpoint 9, for a purpose. -/
def frameOut (s : State) (p : Purpose) (step : Nat := 0) : State :=
  { s with
    frm := { s.frm with
      orig := [(opKey 9 5, { ep := 9, seq := 5, part := 0, cls := 0, op := 0x31,
                             body := beBytes 32 0 ++ beBytes 8 step, payload := [], purpose := p })] } }
def barOut (g : Nat) : State := frameOut (barAt { gen := g, arrived := 2, sent := true } 1) (.barrier 7 4) 3
/-- Entry 11 of the remote table names counter 3 of tile 5 at endpoint 9. -/
def remoteQ (s : State) : State :=
  { s with
    dict := { s.dict with blob := mapPutList 0 s.dict.blob (bkey 0x8100 1 88) (beBytes 8 (2 ^ 62 + 9 * 2 ^ 36 + 323 * 2 ^ 19)) }
    syn := { s.syn with queue := [{ entry := 11, amount := 2, part := 0, cls := 1, step := 3, tile := 5, eq := 0, at_ := 0 }] } }

/-- The block once the head of its remote queue is taken, and a tile that waited for the place has issued. -/
def taken (s : State) : State := (s.modSyn fun y => { y with queue := [] }).remoteFreed

/-- The same block with no peer in its table. -/
def noPeer (s : State) : State :=
  { s with dict := { s.dict with blob := mapPutList 0 s.dict.blob (bkey 0x5100 8 0) (beBytes 8 0) } }

theorem wit_hub_frames :
    ((barOut 4).frm.orig.map fun p => (p.1, p.2.purpose, bodyStep p.2.body, p.2.dead)) =
      [(opKey 9 5, .barrier 7 4, 3, false)] ∧
    verdict cDone 0 0 true = .done ∧ ((barOut 4).bar 7).gen = 4 ∧ ((barOut 4).bar 7).sent = true ∧
    verdict cState 0 0 true = .failed ∧ (withCtx (barOut 4)).ctxOf 0 3 = some 2 ∧ verdict cRed 0 0 true = .resend ∧
    verdict cDupInProgress 0 0 true = .waiting ∧ ((withCtx (barOut 4)).ctx 2).voted = false ∧
    ((withCtx (barOut 4)).ctx 2).committed = false ∧ (withPeer (barOut 4)).blockEp = 3 ∧
    (remoteQ (withPeer base)).syn.queue.length = 1 ∧ reEp ((remoteQ (withPeer base)).remoteEntry 11) = 9 ∧
    (remoteQ (withPeer base)).mayOriginate 9 = true ∧ 0 / 8 < (remoteQ (withPeer base)).clk.now / 8 ∧
    (remoteQ base).mayOriginate 9 = false ∧ (remoteQ (withPeer base)).tl.tiles = [] ∧
    (taken (remoteQ (withPeer base))).frm.waiting = [] ∧ ((taken (remoteQ (withPeer base))).findPeer 9).isSome = true ∧
    (taken (remoteQ (withPeer base))).mayOriginate 9 = true ∧ (noPeer (remoteQ (withPeer base))).mayOriginate 9 = true ∧
    ((taken (noPeer (remoteQ (withPeer base)))).findPeer 9).isSome = false ∧
    ((frameOut base (.signal 11 2)).frm.waiting = []) := by decide +kernel

/-! Schedules -/

def launchHdr : List Byte :=
  hdr 0x38 0 7 90 128 1 0 (beBytes 4 0 ++ beBytes 4 77 ++ beBytes 8 3 ++ beBytes 8 120001000)
/-- A schedule image: number 77, a span of 500, one SPILL entry that is none of this block's. -/
def schedImage : List Byte :=
  beBytes 4 0x4B575343 ++ beBytes 1 0x31 ++ beBytes 3 0 ++ beBytes 4 77 ++ beBytes 4 1 ++ beBytes 8 fprint ++ beBytes 4 500 ++
    beBytes 4 900 ++ beBytes 16 5 ++ beBytes 16 0 ++ beBytes 1 3 ++ beBytes 31 0 ++ beBytes 32 (2 ^ 256 - 1 - 15 * 2 ^ 186)
def codeRegion (rdonly : Bool) : Desc := { regionAt 5 with rdonly := rdonly }
def arm77 : Arm := { op := some (opKey 7 90), launch := 120001000, sched := 77, handle := 1, ofs := 0, length := 128 }
def arming (rdonly : Bool) (st : Nat := 1) : State :=
  let s := withOp base launchHdr []
  { s with
    mem := { bytes := mapPutList 0 [] 8388608 schedImage }
    rgn := { s.rgn with desc := [(1, codeRegion rdonly)], sched := [⟨1, 0, true⟩] }
    frm := { s.frm with ops := [(opKey 7 90, { opOf 90 launchHdr with phase := 1 })] }
    sch := { s.sch with
      ctxs := [(2, { state := st, part := 0, step := 3, launch := 120001000, sched := 77, arm := some arm77 })] } }
def armA1 : Arm :=
  { arm77 with span := 500, mcastDl := 900, digest := 5, entries := shEntries schedImage, args := [List.replicate 256 0] }

def armU : State := ((arming true).schedCheck 1 0 (codeRegion true)).chargeOp (opKey 7 90) (granulesIn 0 128)

theorem wit_launch :
    (withOp base launchHdr []).ready 7 90 opLaunch = some (opOf 90 launchHdr) ∧
    (opOf 90 launchHdr).opcode = opLaunch ∧ arm77.launch ≤ { arming true with clk := { (arming true).clk with ftc := 120001000 } }.clk.ftc ∧
    (arming true).clk.ftc < arm77.launch ∧ ((arming true).ctx 2).marked = false ∧ ((arming true).ctx 2).aborted = false ∧
    ((arming false).served 3 = true ∧ ((arming false).ctx 2).arm = some arm77 ∧ arm77.ready = false ∧
      arm77.op = some (opKey 7 90) ∧ (arming false).op (opKey 7 90) = some { opOf 90 launchHdr with phase := 1 } ∧
      (arming false).imgRegion 1 0 = none) ∧
    ((arming true).imgRegion 1 0 = some (codeRegion true) ∧ armU.rread (codeRegion true) 0 128 = schedImage ∧
      armU.schedOf 1 0 = some true ∧ armU.schedHdrOk 0 arm77 schedImage = true ∧
      shEntries schedImage = [sliceBytes schedImage 64 64] ∧ (armU.wakeRun []).2 = true ∧
      (match armU.armEntries 2 ((arming true).ctx 2) armA1 (armU.takenTiles 0) armU (shEntries schedImage) 0 with
       | .inl _ => true
       | .inr _ => false) = true) ∧
    ({ arming true with clk := { (arming true).clk with ftc := 120000999 } }.clk.ftc + 1 = arm77.launch) := by decide +kernel

def armed2 (st : Nat) : State :=
  { base with
    clk := { base.clk with ftc := 120001000 }
    sch := { base.sch with ctxs := [(2, { state := st, part := 0, step := 3, arm := some { armA1 with ready := true, op := none } })] } }
/-- A PROGRAM entry: 100 after the launch, tiles 32 and 33, class 1. -/
def progEnt : List Byte := beBytes 1 1 ++ beBytes 3 0 ++ beBytes 4 100 ++ beBytes 2 32 ++ beBytes 2 2 ++ beBytes 1 1 ++ beBytes 51 0
def runs2 (fired : List Nat) : State :=
  { base with
    tl := { tiles := tiles2 4 0 }
    sch := { base.sch with
      ctxs := [(2, { state := 3, part := 0, step := 3, launch := 119999000, span := 500, entries := [progEnt],
                     args := [List.replicate 256 7], fired := fired })] } }

/-- The edge of the entry's REL. -/
def due2 : State := { runs2 [] with clk := { (runs2 []).clk with ftc := 119999100 } }

theorem wit_contexts :
    (((armed2 2).ctx 2).arm = some { armA1 with ready := true, op := none } ∧ armA1.launch = (armed2 2).clk.ftc ∧
      (armA1.entries.all fun e => decide (enKind e = 3)) = true ∧ ((armed2 2).ctx 2).state ≠ 3) ∧
    (((runs2 []).ctx 2).entries[0]? = some progEnt ∧ enKind progEnt = 1 ∧ natAt progEnt 10 2 = 2 ∧
      ((due2).ctx 2).entries[0]? = some progEnt ∧ ((due2).ctx 2).launch + pgRel progEnt = due2.clk.ftc ∧
      due2.inTurn 2 0 = true ∧ due2.setTiles.contains 32 = false ∧ (due2.tile 32).c.start = none ∧
      [0, 1, 5, 6].contains (due2.tile 32).c.state = false ∧ ((runs2 []).tile 32).c.start = none ∧
      [0, 1, 5, 6].contains ((runs2 []).tile 32).c.state = false) ∧
    (((runs2 [0]).ctx 2).launch + ((runs2 [0]).ctx 2).span ≤ (runs2 [0]).clk.ftc ∧
      ((runs2 [0]).ctx 2).commitEntry = none ∧ ((runs2 [0]).ctx 2).arm = none ∧ enTiles progEnt = [32, 33] ∧
      (runs2 [0]).wsk.slots = [] ∧ (runs2 [0]).wsk.resv = []) := by decide +kernel

/-- Attention set 5 of tiles 32 and 33, which wait since reset. -/
def stuckState (rep : Map Nat) (at_ : Option Nat := some 0) : State :=
  { base with
    dict := { base.dict with vals := mapPut (mapPut base.dict.vals (okey 0x6815 2) 32) (okey 0x6815 3) 2 }
    syn := { reported := rep }
    tl := { tiles := [32, 33].map fun i =>
      (i, { c := { state := 3, nbundle := 1 }, x := { blocked := some (.wait 1 2), stuckAt := at_ } }) } }
def egg5 : EggSet := { kind := 1, id := 5, part := 0, tiles := [32, 33] }
def moved5 : State := stuckState [] none

theorem wit_egg :
    (stuckState []).eggSets = (stuckState []).eggSets.take 5 ++ egg5 :: (stuckState []).eggSets.drop 6 ∧
    (((stuckState []).eggSets.take 5 ++ (stuckState []).eggSets.drop 6).all fun x => !(stuckState []).stuck x) = true ∧
    (stuckState []).stuck egg5 = true ∧ mapFind (stuckState []).syn.reported egg5.key = none ∧
    (stuckState []).eggKnown egg5 = false ∧ (stuckState [(egg5.key, 1)]).eggKnown egg5 = true ∧
    moved5.eggSets = moved5.eggSets.take 5 ++ egg5 :: moved5.eggSets.drop 6 ∧
    (moved5.eggSets.all fun x => !moved5.stuck x) = true := by
  decide +kernel

/-- The discipline in a state. -/
def disc (d : Disc) : State := { base with sch := { base.sch with disc := d } }

theorem wit_time :
    ((disc {}).clk.locked = true ∧ (disc {}).sch.disc.last = none ∧ { disc {} with clk := { locked := false } }.clk.locked = false) ∧
    ((disc { state := 2, last := some 960000000 }).clk.now < 960000000 + tclkR ((disc {}).param 0xD000 7) / 2) ∧
    (0 + tclkR ((disc {}).param 0xD000 7) / 2 ≤ (disc {}).clk.now ∧
      (disc { state := 1, close := 3, last := some 0 }).sch.disc.close = 3 ∧
      (8 * (120000000 : Int) + 8 - 8 * (120000000 : Int)).natAbs ≤ (disc {}).param 0xD000 6 ∧
      (disc {}).param 0xD000 6 < (8 * (120000000 : Int) - 8 * (100000000 : Int)).natAbs) ∧
    ((disc {}).since 0 (3 * tclkR ((disc {}).param 0xD000 7)) = true ∧
      { disc { state := 3 } with clk := { now := 10 ^ 18 } }.since 0 (usR ((disc {}).param 0xD000 8)) = true) := by decide +kernel

def wheelNext (i : Nat) : State :=
  let w : Wheel := { next := [([1, 2], 120000000), ([3], 120000400)] }
  { base with
    sch := { base.sch with
      skillet := if i = 1 then w else {}, whisk := if i = 2 then w else {}, stockpot := if i = 3 then w else {} } }
def hashed : State :=
  { base with rgn := { base.rgn with desc := [(1, { regionAt 0 with digest := true })], dirty := [(1048576, 1)] } }
def budget0 : State := { base with dict := { base.dict with vals := mapPut base.dict.vals (okey 0x5203 9) 10 }, cls := { bytes := [(3, 11)] } }
/-- A round at Skillet 0 between a frame of the block's own and the load engine, as it stands, frozen, and gated. -/
def req1 : ArbReq := { idx := 1, src := .system, last := true }
def req2 : ArbReq := { idx := 2, src := .background, last := true }
def roundBids : List Bid := [req1, req2].filterMap (base.bid 1)
def frozenArb : State := { base with arb := [(1 * 2 ^ 16 + 0, { freeze := 1 })] }
/-- A write under way to the region whose digest is out of date. -/
def hashWaits : State := { hashed with frm := { hashed.frm with ops := [(opKey 7 90, { opOf 90 wrHdr with region := some 1 })] } }

theorem wit_wheel :
    (((wheelNext 1).sch.skillet.next.find? fun p => decide (p.2 = 120000000)) = some ([1, 2], 120000000) ∧
      ((wheelNext 2).sch.whisk.next.find? fun p => decide (p.2 = 120000000)) = some ([1, 2], 120000000) ∧
      ((wheelNext 3).sch.stockpot.next.find? fun p => decide (p.2 = 120000000)) = some ([1, 2], 120000000) ∧
      (wheelNext 1).clk.ftc = 120000000) ∧
    ((hashed.descOf 1).digest = true ∧ hashed.dirtyCount 1 ≠ 0 ∧ (hashed.descOf 1).state = 1 ∧
      (hashed.descOf 1).kind ≠ kParam ∧ hashed.frm.ops = [] ∧ hashWaits.dirtyCount 1 ≠ 0) ∧
    (budget0.clk.ftc % budget0.param 0x5000 2 = 0 ∧ budget0.cls.edge = none) ∧
    (base.build.hasArb 3 0 = true ∧ base.build.hasArb 1 0 = true ∧ base.build.hasOrigin .system = true ∧
      arbDomain 1 0 = some 0 ∧ base.settled 0 = true ∧ (gated base).settled 0 = false ∧
      ([req1, req2].filterMap ((gated base).bid 1)).length = 2 ∧
      (frozenArb.arbAt 1 0).freeze ≠ 0 ∧ frozenArb.settled 0 = true ∧ (base.arbAt 1 0).freeze = 0 ∧
      roundBids.map (fun b => (b.idx, b.eligible, b.last)) = [(1, false, true), (2, false, true)] ∧
      (roundBids.map (·.prio)).getD 0 0 < (roundBids.map (·.prio)).getD 1 0 ∧
      (base.arbAt 1 0).waitOf 1 < base.waitLimit 1 ∧ (base.arbAt 1 0).waitOf 2 < base.waitLimit 1) := by decide +kernel

/-! ### The management port and the dictionary -/

/-- The checks of `Accepted` for an access on the port. -/
def portTakes (s : State) (tag : Nat) (a : Access) (o : Obj) : Bool :=
  s.served 4 && decide (tag < 16) && s.mgtUp && decide (4 ≤ s.ldl.stage) && decide (s.ldl.stage ≠ 255) &&
    (match s.checkWrite (2 ^ 20) (decide (a.onPort.kind = 4)) a.idx a.sub a.onPort.ofs a.onPort.data with
     | .ok x => decide (x = o)
     | .error _ => false) && s.served (s.objDuty o a.idx a.onPort.data) && (!o.switched || (s.live && decide (s.ldl.stage = 6)))

theorem accepted_port {s : State} {tag : Nat} {a : Access} {o : Obj} (h : portTakes s tag a o = true) :
    Accepted s (.port tag) a a.onPort o := by
  unfold portTakes at h
  simp only [Bool.and_eq_true, decide_eq_true_eq] at h
  obtain ⟨⟨⟨⟨⟨⟨⟨h1, h2⟩, h3⟩, h4⟩, h5⟩, h6⟩, h7⟩, h8⟩ := h
  refine ⟨⟨h1, h2, h3, h4, h5, rfl⟩, ?_, h7, fun e => ?_, fun _ _ _ e => nomatch e⟩
  · show s.checkWrite (2 ^ 20) _ _ _ _ _ = _
    split at h6
    · next x e => rw [e, of_decide_eq_true h6]
    · cases h6
  · simpa [e] using h8

/-- An object of this build. -/
def objAt (idx sub : Nat) : Obj := (findObj base.build idx sub).getD ⟨0, .one, 0, .u8, .ro, 0, 0, 0, 0⟩
def wr1 (idx sub : Nat) (d : List Byte) : Access := { kind := 2, idx := idx, sub := sub, data := d }

/-- The port at stages 0x01 and 0x02. -/
def atStage (n : Nat) (sel : Nat := 0) : State := { base with ldl := { base.ldl with stage := n, bootSel := sel } }

theorem wit_control :
    (base.mgtUp = true ∧ (atStage 1).mgtUp = true ∧ (atStage 2).ldl.stage = 2 ∧ base.ldl.stage ≠ 2) ∧
    ((atStage 2 3).ldl.bootSel = 3 ∧ (atStage 2 1).ldl.bootSel = 1 ∧ (atStage 2 1).slotValid 0 = false) ∧
    (atStage 2).ldl.fitted = true ∧
    { atStage 2 with ldl := { (atStage 2).ldl with fitted := false } }.ldl.fitted = false ∧
    ((atStage 2 3).pin.en = [false, false, false] ∨ base.pin.en ≠ [false, false, false]) := by decide +kernel

/-- Reads: BLOCK_EP, a value; MAX_DEBT; REQ_TABLE, a BLOB; the event log while empty; a window of the system area. -/
def unlocked (s : State) (level : Nat := 2) : State :=
  { s with obs := { s.obs with unlock := some { owner := 2 ^ 20, level := level, scope := 64, ends := 10 ^ 12 } } }

theorem wit_reads :
    (match base.checkRead false 0x5100 6 0 4 with | .ok o => decide (o = objAt 0x5100 6) | .error _ => false) = true ∧
    (match base.checkRead false 0x3000 10 0 1 with | .ok o => decide (o.base = 0x3000 ∧ o.sub = 10) | .error _ => false) = true ∧
    (match base.checkRead true 0xC000 5 8 16 with | .ok o => decide (o.ty = .blob) | .error _ => false) = true ∧
    (base.blobRead (2 ^ 20) (objAt 0xC000 5) 0xC000 8 16).isSome = true ∧
    (match base.checkRead true 0x6B00 7 0 64 with | .ok o => decide (o = objAt 0x6B00 7) | .error _ => false) = true ∧
    (base.blobRead (2 ^ 20) (objAt 0x6B00 7) 0x6B00 0 64).isNone = true ∧ (objAt 0x6B00 7).ty = .blob ∧
    (match base.checkRead true 0xB000 1 0 32 with | .ok _ => false | .error e => decide (e.code ≠ 0)) = true ∧
    (match (unlocked base).checkRead true 0x8F10 1 0 64 with | .ok o => decide (o.base = 0x8F10) | .error _ => false) = true ∧
    base.mayWindow (2 ^ 20) = false ∧ (unlocked base).mayWindow (2 ^ 20) = true ∧
    (unlocked base).poisonIn (base.build.sysBase + (0x8F10 - 0x8F10) * 2 ^ 30 + 0) 64 = none := by decide +kernel

/-- A lock of a domain that the port holds, with writes staged. -/
def locked (digit : Nat) (l : List Staged) (own : Option Nat := none) (s : State := base) : State :=
  { s with dict := { s.dict with locks := [(digit, { owner := own, at_ := 0, staged := l })] } }
/-- LOCK_HOLD, a value; REQ_TABLE entries of 8 bytes, staged under lock 0xC; the staging buffer. -/
def w1 : Staged := { idx := 0x5203, sub := 9, ofs := 0, data := beBytes 8 500 }

/-- POWER_CAP_BOOST at 500, below a write of 600 to its partner. -/
def lowCap : State := { base with dict := { base.dict with vals := mapPut [] (okey 0xA000 3) 500 } }

/-- A BLOB written in part by a bulk write. -/
def blobW : Access := { kind := 4, idx := 0x6A05, sub := 1, ofs := 8, data := [1, 2] }

theorem wit_writes :
    (match base.checkWrite (2 ^ 20) false 0x5203 9 0 [1] with | .ok _ => false | .error _ => true) = true ∧
    portTakes base 3 blobW (objAt 0x6A05 1) = true ∧ (objAt 0x6A05 1).acc = .rw ∧ (objAt 0x6A05 1).ty = .blob ∧
    portTakes base 3 (wr1 0x2E00 4 (beBytes 4 20000)) (objAt 0x2E00 4) = true ∧ (objAt 0x2E00 4).acc = .rws ∧
    base.crossOk (objAt 0x2E00 4) 0x2E00 20000 = true ∧
    portTakes lowCap 3 (wr1 0xA000 2 (beBytes 4 600)) (objAt 0xA000 2) = true ∧
    lowCap.crossOk (objAt 0xA000 2) 0xA000 600 = false ∧
    portTakes base 3 { wr1 0x2F00 2 [1, 2, 3] with kind := 4, ofs := 7 } (objAt 0x2F00 2) = true ∧
    portTakes (locked 5 []) 3 (wr1 0x5203 9 (beBytes 8 500)) (objAt 0x5203 9) = true ∧ (objAt 0x5203 9).acc = .rwl ∧
    portTakes (locked 5 (List.replicate 256 w1)) 3 (wr1 0x5203 9 (beBytes 8 500)) (objAt 0x5203 9) = true ∧
    portTakes (locked 4 []) 3 (wr1 0x4102 15 (beBytes 1 1)) (objAt 0x4102 15) = true ∧
    portTakes (locked 4 []) 3 (wr1 0x4102 10 (beBytes 8 (2 ^ 60 + 2 ^ 33 + 2 ^ 16))) (objAt 0x4102 10) = true := by decide +kernel

/-- A commit that fails: a class whose committed rate is above its peak rate. -/
def wBad : Staged := { idx := 0x5203, sub := 5, ofs := 0, data := beBytes 4 (2 ^ 32 - 1) }

theorem wit_lock :
    portTakes base 3 (wr1 0x2E00 1 [5]) (objAt 0x2E00 1) = true ∧ mapFind base.dict.locks 5 = none ∧ base.modesBusy = false ∧
    portTakes (locked 5 []) 3 (wr1 0x2E00 1 [5]) (objAt 0x2E00 1) = true ∧ lockHolder (2 ^ 20) = none ∧
    portTakes (locked 5 [] (some 7)) 3 (wr1 0x2E00 1 [5]) (objAt 0x2E00 1) = true ∧
    portTakes (withCtx base) 3 (wr1 0x2E00 1 [2]) (objAt 0x2E00 1) = true ∧ (withCtx base).modesBusy = true ∧
    portTakes (locked 5 [w1]) 3 (wr1 0x2E00 2 [5]) (objAt 0x2E00 2) = true ∧ w1.idx ≠ 0x3F00 ∧
    firstFail ((locked 5 [w1]).commitChecks ((locked 5 [w1]).putAll [w1]) 5 [w1]) [w1] = none ∧
    findObj base.build 0x5203 9 = some (objAt 0x5203 9) ∧
    (firstFail ((locked 5 [wBad]).commitChecks ((locked 5 [wBad]).putAll [wBad]) 5 [wBad]) [wBad]).isSome = true ∧
    portTakes (locked 5 [wBad]) 3 (wr1 0x2E00 2 [5]) (objAt 0x2E00 2) = true ∧
    portTakes (locked 5 [w1] (some 7)) 3 (wr1 0x2E00 2 [5]) (objAt 0x2E00 2) = true ∧
    portTakes (locked 5 [w1] (some 7)) 3 (wr1 0x2E00 3 [5]) (objAt 0x2E00 3) = true ∧
    portTakes (locked 5 [w1]) 3 (wr1 0x2E00 3 [5]) (objAt 0x2E00 3) = true ∧
    lockDomains.contains 5 = true ∧ (locked 5 [w1]).since 0 (usR (base.param 0x2E00 4)) = false ∧
    { locked 5 [w1] with clk := { now := 10 ^ 11 } }.since 0 (usR (base.param 0x2E00 4)) = true ∧
    { locked 5 [w1] with clk := { now := 10 ^ 11 } }.served 4 = true := by decide +kernel

/-! Regions -/

/-- A DATA region of one unit; a primary LOG of two pages; a record that is too short. -/
def crData : List Byte := [0, 0, 0, 0] ++ beBytes 4 1 ++ beBytes 8 0 ++ beBytes 8 77 ++ List.replicate 72 0
def crLog : List Byte :=
  [0, 3, 0, 0] ++ beBytes 4 4 ++ beBytes 8 0 ++ beBytes 8 0 ++ List.replicate 40 0 ++
    ([1, 5, 0, 0] ++ beBytes 4 0 ++ beBytes 4 0 ++ beBytes 4 0 ++ beBytes 2 2 ++ List.replicate 14 0)
def crAcc (r : List Byte) : Access := { kind := 2, idx := 0xC400, sub := 1, data := r, loose := true }
def drained (st out : Nat) : State :=
  { base with
    rgn := { base.rgn with
      desc := [(1, { regionAt 0 with state := st, outstanding := out })], drainAt := [(1, 0)] }
    mem := { bytes := [(8388608, 5), (10485760, 6)] } }
def hAcc (idx sub : Nat) (d : List Byte) : Access := { kind := 2, idx := idx, sub := sub, data := d, loose := true }
def code2 (rdonly : Bool) : State :=
  { base with rgn := { base.rgn with desc := [(1, codeRegion rdonly)] } }

theorem wit_create :
    portTakes base 3 (crAcc crData) (objAt 0xC400 1) = true ∧ base.crRefusal crData = none ∧ crMirror crData = false ∧
    portTakes base 3 (crAcc crLog) (objAt 0xC400 1) = true ∧ base.crRefusal crLog = none ∧ base.stk.pots = [] ∧
    portTakes base 3 (crAcc (4 :: crData.drop 1 |>.set 1 9)) (objAt 0xC400 1) = true ∧
    base.crRefusal (4 :: crData.drop 1 |>.set 1 9) = some (cState, 0, 1) := by decide +kernel

/-- A region in DESC 0 of partition 0, whose handle is 0; the arming context names it. -/
def desc0 : Desc := { state := 1, base := 4, length := 1, handle := 0 }
def atDesc0 (s : State) (h : Nat) : State :=
  { s with
    rgn := { s.rgn with desc := [(0, desc0)] }
    sch := { s.sch with ctxs := s.sch.ctxs.map fun p => (p.1, { p.2 with arm := p.2.arm.map fun a => { a with handle := h } }) } }

theorem wit_regions :
    (portTakes (atDesc0 base 0) 3 (hAcc 0xC400 3 (beBytes 3 0 ++ [0])) (objAt 0xC400 3) = true ∧
      (atDesc0 base 0).activeDesc 0 = some desc0 ∧ (atDesc0 base 0).regionNamed 0 = false ∧
      (atDesc0 base 0).stepNames 0 = false ∧ base.activeDesc 0 = none ∧ (atDesc0 (arming true) 0).stepNames 0 = true ∧
      (atDesc0 (arming true) 0).regionNamed 0 = false) ∧
    ((drained 2 0).served 2 = true ∧ ((drained 2 0).descOf 1).state = 2 ∧ ((drained 3 0).descOf 1).state = 3 ∧
      mapFind (drained 2 0).rgn.drainAt 1 = some 0 ∧ 0 / 8 < (drained 2 0).clk.now / 8) := by decide +kernel

theorem wit_code :
    (portTakes (code2 false) 3 (hAcc 0xC400 4 (beBytes 3 1 ++ beBytes 1 1)) (objAt 0xC400 4) = true ∧
      ((code2 false).activeDesc 1).isSome = true) ∧
    ((code2 true).hashOf (hdDesc 1) 0 = none ∧ ((code2 true).descOf 1).kind = kCode) ∧
    (portTakes (code2 true) 3 (hAcc 0xD000 15 (beBytes 3 1 ++ [0] ++ beBytes 4 0)) (objAt 0xD000 15) = true ∧
      (code2 true).imgRegion 1 0 = some (codeRegion true) ∧ (code2 false).imgRegion 1 0 = none ∧
      (code2 true).schedOf 1 0 = none) := by decide +kernel

theorem wit_selectors :
    (portTakes (prm 0) 3 (wr1 0x6B00 7 (beBytes 3 1 ++ [0])) (objAt 0x6B00 7) = true ∧
      ((prm 0).selected 0x6B00 1).isSome = true ∧ ((prm 0).selected 0xD200 1).isNone = true ∧
      ((prm 0).selected 0xC400 1).isSome = true) ∧
    (portTakes kvBase0 3 (hAcc 0x6880 1 (beBytes 3 1 ++ [0] ++ beBytes 4 0)) (objAt 0x6880 1) = true ∧
      (kvBase0.activeDesc 1).map (·.kind) = some kKv ∧
      (kvBase0.failing (((kvBase0.descOf 1).bpa0 + 64 + 16 * 0) / 64)) = false ∧ kcRole (kvBase0.kvCtx (kvBase0.descOf 1) 0) = 1 ∧
      kcRole ((kvBase0 3).kvCtx ((kvBase0 3).descOf 1) 0) = 3) := by decide +kernel

/-- The same read of BLOCK_EP by an MGMT frame. -/
def mgmtHdr : List Byte := hdr 0x3F 0 7 90 4 0 0 (beBytes 1 1 ++ beBytes 1 6 ++ beBytes 2 0x5100 ++ beBytes 4 0)
def mgmtState : State := withOp base mgmtHdr []
def readEp : Access := { kind := 1, idx := 0x5100, sub := 6, len := 4 }

theorem wit_frame_access : Taken mgmtState (.frame 7 90) readEp readEp :=
  ⟨by decide +kernel, by decide, by decide, by decide +kernel, opOf 90 mgmtHdr, by decide +kernel, rfl, rfl, by decide +kernel⟩

/-! ### Records of the parameter service, the units and the debugger -/

def recAcc (idx sub : Nat) (d : List Byte) : Access := { kind := 2, idx := idx, sub := sub, data := d, loose := true }
def trigAcc (idx sub : Nat) : Access := { kind := 2, idx := idx, sub := sub, loose := true, anyData := true }
def hRec (h : Nat) (step : Nat) : List Byte := beBytes 3 h ++ [0] ++ beBytes 4 0 ++ beBytes 8 step

theorem wit_param_records :
    portTakes (prm 0) 3 (recAcc 0x6B00 1 (hRec 2 9)) (objAt 0x6B00 1) = true ∧
    ((prm 0).activeDesc 2).map (fun d => (d.kind, d.mirror)) = some (kLog, false) ∧
    ((prm 0).activeDesc 1).map (fun d => (d.kind, d.mirror)) = some (kParam, false) ∧ (prm 0).stk.pots = [] ∧
    portTakes (prm 0) 3 (recAcc 0x6B00 6 (hRec 1 9)) (objAt 0x6B00 6) = true ∧
    portTakes (prm 0) 3 (recAcc 0x6B00 1 (hRec 1 9)) (objAt 0x6B00 1) = true ∧
    portTakes (prm 1 3) 3 (recAcc 0x6B00 6 (hRec 1 9)) (objAt 0x6B00 6) = true ∧
    prmState ((prm 0).prmHdr ((prm 0).descOf 1)) = 0 ∧ prmState ((prm 1 3).prmHdr ((prm 1 3).descOf 1)) = 1 := by decide +kernel

def decRec (step action k : Nat) : List Byte := beBytes 8 step ++ beBytes 1 action ++ beBytes 1 k ++ beBytes 6 0
def doubt : State := votingState 9 { launch := 119999000, inDoubt := true }

theorem wit_step_decide :
    portTakes doubt 3 (recAcc 0x6B00 2 (decRec 3 1 0)) (objAt 0x6B00 2) = true ∧
    doubt.sch.ctxs = [] ++ (2, ctxC 9 { launch := 119999000, inDoubt := true }) :: [] ∧
    (ctxC 9 { launch := 119999000, inDoubt := true }).commitEntry.isSome = true ∧
    doubt.commitPoint (ctxC 9 { launch := 119999000, inDoubt := true }) 0 = doubt.clk.ftc ∧
    { doubt with clk := { doubt.clk with ftc := 120000001 } }.clk.ftc = 120000001 ∧
    portTakes doubt 3 (recAcc 0x6B00 2 (decRec 3 2 0)) (objAt 0x6B00 2) = true ∧
    portTakes (homeAt 0 [opKey 7 90]) 3 (recAcc 0x6B00 2 (decRec 3 2 0)) (objAt 0x6B00 2) = true ∧
    (homeAt 0 [opKey 7 90]).isHome ((homeAt 0 [opKey 7 90]).ctx 2) = true ∧
    doubt.isHome (ctxC 9 { launch := 119999000, inDoubt := true }) = false := by decide +kernel

/-- A LOG region whose entries are 64 bytes long, four of them, in DESC 2. -/
def smallHead : Nat := 1 * 2 ^ 510 + 5 * 2 ^ 502 + 4 * 2 ^ 498 + 1 * 2 ^ 474 + 2 * 2 ^ 415 + 64 * 2 ^ 383
def smallLog : State :=
  { prm 0 with
    mem := { bytes := mapPutList 0 [] 16777216 (beBytes 64 smallHead) } }
def restRec (ep first last : Nat) : List Byte :=
  beBytes 3 2 ++ [0] ++ beBytes 4 ep ++ beBytes 3 2 ++ beBytes 5 0 ++ beBytes 8 first ++ beBytes 8 last
def entryB (step : Nat) : List Byte := beBytes 8 step ++ [2] ++ List.replicate 55 7

theorem wit_restore :
    portTakes (withPeer smallLog) 3 (recAcc 0x6B00 3 (restRec 9 5 6)) (objAt 0x6B00 3) = true ∧
    portTakes smallLog 3 (recAcc 0x6B00 3 (restRec 9 5 6)) (objAt 0x6B00 3) = true ∧ smallLog.blockEp = 0 ∧
    (withPeer smallLog).blockEp = 3 ∧ ((withPeer smallLog).findPeer 9).isSome = true ∧
    portTakes (withPeer smallLog) 3 (recAcc 0x6B00 3 (restRec 3 5 6)) (objAt 0x6B00 3) = true ∧
    ((withPeer smallLog).activeDesc 2).map (fun d => (d.kind, d.mirror)) = some (kLog, false) ∧
    lgEntryBytes (smallLog.logHdr (smallLog.descOf 2)) = 64 ∧ lgEntries (smallLog.logHdr (smallLog.descOf 2)) = 4 ∧
    (entryB 5 ++ entryB 6).length = 2 * 64 ∧ natAt (entryB 5 ++ entryB 6) 64 8 = 6 ∧
    natAt (entryB 5 ++ entryB 6) 72 1 = 2 ∧ natAt [0] 0 8 ≠ 5 ∧ (withPeer smallLog).stk.pots = [] ∧
    (withPeer smallLog).mem.poison = [] ∧
    portTakes (prm 0) 3 (recAcc 0x6B00 4 (hRec 1 2)) (objAt 0x6B00 4) = true ∧
    portTakes (prm 0) 3 (recAcc 0x6B00 4 (hRec 1 3)) (objAt 0x6B00 4) = true ∧
    prmCommitted ((prm 0).prmHdr ((prm 0).descOf 1)) = 2 ∧
    portTakes (prm 1 3) 3 (recAcc 0x6B00 4 (hRec 1 3)) (objAt 0x6B00 4) = true := by decide +kernel

def withPot (p : Pot) (s : State := base) : State := { s with stk := { s.stk with pots := [(1, p)] } }
def retRec : List Byte := [1, 5, 2, 0]

/-- A stack whose rank (5, 2) is dead, and one without a free slot. -/
def deadPot : Pot := { chans := [(2, { state := 9 })] }
def takenPot : Pot := { slots := (List.range 16).map fun i => (i, { state := 2, srcV := 40 }) }

theorem wit_unit_records :
    (portTakes (syn 2) 3 (recAcc 0x8000 5 (beBytes 4 323 ++ beBytes 4 9)) (objAt 0x8000 5) = true ∧
      (syn 2).ctrOk 323 = true ∧ ((syn 2).tile 5).c.state = 2 ∧ (syn 2).awake 0 = true ∧ (gated (syn 2)).awake 0 = false ∧
      portTakes (gated (syn 2)) 3 (recAcc 0x8000 5 (beBytes 4 323 ++ beBytes 4 9)) (objAt 0x8000 5) = true ∧
      (gated (syn 2)).belongs 5 = some 0 ∧ ((gated (syn 2)).dom 0).held = [] ∧
      portTakes (crowded (syn 2)) 3 (recAcc 0x8000 5 (beBytes 4 323 ++ beBytes 4 9)) (objAt 0x8000 5) = true ∧
      (crowded (syn 2)).awake 0 = false ∧ ((crowded (syn 2)).dom 0).held.length = 16 ∧ ((syn 6).tile 5).c.state = 6 ∧ (mapFind (syn 6).tl.saves 5).isSome = true ∧
      portTakes (syn 6) 3 (recAcc 0x8000 5 (beBytes 4 323 ++ beBytes 4 9)) (objAt 0x8000 5) = true ∧
      portTakes base 3 (recAcc 0x8000 5 (beBytes 4 323 ++ beBytes 4 9)) (objAt 0x8000 5) = true ∧
      base.belongs 5 = none ∧ portTakes base 3 (recAcc 0x8000 5 (beBytes 4 (64 * 5 + 50) ++ beBytes 4 9)) (objAt 0x8000 5) =
        true ∧ base.ctrOk (64 * 5 + 50) = false) ∧
    (portTakes base 3 (wr1 0xD000 11 [1]) (objAt 0xD000 11) = true ∧ (withCtx base).sch.ctxs ≠ [] ∧ base.sch.ctxs = []) ∧
    (portTakes base 3 (recAcc 0x3F10 11 retRec) (objAt 0x3F10 11) = true ∧ (base.pot 1).mig = none ∧ (base.pot 1).queue = [] ∧
      (base.pot 1).chooseSlot = some 8 ∧ (base.pot 1).mover 5 2 = none ∧ (base.pot 1).deadRank (5, 2) = false ∧
      (base.pot 1).failHome (5, 2) = base.pot 1 ∧ deadPot.failHome (5, 2) = deadPot ∧ takenPot.failHome (5, 2) = takenPot ∧
      (deadPot.deadRank (5, 2) = true ∧ deadPot.queue = [] ∧ deadPot.mover 5 2 = none ∧ deadPot.chooseSlot.isSome = true) ∧
      (takenPot.mig = none ∧ takenPot.queue = [] ∧ takenPot.mover 5 2 = none ∧ takenPot.anyFree = false ∧
        takenPot.emptied 2 = false) ∧
      ((withPot { queue := [(5, 2)] }).pot 1).queue.contains (5, 2) = true ∧
      ((withPot { mig := some ⟨6, 2, 8, 0, false⟩ }).pot 1).mig = some ⟨6, 2, 8, 0, false⟩ ∧
      ((withPot { mig := some ⟨6, 2, 8, 0, false⟩ }).pot 1).mover 5 2 = none) := by decide +kernel

def chanAt (ch st : Nat) (p : Pot := {}) : State := withPot { p with chans := [(ch, { state := st })] }
def lentPot : Pot := { slots := (List.range 8).map fun i => (i, { borrowed := true }) }
def fullPot : Pot := { slots := [(0, { state := 2 }), (8, { state := 2 })] }

theorem wit_retrain :
    (portTakes (chanAt 2 3) 3 (trigAcc 0x4102 14) (objAt 0x4102 14) = true ∧ (chanAt 2 3).served ((chanAt 2 3).stackDuty 1) = true ∧
      ((chanAt 2 3).chan 1 2).state = 3) ∧
    ((chanAt 30 1 lentPot).pot 1).lent 30 = true ∧ ((chanAt 31 1).pot 1).lent 31 = false ∧
    ((chanAt 2 1 fullPot).pot 1).standSpare = none ∧ ((chanAt 2 1).pot 1).standSpare = some 30 ∧
    base.param 0x4F00 14 ≠ 0 ∧ ((chanAt 30 1 lentPot).chan 1 30).deferred = none ∧
    ((withPot { lentPot with chans := [(30, { deferred := some 7 })] }).chan 1 30).deferred = some 7 ∧
    (withPot { chans := [(2, { asked := List.range 5 })] }).newPoint 1 2 = none ∧ base.periodOver 1 2 = false ∧
    { chanAt 2 1 with clk := { now := 10 ^ 16 } }.since 0 (secR (base.param 0x4F00 14)) = true := by decide +kernel

theorem wit_counters :
    portTakes base 3 (wr1 0x9401 3 (beBytes 8 (2 ^ 63))) (objAt 0x9401 3) = true ∧
    portTakes base 3 (trigAcc 0x9401 10) (objAt 0x9401 10) = true ∧
    portTakes base 3 (wr1 0x9201 1 (beBytes 8 (2 ^ 56 + 5 * 2 ^ 32 + 2 ^ 15))) (objAt 0x9201 1) = true ∧
    portTakes base 3 (trigAcc 0x9201 4) (objAt 0x9201 4) = true ∧
    base.ldl.stage = 6 ∧ base.pwr.parked = false ∧ base.clk.ftc % (base.param 0x9000 1 * 1200) = 0 ∧
    base.obs.snapFtc = none ∧ ((List.range 64).all fun p => (base.grantOf p).isNone) = true := by decide +kernel

def chalState : State := { base with obs := { base.obs with chal := [(2 ^ 20, ⟨List.replicate 48 1, 0⟩)] } }
def respRec : List Byte := [2, 64, 0, 0] ++ beBytes 4 3600 ++ List.replicate 192 0
def otherUnlock (s : State) : State :=
  { s with obs := { s.obs with unlock := some { owner := 7, level := 2, scope := 64, ends := 10 ^ 12 } } }

theorem wit_debug_taken : Taken base (.port 3) { kind := 1, idx := 0x8F00, sub := 1, loose := true }
    { kind := 1, idx := 0x8F00, sub := 1, loose := true, len := 65536 } := by
  exact ⟨by decide +kernel, by decide, by decide +kernel, by decide, by decide, rfl⟩

theorem wit_debug :
    (match base.checkRead false 0x8F00 1 0 65536 with
     | .ok o => decide (o = ⟨0x8F00, .one, 1, .blob, .ro, 0, 0, 48, 0⟩)
     | .error _ => false) = true ∧
    { base with obs := { base.obs with refuse := 10 ^ 12 } }.clk.now < 10 ^ 12 ∧ base.obs.refuse ≤ base.clk.now ∧
    portTakes chalState 3 (recAcc 0x8F00 2 respRec) (objAt 0x8F00 2) = true ∧ chalState.obs.unlock = none ∧
    portTakes (otherUnlock chalState) 3 (recAcc 0x8F00 2 respRec) (objAt 0x8F00 2) = true ∧
    portTakes (unlocked base) 3 (trigAcc 0x8F00 5) (objAt 0x8F00 5) = true ∧
    portTakes (otherUnlock base) 3 (trigAcc 0x8F00 5) (objAt 0x8F00 5) = true ∧
    { unlocked base with clk := { now := 10 ^ 12 } }.obs.unlock.map Unlock.ends = some (10 ^ 12) := by decide +kernel

def ctrRec : List Byte := beBytes 4 323 ++ beBytes 4 9
def tcRec (a : Nat) : List Byte := [0, 5] ++ beBytes 1 a ++ [0]
def bpRec : List Byte := [0, 1, 2, 1] ++ beBytes 4 0xFF ++ [0, 9, 0, 0]
def afRec : List Byte := [1, 0, 3, 1]
def handTile (st : Nat) : State :=
  { unlocked base with tl := { tiles := [(5, { c := { state := st, nbundle := 1, byHand := decide (st = 4) } })] } }

theorem wit_hand :
    portTakes (handTile 2) 3 (recAcc 0x8F00 7 ctrRec) (objAt 0x8F00 7) = true ∧
    (handTile 2).mayControl (2 ^ 20) (some ((handTile 2).tile 5).c.owner) = true ∧
    [0, 1, 6].contains ((handTile 2).tile 5).c.state = false ∧ ((handTile 3).tile 5).c.failing = none ∧ (handTile 2).awake 0 = true ∧
    portTakes (handTile 2) 3 (recAcc 0x8F00 7 (beBytes 4 (64 * 5 + 50) ++ beBytes 4 9)) (objAt 0x8F00 7) = true ∧
    (handTile 2).ctrOk (64 * 5 + 50) = false ∧ (handTile 2).ctrOk 323 = true ∧
    (gated (handTile 2)).awake 0 = false ∧ ((gated (handTile 2)).dom 0).held = [] ∧ (crowded (handTile 2)).awake 0 = false ∧
    ((crowded (handTile 2)).dom 0).held.length = 16 ∧ (otherUnlock (handTile 2)).mayControl (2 ^ 20) (some 0) = false ∧
    portTakes (handTile 3) 3 (recAcc 0x8F00 8 (tcRec 1)) (objAt 0x8F00 8) = true ∧ natAt (tcRec 1) 2 1 = 1 ∧
    portTakes (handTile 4) 3 (recAcc 0x8F00 8 (tcRec 2)) (objAt 0x8F00 8) = true ∧
    portTakes (unlocked base) 3 (recAcc 0x8F00 10 bpRec) (objAt 0x8F00 10) = true ∧
    portTakes (unlocked base 1) 3 (recAcc 0x8F00 10 bpRec) (objAt 0x8F00 10) = true ∧
    portTakes (unlocked base) 3 (recAcc 0x8F00 12 afRec) (objAt 0x8F00 12) = true ∧
    (unlocked base).mayControl (2 ^ 20) none = true ∧ (unlocked base 1).mayControl (2 ^ 20) none = false := by decide +kernel

/-! ### The stacked memory -/

/-- A state whose stack 1 has one pseudo-channel 4 as given. -/
def withPc (x : Pc) (p : Pot := {}) (s : State := base) : State := withPot { p with pcs := [(4, x)] } s
/-- A state after long. -/
def late (s : State) : State := { s with clk := { now := 10 ^ 16, ftc := 120000000 } }
def req0 : PotReq :=
  { id := 5, write := false, gran := 9, data := [], level := 1, who := [{ cls := some 2, level := 1 }], tag := 3, at_ := 0, sid := 1, bank := 2, row := 7, col := 3 }
def wr0 : PotReq := { req0 with write := true, issued := some 100 }

/-- A granule that stack 1 serves. -/
def bpa1 : Nat := 64 * base.granAt ⟨1, 4, 1, 2, 7, 3⟩

/-- Its merge entry while the merge read is under way. -/
def merge1 : MergeEnt := { gran := bpa1 / 64, data := [], mask := 1, last := 0, who := [] }

theorem wit_requests :
    (1 < base.build.S ∧ bpa1 % 64 = 0 ∧ base.inSpace (64 * 2 ^ 50) 64 = false ∧ base.inSpace bpa1 64 = true ∧ base.live = true ∧
      base.places (bpa1 / 64) true = [⟨1, 4, 1, 2, 7, 3⟩] ∧ base.places (bpa1 / 64) false = [⟨1, 4, 1, 2, 7, 3⟩] ∧
      base.poisoned (bpa1 / 64) = false ∧ (base.poisonGranule (bpa1 / 64)).poisoned (bpa1 / 64) = true) ∧
    (base.standing .background = some {} ∧ base.build.hasOrigin .background = true ∧ base.lost (bpa1 / 64) = false ∧
      base.xbarShut 1 = false ∧ ((withPc { fifo := [req0] }).pc 1 4).fifo ≠ [] ∧
      ((withPc { fifo := [req0] }).pc 1 4).fifo.length < 8 ∧ 8 ≤ ((withPc { fifo := List.replicate 8 req0 }).pc 1 4).fifo.length) ∧
    (((withPc { merges := [merge1] }).pc 1 4).mergeOf (bpa1 / 64) = some merge1 ∧ merge1.known = false ∧
      ((withPc { merges := [{ merge1 with back := true }] }).pc 1 4).mergeOf (bpa1 / 64) = some { merge1 with back := true } ∧
      ({ merge1 with back := true } : MergeEnt).known = true ∧ ((withPc { merges := [merge1] }).pc 1 4).fifo = [] ∧
      (base.pc 1 4).mergeOf (bpa1 / 64) = none ∧ (base.pc 1 4).fifo = [] ∧ base.param 0x3F00 2 = 1) ∧
    ((withPc { pool := [wr0] }).live = true ∧ (withPc { pool := [wr0] }).build.hasPc 1 4 = true ∧
      (((withPc { pool := [wr0] }).pc 1 4).pool.find? fun q => decide (q.id = 5) && q.write) = some wr0 ∧
      wr0.issued = some 100 ∧ ((withPc { pool := [wr0] }).pc 1 4).fifo = [] ∧ ((withPc { pool := [wr0] }).pc 1 4).own = [] ∧
      100 + (withPc { pool := [wr0] }).tpar 6 + 2 * (withPc { pool := [wr0] }).tpar 7 ≤ (withPc { pool := [wr0] }).mclk) := by
  decide +kernel

theorem wit_room : ∀ r : PotReq, base.poolRoom (base.pc 1 4) r = true := by
  intro r
  have h1 : (base.pc 1 4).pool = [] := by decide +kernel
  simp [State.poolRoom, h1]

def polS : State := (withPc { pool := [req0] }).setParam 0x3F00 2 1
def known9 : MergeEnt := { gran := 9, data := List.replicate 64 1, mask := 2 ^ 64 - 1, last := 0, who := [] }
def mergeS : State := withPc { merges := [known9] }

theorem wit_merge_room : ∀ r : PotReq, mergeS.poolRoom (mergeS.pc 1 4) r = true := by
  intro r
  have h1 : (mergeS.pc 1 4).pool = [] := by decide +kernel
  simp [State.poolRoom, h1]

theorem wit_aged_and_merged :
    (polS.live = true ∧ polS.param 0x3F00 2 = 1) ∧
    (mergeS.live = true ∧ (mergeS.pc 1 4).mergeOf 9 = some known9 ∧ known9.mask = 2 ^ 64 - 1 ∧
      known9.last + mergeS.param 0x3F10 7 ≤ mergeS.mclk ∧ (mergeS.pc 1 4).merges.length < 28 ∧ (mergeS.pc 1 4).fifo = [] ∧
      (mergeS.pc 1 4).own = [] ∧ ((mergeS.places 9 true).find? fun z => decide (z.st = 1 ∧ z.pc = 4)) = none) ∧
    (28 ≤ ((withPc { merges := List.replicate 28 known9 }).pc 1 4).merges.length ∧
      ((withPc { merges := List.replicate 28 known9 }).pc 1 4).merges.find? MergeEnt.known = some known9) := by decide +kernel

/-- One request in a pool whose bank is as given. -/
def busS (b : Bank) (down : Bool := false) : State := withPc { pool := [req0], banks := [(18, b)], ranks := [(1, { down := down })] }

theorem wit_bus :
    (busS {}).issuable 1 4 = [(req0, .act)] ∧ (busS { row := some 7 }).issuable 1 4 = [(req0, .col)] ∧
    (busS { row := some 8 }).issuable 1 4 = [(req0, .pre)] ∧ (busS {} true).issuable 1 4 = [(req0, .exit)] ∧
    ((busS {}).pot 1).state = 2 ∧ (busS {}).awake 65 = true ∧ (busS {}).levelNow ((busS {}).pc 1 4) req0 = 1 ∧
    (busS {}).refreshFirst 1 ((busS {}).pc 1 4) = false ∧ ((busS {}).pc 1 4).calm = true ∧ (busS { row := some 7 }).refreshFirst 1 ((busS {}).pc 1 4) = false ∧
    ((busS {}).arbAt 3 (64 * 1 + 4)).freeze = 0 ∧ (busS {}).live = true ∧
    (({ busS {} with arb := [(akey 3 68, { freeze := 4 })] }).arbAt 3 68).freeze ≠ 0 ∧
    (({ busS {} with arb := [(akey 3 68, { freeze := 4 })] }).arbAt 3 68).holder = none ∧
    (({ busS {} with arb := [(akey 3 68, { freeze := 4, holder := some 1 })] }).arbAt 3 68).holder = some 1 ∧
    (((withPc { alert := some 100, hist := [⟨90, 2, 18, 7, false, none⟩] }).pc 1 4).alert = some 100 ∧
      100 + 64 ≤ base.mclk ∧ ((withPc { alert := some base.mclk }).pc 1 4).alert = some base.mclk ∧
      ([⟨90, 2, 18, 7, false, none⟩, ⟨20, 1, 18, 0, false, none⟩] : List PastCmd).filter (fun k => decide (100 ≤ k.at_ + 64)) =
        [⟨90, 2, 18, 7, false, none⟩]) := by decide +kernel

def idleS (b : Bank) : State := withPc { banks := [(18, b)], debt := 3, refNext := 18 }
def specS : State := (idleS { row := some 7, spec := true }).setParam 0x3F00 10 1

/-- A bank whose next activate takes an RFM first. -/
def due3 : Bank := { raa := 200, next := some 3 }

theorem wit_banks :
    (idleS { row := some 7 }).live = true ∧ (idleS { row := some 7 }).build.hasPc 1 4 = true ∧
    ((idleS { row := some 7 }).pc 1 4).bank 18 = { row := some 7 } ∧
    (idleS { row := some 7 }).busFree ((idleS { row := some 7 }).pc 1 4) = true ∧ ((idleS { row := some 7 }).pc 1 4).debt < 8 ∧
    0 + (idleS { row := some 7 }).param 0x3F00 5 ≤ (idleS { row := some 7 }).mclk ∧
    ((idleS { row := some 7 }).pc 1 4).noHit 18 7 = true ∧ (idleS { row := some 7 }).mayClose { row := some 7 } = true ∧
    ((idleS { row := some 7 }).pc 1 4).calm = true ∧ (specS.pc 1 4).pool = [] ∧
    (specS.param 0x3F00 10 = 1 ∧ 0 + 1 < specS.raaMax 1 ∧ 7 + 1 < 16384 ∧ (specS.pc 1 4).bank 18 = { row := some 7, spec := true } ∧
      specS.mayClose { row := some 7, spec := true } = true ∧ (specS.pc 1 4).noHit 18 7 = true ∧
      0 + specS.param 0x3F00 5 ≤ specS.mclk) ∧
    (((busS { next := some 3 }).pc 1 4).bank 18 = { next := some 3 } ∧ req0.bankIx = 18 ∧
      (busS { next := some 3 }).busFree ((busS { next := some 3 }).pc 1 4) = true ∧
      ((idleS { next := some 3 }).pc 1 4).bank 18 = { next := some 3 } ∧ ((idleS { next := some 3 }).pc 1 4).pool = [] ∧
      (idleS { next := some 3 }).mayOpen ((idleS { next := some 3 }).pc 1 4) 18 = true ∧
      0 + 1 < (idleS { next := some 3 }).raaMax 1 ∧ (((idleS { next := some 3 }).pc 1 4).rank 1).down = false) ∧
    ((idleS due3).rfmDue 1 ((idleS due3).pc 1 4) 18 = true ∧ ((idleS due3).pc 1 4).bank 18 = due3 ∧
      ((idleS due3).pot 1).state = 2 ∧ (idleS due3).mayRefresh due3 = true) := by decide +kernel

/-- Stockpot 1 is gated. -/
def asleep65 (s : State) : State := { s with pwr := { s.pwr with doms := [(65, { state := 2 })] } }

theorem wit_refresh :
    (((idleS {}).pc 1 4).tick + ((idleS {}).pc 1 4).step ≤ 128 * (idleS {}).mclk ∧ ((idleS {}).pot 1).refreshes = true ∧
      ((asleep65 (idleS {})).pot 1).refreshes = true ∧ ((idleS {}).pc 1 4).calm = true ∧
      0 < ((idleS {}).pc 1 4).debt ∧ (idleS {}).mayRefresh (((idleS {}).pc 1 4).bank ((idleS {}).pc 1 4).refNext) = true ∧
      (idleS {}).issuable 1 4 = []) ∧
    (let r : PotReq := { req0 with level := 0, who := [{ cls := some 2, level := 0 }] };
      let s := withPc { pool := [r], debt := 3, refNext := 18 };
      s.issuable 1 4 = [(r, .act)] ∧ (s.pc 1 4).debt ≤ 4 ∧ s.awake 65 = true ∧
      s.levelNow (s.pc 1 4) r = 0) ∧
    ((idleS {}).busFree ((idleS {}).pc 1 4) = true ∧ (idleS {}).awake 65 = true ∧ (asleep65 (idleS {})).awake 65 = false ∧
      ((asleep65 (idleS {})).pot 1).state = 2) ∧
    (((idleS { row := some 7 }).pc 1 4).rank 1).down = false ∧ ((idleS { row := some 7 }).pc 1 4).pool = [] ∧
    (∀ i, i < 16 → (((idleS { row := some 7 }).pc 1 4).bank (16 * 1 + i)).row = none ∨
      (idleS { row := some 7 }).mayClose (((idleS { row := some 7 }).pc 1 4).bank (16 * 1 + i)) = true) ∧
    (((idleS { row := some 7 }).pc 1 4).rank 1).idle + (idleS { row := some 7 }).param 0x3F00 6 ≤ (idleS { row := some 7 }).mclk ∧
    base.polls 1 = true ∧
    (({ base with clk := { base.clk with ftc := base.param 0x3F10 5 * 1200000000 * 7 } }).clk.ftc %
        (base.param 0x3F10 5 * 1200000000) = 0 ∧ base.stk.errEdge = none) := by decide +kernel

/-- A codeword, and words with one, with two and with many symbols wrong. -/
def word0 : List Byte := encodeGranule (List.replicate 64 5)
/-- The words of `req0`'s granule as the lanes carry them. -/
def onLanes (w : List Byte) : List Byte := scramble (base.lanesOf 1 4) req0.bank req0.row req0.col w
def badWord : List Byte := List.range 72 |>.map fun i => BitVec.ofNat 8 (i * i * 7 + 3)
def read0 (passed merge : Bool) : PotReq := { req0 with issued := some 100, merge := merge, passed := passed }
def merge9 : MergeEnt := { gran := 9, data := [], mask := 1, last := 0, who := [] }
def readS (passed merge : Bool) : State :=
  withPc { pool := [read0 passed merge], merges := if merge then [merge9] else [] }
/-- The codeword of a granule that nothing has written. -/
def wordZ : List Byte := encodeGranule (List.replicate 64 0)

theorem wit_decodes :
    ((onLanes word0).length = 72 ∧ judgeWord (onLanes (onLanes word0)) none 0 = .clean ∧
      judgeWord (onLanes (onLanes (word0.set 3 0))) none 0 = .corrected [3] ∧
      judgeWord (onLanes (onLanes badWord)) none 0 = .uncorrectable ∧
      judgeWord (onLanes (onLanes poisonWord)) none 0 = .poisoned) ∧ (readS false false).inSpill 9 = false ∧
    (((readS false false).pc 1 4).pool.find? fun q => decide (q.id = 5) && !q.write && q.issued.isSome) =
      some { req0 with issued := some 100 } ∧
    100 + (readS false false).tpar 5 ≤ (readS false false).mclk ∧ ((readS false false).pc 1 4).erased = none ∧
    ((readS true false).pc 1 4).pool = [read0 true false] ∧ ((readS false true).pc 1 4).pool = [read0 false true] ∧
    ((readS false false).pc 1 4).fifo = [] ∧ ((readS false false).pc 1 4).own = [] ∧ req0.remap = none ∧
    ((readS false true).pc 1 4).mergeOf 9 = some merge9 ∧ ((readS false false).pc 1 4).mergeOf 9 = none ∧
    (readS false false).param 0x3F10 9 = 1 ∧
    decodedData (onLanes (onLanes wordZ)) none .clean = (readS false false).mread (64 * 9) 64 ∧
    decodedData (onLanes (onLanes word0)) none .clean ≠ (readS false false).mread (64 * 9) 64 := by decide +kernel

def laneWord (w : List Byte) : List Byte := scramble (base.lanesOf 1 4) 0 0 0 w

/-- The row that the patrol reads is remapped. -/
def elsewhere : State := withPc { remaps := [(3, { state := 2, sid := 0, bank := 0, row := 0, target := 11 })] }

theorem wit_patrol :
    (base.pot 1).patrolPlace 1 4 = some ⟨1, 4, 0, 0, 0, 0⟩ ∧ (base.pot 1).visibleRank 4 0 = some (4, 0) ∧
    base.mirroredAt (base.granAt ⟨1, 4, 0, 0, 0, 0⟩) = none ∧ base.awake 65 = true ∧ (asleep65 base).awake 65 = false ∧
    wordOk72 (laneWord word0) = true ∧ lostOf (laneWord word0) = 0 ∧ wordOk72 [] = true ∧ lostOf [] = 3 ∧
    judgeWord (laneWord (laneWord word0)) none 0 = .clean ∧ judgeWord (laneWord (laneWord (word0.set 3 0))) none 0 = .corrected [3] ∧
    judgeWord (laneWord (laneWord badWord)) none 0 = .uncorrectable ∧ (base.pc 1 4).erased = none ∧
    (base.pc 1 4).own = [] ∧ (base.pc 1 4).pool = [] ∧ base.places (base.granAt ⟨1, 4, 0, 0, 0, 0⟩) false = [⟨1, 4, 0, 0, 0, 0⟩] ∧
    (elsewhere.pot 1).patrolPlace 1 4 = some ⟨1, 4, 0, 0, 0, 0⟩ ∧
    (elsewhere.places (elsewhere.granAt ⟨1, 4, 0, 0, 0, 0⟩) false).contains ⟨1, 4, 0, 0, 0, 0⟩ = false ∧
    (elsewhere.pc 1 4).written (elsewhere.granAt ⟨1, 4, 0, 0, 0, 0⟩) = false ∧
    (base.pot 1).patrolPlace 1 61 = some ⟨1, 61, 0, 0, 0, 0⟩ ∧ (base.pot 1).visibleRank 61 0 = none ∧
    (base.pc 1 4).written (base.granAt ⟨1, 4, 0, 0, 0, 0⟩) = false ∧
    ((withPc { pool := [{ req0 with write := true }] }).pc 1 4).written 9 = true := by decide +kernel

def failing : State := withPc { rowUe := [((16 * 1 + 2) * 16384 + 7, 1)] }
def remapS (st : Nat) : State := withPc { remaps := [(3, { state := st, sid := 1, bank := 2, row := 7, target := 11 })] }
/-- The same entry on a spare pseudo-channel whose rank holds no visible rank. -/
def remapSpare : State := withPot { pcs := [(61, { remaps := [(3, { state := 3, sid := 1, bank := 2, row := 7, target := 11 })] })] }

theorem wit_remaps :
    (0 < mapGet 0 (failing.pc 1 4).rowUe ((16 * 1 + 2) * 16384 + 7) ∧ (failing.pc 1 4).remaps = [] ∧
      (failing.pot 1).moving 4 1 = false ∧
      ((List.range 8).find? fun i => decide ((mapGet {} (failing.pc 1 4).remaps i : Remap).state = 0)) = some 0 ∧
      (failing.chooseTarget 1 4).isSome = true ∧ failing.remapsUsed = []) ∧
    ((failing.pot 1).visibleRank 4 1 = some (4, 1) ∧ ((remapS 1).pot 1).visibleRank 4 1 = some (4, 1) ∧
      (∀ k, k < 16 → k ∈ List.range 16) ∧ 0 ∉ ({} : Remap).copied) ∧
    ((remapS 1).rowWrites 1 4 1 2 7 = false ∧ (remapS 1).served ((remapS 1).stackDuty 1) = true) ∧
    (remapSpare.pot 1).visibleRank 61 1 = none ∧
    (({ remapS 2 with ldl := { (remapS 2).ldl with stage := 5 } } : State).setParam 0x3F10 12 1).param 0x3F10 12 = 1 ∧
    ({ remapS 2 with ldl := { (remapS 2).ldl with stage := 5 } } : State).live = true := by decide +kernel

def migS (mark : Nat) : State :=
  withPot { mig := some ⟨6, 2, 8, mark, false⟩, slots := [(8, { state := 1, srcV := 6, srcSid := 2 })] }
def fillS : State :=
  withPot { fills := [⟨6, 2, 8, 5, true⟩], slots := [(8, { state := 1, srcV := 6, srcSid := 2 })] }
def rowWords : List (List Byte) := List.replicate 15 word0 ++ [[]]

/-- The last row is to be copied while a read of the rank waits. -/
def busyMig : State :=
  withPot { mig := some ⟨6, 2, 8, 262143, false⟩, slots := [(8, { state := 1, srcV := 6, srcSid := 2 })],
            pcs := [(6, { pool := [{ req0 with sid := 2 }] })] }

theorem wit_migration :
    ((migS 5).pot 1).mig = some ⟨6, 2, 8, 5, false⟩ ∧ ((migS 5).pot 1).rankOf 6 2 = (6, 2) ∧ ((migS 5).pot 1).fills = [] ∧
    (migS 5).rowWrites 1 6 2 (5 / 16384) (5 % 16384) = false ∧
    ((migS 5).pot 1).paused ⟨6, 2, 8, 5, false⟩ = false ∧ ((migS 5).pc 1 6).erased = none ∧
    (migS 262143).rowWrites 1 6 2 (262143 / 16384) (262143 % 16384) = false ∧
    ((migS 262143).pot 1).paused ⟨6, 2, 8, 262143, false⟩ = false ∧
    (fillS.pot 1).fills = [⟨6, 2, 8, 5, true⟩] ∧ (fillS.pot 1).mig = none ∧
    (migS 5).served ((migS 5).stackDuty 1) = true ∧ rowWords.length = 16 ∧ (∀ w ∈ rowWords, wordOk72 w = true) ∧
    ((migS 262143).pc 1 6).serves 2 = false ∧ (busyMig.pc 1 6).serves 2 = true ∧
    busyMig.rowWrites 1 6 2 (262143 / 16384) (262143 % 16384) = false ∧
    (busyMig.pot 1).mig = some ⟨6, 2, 8, 262143, false⟩ ∧ (busyMig.pot 1).rankOf 6 2 = (6, 2) ∧
    (fillS.pc 1 62).pool = [] ∧ (fillS.pc 1 62).own = [] := by decide +kernel

def goodMaps : List Nat := List.replicate 322 (2 ^ 64 - 1)
/-- Maps of a channel with no working setting: no CA lane passes, or two lanes of a PC fail. -/
def caMaps : List Nat := List.replicate 304 (2 ^ 64 - 1) ++ List.replicate 18 1
theorem wit_training_fit :
    (chanAt 2 0).served ((chanAt 2 0).stackDuty 1) = true ∧ goodMaps.length = 322 ∧ (∀ m ∈ goodMaps, m < 2 ^ 64) ∧
    ((chanAt 2 0).chan 1 2).state = 0 ∧ (∀ i, i < 18 → (chanAt 2 0).wideEnough (caBest goodMaps i).2 = true) ∧
    (chanAt 2 0).binFallback 1 = none ∧ (chanAt 2 0).wideEnough (caBest caMaps 3).2 = false := by decide +kernel

theorem good_passes (s : State) (h : s.wideEnough 64 = true) (l : Nat) (hl : l < 76) : s.lanePasses goodMaps l = true := by
  have hr : bestRun (2 ^ 64 - 1) 64 = (0, 64) := by decide +kernel
  have hg : ∀ i, i < 322 → goodMaps.getD i 0 = 2 ^ 64 - 1 := by
    intro i hi; simp only [goodMaps, List.getD_eq_getElem?_getD, List.getElem?_replicate, hi, if_true, Option.getD_some]
  have hb : readBest goodMaps l = (0, (0, 64)) := by
    have e : List.range 3 = [0, 1, 2] := rfl
    unfold readBest
    rw [e, hg (4 * l) (by omega), hr]
    simp only [List.foldl, Nat.add_zero, hg (4 * l) (by omega), hg (4 * l + 1) (by omega), hg (4 * l + 2) (by omega), hr]
    rfl
  have hw : writeBest goodMaps l = (0, 64) := by unfold writeBest; rw [hg (4 * l + 3) (by omega), hr]
  simp only [State.lanePasses, hb, hw, h, Bool.and_self]

theorem good_failing (s : State) (h : s.wideEnough 64 = true) (w j : Nat) (hj : j < 2) : s.badLanes goodMaps w j = [] := by
  unfold State.badLanes
  refine List.filter_eq_nil_iff.2 fun l hl => ?_
  have hl : l < 36 := List.mem_range.1 hl
  have hp : physLane w j l < 76 := by
    unfold physLane
    split
    · omega
    · split <;> omega
  simp [good_passes s h _ hp]

theorem wit_training_lanes :
    (∀ j, j < 2 → ((chanAt 2 0).badLanes goodMaps ((chanAt 2 0).repairAll 1 2 goodMaps 0xFFFFFF) j).length < 2) ∧
    (let s := withPot { chans := [(2, { state := 2, windows := 29 })] };
      s.splitTotal 1 2 goodMaps ≤ (s.chan 1 2).windows) ∧ ((chanAt 2 4).chan 1 2).state = 4 ∧
    (withPot { pcs := [(4, { shut := base.mclk + 200 })] }).inExit 1 2 = true ∧ (List.replicate 152 0).length = 152 := by
  refine ⟨fun j hj => ?_, ?_, by decide +kernel⟩
  · rw [good_failing _ (by decide +kernel) _ _ hj]; decide
  · have h : (withPot { chans := [(2, { state := 2, windows := 29 })] }).wideEnough 64 = true := by decide +kernel
    have e : List.range 2 = [0, 1] := rfl
    simp only [State.splitTotal, e, List.map, good_failing _ h _ 0 (by decide), good_failing _ h _ 1 (by decide)]
    decide +kernel

def sweepS : State := (chanAt 2 6).setParam 0x4102 11 (2 ^ 62 + 60 * 2 ^ 50 + 2 ^ 46 + 2 ^ 29)
def sweepMaps : List Nat := List.replicate 282 (2 ^ 64 - 1)

theorem wit_sweep :
    sweepS.live = true ∧ sweepMaps.length = 282 ∧ (sweepS.chan 1 2).state = 6 ∧ bit (sweepS.param (0x4000 + 256 * 1 + 2) 11) 29 = true := by
  decide +kernel

/-- A clean histogram: 20 empty bins. -/
def bins0 : List Nat := List.replicate 12 100000 ++ List.replicate 20 0
def badBins : List Nat := List.replicate 32 100000

def histS : State := withPot { chans := [(2, { centre := [(7, 22)] })] }

theorem wit_histogram :
    histS.param 0x4F00 6 ≤ bins0.foldl (· + ·) 0 ∧ (bins0.map (· / 100000)).foldl (· + ·) 0 < histS.param 0x4F00 6 ∧
    histS.since 959999999 (usR (histS.param 0x4F00 8)) = false ∧
    bins0.length = 32 ∧ (histS.chan 1 2).state = 1 ∧ histS.param 0x4F00 7 ≤ bins0.foldl (· + ·) 0 ∧
    (let gap := circularGap bins0 (bins0.foldl (· + ·) 0 / 2 ^ histS.param 0x4F00 9);
      histS.wideEnough gap.2 = true ∧ runMid gap = 22 ∧
      (tapDist 22 (mapGet (elRd ((histS.chan 1 2).set.lane 7)) (histS.chan 1 2).centre 7)).natAbs ≤ histS.param 0x4F00 5) ∧
    histS.wideEnough (circularGap badBins (badBins.foldl (· + ·) 0 / 2 ^ histS.param 0x4F00 9)).2 = false ∧
    histS.param 0x4F00 7 ≤ badBins.foldl (· + ·) 0 ∧ 1 < histS.param 0x4F00 12 := by decide +kernel

def pointed : Chan := { state := 1, points := [(1, { valid := true, lanes := [(7, 0x9090)], ca := [(3, 40)] })], target := [(7, 40)], takenAt := [(7, 959999000)] }
def tapS : State := withPot { chans := [(2, pointed)], temp := 45 }

theorem wit_taps :
    tapS.clk.ftc % 1200000 = 0 ∧ (tapS.chan 1 2) = pointed ∧ mapFind pointed.moved 7 = none ∧
    tapS.readTarget pointed 45 7 = some 40 ∧ (pointed.lerpLane 45 7).isSome = true ∧ pointed.lerpCa 45 3 = some 40 := by
  decide +kernel

def lentSlots : Map SpareSlot := (List.range 8).map fun i => (i, { borrowed := true })
def standCh (ph : Nat) : Chan := { state := if ph = 0 then 3 else 5 }
def standS (ph : Nat) (t : Option Bool := none) (w : Option Nat := none) : State :=
  withPot { chans := [(2, { standCh ph with test := t }), (30, { deferred := w })], stands := [{ ch := 2, spare := 30, phase := ph }], slots := lentSlots }
def splitS : State := withPot { chans := [(2, { state := 2 })] }
def shutS : State := withPot { chans := [(2, { state := 2 })], pcs := [(4, { shut := 10 ^ 18 })] }

theorem wit_channels :
    (splitS.chan 1 2).state = 2 ∧ (shutS.chan 1 2).state = 2 ∧ shutS.mclk < (shutS.pc 1 4).shut ∧
    ((chanAt 2 1).chan 1 2).state = 1 ∧
    (((standS 0).pot 1).stands.find? fun n => decide (n.phase = 0) && decide ((standS 0).fillMark n = 1048576)) =
      some { ch := 2, spare := 30 } ∧
    (((standS 2).pot 1).stands.find? fun n => decide (n.phase = 2) && (n.dirty.map Prod.fst).all ((standS 2).returned n) &&
      !(standS 2).standWrites 1 n) = some { ch := 2, spare := 30, phase := 2 } ∧
    ((standS 0).chan 1 2).test = none ∧ ((standS 0 (some true)).chan 1 2).test = some true ∧
    ((standS 0 (some false)).chan 1 2).test = some false ∧ ((standS 2).chan 1 30).deferred = none ∧
    ((standS 2 none (some 7)).chan 1 30).deferred = some 7 ∧ ((standS 2 none (some 7)).chan 1 30).state = 1 ∧
    (∀ j, j < 2 → (splitS.pc 1 (2 * 2 + j)).calm = true) ∧ splitS.splitTurn = some (1, 2) ∧ splitS.stk.splitAt = none ∧ splitS.served (splitS.stackDuty 1) = true := by decide +kernel

/-! ### Power, starts, firmware and events -/

/-- A domain in a state with an idle time, long ago. -/
def domS (d : Nat) (x : Domain) (s : State := base) : State := { s with pwr := { s.pwr with doms := [(d, x)] } }
def idleD (d st : Nat) (s : State := base) : State := domS d { state := st, idle := some 0 } s
def tilesAt (k st : Nat) (s : State := base) : State := { s with tl := { s.tl with tiles := [(k, { c := { state := st } })] } }

def enteringD (d st : Nat) (s : State := base) : State := domS d { state := st, idle := some 0, entering := true } s

theorem wit_step_down :
    (base.build.hasDomain 5 = true ∧ (idleD 5 0).live = true ∧ 0 < (idleD 5 0).domDeepest 5 ∧
      (idleD 5 0).since 0 ((idleD 5 0).idleTime 1) = true ∧ (idleD 5 0).domIdle 5 = true ∧ ((idleD 5 0).dom 5).wake = none ∧
      ((idleD 5 0).dom 5).entering = false ∧ (enteringD 5 0).domIdle 5 = true ∧ ((enteringD 5 0).dom 5).entering = true ∧
      ((enteringD 5 0).dom 5).idle = some 0 ∧ ((enteringD 5 0).dom 5).wake = none ∧ (enteringD 5 0).pwr.frozen = false) ∧
    ((idleD 66 1).build.hasDomain 66 = true ∧ 1 < (idleD 66 1).domDeepest 66 ∧
      (idleD 66 1).since 0 ((idleD 66 1).idleTime 2) = true ∧ (idleD 66 1).domIdle 66 = true ∧ ((idleD 66 1).pot 2).state = 2) ∧
    (let s := tilesAt 161 4 (enteringD 5 3);
      3 < s.domDeepest 5 ∧ s.since 0 (s.idleTime 4) = true ∧ s.domIdle 5 = true ∧ s.mayP4 5 = true ∧ s.live = true ∧
      (s.tile 161).c.state = 4 ∧ (s.tile 161).x.mmaWait = none) ∧
    (let s := tilesAt 161 3 (enteringD 5 0); s.domIdle 5 = false ∧ s.since 0 (s.idleTime 1) = true ∧ 0 < s.domDeepest 5) ∧
    (let s := enteringD 66 1; s.domIdle 66 = true ∧ 1 < s.domDeepest 66 ∧ s.since 0 (s.idleTime 2) = true) ∧
    (let s := tilesAt 161 3 (idleD 5 1); s.domIdle 5 = false ∧ s.since 0 (s.idleTime 2) = true ∧ 1 < s.domDeepest 5 ∧ (s.dom 5).wake = none) := by
  decide +kernel

/-- A domain that wakes, where the code on pwr_vid is confirmed. -/
def wakeS (d : Nat) (held : List HeldSig := []) (s : State := base) (ok : Bool := true) : State :=
  let s := domS d { state := 2, wake := some 5, held := held } s
  { s with pwr := { s.pwr with vidOk := ok } }
def sig9 : HeldSig := { addr := 323, amount := 9, part := 0, path := 3 }
def savedTile : State :=
  let s := tilesAt 161 6 (domS 5 { state := 4, wake := some 5 })
  { s with
    pwr := { s.pwr with vidOk := true }
    tl := { s.tl with saves := [(161, { r := {}, cr := {}, c := { state := 4 }, forP4 := true })] } }

theorem wit_exit :
    ((wakeS 5).live = true ∧ ((wakeS 5).dom 5).wake = some 5 ∧ 5 ≤ (wakeS 5).clk.now ∧ (wakeS 5).tl.saves = [] ∧
      (wakeS 5).pwr.vidOk = true ∧ ((wakeS 5).dom 5).wait = [] ∧ (wakeS 5).pwr.frozen = false ∧ ((wakeS 5).dom 5).state = 2 ∧
      (wakeS 5 [] base false).pwr.vidOk = false) ∧
    ((wakeS 66 [] (withPot { state := 3 })).build.hasDomain 66 = true) ∧
    (savedTile.tl.saves.length = 1 ∧ (savedTile.tile 161).c.state = 6 ∧ (savedTile.dom 5).held = [] ∧
      (savedTile.dom 5).state = 4 ∧ savedTile.pwr.vidOk = true ∧ (savedTile.dom 5).wake = some 5 ∧ 161 / 32 = 5) ∧
    (let s := wakeS 0 [sig9] (syn 2); (s.dom 0).held = [sig9] ∧ sig9.op = none ∧ sig9.hand = false ∧
      s.sigAccepts 323 0 = true ∧ (s.tile (323 / 64)).c.state ≠ 6 ∧ s.tl.saves = []) := by decide +kernel

theorem wit_resets :
    (portTakes base 3 (trigAcc 0xA157 4) (objAt 0xA157 4) = true ∧ portTakes base 3 (trigAcc 0xA105 4) (objAt 0xA105 4) = true ∧
      (base.dom 5).drain = none ∧ base.domIdle 5 = true) ∧
    (let s := tilesAt 161 3; portTakes s 3 (trigAcc 0xA105 4) (objAt 0xA105 4) = true ∧ s.domIdle 5 = false) ∧
    (let s := domS 5 { drain := some 4 }; portTakes s 3 (trigAcc 0xA105 4) (objAt 0xA105 4) = true ∧ (s.dom 5).drain = some 4 ∧
      s.live = true ∧ s.since 4 (usR (s.param 0xA000 9)) = true ∧ s.domIdle 5 = true) := by decide +kernel

def lockedPll (d : Nat) : State := { base with sch := { base.sch with disc := { state := d } } }

theorem wit_parking :
    (portTakes base 3 (trigAcc 0xA000 14) (objAt 0xA000 14) = true ∧ base.sch.ctxs = [] ∧ base.pwr.parked = false ∧
      portTakes (withCtx base { state := 3 }) 3 (trigAcc 0xA000 14) (objAt 0xA000 14) = true ∧
      (∃ p ∈ (withCtx base { state := 3 }).sch.ctxs, p.2.state ≠ 0) ∧
      portTakes { base with pwr := { base.pwr with parked := true } } 3 (trigAcc 0xA000 14) (objAt 0xA000 14) = true) ∧
    ((lockedPll 1).clk.locked = true ∧ (lockedPll 1).sch.disc.state = 1 ∧ base.sch.disc.state ≠ 1 ∧ base.sch.disc.state ≠ 2) ∧
    (({ base with pin := { base.pin with good := [true, false, true] } } : State).pin.good.getD 1 false = false ∧
      ({ base with pwr := { base.pwr with keep := 1 } } : State).pwr.keep ≠ 0) ∧
    (base.pwr.mainFail = false ∧ base.pin.good.getD 1 false = true ∧ base.pin.en.getD 1 false = true ∧ base.pwr.keep ≠ 1 ∧
      base.clk.locked = true) := by decide +kernel

/-- `base`'s ports have nothing staged. -/
theorem base_egressIdle : base.egressIdle := by
  have h : ∀ p, p < base.build.A → (base.port p).up = true → (base.port p).queues.flatten = [] := by decide +kernel
  exact h

def coldS (p : Pins) (l : Ldl) (locked : Bool := true) : State :=
  { base with pin := p, ldl := l, clk := { base.clk with locked := locked }, pwr := { base.pwr with parked := true } }
def rising (n : Nat) (k : StartKind) (st : Nat) : State :=
  coldS { start := some k, good := (List.range 3).map fun r => decide (r < n), en := (List.range 3).map fun r => decide (r ≤ n),
          bins := List.replicate 8 7 } { stage := st }

theorem wit_cold :
    (({ base with pin := { base.pin with coldN := false } } : State).pin.coldN = false ∧
      (List.replicate 8 7).length = base.build.S) ∧
    (let s := coldS { start := some .cold } { stage := 0, stageAt := 959999999 } false;
      s.clk.locked = false ∧ s.since s.ldl.stageAt (usR 1000 + 1) = false) ∧
    (let s := coldS { start := some .cold } { stage := 0 } false; s.since s.ldl.stageAt (usR 1000 + 1) = true) ∧
    (let s := coldS { start := none } { stage := 6 } false; s.clk.locked = false ∧ s.ldl.stage ≠ 0 ∧ s.pin.start = none) ∧
    (let s := coldS { start := some .cold, good := [true, true, false], en := [true, true, false] } { stage := 4 };
      s.awaitsRails = true ∧ s.pin.goodAt.length = 3 ∧ s.pin.en = (List.range 3).map (fun r => decide (r ≤ 1)) ∧
      s.pin.good = (List.range 3).map (fun r => decide (r ≤ 1)) ∧ s.since (s.pin.goodAt.getD 1 0) (usR 10) = true) ∧
    ((rising 1 .cold 4).pin.good = (List.range 3).map (fun r => decide (r < 1)) ∧
      (rising 1 .cold 4).pin.en = (List.range 3).map (fun r => decide (r ≤ 1))) ∧
    (let s := { rising 2 .cold 4 with pin := { (rising 2 .cold 4).pin with bins := [7, 0, 7, 7, 7, 7, 7, 7] } };
      s.awaitsRails = true ∧ ((List.range s.build.S).find? fun st => decide (s.pin.bins.getD st 0 = 0)) = some 1) ∧
    ((rising 1 .cold 4).awaitsRails = true ∧ base.awaitsRails = false ∧ (rising 1 .cold 4).pin.en.getD 1 false = true ∧
      (rising 1 .cold 4).pin.good.getD 1 false = false ∧
      (rising 1 .cold 4).since (rising 1 .cold 4).pin.enAt (usR ((rising 1 .cold 4).param 0x2000 5)) = true) ∧
    ((rising 2 .cold 4).awaitsRails = true ∧ (rising 2 .cold 4).pin.good = [true, true, false] ∧
      (rising 2 .cold 4).pin.en = [true, true, true] ∧ (∀ st, st < 8 → (rising 2 .cold 4).pin.bins.getD st 0 ≠ 0)) := by
  decide +kernel

theorem wit_warm :
    portTakes base 3 (trigAcc 0x2000 2) (objAt 0x2000 2) = true ∧
    (portTakes { base with pwr := { base.pwr with trip := true } } 3 (trigAcc 0x2000 2) (objAt 0x2000 2) = true) ∧
    (let s := { base with pwr := { base.pwr with mainFail := true } };
      portTakes s 3 (trigAcc 0x2000 2) (objAt 0x2000 2) = true ∧ s.pwr.mainFail = true ∧ s.pin.start = none) ∧
    (base.pin.good = [true, true, true] ∧ base.pwr.parked = false ∧ base.clk.locked = true ∧ base.pin.reached = true ∧
      base.ldl.stage ≠ 255 ∧ base.pwr.coldOnly = false ∧ base.pwr.trip = false ∧ base.pin.start = none ∧
      (∀ r, r < 2 → base.since (base.pin.goodAt.getD r 0) (usR 10) = true)) ∧
    (let s := { base with pin := { base.pin with start := some .warmPin } };
      portTakes s 3 (trigAcc 0x2000 2) (objAt 0x2000 2) = true ∧ s.pin.start ≠ none) ∧
    (let s := { base with pin := { base.pin with good := [false, false, false] } };
      s.pin.start = none ∧ s.pwr.mainFail = false ∧ s.clk.locked = true ∧ s.pwr.parked = false) ∧
    (let s := { base with clk := { base.clk with locked := false } };
      s.pin.start = none ∧ s.pwr.mainFail = false ∧ s.clk.locked = false ∧ s.pwr.parked = false) ∧
    (let s := { coldS { start := some .warmPin } { stage := 6 } with pwr := { base.pwr with parked := true, mainFail := true } };
      s.pwr.parked = true ∧ s.pwr.mainFail = true ∧ s.clk.locked = true ∧ s.pin.good = [true, true, true] ∧
      (∀ r, r < 2 → s.since (s.pin.goodAt.getD r 0) (usR 10) = true)) ∧
    (let s := coldS { start := some .warmPin } { stage := 6 }; s.pwr.parked = true ∧ s.pin.en.length = 3) := by decide +kernel

/-- pwr_vid shows a code since an edge. -/
def vidS (v : Nat) (at_ : Nat := 0) : State := { base with pwr := { base.pwr with vid := v, vidAt := at_ } }

theorem wit_trivet :
    (base.build.domains.length + 1 = 89 ∧ base.clk.ftc % 12000 = 0 ∧ base.clk.ftc ≠ base.pwr.edge.getD 0) ∧
    (base.pwr.trip = false ∧ base.pwr.hotStack = false ∧ base.pwr.hotFail = false ∧
      ({ base with pwr := { base.pwr with trip := true } } : State).pwr.trip = true) ∧
    ((0 : Int) < 4 * (base.param 0xA200 1 : Int) ∧ (0 : Int) < 4 * (base.param 0xA200 2 : Int) ∧
      (∀ st, st < 8 → (base.pot st).tempBad = false ∧ 4 * (base.pot st).temp < 4 * (base.param 0xA200 3 : Int) ∧
        4 * (base.pot st).temp < 4 * (base.param 0xA200 4 : Int)) ∧ base.live = true ∧ base.pwr.hotDie = false) ∧
    (∀ d ∈ base.build.domains, (base.dom d).state ≤ 5) ∧ 4 * (base.param 0xA200 2 : Int) ≤ 4000 ∧
    (0 : Int) ≤ 4 * (base.param 0xA200 2 : Int) - 60 ∧ (0 : Int) ≤ 4 * (base.param 0xA200 4 : Int) - 60 ∧
    base.since base.pwr.vidAt (tclkR 600) = true ∧ base.pwr.vid < 80 ∧ 0 < base.param 0xA000 12 ∧
    (vidS 40 959999999).since (vidS 40 959999999).pwr.vidAt (tclkR 600) = false ∧
    ({ base with pwr := { base.pwr with parked := true } } : State).pwr.parked = true := by decide +kernel

/-- The least code stands between two codes that pwr_vid can hold, and may stand there itself. -/
theorem wit_floor : ∃ floor, floor = min 80 (max 20 Config.fusedVmin.toNat) ∧ (vidS 0).pwr.vid < floor ∧
    floor < (vidS 81).pwr.vid ∧ floor = (vidS floor).pwr.vid := by
  refine ⟨_, rfl, ?_, ?_, rfl⟩
  · show 0 < _
    omega
  · show _ < 81
    omega

def updS (st : Nat) (step : Nat := 0) : State :=
  { base with ldl := { base.ldl with
      updState := st, updStep := step,
      cores := [⟨0, 0, false⟩, ⟨0, 1, false⟩, ⟨0, 2, false⟩, ⟨0, 3, false⟩, ⟨0, 4, false⟩, ⟨2, 5, true⟩] } }
def imgS (n : Nat) : State := { base with ldl := { base.ldl with imgState := n } }
/-- The block runs slot A. -/
def slotA (p : Persist := {}) : State := { base with ldl := { base.ldl with slot := 0 }, per := p }

theorem wit_cores :
    ((base.core 5).duty = 5 ∧ (base.core 5).state ≠ 3 ∧ (base.core 2).duty ≠ 5 ∧
      (base.setCore 2 { base.core 2 with state := 3, newImage := false }).spareCore = some 5 ∧
      ((updS 0).setCore 5 ⟨3, 5, false⟩ |>.spareCore) = none) ∧
    (portTakes (imgS 0) 3 (trigAcc 0x2F00 3) (objAt 0x2F00 3) = true ∧
      portTakes (updS 2) 3 (trigAcc 0x2F00 3) (objAt 0x2F00 3) = true) ∧
    (portTakes (imgS 3) 3 (trigAcc 0x2F00 5) (objAt 0x2F00 5) = true ∧ (imgS 3).ldl.imgState = 3 ∧
      portTakes (imgS 0) 3 (trigAcc 0x2F00 5) (objAt 0x2F00 5) = true ∧ portTakes (updS 2) 3 (trigAcc 0x2F00 5) (objAt 0x2F00 5) = true ∧
      ((imgS 3).ldl.cores.zipIdx.find? fun p => decide (p.1.state = 1)) = some (⟨1, 5, false⟩, 5)) ∧
    ((updS 2 4).spareCore = some 5 ∧ (updS 2 4).coreOf 4 = some 4 ∧ (updS 2 4).quiet 4 = true ∧ (updS 2).coreOf 0 = some 0 ∧
      (updS 2).quiet 0 = true ∧ (updS 2).spareCore = some 5) ∧
    (let s := { updS 3 with clk := { base.clk with now := 10 ^ 16 } }; s.since s.ldl.probAt (secR (s.param 0x2F00 7)) = true) := by
  decide +kernel

def longS (s : State) : State := { s with clk := { s.clk with now := 10 ^ 16 } }

theorem wit_commits :
    (portTakes (slotA) 3 (trigAcc 0x2F00 8) (objAt 0x2F00 8) = true ∧
      portTakes (slotA { last := some 959999999 }) 3 (trigAcc 0x2F00 8) (objAt 0x2F00 8) = true ∧
      (slotA { last := some 959999999 }).since 959999999 (secR ((slotA).param 0x2F00 9)) = false ∧
      portTakes base 3 (trigAcc 0x2F00 8) (objAt 0x2F00 8) = true ∧ 2 ≤ base.ldl.slot) ∧
    (let s := longS (slotA); s.since s.stress.saved (secR (s.param 0xA300 3)) = true ∧ (s.coreOf 4).isSome = true) ∧
    (let s := longS (slotA { last := some 4, queued := true });
      s.since 4 (secR (s.param 0x2F00 9)) = true ∧ (s.coreOf 4).isSome = true ∧ s.ldl.fitted = true ∧
      s.ldl.slot < 2 ∧ s.per.stopped = false ∧ s.per.queued = true) := by decide +kernel

def libRec : List Byte := beBytes 1 0x11 ++ beBytes 3 1 ++ beBytes 4 0 ++ beBytes 8 128

theorem wit_library :
    portTakes base 3 (recAcc 0x2F00 15 libRec) (objAt 0x2F00 15) = true ∧ base.activeDesc 1 = none ∧
    portTakes (code2 false) 3 (recAcc 0x2F00 15 libRec) (objAt 0x2F00 15) = true ∧
    ((code2 false).activeDesc 1).map (fun d => (d.kind, d.rdonly, d.mirror)) = some (kCode, false, false) ∧
    ((code2 true).activeDesc 1).map (fun d => d.rdonly) = some true ∧ (code2 false).mem.poison = [] ∧
    (code2 false).stk.pots = [] := by decide +kernel

/-- Two records wait to be notified to requester 7. -/
def noteS (up : Bool) : State :=
  let s := (base.raise 5 0x0301 [1]).raise 5 0x0302 [2]
  let s := if up then s else { s with frm := { s.frm with ports := [] } }
  { s with dict := { s.dict with vals := mapPut s.dict.vals (okey 0xB000 6) 7 } }

theorem wit_events :
    (portTakes (noteS true) 3 (wr1 0xB000 4 (beBytes 8 1)) (objAt 0xB000 4) = true ∧
      (noteS true).served 4 = true ∧ (noteS true).mgtUp = true ∧ (noteS true).evt.newest = 2) ∧
    ((noteS true).live = true ∧ (noteS true).served 4 = true ∧ (noteS true).param 0xB000 6 ≠ 0 ∧ (noteS true).toNotify ≠ [] ∧
      (noteS true).toNotify.length ≤ 32 ∧ (noteS true).upPorts ≠ [] ∧ (noteS true).egressQ (noteS true).sysClass < 16 ∧
      ((noteS true).frm.ports.all fun p => decide (p.2.queues.length = 16)) = true) ∧
    ((noteS false).live = true ∧ (noteS false).toNotify ≠ [] ∧ (noteS false).upPorts = []) := by decide +kernel

/-! ### Tiles -/

def mvW (op d s1 s2 fn imm : Nat) : Nat := op * 2 ^ 58 + d * 2 ^ 53 + s1 * 2 ^ 48 + s2 * 2 ^ 43 + fn * 2 ^ 40 + imm
def arW (op bank z dt kd ga gb gs at_ bt ainc binc : Nat) : Nat :=
  op * 2 ^ 52 + bank * 2 ^ 51 + z * 2 ^ 50 + dt * 2 ^ 46 + kd * 2 ^ 42 + ga * 2 ^ 37 + gb * 2 ^ 32 + gs * 2 ^ 27 + at_ * 2 ^ 26 +
    bt * 2 ^ 25 + ainc * 2 ^ 24 + binc * 2 ^ 23
def veW (op d a b c msk fn imm : Nat) : Nat :=
  op * 2 ^ 66 + d * 2 ^ 61 + a * 2 ^ 56 + b * 2 ^ 51 + c * 2 ^ 46 + msk * 2 ^ 43 + fn * 2 ^ 40 + imm
def syW (op fn ctr gr tgt imm : Nat) : Nat := op * 2 ^ 59 + fn * 2 ^ 56 + ctr * 2 ^ 39 + gr * 2 ^ 34 + tgt * 2 ^ 24 + imm

/-- Registers with something in each kind. -/
def regs0 : TileRegs :=
  { dm := mapPutList 0 [] 64 ((List.range 300).map fun i => BitVec.ofNat 8 (i * 7 + 1)), g := [(1, 64), (2, 5), (3, 12288)],
    v := mapPutList 0 (mapPutList 0 [] 128 [0x3F800000, 0x40490FDB, 0xC0000000, 0x7FC00001]) 192 [0x40000000, 0x3F000000, 7],
    m := [(1, 0xFFFFFFFFFFFFFFF5), (2, 3)], l := [(2, 2)], ac := [(64, 5), (1030, 6)], ctr := [(3, 9)], pc := 4 }
/-- Tile 37 runs in partition 0 with ten bundles. -/
def runT (r : TileRegs := regs0) (c : TileCtl := {}) (x : TileAux := {}) (cr : TileCr := {}) (s : State := base) : State :=
  { s with tl := { tiles := [(37, { r := r, cr := cr, c := { c with state := 3, nbundle := 10 }, x := x })] } }

/-- A bundle issues, as a decision. -/
def runsB (s : State) (k : Nat) (b : Slots) : Bool :=
  s.live && decide (k < s.build.tiles) && s.issues k && decide ((s.tile k).r.pc < (s.tile k).c.nbundle) && b.illegal.isNone &&
    (s.stall k b).isNone && !s.breaks k && (s.bundleFault k b).isNone

theorem runs_of {s : State} {k : Nat} {b : Slots} (h : runsB s k b = true) : Runs s k b := by
  simp only [runsB, Bool.and_eq_true, decide_eq_true_eq, Option.isNone_iff_eq_none, Bool.not_eq_true'] at h
  obtain ⟨⟨⟨⟨⟨⟨⟨h1, h2⟩, h3⟩, h4⟩, h5⟩, h6⟩, h7⟩, h8⟩ := h
  exact ⟨h1, h2, h3, h4, h5, h6, h7, h8⟩

def mvWords : List Nat :=
  [mvW 1 4 1 0 0 0, mvW 2 0 1 2 1 64, mvW 3 5 2 0 0 63, mvW 4 0 1 2 0 4, mvW 5 6 0 0 0 77, mvW 6 7 1 2 1 0, mvW 7 0 1 0 0 9,
    mvW 8 9 2 0 0 0, mvW 9 8 2 0 0 1, mvW 10 3 1 0 0 8, mvW 11 0 1 1 0 16, mvW 12 0 1 0 0 32, mvW 13 9 0 0 0 3, mvW 14 9 0 0 0 9,
    mvW 15 2 1 0 0 5, mvW 16 0 2 0 0 0x11]

theorem wit_move : (∀ w ∈ mvWords, w < 2 ^ 64 ∧ runsB (runT) 37 { mv := w } = true) ∧ mvWords.map mvOp = (List.range 16).map (· + 1) := by
  decide +kernel

def mma8 : Nat := arW 1 1 0 11 1 1 3 0 1 1 1 1
def mmaBehind : State := runT (x := { arrayFree := 959999999, mmaWait := some (mma8, 64, 64, 0) })

theorem wit_array :
    runsB mmaBehind 37 { ar := mma8 } = true ∧ (mmaBehind.tile 37).x.arrayFree ≤ mmaBehind.clk.now ∧
    mmaBehind.clk.now < (mmaBehind.tile 37).x.arrayFree + mmaSpan mma8 (mmaBehind.duty 37) ∧
    ((runT).tile 37).x.mmaWait = none ∧
    runsB (runT) 37 { ar := mma8 } = true ∧ arOp mma8 = 1 ∧ ((runT).tile 37).x.arrayFree ≤ (runT).clk.now ∧
    runsB (runT (x := { arrayFree := 2 ^ 40 })) 37 { ar := mma8 } = true ∧ (runT).clk.now < 2 ^ 40 ∧
    runsB (runT) 37 { ar := arW 2 1 0 0 0 0 0 0 0 0 0 0 } = true ∧ mma8 < 2 ^ 56 ∧ arAinc mma8 = true ∧ arGa mma8 ≠ arGb mma8 := by
  decide +kernel

/-- The same where DET_STRICT is 0. -/
def laxT (c : TileCtl := {}) : State := (runT regs0 c).setParam 0x2000 1 0
def veWords : List Nat :=
  ([0x01, 0x02, 0x03, 0x04, 0x05, 0x06, 0x07, 0x08, 0x09, 0x0A, 0x0C, 0x0D, 0x0E, 0x0F, 0x10, 0x11, 0x12, 0x13, 0x14, 0x15,
    0x18, 0x19, 0x1D].map fun op => veW op 5 2 3 2 1 1 3) ++
    [veW 0x1C 5 2 3 0 1 0 1, veW 0x1A 5 2 3 0 1 0 5, veW 0x1B 5 2 3 0 1 0 5, veW 0x1C 5 2 3 0 1 0 5, veW 0x1E 5 2 3 0 1 0 0x11,
      veW 0x1A 5 2 3 0 1 0 0x101, veW 0x1B 5 2 3 0 1 0 3, veW 0x1F 5 2 3 0 1 0 0x11]

theorem wit_vector : ∀ w ∈ veWords, w < 2 ^ 72 ∧ runsB (runT) 37 { ve := w } = true := by decide +kernel

theorem wit_fexpa : runsB (laxT) 37 { ve := veW 0x0B 5 2 0 0 1 0 0 } = true := by decide +kernel

/-- A word of each sync operation: SUB, WAIT, BR, BRZ, LOOP, HALT, FENCE, SIG with and without a fence, HALT with a signal. -/
def syWords : List Nat :=
  [syW 2 0 3 0 0 4, syW 3 0 3 0 0 9, syW 5 0 0 0 7 0, syW 6 1 0 2 7 0, syW 7 2 0 0 7 0, syW 8 0 0 0 0 0, syW 4 0 0 0 0 0,
    syW 1 1 (64 * 37 + 5) 0 0 6, syW 1 0 (64 * 37 + 5) 2 0 0, syW 8 1 (64 * 37 + 5) 0 0 6]
def xd (kind handle ofs dm rtile rdm len sigc siga tm : Nat) : Nat :=
  kind * 2 ^ 252 + handle * 2 ^ 228 + ofs * 2 ^ 188 + dm * 2 ^ 170 + rtile * 2 ^ 159 + rdm * 2 ^ 141 + len * 2 ^ 120 + sigc * 2 ^ 103 +
    siga * 2 ^ 87 + tm * 2 ^ 55
def out37 : Nat := xd 3 0 0 64 38 128 64 0 0 0
/-- Tile 37 runs beside tile 38, which is in a state. -/
def pairT (st : Nat) (c : TileCtl := {}) : State :=
  let s := runT regs0 c
  { s with tl := { s.tl with tiles := s.tl.tiles ++ [(38, { c := { state := st, owner := 0, nbundle := 1 } })] } }
def sig38 (fn : Nat) : Nat := syW 1 fn (64 * 38 + 2) 0 0 6
/-- Remote-table entry 5 names endpoint 9 for partition 0. -/
def remoteT : State :=
  let s := withPeer (runT)
  { s with dict := { s.dict with blob := mapPutList 0 s.dict.blob (bkey 0x8100 1 40) (beBytes 8 (1 * 2 ^ 62 + 9 * 2 ^ 36)) } }

theorem wit_sync_slot :
    (∀ w ∈ syWords, w < 2 ^ 64 ∧ runsB (runT) 37 { sy := w } = true) ∧
    (let s := runT regs0 { xq := [out37] };
      runsB s 37 { sy := syW 4 0 0 0 0 0 } = true ∧ outbound (s.tile 37).c = 1 ∧
      runsB s 37 { sy := syW 1 1 (64 * 37 + 5) 0 0 6 } = true) ∧
    (runsB (pairT 2) 37 { sy := sig38 1 } = true ∧ runsB (pairT 6) 37 { sy := sig38 0 } = true ∧ (pairT 2).awake 1 = true ∧
      ((pairT 6).tile 38).c.state = 6 ∧ ((pairT 2).dom 1).entering = false) ∧
    runsB (laxT { dirty := true }) 37 { sy := syW 1 0 (64 * 37 + 5) 0 0 6 } = true := by decide +kernel

/-- A signal to a tile of a Skillet that sleeps. -/
def sleepyT : State := { runT with pwr := { base.pwr with doms := [(2, { state := 2 })] } }

/-- The same behind 16 others. -/
def fullT : State :=
  { runT with
    pwr := { base.pwr with
      doms := [(2, { state := 2, held := List.replicate 16 { addr := 1, amount := 1, part := 0, path := 0 } })] } }

theorem wit_signals :
    runsB sleepyT 37 { sy := syW 1 0 (64 * 64 + 2) 0 0 6 } = true ∧ sleepyT.awake 2 = false ∧ (sleepyT.dom 2).held = [] ∧
    runsB fullT 37 { sy := syW 1 0 (64 * 64 + 2) 0 0 6 } = true ∧ fullT.awake 2 = false ∧ (fullT.dom 2).held.length = 16 ∧
    (let w := syW 1 2 5 0 0 6;
      runsB remoteT 37 { sy := w } = true ∧ reKind (remoteT.remoteEntry 5) = 1 ∧ reEp (remoteT.remoteEntry 5) ≠ remoteT.blockEp ∧
        remoteT.syn.queue = []) := by decide +kernel

theorem wit_stops :
    (Instr.br 37 (syW 5 0 0 0 7 0)).wellFormed base.build = true ∧
    ({ runT with tl := { tiles := [(37, { c := { state := 2 } })] } }).issues 37 = false ∧
    (let s := runT { regs0 with pc := 10 }; s.issues 37 = true ∧ (s.tile 37).c.nbundle ≤ (s.tile 37).r.pc) ∧
    (Slots.illegal { sy := syW 6 0 0 0 7 0 } = some 3 ∧ Slots.illegal { mv := mvW 3 5 2 0 0 0 } = none ∧
      (runT).bundleFault 37 { mv := mvW 3 5 2 0 0 0 } = some (1, 0)) ∧
    (let s := (runT (s := { unlocked base with obs := { (unlocked base).obs with brks := [(4, ⟨true, 2 ^ 5, 4⟩)] } }));
      s.issues 37 = true ∧ s.breaks 37 = true) ∧
    ((runT).tile 37).drained = true ∧ ((runT regs0 { xq := [out37] }).tile 37).drained = false ∧
    (runT).bundleFault 37 { sy := syW 2 0 3 0 0 10 } = some (4, 3) ∧ (runT).bundleFault 37 { mv := mvW 13 9 0 0 0 50 } =
      some (5, 0) ∧
    ((runT).stall 37 { sy := syW 3 0 3 0 0 10 }).isSome = true := by decide +kernel

/-- A microprogram image of one bundle, without segments. -/
def image1 : List Byte :=
  let body := beBytes 32 (syW 8 0 0 0 0 0)
  beBytes 4 0x4B574D50 ++ [0x31, 0] ++ beBytes 2 1 ++ beBytes 2 0 ++ beBytes 2 0 ++ beBytes 4 0 ++ beBytes 8 1 ++ beBytes 8 0 ++
    sha256 body ++ body
def imageT (rdonly good : Bool) (s : State := base) : State :=
  { s with
    mem := { bytes := mapPutList 0 [] 8388608 image1 }
    rgn := { s.rgn with desc := [(1, codeRegion rdonly)], hash := [⟨1, 0, good⟩] } }
/-- Attention set 5 holds tiles 64 and 65 and the image at 0 of handle 1, and is loading. -/
def attS : State :=
  let s := imageT true true
  let v := mapPut (mapPut (mapPut s.dict.vals (okey 0x6815 2) 64) (okey 0x6815 3) 2) (okey 0x6815 4) 1
  { s with dict := { s.dict with vals := v }, att := { sets := [(5, { state := 1 })] } }

theorem wit_load :
    attS.live = true ∧ (∀ j ∈ tileRun 64 2, attS.awake (j / 32) = true) ∧
    attS.imgRegion 1 0 = some (codeRegion true) ∧ attS.hashOf (hdDesc 1) 0 = some true ∧
    (∀ j ∈ tileRun 64 2, attS.takesLoad j = true) ∧ attS.imgValid (codeRegion true) 0 = true ∧
    (mapGet {} attS.att.sets 5 : AttSet).state = 1 ∧ attS.param 0x6815 2 = 64 ∧ attS.param 0x6815 4 % 2 ^ 24 = 1 ∧
    (imageT false true).imgRegion 1 0 = none ∧ (imageT true false).hashOf (hdDesc 1) 0 = some false ∧
    (tilesAt 64 3 (imageT true true)).takesLoad 64 = false := by decide +kernel

theorem wit_hash :
    (let s := { imageT true true with rgn := { (imageT true true).rgn with hash := [] } };
      s.imgFault (codeRegion true) 0 = none ∧ s.hashOf (hdDesc 1) 0 = none) := by
  decide +kernel

def start1 : StartRec := { args := [1, 2, 3], part := 0, cls := 4, setpos := 1, setsize := 2, step := 7, sched := true, ftc := 5 }
/-- Tile 37 in a state, with registers. -/
def ctlT (c : TileCtl) (x : TileAux := {}) (sv : Map SaveSlot := []) : State :=
  { base with tl := { tiles := [(37, { r := regs0, c := c, x := x })], saves := sv, ledger := if sv = [] then [] else [(64 * 37 + 3, 5)] } }
def savedT (stale : Bool) : State :=
  ctlT { state := 6 } {} [(37, { r := regs0, cr := { part := 0, step := 7 }, c := { state := 4 }, stale := stale })]
def slowT : State :=
  ctlT { state := 3, nbundle := 10 } { blocked := some (.wait 3 10), since := 0 }

/-- Update set 3 holds tiles 37 and 38. -/
def inSetT (c : TileCtl) : State :=
  let s := ctlT c
  { s with dict := { s.dict with vals := mapPut (mapPut s.dict.vals (okey 0x6913 2) 37) (okey 0x6913 3) 2 } }

theorem wit_tile_starts :
    ((ctlT { state := 4, start := some start1 }).setTiles.contains 37 = false ∧
      (inSetT { state := 4, start := some start1 }).setTiles.contains 37 = true) ∧
    (((ctlT { state := 5, start := some start1 }).tile 37).c.start = some start1 ∧
      ((ctlT { state := 5 }).tile 37).c.start = none ∧ ((ctlT { state := 5 }).tile 37).c.state = 5) ∧
    (∃ g : StartRec, g.late = false ∧ g.args = ((ctlT { state := 5 }).tile 37).r.getDm 0x2FF00 256) ∧
    (((ctlT { state := 3, xq := [out37] } { blocked := some .xferQueue }).tile 37).x.blocked = some .xferQueue) := by
  refine ⟨by decide +kernel, by decide +kernel, ⟨{ start1 with args := _, late := false }, rfl, rfl⟩, by decide +kernel⟩

theorem wit_tile_commands :
    (((ctlT { state := 4, nbundle := 2, entry := 1, start := some start1 }).tile 37).c.start = some start1 ∧
      ((ctlT { state := 4, stopped := true }).tile 37).c.stopped = true ∧ ((ctlT { state := 4, stopped := true }).tile 37).c.byHand = false ∧
      ((ctlT {}).tile 37).c.failing = none ∧ (ctlT {}).awake (37 / 32) = true ∧ start1.ftc ≤ (ctlT {}).clk.ftc ∧ 37 < base.build.tiles) ∧
    (((ctlT { state := 3 }).tile 37).c.state = 3 ∧ ((ctlT { state := 3, xq := [out37] }).tile 37).c.xq ≠ []) ∧
    (((ctlT { state := 4 }).tile 37).c.state = 4 ∧ mapFind (ctlT { state := 4 }).tl.saves 37 = none ∧
      ((ctlT { state := 4 }).tile 37).drained = true) ∧
    ((mapFind (savedT false).tl.saves 37).map (fun v => v.stale) = some false ∧ ((savedT false).tile 37).c.state = 6 ∧
      (mapFind (savedT true).tl.saves 37).map (fun v => v.stale) = some true) ∧
    (((ctlT { state := 5 }).tile 37).c.state = 5 ∧ slowT.sleepDue 37 = true) ∧
    ((ctlT { state := 3, xq := [out37] }).xferOk 37 out37 = false ∧ (pairT 2 { xq := [out37] }).xferOk 37 out37 = true) ∧
    (((ctlT { state := 3, xq := [out37] }).tile 37).xferSeen (ctlT {}).clk.now = true ∧
      ((pairT 2 { xq := [out37] }).tile 37).xferSeen (ctlT {}).clk.now = true ∧
      (ctlT { state := 3, xq := [out37, out37] }).xferOk 37 out37 = false) ∧
    (((ctlT { state := 4 } { mmaWait := some (mma8, 64, 64, 0) }).tile 37).x.mmaWait = some (mma8, 64, 64, 0) ∧
      ((ctlT { state := 4 } { mmaWait := some (mma8, 64, 64, 0) }).tile 37).x.arrayFree ≤ (ctlT {}).clk.now) ∧
    (let s := ctlT { state := 3, fences := [{ left := 0, sig := some ⟨1, 64 * 37 + 5, 6, false⟩ }] };
      s.sigAccepts (64 * 37 + 5) 0 = true ∧ s.awake 1 = true ∧ bit 1 1 = false ∧ (s.dom 1).entering = false) := by decide +kernel

def xIn : Nat := xd 1 1 64 128 0 0 64 0 0 0
def xOut : Nat := xd 2 1 64 128 0 0 64 0 0 0
def xCast : Nat := xd 4 1 64 0 0 128 64 0 0 0x60
def xSig : Nat := xd 3 0 0 64 38 128 64 (64 * 37 + 5) 6 0
/-- Tile 37 has a transfer under way on a region of kind DATA. -/
def moveT (d : Nat) : State :=
  let s := filled (withRegion base 0)
  { s with tl := { tiles := [(37, { r := regs0, c := { state := 3, nbundle := 10, xrun := some d } }),
                             (38, { c := { state := 2, nbundle := 1 } })] } }

/-- The operation for which the transfer was taken has ended. -/
def stepT (d : Nat) : State :=
  let s := moveT d
  { s with tl := { s.tl with tiles := s.tl.tiles.map fun p => (p.1, { p.2 with c := { p.2.c with xopt := some 5 } }) } }
/-- A granule that the transfer reads is poisoned, or has been found uncorrectable on its behalf. -/
def badT (l : List ReadFail) : State := { moveT xIn with mem := { poison := [(131073, 1)], fails := l } }

theorem wit_transfers :
    (∀ d ∈ [xIn, xOut, out37, xCast, xSig], ((moveT d).tile 37).c.xrun = some d ∧ (moveT d).live = true ∧
      ((moveT d).tile 37).c.frozen = false ∧ ((moveT d).tile 37).c.failing = none ∧ (moveT d).mem.poison = [] ∧
      (moveT d).stk.pots = [] ∧
      ((moveT d).descOf (hdDesc (xdHandle d))).mirror = false) ∧
    [xIn, xOut, out37, xCast, xSig].map xdKind = [1, 2, 3, 4, 3] ∧
    [xIn, xOut, out37, xCast, xSig].map xdSigAmt = [0, 0, 0, 0, 6] ∧
    ((moveT xOut).descOf (hdDesc (xdHandle xOut))).kind ≠ kParam ∧
    ((moveT xOut).tile 37).c.xopt = none ∧ ((stepT xOut).tile 37).c.xrun = some xOut ∧
    ((stepT xOut).tile 37).c.xopt = some 5 ∧ (stepT xOut).optGrant 37 xOut = none ∧
    ((badT []).poisonIn (((badT []).descOf 1).bpa0 + xdOfs xIn) (xdLen xIn) = some 131073 ∧
      ((badT []).tile 37).c.xrun = some xIn ∧ 0 < xdLen xIn ∧ (badT []).stk.pots = [] ∧
      ((badT []).descOf (hdDesc (xdHandle xIn))).kind ≠ kParam ∧ (badT []).mem.fails = [] ∧
      (badT [⟨2 ^ 20 + 37, 0, 131073⟩]).mem.fails = [⟨2 ^ 20 + 37, 0, 131073⟩] ∧
      (badT [⟨2 ^ 20 + 37, 0, 131073⟩]).mem.poison = [(131073, 1)]) ∧
    (moveT xSig).sigAccepts (xdSigCtr xSig) 0 = true ∧ xferTargets 37 xCast = [37, 38] := by decide +kernel

/-! ### The machine as a whole -/

/-- A state with one event logged and a byte in memory, and a command that waits. -/
def oneEvent : State :=
  { (base.raise srcHub 0x0202 (beBytes 8 5 ++ beBytes 4 102)) with
    mem := { bytes := [(64, 1)] }, pending := [.status 3] }

theorem wit_front : oneEvent.pending = [.status 3] ∧ base.pending = [] ∧ base.ldl.stage = 6 ∧ base.clk.locked = true ∧
    base.pin.start = none ∧ ({ base with clk := { base.clk with locked := false } } : State).live = false := by decide +kernel

theorem wit_refused : Instr.wellFormed base.build (.status 16) = false ∧ Instr.wellFormed base.build (.status 15) = true ∧
    base.inSpace (2 ^ 60) 64 = false := by decide +kernel

/-- The invariant of a state with an event and a byte, as a decision. -/
theorem wit_inv : Memory.wf oneEvent = true ∧ oneEvent.evt.ring.length = 1 ∧ oneEvent.evt.newest = 1 ∧
    oneEvent.evt.ring.map (fun r => r.pos) = (List.range 1).map (1 + ·) ∧ oneEvent.evt.notified ≤ oneEvent.evt.newest := by
  decide +kernel

theorem wit_keeps : Inv oneEvent ∧ ∃ t, step oneEvent = .next t := by
  obtain ⟨h1, h2, h3, h4, h5⟩ := wit_inv
  refine ⟨⟨h1, ⟨by rw [h2]; omega, Nat.le_of_eq (h2.trans h3.symm), ?_, h5⟩⟩, ?_⟩
  · rw [h4, h2, h3]
  · exact ⟨_, rfl⟩

/-! ### Ill-formed commands -/

/-- Commands of one frame whose requester is no 20-bit number, or whose sequence number is none of 32 bits. -/
def badFrames (f : Nat → Nat → Instr) : List Instr := [f (2 ^ 20) 0, f 0 (2 ^ 32)]

/-- One ill-formed term for each check of frames, slots, groups, sets and steps. -/
def badService : List Instr :=
  [.ingressCell 32 (List.replicate 256 0), .ingressCell 0 (List.replicate 255 0), .reassemblyTimeout (2 ^ 20) 0 0,
    .reassemblyTimeout 0 (2 ^ 32) 0, .reassemblyTimeout 0 0 16, .lateCellWindowEnd (2 ^ 20) 0 0, .lateCellWindowEnd 0 (2 ^ 32) 0,
    .lateCellWindowEnd 0 0 16, .doneTableWriteAccepted 0 64, .doneTableWriteAccepted (2 ^ 20) 0, .egressCell 32, .egressCredit 32,
    .portUp 32, .portDown 32, .slotClose 64 0, .slotClose 0 (2 ^ 32), .partialAnswer (2 ^ 20) 0 0 0, .partialAnswer 0 (2 ^ 32) 0 0,
    .partialAnswer 0 0 256 0, .partialAnswer 0 0 0 256, .slotWaitExpiry 64 0, .slotWaitExpiry 0 (2 ^ 32), .slotOpenFtc 16 0,
    .slotOpenFtc 0 2048, .slotCloseFtc 64 0, .slotCloseFtc 0 (2 ^ 32), .mcastDelivery 1024 0 0 0, .mcastDelivery 0 (2 ^ 64) 0 0,
    .mcastDelivery 0 0 4096 0, .mcastDelivery 0 0 0 (2 ^ 40), .oweWaitExpiry 1024 0 0 0, .oweWaitExpiry 0 (2 ^ 64) 0 0,
    .oweWaitExpiry 0 0 4096 0, .oweWaitExpiry 0 0 0 (2 ^ 40), .oweRetry 1024 0 0 0, .oweRetry 0 (2 ^ 64) 0 0, .oweRetry 0 0 4096 0,
    .oweRetry 0 0 0 (2 ^ 40), .mcastDeadline 64 0, .mcastDeadline 0 (2 ^ 64), .queryStart 64, .queryComplete 64,
    .spillAnswer (2 ^ 20) 0 0 0 0 false [], .spillAnswer 0 (2 ^ 32) 0 0 0 false [], .spillAnswer 0 0 256 0 0 false [],
    .spillAnswer 0 0 0 256 0 false [], .spillAnswer 0 0 0 0 (2 ^ 32) false [], .spillWaitExpiry (2 ^ 20) 0 0,
    .spillWaitExpiry 0 (2 ^ 32) 0, .spillWaitExpiry 0 0 4, .runaheadFetch 64 0, .runaheadFetch 0 256, .ctxRelease (.port 16) 0 0,
    .ctxRelease (.port 0) (2 ^ 24) 0, .ctxRelease (.port 0) 0 (2 ^ 32), .contextFreed (2 ^ 24) 0, .contextFreed 0 (2 ^ 32),
    .updateStart 16, .updateComplete 16, .mirrorAnswer (2 ^ 20) 0 0 0, .mirrorAnswer 0 (2 ^ 32) 0 0, .mirrorAnswer 0 0 256 0,
    .mirrorAnswer 0 0 0 256, .mirrorWaitExpiry (2 ^ 32), .vote 64 0, .vote 0 (2 ^ 64), .voteAnswer (2 ^ 20) 0 0 0 0,
    .voteAnswer 0 (2 ^ 32) 0 0 0, .voteAnswer 0 0 256 0 0, .voteAnswer 0 0 0 256 0, .voteAnswer 0 0 0 0 (2 ^ 32),
    .commitDecisionEdge 16, .commitEdge 64 0, .commitEdge 0 (2 ^ 64), .foldComplete 16384, .stepDecide (.port 16) 0 0 0,
    .stepDecide (.port 0) (2 ^ 64) 0 0, .stepDecide (.port 0) 0 256 0, .stepDecide (.port 0) 0 0 256, .setCkpt (.port 16) 0 0,
    .setCkpt (.port 0) (2 ^ 24) 0, .setCkpt (.port 0) 0 (2 ^ 64), .setCommitted (.port 16) 0 0, .setCommitted (.port 0) (2 ^ 24) 0,
    .setCommitted (.port 0) 0 (2 ^ 64), .restoreLog (.port 16) 0 0 0 0 0 [], .restoreLog (.port 0) (2 ^ 24) 0 0 0 0 [],
    .restoreLog (.port 0) 0 (2 ^ 20) 0 0 0 [], .restoreLog (.port 0) 0 0 (2 ^ 24) 0 0 [], .restoreLog (.port 0) 0 0 0 (2 ^ 64) 0 [],
    .restoreLog (.port 0) 0 0 0 0 (2 ^ 64) [], .restoreRun (.port 16) 0 0, .restoreRun (.port 0) (2 ^ 24) 0,
    .restoreRun (.port 0) 0 (2 ^ 64), .barrierAnswer (2 ^ 20) 0 0 0 0, .barrierAnswer 0 (2 ^ 32) 0 0 0, .barrierAnswer 0 0 256 0 0,
    .barrierAnswer 0 0 0 256 0, .barrierAnswer 0 0 0 0 (2 ^ 32), .remoteSignalAnswer (2 ^ 20) 0 0 0,
    .remoteSignalAnswer 0 (2 ^ 32) 0 0, .remoteSignalAnswer 0 0 256 0, .remoteSignalAnswer 0 0 0 256, .armingComplete 16,
    .armingDeadline 16, .launchEdge 16, .programEntryFire 16 0, .programEntryFire 0 2048, .contextEnd 16,
    .originatedFrameResend (2 ^ 20) 0, .originatedFrameResend 0 (2 ^ 32)] ++
  [Instr.orderedRelease, .holdTimeEnd, .read, .write, .accum, .windowedPartialApply, .redOpen, .redClose, .mcast, .kvAppend,
    .attnQuery, .optStep, .sync, .barrier, .launch].flatMap badFrames

/-- One for each check of the rows of the dictionary and of the management port. -/
def badAccess : List Instr :=
  let p := MgmtSrc.port 0
  [.readObject (.port 16) 0 0 0 0, .readObject (.frame (2 ^ 20) 0) 0 0 0 0, .readObject (.frame 0 (2 ^ 32)) 0 0 0 0,
    .readObject p (2 ^ 16) 0 0 0, .readObject p 0 256 0 0, .readObject p 0 0 (2 ^ 32) 0, .readObject p 0 0 0 (2 ^ 32),
    .writeObject (.port 16) 0 0 0 [], .writeObject p (2 ^ 16) 0 0 [], .writeObject p 0 256 0 [], .writeObject p 0 0 (2 ^ 32) [],
    .bulkRead (.port 16) 0 0 0 0, .bulkRead p (2 ^ 16) 0 0 0, .bulkRead p 0 256 0 0, .bulkRead p 0 0 (2 ^ 32) 0,
    .bulkRead p 0 0 0 (2 ^ 32), .bulkWrite (.port 16) 0 0 0 [], .bulkWrite p (2 ^ 16) 0 0 [], .bulkWrite p 0 256 0 [],
    .bulkWrite p 0 0 (2 ^ 32) [], .status 16, .hold 16 0, .hold 0 256, .bootSelect 16 0, .bootSelect 0 256, .flashRead 16 0 0,
    .flashRead 0 (2 ^ 32) 0, .flashRead 0 0 (2 ^ 32), .flashErase 16 0, .flashErase 0 (2 ^ 32), .flashProgram 16 0 [],
    .flashProgram 0 (2 ^ 32) [], .eventPeek 16, .lockReq (.port 16) 2, .lockReq p 256, .lockCommit (.port 16) 2, .lockCommit p 256,
    .lockAbort (.port 16) 2, .lockAbort p 256, .lockExpired 9, .regionCreate (.port 16) [], .regionRetire (.port 16) 0,
    .regionRetire p (2 ^ 24), .regionRdonly (.port 16) 0 0, .regionRdonly p (2 ^ 24) 0, .regionRdonly p 0 256, .regionDrained 16384,
    .zeroingComplete 16384, .imageHashCheck 16384 0, .imageHashCheck 0 (2 ^ 40), .schedVerify (.port 16) 0, .schedVerify p (2 ^ 24),
    .regionHeader (.port 16) 0, .regionHeader p (2 ^ 24), .digestStatus (.port 16) 0, .digestStatus p (2 ^ 24),
    .regionDesc (.port 16) 0, .regionDesc p (2 ^ 24), .rehashPass 16384, .ladelSignal (.port 16) 0 0, .ladelSignal p (2 ^ 32) 0,
    .ladelSignal p 0 (2 ^ 32), .ftcPulse true (2 ^ 64) 0, .ftcPulse true 0 8, .ftcResync (.port 16) 1, .ftcResync p 256,
    .wheelTableEffect 0, .wheelTableEffect 4, .arbiterRound 6 0 [], .arbiterRound 2 4 [], .arbiterRound 4 0 [⟨65536, .system, true⟩],
    .arbiterRound 1 0 [⟨0, .tile 2048, true⟩], .arbiterRound 1 0 [⟨0, .frame (2 ^ 20) 0, true⟩], .domainReset (.port 16) 0, .domainReset p 88, .blockPark (.port 16),
    .warmStart (some (.port 16)), .imageProgram (.port 16), .fwUpdate (.port 16), .imageCommit (.port 16), .libInstall (.port 16) 0 0 0,
    .libInstall p 256 0 0, .libInstall p 0 (2 ^ 24) 0, .libInstall p 0 0 (2 ^ 64), .eventAck (.port 16) 0, .eventAck p (2 ^ 64),
    .ctrCtl (.port 16) 0 0 0, .ctrCtl p 88 0 0, .ctrCtl p 0 8 0, .ctrCtl p 0 0 (2 ^ 64), .ctrClear (.port 16) 0, .ctrClear p 88,
    .sampleCtl (.port 16) 0 0, .sampleCtl p 64 0, .sampleCtl p 0 (2 ^ 64), .sampleClear (.port 16) 0, .sampleClear p 64,
    .debugChallenge (.port 16), .debugResponse (.port 16) [], .debugLock (.port 16), .counterSet (.port 16) [],
    .tileControl (.port 16) [], .bpSet (.port 16) [], .arbFreeze (.port 16) [], .coreWatchdogExpiry 6]

/-- One for each check of the rows of stacks, power and the test port. -/
def badStack : List Instr :=
  let p := MgmtSrc.port 0
  let z := List.replicate 64 (0 : Byte)
  let w := List.replicate 72 (0 : Byte)
  let g := Origin.background
  [.granuleRequestAccept 8 false 0 0 z g 0 0, .granuleRequestAccept 0 false 32 0 z g 0 0,
    .granuleRequestAccept 0 false 0 (2 ^ 64) z g 0 0, .granuleRequestAccept 0 false 0 0 [] g 0 0,
    .granuleRequestAccept 0 false 0 0 z (.tile 2048) 0 0, .granuleRequestAccept 0 false 0 0 z (.frame 0 (2 ^ 32)) 0 0,
    .granuleRequestAccept 0 false 0 0 z g 65536 0, .stackCommandIssue 8 0,
    .stackCommandIssue 0 64, .writeRetire 0 64 0, .granuleReadDecode 8 0 0 w 0 0 0, .granuleReadDecode 0 0 0 z 0 0 0,
    .granuleReadDecode 0 0 0 w 4 0 0, .granuleReadDecode 0 0 0 w 0 0 (2 ^ 32), .ageLimitAged 0 64 0, .pageIdlePrecharge 0 64 0,
    .pageIdlePrecharge 0 0 64, .refreshDebtTick 0 64, .refpb 0 64, .rfm 0 64 0, .rfm 0 0 64, .powerDownEntry 0 64 0,
    .powerDownEntry 0 0 4, .tempPoll 8 0, .tempPoll 0 2147483648, .tempPoll 0 (-2147483649), .mergeWriteBack 0 64 0,
    .patrolScrub 0 64 w, .patrolScrub 0 0 z, .remapRow 0 64 0 0 0, .remapRow 0 0 4 0 0, .remapRow 0 0 0 16 0, .remapRow 0 0 0 0 16384,
    .remapActive 0 64 0, .remapActive 0 0 8, .postPackageRepair 0 64 0 true, .postPackageRepair 0 0 8 true,
    .retireRank (.port 16) 0 0 0, .retireRank p 256 0 0, .retireRank p 0 256 0, .retireRank p 0 0 256,
    .migrationRowCopy 8 (List.replicate 16 w), .migrationRowCopy 0 (List.replicate 15 w), .migrationRowCopy 0 (List.replicate 16 z),
    .training 8 0 true (List.replicate 322 0) (List.replicate 152 0), .training 0 32 true (List.replicate 322 0) (List.replicate 152 0),
    .training 0 0 true (List.replicate 321 0) (List.replicate 152 0), .training 0 0 true (List.replicate 322 (2 ^ 64)) (List.replicate 152 0),
    .training 0 0 true (List.replicate 322 0) (List.replicate 151 0), .sweepComplete 0 32 (List.replicate 282 0),
    .sweepComplete 0 0 (List.replicate 281 0), .sweepComplete 0 0 (List.replicate 282 (2 ^ 64)), .patgenCtl (.port 16) 0 0 0,
    .patgenCtl p 8 0 0, .patgenCtl p 0 32 0, .patgenCtl p 0 0 (2 ^ 64), .sweepCtl (.port 16) 0 0 0, .sweepCtl p 8 0 0,
    .sweepCtl p 0 32 0, .sweepCtl p 0 0 (2 ^ 64), .cmpCtl (.port 16) 0 0 0, .cmpCtl p 8 0 0, .cmpCtl p 0 32 0, .cmpCtl p 0 0 (2 ^ 64),
    .testHold (.port 16) 0 0 0, .testHold p 8 0 0, .testHold p 0 32 0, .testHold p 0 0 256,
    .histogramComplete 0 32 0 (List.replicate 32 0), .histogramComplete 0 0 76 (List.replicate 32 0),
    .histogramComplete 0 0 0 (List.replicate 31 0), .tapMove 0 32 0, .tapMove 0 0 94, .retrain none 0 32 1, .retrain none 0 0 0,
    .retrain none 0 0 8, .retrain (some (.port 16)) 0 0 8, .retrain (some p) 8 0 8, .retrain (some p) 0 32 8, .retrain (some p) 0 0 7,
    .retrainPeriodExpiry 8 0, .caParityAlert 0 32, .standinFillEnd 8, .standinReturnEnd 8, .splitWindow 0 32,
    .trivetInterval (List.replicate 88 0), .trivetInterval (List.replicate 89 2147483648),
    .trivetInterval (List.replicate 89 (-2147483649)), .domainStepDown 88, .domainWake 88, .domainExit 88, .drainLimitExpiry 88,
    .railGoodLost 3, .railTimeoutExpiry 3, .coldStart (List.replicate 7 0), .coldStart (List.replicate 8 8), .stack1500 8]

/-- One for each check of the rows of tiles: an absent tile, a word too wide for its slot, and a word with another operation
code than its row's. -/
def badTile : List Instr :=
  [.tileLoad 0 0 0 0 0, .tileLoad 2047 2 0 0 0, .tileLoad 0 1 (2 ^ 24) 0 0, .tileLoad 0 1 0 0 64, .tileLoad 0 1 0 (2 ^ 64) 0] ++
    [Instr.tileStart, .tileStop, .tileSave, .tileRestore, .tileDiscard, .tileSleep, .transferStart, .transferComplete, .mmaStart,
      .fenceComplete].map (· 2048) ++
    [Instr.ldv, .stv, .lds, .sts, .movi, .alu, .alui, .bcast, .vtog, .ldm, .stm, .xfer, .rdctr, .rdcr, .setl, .wrcr, .mma, .aczero,
      .fadd, .fsub, .fmul, .ffma, .fmax, .fmin, .fsgn, .fcmp, .sel, .fexp, .fexpa, .frcp, .fsqrt, .fmuli, .faddi, .iadd, .isub, .imul,
      .logic, .shift, .iminmax, .red, .perm, .cvtn, .cvts, .cvtw, .cvti, .acrd, .acwr, .sig, .subCtr, .wait, .fence, .br, .brz, .loop,
      .halt].map (· 0 0) ++
    [.ldv 2048 (mvW 1 0 0 0 0 0), .ldv 0 (2 ^ 64 + mvW 1 0 0 0 0 0), .ldv 0 (mvW 2 0 0 0 0 0), .mma 2048 (arW 1 0 0 0 0 0 0 0 0 0 0 0),
      .mma 0 (2 ^ 56 + arW 1 0 0 0 0 0 0 0 0 0 0 0), .fadd 2048 (veW 1 0 0 0 0 0 0 0), .fadd 0 (2 ^ 72 + veW 1 0 0 0 0 0 0 0),
      .fadd 0 (veW 2 0 0 0 0 0 0 0), .sig 2048 (syW 1 0 0 0 0 0), .sig 0 (2 ^ 64 + syW 1 0 0 0 0 0), .sig 0 (syW 2 0 0 0 0 0)]

theorem smoke_service : ∀ i ∈ badService, i.wellFormed {} = false := by decide +kernel
theorem smoke_access : ∀ i ∈ badAccess, i.wellFormed {} = false := by decide +kernel
theorem smoke_stack : (∀ i ∈ badStack, i.wellFormed {} = false) ∧ Instr.wellFormed {} (.railGoodRise 3) = false := by decide +kernel
theorem smoke_tile : ∀ i ∈ badTile, i.wellFormed {} = false := by decide +kernel

/-- A smaller build has fewer units (01 R3). -/
theorem smoke_build : Instr.wellFormed { S := 2, K := 16, A := 8 } (.portUp 8) = false ∧
    Instr.wellFormed { S := 2, K := 16, A := 8 } (.portUp 7) = true ∧
    Instr.wellFormed { S := 2, K := 16, A := 8 } (.domainWake 16) = false ∧
    Instr.wellFormed { S := 2, K := 16, A := 8 } (.domainWake 64) = true := by decide +kernel

/-! ### Worked values -/

/-- The check value of CRC-32C over the nine digits, and the digest of the message of three letters that FIPS 180-4 works
through. -/
theorem test_checks : crc32c (ascii [0x31, 0x32, 0x33, 0x34, 0x35, 0x36, 0x37, 0x38, 0x39]) = 0xE3069283 ∧
    beNat ((sha256 (ascii [0x61, 0x62, 0x63])).take 8) = 0xBA7816BF8F01CFEA := by decide +kernel

/-- Binary32 by hand: 1 + 2^-24 is a tie and goes to even; 3 × 1/3; 1 + 2^-23 twice is exact; e^0, 1/2, √2 to nearest. -/
theorem test_float : f32add 0x3F800000 0x33800000 = 0x3F800000 ∧ f32add 0x3F800001 0x33800000 = 0x3F800002 ∧
    f32mul 0x40400000 0x3EAAAAAB = 0x3F800000 ∧ f32exp 0 = 0x3F800000 ∧ f32rcp 0x40000000 = 0x3F000000 ∧
    f32sqrt 0x40000000 = 0x3FB504F3 ∧ f32sub 0x7F800000 0x7F800000 = 0x7FC00000 := by decide +kernel

/-- Narrow formats by hand: E4M3 holds 448 as 0x7E, and above it rounds to 0x7F without saturation; bf16 keeps 8 bits. -/
theorem test_narrow : frne e4m3 (.fin false 448 0) = 0x7E ∧ fround e4m3 .rne true (.fin false 1000 0) = 0x7E ∧
    frne e4m3 (.fin false 1000 0) = 0x7F ∧ frne bf16 (fdecode fp32 0x3F808000) = 0x3F80 := by decide +kernel

/-- What the scrambler puts on a lane, worked through from the four steps of 13 R380: the seed 0 becomes 0x40_0000, whose
first output bit is 1 and whose next seven are 0. -/
theorem test_scrambler : laneMask 0 0 0 0 0 = 0x80 ∧ laneMask 2 7 3 0 0 = 0x20 ∧ laneMask 2 7 3 1 37 = 0x07 ∧
    laneMask 15 16383 15 1 5 = 0x29 := by decide +kernel

end Sys2Proof.Tests
end

section
/-! SUPPORT. The path of a header cell up to its decision (02 R37, R59), and what a decision that records nothing leaves
(02 R61, R70), up to the statement about duplicates. -/

namespace Sys2Proof.Machine

/-! ### The path of a header cell -/

theorem State.woken_frame (s : State) (p : Nat) : SameExcept [.pwr, .stress, .arb] s (s.woken p) :=
  (State.wakeDom_frame s _).trans (State.wakeDom_frame _ 86)

theorem State.painted_frame (s : State) (p : Nat) (c : List Byte) :
    SameExcept [.pwr, .stress, .obs, .cls, .arb, .tally] s (s.painted p c).1 := by
  have woken : SameExcept [.pwr, .stress, .obs, .cls, .arb, .tally] s (s.woken p) := (s.woken_frame p).mono rfl
  have counted := (State.portBump_frame (s.woken p) p 0 1 none).step rfl woken
  exact (State.paint_frame _ p _ _).step rfl counted

/-- What arrives wakes domains, and no domain makes a key late. -/
theorem State.isLate_woken (s : State) (p k : Nat) : (s.woken p).isLate k = s.isLate k := by
  have hfrm : (s.woken p).frm = s.frm := (s.woken_frame p).same .frm rfl
  have hclk : (s.woken p).clk = s.clk := (s.woken_frame p).same .clk rfl
  have hdict : (s.woken p).dict = s.dict := (s.woken_frame p).same .dict rfl
  have hbuild : (s.woken p).build = s.build := (s.woken_frame p).same .build rfl
  unfold State.isLate State.since State.param
  rw [hfrm, hclk, hdict, hbuild]

/-- A header cell that passes steps 1 and 2 of 02 R59 is painted, decided, and its port relieved. -/
theorem exec_ingressCell_header {s : State} {p : Nat} {c : List Byte} (hlive : s.live = true) (hp : p < s.build.A)
    (hlen : c.length = 256) (hcredit : s.credits p ≠ 0) (hccrc : ccrcBad c = false) (hpfx : pfxBad c = false)
    (hkind : pfxKind c = 1) (hlate : s.isLate (cellKey c) = false) (hhcrc : hcrcBad (cellHdr c) = false) :
    exec (.ingressCell p c) s = .next (((s.painted p c).1.decideHeader p c (s.painted p c).2).relieve p) := by
  have hok : (decide (p < s.build.A) && decide (c.length = 256)) = true := by
    simp only [hp, hlen, decide_true, Bool.and_self]
  have hlate' : ((s.wakeDom (72 + p / 4)).wakeDom 86).isLate (raKey (pfxReq c) (pfxSeq c) (pfxAtt c)) = false :=
    (s.isLate_woken p _).trans hlate
  calc exec (.ingressCell p c) s
      = execIngressCell p c s := rfl
    _ = .next (((s.woken p).headerCell p c).relieve p) := by
        rw [execIngressCell, State.runLive_on _ hok hlive]
        simp only [hcredit, hccrc, hpfx, hkind, hlate', hhcrc, State.woken, ↓reduceIte, Bool.false_eq_true,
          Nat.reduceLeDiff, or_self, Nat.reduceEqDiff]
    _ = _ := rfl

/-- Step 5 of 02 R59 hands a number that has been answered to the record. -/
theorem State.decideHeader_of_dup {s : State} {p r : Nat} {c : List Byte} (colour : Nat)
    (hreq : s.findReq (pfxReq c) = some r) (hbind : s.bindsPart r (pfxReq c) (cellHdr c) = true)
    (hdup : s.classify r (pfxSeq c) (pfxAtt c) = .dup) :
    s.decideHeader p c colour = s.dupAnswer p r (pfxReq c) (pfxSeq c) (pfxAtt c) (cellHdr c) := by
  simp only [State.decideHeader, hreq, hbind, hdup, Bool.not_true, Bool.false_eq_true, ↓reduceIte]

/-- A port that is not crowded with incomplete frames keeps them (02 R64). -/
theorem State.relieve_of_crowd_lt {s : State} {p : Nat} (h : s.crowd p < 3072) : s.relieve p = s := if_pos h

/-! ### Egress queues -/

theorem State.port_congr {s t : State} (h : t.frm = s.frm) (p : Nat) : t.port p = s.port p := by
  rw [State.port, h, State.port]

theorem State.port_setPort (s : State) (p i : Nat) (x : Port) :
    (s.setPort p x).port i = if i = p then x else s.port i :=
  mapGet_mapSet ({} : Port) s.frm.ports p i x

/-- A staged frame stands behind the frames of its queue, none of its cells sent (02 R37). -/
theorem State.stage_queue (s : State) (p : Nat) (x : Resp) (h : x.eq < (s.port p).queues.length) :
    ∃ f, ((s.stage p x).port p).queues.getD x.eq [] = (s.port p).queues.getD x.eq [] ++ [f] ∧ f.resp = x ∧
      f.sent = 0 := by
  refine ⟨{ resp := x, at_ := s.clk.now, dry0 := (s.port p).dry,
            wake := ((s.port p).queues.getD x.eq []).isEmpty && decide (4 ≤ x.eq) }, ?_, rfl, rfl⟩
  simp only [State.stage, State.modPort, State.port_setPort, ↓reduceIte, List.getD_eq_getElem?_getD, h, getElem?_pos,
    Option.getD_some, List.length_set, List.getElem_set_self]

theorem State.freeCell_queues (s : State) (a p : Nat) : ((s.freeCell a).port p).queues = (s.port p).queues := by
  rw [State.freeCell, State.modPort, State.port_setPort]
  split
  · subst p; rfl
  · rfl

theorem State.freeCells_queues (s : State) (l : List Parked) (p : Nat) :
    ((l.foldl (fun s c => s.freeCell c.port) s).port p).queues = (s.port p).queues := by
  induction l generalizing s with
  | nil => rfl
  | cons c l ih => rw [List.foldl_cons, ih, State.freeCell_queues]

theorem State.freeKey_queues (s : State) (k p : Nat) : ((s.freeKey k).port p).queues = (s.port p).queues := by
  unfold State.freeKey
  split
  · rfl
  · exact s.freeCells_queues _ p

/-- A key is left as it is, or what is parked under it is freed and its later cells are dropped (02 R61). -/
theorem State.closeKey_cases (s : State) (req seq att : Nat) :
    s.closeKey req seq att = s ∨
      s.closeKey req seq att = (s.freeKey (raKey req seq att)).modFrm fun f =>
        { f with late := mapPut f.late (raKey req seq att) s.clk.now } :=
  Or.imp (fun h => if_pos h) (fun h => if_neg h) (Classical.em _)

theorem State.closeKey_queues (s : State) (req seq att p : Nat) :
    ((s.closeKey req seq att).port p).queues = (s.port p).queues := by
  rcases s.closeKey_cases req seq att with kept | closed
  · rw [kept]
  · rw [closed]; exact s.freeKey_queues _ p

/-! ### What stays recorded -/

/-- Closing a key touches ports, parked cells and late keys alone (02 R61). -/
theorem State.closeKey_frm (s : State) (req seq att : Nat) :
    ∃ q r l, (s.closeKey req seq att).frm = { s.frm with ports := q, reasm := r, late := l } := by
  rcases s.closeKey_cases req seq att with kept | closed
  · exact ⟨_, _, _, by rw [kept]⟩
  · obtain ⟨q, r, hfree⟩ := s.freeKey_frm (raKey req seq att)
    exact ⟨q, r, _, by rw [closed, State.modFrm_frm, hfree]⟩

/-! ### The answer to a duplicate (02 R70) -/

/-- The response that the record holds for a number, where it does. -/
def State.heldCopy (s : State) (r req seq : Nat) : Option HoldRec :=
  if (s.doneView r (seq % 64)).held then
    s.frm.holds.find? fun g => decide (g.resp.req = req) && decide (g.resp.seq = seq)
  else none

/-- The DUP_ANSWERED response to a copy of an answered number. -/
def State.dupResp (s : State) (p r req seq att : Nat) (h : List Byte) : Resp :=
  let e := s.doneView r (seq % 64)
  let x := s.portResp p req seq att h cDupAnswered e.code e.aux
  match s.heldCopy r req seq with
  | some g => { x with digest := g.resp.digest, payload := g.resp.payload }
  | none => { x with notHeld := hadMore h e }

/-- A duplicate is charged to its class, its response staged and counted, and its key closed. -/
theorem State.dupAnswer_eq (s : State) (p r req seq att : Nat) (h : List Byte) :
    ∃ n, s.dupAnswer p r req seq att h =
      (((s.chargeClass (hClass h) n).stage p (s.dupResp p r req seq att h)).portBump p 5 1 none).closeKey req seq att :=
  ⟨_, rfl⟩

/-- What the response names, whether or not the original is held. -/
theorem State.dupResp_names (s : State) (p r req seq att : Nat) (h : List Byte) :
    let x := s.dupResp p r req seq att h
    x.req = req ∧ x.seq = seq ∧ x.att = att ∧ x.code = cDupAnswered ∧ x.orig = (s.doneView r (seq % 64)).code ∧
      x.aux = (s.doneView r (seq % 64)).aux % 2 ^ 32 ∧ x.eq = s.egressQ (hClass h) := by
  unfold State.dupResp
  dsimp only
  split <;> exact ⟨rfl, rfl, rfl, rfl, rfl, rfl, rfl⟩

/-- A held original lends its payload and its digest. -/
theorem State.dupResp_of_held {s : State} {r req seq : Nat} {g : HoldRec} (p att : Nat) (h : List Byte)
    (hheld : (s.doneView r (seq % 64)).held = true)
    (hfind : (s.frm.holds.find? fun g => decide (g.resp.req = req) && decide (g.resp.seq = seq)) = some g) :
    (s.dupResp p r req seq att h).payload = g.resp.payload ∧ (s.dupResp p r req seq att h).digest = g.resp.digest := by
  have hcopy : s.heldCopy r req seq = some g := by rw [State.heldCopy, if_pos hheld, hfind]
  simp only [State.dupResp, hcopy, and_self]

/-- Without the original the response is bare, and says whether there was more. -/
theorem State.dupResp_of_not_held {s : State} {r seq : Nat} (p req att : Nat) (h : List Byte)
    (hheld : (s.doneView r (seq % 64)).held = false) :
    let x := s.dupResp p r req seq att h
    x.payload = [] ∧ x.digest = none ∧ x.notHeld = hadMore h (s.doneView r (seq % 64)) := by
  have hcopy : s.heldCopy r req seq = none := by rw [State.heldCopy, hheld]; rfl
  simp only [State.dupResp, hcopy, State.portResp, and_self]

/-- Answering a duplicate records nothing. -/
theorem State.dupAnswer_records_nothing (s : State) (p r req seq att : Nat) (h : List Byte) :
    let t := s.dupAnswer p r req seq att h
    t.frm.ops = s.frm.ops ∧ t.frm.summ = s.frm.summ ∧ t.frm.pend = s.frm.pend ∧ t.frm.holds = s.frm.holds := by
  obtain ⟨n, hanswer⟩ := s.dupAnswer_eq p r req seq att h
  intro t
  let staged := (s.chargeClass (hClass h) n).stage p (s.dupResp p r req seq att h)
  obtain ⟨q, m, l, hclosed⟩ := (staged.portBump p 5 1 none).closeKey_frm req seq att
  have hcounted : (staged.portBump p 5 1 none).frm = staged.frm := (State.portBump_frame staged p 5 1 none).same .frm rfl
  have hcharged : (s.chargeClass (hClass h) n).frm = s.frm := s.chargeClass_frm _ n
  have ht : t.frm = { staged.frm with ports := q, reasm := m, late := l } := by
    rw [← hcounted, ← hclosed, ← hanswer]
  have hstaged : staged.frm = { s.frm with ports := staged.frm.ports } := by rw [← hcharged]; rfl
  rw [ht, hstaged]
  exact ⟨rfl, rfl, rfl, rfl⟩

/-- The answer to a duplicate stands last in the egress queue of its class. -/
theorem State.dupAnswer_queue (s : State) (p r req seq att : Nat) (h : List Byte)
    (hq : s.egressQ (hClass h) < (s.port p).queues.length) :
    ∃ f, ((s.dupAnswer p r req seq att h).port p).queues.getD (s.egressQ (hClass h)) [] =
        (s.port p).queues.getD (s.egressQ (hClass h)) [] ++ [f] ∧
      f.resp = s.dupResp p r req seq att h ∧ f.sent = 0 := by
  obtain ⟨n, hanswer⟩ := s.dupAnswer_eq p r req seq att h
  obtain ⟨-, -, -, -, -, -, heq⟩ := s.dupResp_names p r req seq att h
  have hcharged : (s.chargeClass (hClass h) n).port p = s.port p := State.port_congr (s.chargeClass_frm _ n) p
  obtain ⟨f, hf⟩ := (s.chargeClass (hClass h) n).stage_queue p (s.dupResp p r req seq att h)
    (by rw [heq, hcharged]; exact hq)
  rw [heq, hcharged] at hf
  refine ⟨f, ?_⟩
  rw [hanswer, State.closeKey_queues, State.port_congr ((State.portBump_frame _ p 5 1 none).same .frm rfl)]
  exact hf

/-- Settles O4: the header cell passes to step 5 of 02 R59, which hands it to `dupAnswer`; its response stands last in its
queue and the records of the frame group are those from before. -/
theorem duplicatesAreAnsweredFromTheRecord : Obligations.DuplicatesAreAnsweredFromTheRecord := by
  unfold Obligations.DuplicatesAreAnsweredFromTheRecord
  intro s p c v colour r q e hlive hp hlen hcredit hccrc hpfx hkind hlate hhcrc hpainted hreq hbind hdup he hq hroom
    hcrowd
  subst he hq
  have hv : SameExcept [.pwr, .stress, .obs, .cls, .arb, .tally] s v := by
    have h := s.painted_frame p c
    rwa [hpainted] at h
  have hfrm : v.frm = s.frm := hv.same .frm rfl
  have hport : v.port p = s.port p := State.port_congr hfrm p
  refine ⟨v.dupAnswer p r (pfxReq c) (pfxSeq c) (pfxAtt c) (cellHdr c), ?_, ?_, ?_⟩
  · rw [exec_ingressCell_header hlive hp hlen hcredit hccrc hpfx hkind hlate hhcrc, hpainted,
      State.decideHeader_of_dup colour hreq hbind hdup, State.relieve_of_crowd_lt hcrowd]
  · exact (State.dupAnswer_frame v _ _ _ _ _ _).step rfl (hv.mono rfl)
  · obtain ⟨hops, hsumm, hpend, hholds⟩ :=
      v.dupAnswer_records_nothing p r (pfxReq c) (pfxSeq c) (pfxAtt c) (cellHdr c)
    obtain ⟨f, hlast, hresp, hsent⟩ := v.dupAnswer_queue p r (pfxReq c) (pfxSeq c) (pfxAtt c) (cellHdr c)
      (by rw [hport]; exact hroom)
    obtain ⟨toReq, toSeq, toAtt, code, orig, aux, -⟩ := v.dupResp_names p r (pfxReq c) (pfxSeq c) (pfxAtt c) (cellHdr c)
    rw [hfrm] at hops hsumm hpend hholds
    rw [hport] at hlast
    refine ⟨hops, hsumm, hpend, hholds, f, hlast, hsent, ?_⟩
    rw [hresp]
    refine ⟨toReq, toSeq, toAtt, code, orig, aux, fun hheld g hfind => ?_, fun hheld => ?_⟩
    · exact State.dupResp_of_held p _ _ hheld (by rw [hfrm]; exact hfind)
    · exact State.dupResp_of_not_held p _ _ _ hheld

end Sys2Proof.Machine
end

section
/-! SUPPORT. How the write of an object is taken and answered (02 R48, R54; 15 R431 to R434; 16 R454). -/

namespace Sys2Proof.Machine

/-! ### What the final response of an MGMT operation leaves unchanged -/

/-- What follows once the final response of an operation waits for its done-table write: the operation leaves its unit,
its cells are freed, its region is released, and it is no longer listed (02 R54 to R57). -/
def State.withdraw (s : State) (k : Nat) (o : OpRec) : State :=
  let s := ((s.dropOp k o.hdr).freeKey o.raKey).release o.region
  let s := s.modMem fun m => { m with
    fails := m.fails.filter fun g => !(g.req = o.req && g.seq = o.seq),
    misreads := m.misreads.filter fun g => !(g.req = o.req && g.seq = o.seq) }
  let s := s.modFrm fun g => { g with ops := mapDel g.ops k }
  (s.unwait o.req o.seq).unwaitKv o

/-- A final response is held, its slot leaves OPEN and its done-table write is issued; then the operation is withdrawn. -/
theorem State.finishNow_eq (s : State) (k : Nat) (o : OpRec) (f : Final) :
    ∃ u, SameExcept [.frm, .obs, .cls, .tally] s u ∧ s.finishNow k o f = u.withdraw k o := by
  unfold State.finishNow
  dsimp only
  apply Exists.intro
  refine And.intro ?_ (Eq.refl _)
  have issued {p r i} {x : Resp} {st c e q} : SameExcept [.frm, .obs, .cls, .tally] s
      (((s.hold p r i x).1.setSlot r o.seq st).issueDone r i c e q) :=
    (State.issueDone_frame _ _ _ _ _ _).step rfl ((State.setSlot_frame _ _ _ _).step rfl (s.hold_frame p r i x))
  split
  · exact (State.bump_frame _ _ _ _).step rfl issued
  · exact issued

/-- No unit beside the dictionary keeps anything of an MGMT operation. -/
theorem State.dropOp_of_mgmt (s : State) (k : Nat) {h : List Byte} (hop : hOp h = opMgmt) : s.dropOp k h = s := by
  rw [State.dropOp, hop]; rfl

theorem State.withdraw_frame_of_mgmt (s : State) (k : Nat) {o : OpRec} (hop : o.opcode = opMgmt) :
    SameExcept [.mem, .frm, .rgn] s (s.withdraw k o) := by
  have released : SameExcept [.mem, .frm, .rgn] s ((s.freeKey o.raKey).release o.region) :=
    (State.release_frame _ o.region).step rfl ((s.freeKey_frame o.raKey).mono rfl)
  unfold State.withdraw
  rw [s.dropOp_of_mgmt k hop]
  refine (State.unwaitKv_frame _ o).step rfl ((State.unwait_frame _ o.req o.seq).step rfl ?_)
  exact (State.modFrm_frame _ _).step rfl ((State.modMem_frame _ _).step rfl released)

theorem State.withdraw_memory (s : State) (k : Nat) (o : OpRec) :
    (s.withdraw k o).mem.bytes = s.mem.bytes ∧ (s.withdraw k o).mem.poison = s.mem.poison := by
  have released : (((s.dropOp k o.hdr).freeKey o.raKey).release o.region).mem = s.mem :=
    ((State.release_frame _ o.region).step (l := [.wsk, .mc, .syn, .sch, .pwr, .att, .par, .frm, .rgn]) rfl
      ((State.freeKey_frame _ o.raKey).step rfl ((s.dropOp_frame k o.hdr).mono rfl))).same .mem rfl
  have waited (u : State) : ((u.unwait o.req o.seq).unwaitKv o).mem = u.mem :=
    ((u.unwait_frame o.req o.seq).trans (State.unwaitKv_frame _ o)).same .mem rfl
  unfold State.withdraw
  dsimp only
  rw [waited, State.modFrm_mem, State.modMem_mem, released]
  exact ⟨rfl, rfl⟩

/-! ### The answer of an access -/

/-- A frame's access is answered for an MGMT operation that is listed under the frame's key; the port's for none. -/
def State.AnswersMgmt (s : State) (src : MgmtSrc) : Prop :=
  match src with
  | .port _ => True
  | .frame req seq => ∃ o, s.op (opKey req seq) = some o ∧ o.opcode = opMgmt

theorem State.AnswersMgmt.congr {s u : State} {src : MgmtSrc} (h : s.AnswersMgmt src) (hfrm : u.frm = s.frm) :
    u.AnswersMgmt src := by
  cases src with
  | port tag => trivial
  | frame req seq => simpa only [State.AnswersMgmt, State.op, hfrm] using h

/-- An MGMT operation addresses no region, so that its digest waits for no leaf (09 R291, R294). -/
theorem State.weightsWait_of_mgmt (s : State) {o : OpRec} (f : Final) (hop : o.opcode = opMgmt) :
    s.weightsWait o f = false := by
  have hweightless : weightless o.opcode = true := by rw [hop]; rfl
  simp only [State.weightsWait, hweightless, Bool.not_true, Bool.and_false, Bool.false_and]

/-- The answer for a frame is counted, and is the final response of its operation (02 R48). -/
theorem State.respond_of_op {s : State} {req seq : Nat} {o : OpRec} (kind : Nat) (a : Answer)
    (hlisted : s.op (opKey req seq) = some o) (hop : o.opcode = opMgmt) :
    ∃ u, SameExcept [.obs, .tally] s u ∧
      s.respond (.frame req seq) kind a =
        u.finishNow (opKey req seq) o { code := a.code, aux := a.aux, payload := a.data } := by
  have finish_now (u : State) (hu : SameExcept [.obs, .tally] s u) (f : Final) :
      u.finish (opKey req seq) f = u.finishNow (opKey req seq) o f := by
    have hsame : u.op (opKey req seq) = some o := by rw [State.op, hu.same .frm rfl]; exact hlisted
    simp only [State.finish, hsame, u.weightsWait_of_mgmt f hop, Bool.false_eq_true, ↓reduceIte]
  have counted : SameExcept [.obs, .tally] s (s.bump tallyBlock tbMgmtInband 1) := s.bump_frame _ _ _
  unfold State.respond
  dsimp only
  split
  · exact ⟨_, counted, finish_now _ counted _⟩
  · have refused := (State.bump_frame _ tallyBlock tbMgmtRefused 1).step rfl counted
    exact ⟨_, refused, finish_now _ refused _⟩

/-- An answer changes the groups of its sender alone. -/
theorem State.respond_answerGroups {s : State} {src : MgmtSrc} (kind : Nat) (a : Answer) (h : s.AnswersMgmt src) :
    SameExcept (answerGroups src) s (s.respond src kind a) := by
  cases src with
  | port tag => exact s.portAnswer_frame kind tag a.code a.aux a.data
  | frame req seq =>
    obtain ⟨o, hlisted, hop⟩ := h
    obtain ⟨u, counted, hfinish⟩ := State.respond_of_op kind a hlisted hop
    obtain ⟨v, held, hwithdraw⟩ := u.finishNow_eq (opKey req seq) o { code := a.code, aux := a.aux, payload := a.data }
    rw [hfinish, hwithdraw]
    exact (v.withdraw_frame_of_mgmt _ hop).step rfl (held.step rfl (counted.mono rfl))

theorem State.respond_memory {s : State} {src : MgmtSrc} (kind : Nat) (a : Answer) (h : s.AnswersMgmt src) :
    (s.respond src kind a).mem.bytes = s.mem.bytes ∧ (s.respond src kind a).mem.poison = s.mem.poison := by
  cases src with
  | port tag =>
    have hmem : (s.respond (.port tag) kind a).mem = s.mem :=
      (s.portAnswer_frame kind tag a.code a.aux a.data).same .mem rfl
    rw [hmem]
    exact ⟨rfl, rfl⟩
  | frame req seq =>
    obtain ⟨o, hlisted, hop⟩ := h
    obtain ⟨u, counted, hfinish⟩ := State.respond_of_op kind a hlisted hop
    obtain ⟨v, held, hwithdraw⟩ := u.finishNow_eq (opKey req seq) o { code := a.code, aux := a.aux, payload := a.data }
    have hmem : v.mem = s.mem := (held.same .mem rfl).trans (counted.same .mem rfl)
    rw [hfinish, hwithdraw, ← hmem]
    exact v.withdraw_memory _ o

/-- The words of the port's response (15 R431). -/
theorem State.portAnswer_words (s : State) (kind tag code aux : Nat) (d : List Byte) :
    (s.portAnswer kind tag code aux d).mgtRsp = rspWords kind tag code aux d := by
  have counted (u : State) (entry : Nat) : (u.bump tallyBlock entry 1).mgtRsp = u.mgtRsp :=
    (u.bump_frame _ _ _).same .mgtRsp rfl
  unfold State.portAnswer
  dsimp only
  split
  · rw [counted, State.modMgtRsp_mgtRsp]
  · rw [counted, counted, State.modMgtRsp_mgtRsp]

/-! ### What an access that is taken has passed -/

theorem State.op_of_ready {s : State} {req seq opcode : Nat} {o : OpRec} (h : s.ready req seq opcode = some o) :
    s.op (opKey req seq) = some o ∧ o.opcode = opcode := by
  unfold State.ready at h
  split at h
  · cases h
  next x hx =>
    split at h
    · next hready =>
      obtain rfl : x = o := Option.some.inj h
      exact ⟨hx, hready.1⟩
    · cases h

/-- What a frame carries names the object that its command names; where the row names the operation and the value too,
they are the frame's own (02 R48). -/
theorem State.frameAccess_names {s : State} {o : OpRec} {a b : Access} (h : s.frameAccess o a = some b) :
    b.idx = a.idx ∧ b.sub = a.sub ∧
      (a.reads = false → a.loose = false → a.anyData = false → b.kind = a.kind ∧ b.data = a.data) := by
  simp only [State.frameAccess, Option.ite_none_right_eq_some, Option.some.injEq] at h
  obtain ⟨hguard, rfl⟩ := h
  refine ⟨rfl, rfl, fun hreads hloose hany => ?_⟩
  simp only [hreads, hloose, hany, Bool.false_eq_true, ↓reduceIte, Bool.and_eq_true, decide_eq_true_eq, and_true,
    Bool.false_and, Bool.or_false] at hguard ⊢
  obtain ⟨⟨⟨⟨hkind, -⟩, -⟩, -⟩, -⟩ := hguard
  exact hkind

/-- A check that errs is not passed. -/
theorem ite_error_eq_ok {c : Prop} [Decidable c] {ε α : Type} {e : ε} {x : Except ε α} {o : α} :
    (if c then .error e else x) = .ok o ↔ ¬ c ∧ x = .ok o := by
  split
  next hc => exact ⟨fun h => (by cases h), fun h => absurd hc h.1⟩
  next hc => exact ⟨fun h => ⟨hc, h⟩, And.right⟩

/-- A write that passes checks 1 to 6 of 16 R454 is to an object of its index, and a single write has its length. -/
theorem State.checkWrite_ok {s : State} {r idx sub ofs : Nat} {bulk : Bool} {d : List Byte} {o : Obj}
    (h : s.checkWrite r bulk idx sub ofs d = .ok o) :
    findObj s.build idx sub = some o ∧ (bulk = false → s.writeLenOk o idx d.length = true) := by
  simp only [State.checkWrite, ite_error_eq_ok] at h
  obtain ⟨-, h⟩ := h
  split at h
  · cases h
  next x hfind =>
    simp only [ite_error_eq_ok] at h
    obtain ⟨-, -, hlen, -, -, hx⟩ := h
    obtain rfl : x = o := Except.ok.inj hx
    refine ⟨hfind, fun hbulk => ?_⟩
    cases hok : s.writeLenOk x idx d.length with
    | true => rfl
    | false => exact absurd (Or.inr (Or.inr ⟨hbulk, hok⟩)) hlen

end Sys2Proof.Machine

namespace Sys2Proof

open Machine

/-! ### The answer of an access, as the state before it knows its sender -/

theorem Answered.congr {s u t : State} {o : OpRec} {code aux : Nat} {d : List Byte} (h : Answered u t o code aux d)
    (hfrm : u.frm = s.frm) (hdict : u.dict = s.dict) : Answered s t o code aux d where
  gone := h.gone
  slot := by rw [h.slot, State.summary_congr (congrArg Frm.summ hfrm) hdict]
  issued := h.issued

/-- The answer reaches its sender as the state before the access knows it. -/
theorem Machine.State.respond_replied {s u : State} {src : MgmtSrc} (kind : Nat) (a : Answer) (h : s.AnswersMgmt src)
    (hfrm : u.frm = s.frm) (hdict : u.dict = s.dict) :
    Replied s (u.respond src kind a) src kind a.code a.aux a.data := by
  cases src with
  | port tag => exact u.portAnswer_words kind tag a.code a.aux a.data
  | frame req seq =>
    intro o hlisted hkey
    obtain ⟨x, hx, hop⟩ := h
    obtain rfl : o = x := Option.some.inj (hlisted.symm.trans hx)
    have hlisted' : u.op (opKey req seq) = some o := by rw [State.op, hfrm]; exact hlisted
    obtain ⟨v, counted, hfinish⟩ := State.respond_of_op kind a hlisted' hop
    rw [hfinish, ← hkey]
    exact (v.finishNow_answered o _).congr ((counted.same .frm rfl).trans hfrm) ((counted.same .dict rfl).trans hdict)

/-- An access that has changed some groups, not those of the frames and the dictionary, and is then answered DONE. -/
theorem does_of_respond {c : Instr} {s u : State} {src : MgmtSrc} {b : Access} {l : List Group} {post : State → Prop}
    (hmgmt : s.AnswersMgmt src)
    (hexec : exec c s = .next (u.respond src b.kind { code := cDone, aux := b.data.length }))
    (hchange : SameExcept l s u) (hfrm : l.contains .frm = false) (hdict : l.contains .dict = false)
    (hpost : post (u.respond src b.kind { code := cDone, aux := b.data.length })) : Does c s src b l post := by
  have hufrm : u.frm = s.frm := hchange.same .frm hfrm
  have humgmt : u.AnswersMgmt src := hmgmt.congr hufrm
  refine ⟨_, hexec, ⟨fun g hg => ?_⟩, ?_, fun hmem => ?_, hpost⟩
  · rw [List.contains_append, Bool.or_eq_false_iff] at hg
    obtain ⟨hchanged, hanswered⟩ := hg
    exact Group.same_trans (hchange.same g hchanged) ((State.respond_answerGroups _ _ humgmt).same g hanswered)
  · exact State.respond_replied _ _ hmgmt hufrm (hchange.same .dict hdict)
  · have humem : u.mem = s.mem := hchange.same .mem hmem
    rw [← humem]
    exact State.respond_memory _ _ humgmt

/-- An access that is refused as it stands. -/
theorem turnedAway_of_respond {c : Instr} {s : State} {src : MgmtSrc} {b : Access} {code aux : Nat}
    (hmgmt : s.AnswersMgmt src) (hexec : exec c s = .next (s.respond src b.kind (refusal code aux))) :
    TurnedAway c s src b code aux :=
  ⟨_, hexec, State.respond_answerGroups _ _ hmgmt, State.respond_replied _ _ hmgmt rfl rfl,
    State.respond_memory _ _ hmgmt⟩

/-! ### The access that is taken -/

theorem Taken.answersMgmt {s : State} {src : MgmtSrc} {a b : Access} (h : Taken s src a b) : s.AnswersMgmt src := by
  cases src with
  | port tag => trivial
  | frame req seq =>
    obtain ⟨-, -, -, -, o, hready, -⟩ := h
    exact ⟨o, State.op_of_ready hready⟩

theorem Taken.srcOk {s : State} {src : MgmtSrc} {a b : Access} (h : Taken s src a b) : srcOk src = true := by
  cases src with
  | port tag =>
    obtain ⟨-, htag, -⟩ := h
    exact decide_eq_true htag
  | frame req seq =>
    obtain ⟨-, hreq, hseq, -⟩ := h
    simp only [Machine.srcOk, hreq, hseq, decide_true, Bool.and_self]

/-- The same for either sender. -/
theorem Taken.names {s : State} {src : MgmtSrc} {a b : Access} (h : Taken s src a b) :
    b.idx = a.idx ∧ b.sub = a.sub ∧
      (a.reads = false → a.loose = false → a.anyData = false → b.kind = a.kind ∧ b.data = a.data) := by
  cases src with
  | port tag =>
    obtain ⟨-, -, -, -, -, rfl⟩ := h
    refine ⟨rfl, rfl, fun _ _ hany => ⟨rfl, ?_⟩⟩
    simp only [Access.onPort, hany, Bool.false_eq_true, ↓reduceIte]
  | frame req seq =>
    obtain ⟨-, -, -, -, o, -, -, -, hframe⟩ := h
    exact State.frameAccess_names hframe

/-- An access that is taken is carried out; a resend of an operation is a frame's. -/
theorem Taken.access_eq {s : State} {src : MgmtSrc} {a b : Access} (h : Taken s src a b) (returned : List Byte) :
    ∃ again, s.access src a returned = s.perform src again b returned ∧
      (again = true → ∃ req seq x, src = .frame req seq ∧ s.op (opKey req seq) = some x ∧ x.att ≠ 0) := by
  obtain ⟨hserved, htaken⟩ := h
  cases src with
  | port tag =>
    obtain ⟨-, hup, hstage, hlive, rfl⟩ := htaken
    refine ⟨false, ?_, fun h => Bool.noConfusion h⟩
    have hopen : ¬ (s.ldl.stage < 4 ∨
        (s.ldl.stage = 255 ∧ (!(a.onPort.reads && decide (a.onPort.idx = 0xB000))) = true)) :=
      fun h => h.elim (Nat.not_lt.mpr hstage) fun h => hlive h.1
    simp only [State.access, hserved, hup, Bool.not_true, Bool.false_eq_true, ↓reduceIte, if_neg hopen]
  | frame req seq =>
    obtain ⟨-, -, hlive, o, hready, -, -, hframe⟩ := htaken
    refine ⟨decide (0 < o.att), ?_, fun h => ⟨req, seq, o, rfl, (State.op_of_ready hready).1, ?_⟩⟩
    · simp only [State.access, hserved, hlive, hready, hframe, Bool.not_true, Bool.false_eq_true, ↓reduceIte]
    · exact Nat.pos_iff_ne_zero.mp (of_decide_eq_true h)

/-- An accepted write of a WO object does its operation and is answered with what it gives. -/
theorem Accepted.access_eq {s : State} {src : MgmtSrc} {a b : Access} {o : Obj} (h : Accepted s src a b o)
    (hwrite : b.reads = false) :
    ∃ again, (again && s.started o) = false ∧
      s.access src a [] =
        (((s.writeObj (reader src) again o b []).1.respond src b.kind
          (s.writeObj (reader src) again o b []).2).afterAnswer o (s.writeObj (reader src) again o b []).2) := by
  obtain ⟨again, hperform, hresend⟩ := h.taken.access_eq []
  obtain ⟨hidx, hsub, -⟩ := h.taken.names
  refine ⟨again, ?_, ?_⟩
  · cases again with
    | false => rfl
    | true =>
      obtain ⟨req, seq, x, hsrc, hx, hatt⟩ := hresend rfl
      exact (h.first req seq x hsrc hx).resolve_left hatt
  · rw [hperform, State.perform, hwrite, hidx, hsub, h.checks]
    simp only [h.duty, Bool.true_eq_false, and_false, Bool.false_eq_true, ↓reduceIte]

end Sys2Proof
end

section
/-! SUPPORT. The discipline of the fabric time, said once per operation (09 R267 to R270), up to the statement about it. -/

namespace Sys2Proof.Machine

/-! ### A value in force -/

theorem State.param_congr {s t : State} (hdict : t.dict = s.dict) (hbuild : t.build = s.build) (idx sub : Nat) :
    t.param idx sub = s.param idx sub := by rw [State.param, hdict, hbuild, State.param]

/-! ### A change of FTC_STATE (09 R268) -/

theorem State.raise_newest (s : State) (src code : Nat) (data : List Byte) :
    (s.raise src code data).evt.newest = s.evt.newest + 1 := rfl

theorem State.ftcState_of_eq {s : State} {st : Nat} (h : s.sch.disc.state = st) : s.ftcState st = s := if_pos h

/-- A change counts, begins its row of near pulses anew, and is an event. -/
theorem State.ftcState_of_ne {s : State} {st : Nat} (h : s.sch.disc.state ≠ st) :
    (s.ftcState st).sch = { s.sch with disc := { s.sch.disc with state := st, close := 0 } } ∧
      (s.ftcState st).evt.newest = s.evt.newest + 1 := by
  let u := s.modDisc fun d => { d with state := st, close := 0 }
  have counted : SameExcept [.obs, .tally] u (u.bump tallyBlock tbFtcState 1) := u.bump_frame _ _ _
  have hsch : (u.bump tallyBlock tbFtcState 1).sch = u.sch := counted.same .sch rfl
  have hevt : (u.bump tallyBlock tbFtcState 1).evt = u.evt := counted.same .evt rfl
  rw [State.ftcState, if_neg h]
  exact ⟨hsch, (State.raise_newest _ _ _ _).trans (congrArg (fun e => e.newest + 1) hevt)⟩

/-- Whether or not it is a change, FTC_STATE is the one named, and beside the row of near pulses nothing else of the
discipline moves. -/
theorem State.ftcState_sch (s : State) (st : Nat) :
    ∃ n, (s.ftcState st).sch = { s.sch with disc := { s.sch.disc with state := st, close := n } } := by
  by_cases h : s.sch.disc.state = st
  · exact ⟨s.sch.disc.close, by rw [State.ftcState_of_eq h, ← h]⟩
  · exact ⟨0, (State.ftcState_of_ne h).1⟩

/-! ### An accepted pulse (09 R267 to R269) -/

/-- The edge and the error of an accepted pulse are recorded, and the pulse is counted. -/
def State.pulseSeen (s : State) (e : Int) : State :=
  (s.modDisc fun d => { d with last := some s.clk.now, err := clampI (-(2 ^ 31)) (2 ^ 31 - 1) e }).bump
    tallyBlock tbPulseOk 1

/-- Pulses in a row with |e| ≤ 8, this one among them. -/
def State.nearRow (s : State) (e : Int) : Nat := if e.natAbs ≤ 8 then s.sch.disc.close + 1 else 0

/-- A pulse in ACQUIRE steers, and the fourth near one in a row begins TRACK. -/
def State.approach (s : State) (e : Int) : State :=
  let t := (s.servo e).modDisc fun d => { d with close := s.nearRow e }
  if 4 ≤ s.nearRow e then t.ftcState 2 else t

/-- A pulse in TRACK steers, and past FTC_TRACK_LIMIT raises an event. -/
def State.follow (s : State) (e : Int) : State :=
  if (s.servo e).param 0xD000 5 < e.natAbs then (s.servo e).note srcHub 268 (uNat 32 e) else s.servo e

/-- What an accepted pulse does where it is no load, by FTC_STATE. -/
def State.steer (s : State) (e : Int) : State :=
  match s.sch.disc.state with
  | 1 => if s.param 0xD000 6 < e.natAbs then s.ftcState 4 else s.approach e
  | 2 => if s.param 0xD000 6 < e.natAbs then s.ftcState 4 else s.follow e
  | 3 => if e.natAbs ≤ s.param 0xD000 5 then s.ftcState s.sch.disc.from_ else s.ftcState 4
  | _ => s

theorem State.pulseSeen_frame (s : State) (e : Int) : SameExcept [.sch, .obs, .tally] s (s.pulseSeen e) :=
  (State.bump_frame _ _ _ _).step rfl ((s.modDisc_frame _).mono rfl)

theorem State.pulseSeen_sch (s : State) (e : Int) :
    (s.pulseSeen e).sch =
      { s.sch with disc := { s.sch.disc with last := some s.clk.now, err := clampI (-(2 ^ 31)) (2 ^ 31 - 1) e } } :=
  (State.bump_frame _ tallyBlock tbPulseOk 1).same .sch rfl

theorem State.pulseSeen_param (s : State) (e : Int) (idx sub : Nat) : (s.pulseSeen e).param idx sub = s.param idx sub :=
  State.param_congr ((s.pulseSeen_frame e).same .dict rfl) ((s.pulseSeen_frame e).same .build rfl) idx sub

/-- In FREE, or after a write of FTC_RESYNC, an accepted pulse loads the FTC. -/
theorem State.pulse_of_load {s : State} (v : Nat) (e : Int) (h : s.sch.disc.state = 0 ∨ s.sch.disc.resync = true) :
    s.pulse v e = (s.pulseSeen e).ftcLoad v := if_pos h

/-- Otherwise it steers. -/
theorem State.pulse_of_not_load {s : State} (v : Nat) (e : Int)
    (h : ¬ (s.sch.disc.state = 0 ∨ s.sch.disc.resync = true)) : s.pulse v e = (s.pulseSeen e).steer e := by
  rw [State.steer, State.pulseSeen_sch, State.pulse]
  exact if_neg h

/-- A load: the FTC counts on from V + 6, and ACQUIRE begins (09 R268, R270). -/
theorem State.ftcLoad_clk (s : State) (v : Nat) :
    (s.ftcLoad v).clk = { s.clk with ftc := (v + 6) % 2 ^ 64 } := (State.ftcState_frame _ 1).same .clk rfl

theorem State.ftcLoad_disc (s : State) (v : Nat) :
    ∃ n, (s.ftcLoad v).sch.disc = { s.sch.disc with state := 1, acc := 0, resync := false, close := n } := by
  obtain ⟨n, h⟩ := State.ftcState_sch
    ((s.modClk fun c => { c with ftc := (v + 6) % 2 ^ 64 }).modDisc fun d => { d with acc := 0, resync := false, close := 0 })
    1
  exact ⟨n, congrArg Sch.disc h⟩

theorem State.ftcLoad_newest {s : State} (v : Nat) (h : s.sch.disc.state ≠ 1) :
    (s.ftcLoad v).evt.newest = s.evt.newest + 1 :=
  let u := (s.modClk fun c => { c with ftc := (v + 6) % 2 ^ 64 }).modDisc fun d =>
    { d with acc := 0, resync := false, close := 0 }
  (State.ftcState_of_ne (s := u) h).2

/-! ### Steering (09 R268, R269) -/

theorem State.approach_frame (s : State) (e : Int) : SameExcept [.sch, .evt, .obs, .tally] s (s.approach e) := by
  have marked : SameExcept [.sch, .evt, .obs, .tally] s ((s.servo e).modDisc fun d => { d with close := s.nearRow e }) :=
    (State.modDisc_frame _ _).step rfl ((s.servo_frame e).mono rfl)
  unfold State.approach
  dsimp only
  split
  · exact (State.ftcState_frame _ 2).step rfl marked
  · exact marked

theorem State.follow_frame (s : State) (e : Int) : SameExcept [.sch, .evt] s (s.follow e) := by
  have steered : SameExcept [.sch, .evt] s (s.servo e) := (s.servo_frame e).mono rfl
  unfold State.follow
  split
  · exact (State.note_frame _ _ _ _).step rfl steered
  · exact steered

theorem State.steer_frame (s : State) (e : Int) : SameExcept [.sch, .evt, .obs, .tally] s (s.steer e) := by
  unfold State.steer
  split
  · split
    · exact s.ftcState_frame 4
    · exact s.approach_frame e
  · split
    · exact s.ftcState_frame 4
    · exact (s.follow_frame e).mono rfl
  · split
    · exact s.ftcState_frame _
    · exact s.ftcState_frame 4
  · exact SameExcept.refl _ s

/-- The correction moves the sum of the errors and the trim alone (09 R269). -/
theorem State.servo_sch (s : State) (e : Int) :
    (s.servo e).sch = { s.sch with disc := { s.sch.disc with
      acc := clampI (-(2 ^ 31)) (2 ^ 31 - 1) (s.sch.disc.acc + e),
      trim := clampI (-109951163) 109951163 (s.sch.disc.trim - (s.param 0xD000 9 : Int) * e -
        (s.param 0xD000 10 : Int) * clampI (-(2 ^ 31)) (2 ^ 31 - 1) (s.sch.disc.acc + e)) } } := rfl

/-- Past FTC_STEP_LIMIT the discipline faults. -/
theorem State.steer_of_far {s : State} {e : Int} (h : s.sch.disc.state = 1 ∨ s.sch.disc.state = 2)
    (hfar : s.param 0xD000 6 < e.natAbs) : s.steer e = s.ftcState 4 := by
  rcases h with h | h <;> simp only [State.steer, h, hfar, ↓reduceIte]

theorem State.steer_of_acquire {s : State} {e : Int} (h : s.sch.disc.state = 1)
    (hnear : e.natAbs ≤ s.param 0xD000 6) : s.steer e = s.approach e := by
  simp only [State.steer, h, Nat.not_lt.mpr hnear, ↓reduceIte]

/-- The fourth near pulse in a row is one that finds three. -/
theorem State.four_le_nearRow (s : State) (e : Int) :
    4 ≤ s.nearRow e ↔ e.natAbs ≤ 8 ∧ 3 ≤ s.sch.disc.close := by
  unfold State.nearRow
  split <;> omega

theorem State.approach_sch {s : State} (e : Int) (h : s.sch.disc.state = 1) :
    ∃ n, (s.approach e).sch = { (s.servo e).sch with disc := { (s.servo e).sch.disc with
      state := if e.natAbs ≤ 8 ∧ 3 ≤ s.sch.disc.close then 2 else 1, close := n } } := by
  let t := (s.servo e).modDisc fun d => { d with close := s.nearRow e }
  have ht : t.sch.disc.state = 1 := h
  unfold State.approach
  simp only [State.four_le_nearRow]
  split
  · have tracks := (State.ftcState_of_ne (s := t) (st := 2) (by rw [ht]; decide)).1
    exact ⟨0, tracks⟩
  · exact ⟨s.nearRow e, by rw [← ht]; rfl⟩

theorem State.steer_of_track {s : State} {e : Int} (h : s.sch.disc.state = 2)
    (hnear : e.natAbs ≤ s.param 0xD000 6) : s.steer e = s.follow e := by
  simp only [State.steer, h, Nat.not_lt.mpr hnear, ↓reduceIte]

theorem State.follow_sch (s : State) (e : Int) : (s.follow e).sch = (s.servo e).sch := by
  unfold State.follow
  split <;> rfl

/-- In HOLDOVER a pulse within FTC_TRACK_LIMIT goes back, and one past it faults. -/
theorem State.steer_of_holdover {s : State} {e : Int} (h : s.sch.disc.state = 3) :
    s.steer e = s.ftcState (if e.natAbs ≤ s.param 0xD000 5 then s.sch.disc.from_ else 4) := by
  simp only [State.steer, h]
  split <;> rfl

/-- In FAULT, or in a state that the discipline does not have, a pulse does nothing more. -/
theorem State.steer_of_other {s : State} (e : Int) (h1 : s.sch.disc.state ≠ 1) (h2 : s.sch.disc.state ≠ 2)
    (h3 : s.sch.disc.state ≠ 3) : s.steer e = s := by
  unfold State.steer
  split
  next h => exact absurd h h1
  next h => exact absurd h h2
  next h => exact absurd h h3
  next => rfl

/-- A pulse that steers moves FTC_STATE, the sum of the errors, the trim and the row of near pulses alone. -/
theorem State.steer_sch (s : State) (e : Int) :
    ∃ st acc trim n, (s.steer e).sch =
      { s.sch with disc := { s.sch.disc with state := st, acc := acc, trim := trim, close := n } } := by
  have changed (st : Nat) : ∃ st' acc trim n, (s.ftcState st).sch =
      { s.sch with disc := { s.sch.disc with state := st', acc := acc, trim := trim, close := n } } := by
    obtain ⟨n, h⟩ := s.ftcState_sch st
    exact ⟨_, _, _, _, h⟩
  unfold State.steer
  split
  next h =>
    split
    · exact changed 4
    · obtain ⟨n, hsch⟩ := State.approach_sch e h
      exact ⟨_, _, _, _, hsch⟩
  · split
    · exact changed 4
    · exact ⟨_, _, _, _, s.follow_sch e⟩
  · split
    · exact changed _
    · exact changed 4
  · exact ⟨_, _, _, _, rfl⟩

/-! ### HOLDOVER (09 R268) -/

theorem State.toHoldover_of {s : State} (h : s.sch.disc.state = 1 ∨ s.sch.disc.state = 2) :
    (s.toHoldover).sch = { s.sch with disc :=
        { s.sch.disc with from_ := s.sch.disc.state, holdAt := s.clk.now, state := 3, close := 0 } } ∧
      (s.toHoldover).evt.newest = s.evt.newest + 1 := by
  let u := s.modDisc fun d => { d with from_ := d.state, holdAt := s.clk.now }
  have hu : u.sch.disc.state ≠ 3 := fun h3 : s.sch.disc.state = 3 => by omega
  rw [State.toHoldover, if_pos h]
  exact State.ftcState_of_ne hu

/-! ### The commands of the discipline -/

/-- A pulse without a value, an early one, or one while the PLL is unlocked is counted and no more. -/
theorem exec_ftcPulse_ignored {s : State} {valid : Bool} {v ph : Nat} (hv : v < 2 ^ 64) (hph : ph < 8)
    (h : valid = false ∨ s.clk.locked = false ∨
      ∃ x, s.sch.disc.last = some x ∧ s.clk.now < x + tclkR (s.param 0xD000 7) / 2) :
    exec (.ftcPulse valid v ph) s = .next (s.bump tallyBlock tbPulseIgnored 1) := by
  change execFtcPulse valid v ph s = _
  rw [execFtcPulse, runIf_true _ (by simp only [hv, hph, decide_true, Bool.and_self])]
  rcases h with hvalid | hlocked | ⟨x, hlast, hearly⟩
  · simp only [hvalid, Bool.not_false, Bool.true_or, ↓reduceIte]
  · simp only [hlocked, Bool.not_false, Bool.or_true, ↓reduceIte]
  · simp only [hlast, hearly, decide_true, Bool.or_true, Bool.true_or, ↓reduceIte]

/-- Any other is accepted. -/
theorem exec_ftcPulse_accepted {s : State} {v ph : Nat} (hv : v < 2 ^ 64) (hph : ph < 8)
    (hlocked : s.clk.locked = true)
    (hlate : ∀ x, s.sch.disc.last = some x → x + tclkR (s.param 0xD000 7) / 2 ≤ s.clk.now) :
    exec (.ftcPulse true v ph) s = .next (s.pulse v (8 * (s.clk.ftc : Int) + ph - 8 * (v : Int))) := by
  change execFtcPulse true v ph s = _
  rw [execFtcPulse, runIf_true _ (by simp only [hv, hph, decide_true, Bool.and_self])]
  cases hlast : s.sch.disc.last with
  | none => simp only [hlocked, Bool.not_true, Bool.or_self, Bool.false_eq_true, ↓reduceIte]
  | some x =>
    simp only [hlocked, Nat.not_lt.mpr (hlate x hlast), decide_false, Bool.not_true, Bool.or_self, Bool.false_eq_true,
      ↓reduceIte]

theorem exec_pulseTimeout_of_due {s : State} {x : Nat} (hlast : s.sch.disc.last = some x)
    (hdue : s.since x (3 * tclkR (s.param 0xD000 7)) = true) : exec .pulseTimeout s = .next s.toHoldover := by
  change execPulseTimeout s = _
  simp only [execPulseTimeout, hlast, hdue, ↓reduceIte]

theorem exec_holdoverMaxExpiry_of_due {s : State} (hstate : s.sch.disc.state = 3)
    (hdue : s.since s.sch.disc.holdAt (usR (s.param 0xD000 8)) = true) :
    exec .holdoverMaxExpiry s = .next (s.ftcState 4) := by
  change execHoldoverMaxExpiry s = _
  rw [execHoldoverMaxExpiry, if_pos ⟨hstate, hdue⟩]

/-! ### A write of FTC_RESYNC (09 R270; 16 R454, R460) -/

/-- FTC_RESYNC in the object table. -/
def ftcResyncObj : Obj := ⟨0xD000, .one, 0x0B, .bool, .wo, 0, 1, 0, 0⟩

/-- Objects of sub-index 0x0B: those at one index, and, per channel, one of 8 bytes. -/
theorem inst_of_sub_0B : ∀ o ∈ objTable, o.sub = 0x0B → o.inst = .one ∨ (o.acc = .rwl ∧ o.ty = .u64) := by
  decide +kernel

theorem eq_ftcResyncObj : ∀ o ∈ objTable, o.sub = 0x0B → o.base = 0xD000 → o = ftcResyncObj := by
  decide +kernel

/-- An object at one index is found at its base. -/
theorem Obj.base_of_one {b : Build} {o : Obj} {idx : Nat} (hone : o.inst = .one) (h : (o.inst? b idx).isSome = true) :
    o.base = idx := by
  unfold Obj.inst? at h
  simp only [hone] at h
  split at h
  · cases h
  · split at h
    · omega
    · cases h

/-- A single byte that passes the checks of a write at 0xD000:0B is written to FTC_RESYNC, whatever the build. -/
theorem State.checkWrite_ftcResync {s : State} {r ofs : Nat} {d : List Byte} {o : Obj} (hlen : d.length = 1)
    (h : s.checkWrite r false 0xD000 0x0B ofs d = .ok o) : o = ftcResyncObj := by
  obtain ⟨hfind, hwritten⟩ := State.checkWrite_ok h
  have hlisted : o ∈ objTable := List.mem_of_find?_eq_some hfind
  have hmatch := List.find?_some hfind
  simp only [Bool.and_eq_true, decide_eq_true_eq] at hmatch
  obtain ⟨hsub, hinst⟩ := hmatch
  rcases inst_of_sub_0B o hlisted hsub with hone | ⟨hacc, hty⟩
  · exact eq_ftcResyncObj o hlisted hsub (Obj.base_of_one hone hinst)
  · have hlong : s.writeLenOk o 0xD000 d.length = false := by simp [State.writeLenOk, hacc, hty, hlen, OTy.bytes]
    exact absurd (hwritten rfl) (by rw [hlong]; decide)

/-- The operation that an accepted write of FTC_RESYNC does. -/
theorem State.writeObj_ftcResync (s : State) (r : Nat) (again : Bool) (a : Access) :
    s.writeObj r again ftcResyncObj a [] =
      match s.ftcResync with
      | some t => (t, { code := cDone, aux := a.data.length })
      | none => (s, refusal cState 0) := by
  cases again <;> rfl

/-- While no schedule context is in use, the next accepted pulse is made a load. -/
theorem State.ftcResync_of_idle {s : State} (h : ∀ p ∈ s.sch.ctxs, p.2.state = 0) :
    s.ftcResync = some (s.modDisc fun d => { d with resync := true }) := by
  have hidle : (s.sch.ctxs.any fun p => decide (p.2.state ≠ 0)) = false :=
    List.any_eq_false.mpr fun p hp => by simp [h p hp]
  rw [State.ftcResync, hidle]
  rfl

/-- While one is in use, the write is refused. -/
theorem State.ftcResync_of_busy {s : State} (h : ∃ p ∈ s.sch.ctxs, p.2.state ≠ 0) : s.ftcResync = none := by
  obtain ⟨p, hp, hbusy⟩ := h
  exact if_pos (List.any_eq_true.mpr ⟨p, hp, decide_eq_true hbusy⟩)

/-- An accepted write of FTC_RESYNC answers what its operation gives. -/
theorem exec_ftcResync {s : State} {src : MgmtSrc} {value : Nat} {b : Access} {o : Obj} (hvalue : value < 256)
    (h : Accepted s src { kind := 2, idx := 0xD000, sub := 11, data := beBytes 1 value } b o) :
    exec (.ftcResync src value) s = .next
      (match s.ftcResync with
        | some t => t.respond src b.kind { code := cDone, aux := b.data.length }
        | none => s.respond src b.kind (refusal cState 0)) := by
  obtain ⟨-, -, hwritten⟩ := h.taken.names
  obtain ⟨hkind, hdata⟩ := hwritten rfl rfl rfl
  have hsingle : decide (b.kind = 4) = false := by rw [hkind]; rfl
  have hwrite : b.reads = false := by rw [Access.reads, hkind]; rfl
  have hchecks := h.checks
  rw [hsingle] at hchecks
  obtain rfl : o = ftcResyncObj := State.checkWrite_ftcResync (by rw [hdata]; rfl) hchecks
  obtain ⟨again, -, haccess⟩ := h.access_eq hwrite
  change s.runAccess src (decide (value < 256)) (word 0xD000 11 (beBytes 1 value)) = _
  rw [State.runAccess, runIf_true _ (by rw [h.taken.srcOk, decide_eq_true hvalue]; rfl)]
  refine congrArg Host.Outcome.next (haccess.trans ?_)
  rw [State.writeObj_ftcResync]
  cases s.ftcResync <;> rfl

/-! ### The access that carries it -/

/-- FTC_RESYNC is refused while a schedule context is in use. -/
theorem ftcResync_turnedAway {s : State} {src : MgmtSrc} {value : Nat} {b : Access} {o : Obj} (hvalue : value < 256)
    (h : Accepted s src { kind := 2, idx := 0xD000, sub := 11, data := beBytes 1 value } b o)
    (hbusy : ∃ p ∈ s.sch.ctxs, p.2.state ≠ 0) : TurnedAway (.ftcResync src value) s src b cState 0 := by
  refine turnedAway_of_respond h.taken.answersMgmt ?_
  rw [exec_ftcResync hvalue h, State.ftcResync_of_busy hbusy]

/-- Otherwise it is kept until the next accepted pulse. -/
theorem ftcResync_does {s : State} {src : MgmtSrc} {value : Nat} {b : Access} {o : Obj} (hvalue : value < 256)
    (h : Accepted s src { kind := 2, idx := 0xD000, sub := 11, data := beBytes 1 value } b o)
    (hidle : ∀ p ∈ s.sch.ctxs, p.2.state = 0) :
    Does (.ftcResync src value) s src b [.sch] fun t =>
      t.sch = { s.sch with disc := { s.sch.disc with resync := true } } := by
  let u := s.modDisc fun d => { d with resync := true }
  refine does_of_respond (u := u) h.taken.answersMgmt ?_ (s.modDisc_frame _) rfl rfl ?_
  · rw [exec_ftcResync hvalue h, State.ftcResync_of_idle hidle]
  · have humgmt : u.AnswersMgmt src := h.taken.answersMgmt.congr rfl
    have hsch := (State.respond_answerGroups b.kind { code := cDone, aux := b.data.length } humgmt).same .sch
      (by cases src <;> rfl)
    exact hsch

/-! ### An accepted pulse, as the state before it knows the discipline -/

/-- What the pulse that loads the FTC leaves, in FREE as after a write of FTC_RESYNC. -/
theorem State.pulse_of_load_leaves {s : State} {v : Nat} {e : Int} (h : s.sch.disc.state = 0 ∨ s.sch.disc.resync = true) :
    let t := s.pulse v e
    t.clk = { s.clk with ftc := (v + 6) % 2 ^ 64 } ∧ t.sch.disc.state = 1 ∧ t.sch.disc.acc = 0 ∧
      t.sch.disc.resync = false ∧ t.sch.disc.last = some s.clk.now ∧
      (s.sch.disc.state ≠ 1 → t.evt.newest = s.evt.newest + 1) := by
  have hclk : (s.pulseSeen e).clk = s.clk := (s.pulseSeen_frame e).same .clk rfl
  have hevt : (s.pulseSeen e).evt = s.evt := (s.pulseSeen_frame e).same .evt rfl
  obtain ⟨n, hdisc⟩ := (s.pulseSeen e).ftcLoad_disc v
  dsimp only
  rw [State.pulse_of_load v e h, hdisc, State.ftcLoad_clk, hclk, State.pulseSeen_sch, ← hevt]
  refine ⟨rfl, rfl, rfl, rfl, rfl, fun hstate => State.ftcLoad_newest v ?_⟩
  rw [State.pulseSeen_sch]
  exact hstate

section Steered

variable {s : State} {v : Nat} {e : Int} (hload : ¬ (s.sch.disc.state = 0 ∨ s.sch.disc.resync = true))

/-- The state in which the pulse steers has the discipline of the state before. -/
theorem State.pulseSeen_disc (s : State) (e : Int) :
    (s.pulseSeen e).sch.disc.state = s.sch.disc.state ∧ (s.pulseSeen e).sch.disc.close = s.sch.disc.close ∧
      (s.pulseSeen e).sch.disc.from_ = s.sch.disc.from_ ∧ (s.pulseSeen e).sch.disc.trim = s.sch.disc.trim := by
  rw [State.pulseSeen_sch]
  exact ⟨rfl, rfl, rfl, rfl⟩

theorem State.servo_pulseSeen (s : State) (e : Int) :
    ((s.pulseSeen e).servo e).sch.disc.acc = (s.servo e).sch.disc.acc ∧
      ((s.pulseSeen e).servo e).sch.disc.trim = (s.servo e).sch.disc.trim := by
  simp only [State.servo_sch, State.pulseSeen_sch, State.pulseSeen_param, and_self]

include hload

theorem State.pulse_steers_frame : SameExcept [.sch, .evt, .obs, .tally] s (s.pulse v e) := by
  rw [State.pulse_of_not_load v e hload]
  exact (State.steer_frame _ e).step rfl ((s.pulseSeen_frame e).mono rfl)

/-- Its edge and its error are recorded, and no context moves. -/
theorem State.pulse_steers_records :
    (s.pulse v e).sch.disc.last = some s.clk.now ∧ (s.pulse v e).sch.ctxs = s.sch.ctxs ∧
      (s.pulse v e).sch.disc.err = clampI (-(2 ^ 31)) (2 ^ 31 - 1) e := by
  obtain ⟨st, acc, trim, n, hsch⟩ := (s.pulseSeen e).steer_sch e
  rw [State.pulse_of_not_load v e hload, hsch, State.pulseSeen_sch]
  exact ⟨rfl, rfl, rfl⟩

/-- A far one faults the discipline, and leaves the trim. -/
theorem State.pulse_of_far (h : s.sch.disc.state = 1 ∨ s.sch.disc.state = 2) (hfar : s.param 0xD000 6 < e.natAbs) :
    (s.pulse v e).sch.disc.state = 4 ∧ (s.pulse v e).sch.disc.trim = s.sch.disc.trim := by
  obtain ⟨hstate, -, -, htrim⟩ := s.pulseSeen_disc e
  obtain ⟨n, hsch⟩ := (s.pulseSeen e).ftcState_sch 4
  rw [State.pulse_of_not_load v e hload, State.steer_of_far (by rw [hstate]; exact h)
    (by rw [State.pulseSeen_param]; exact hfar), hsch, ← htrim]
  exact ⟨rfl, rfl⟩

/-- One that is not far steers the trim in ACQUIRE, and the fourth near one in a row begins TRACK. -/
theorem State.pulse_of_acquire (h : s.sch.disc.state = 1) (hnear : e.natAbs ≤ s.param 0xD000 6) :
    (s.pulse v e).sch.disc.acc = (s.servo e).sch.disc.acc ∧ (s.pulse v e).sch.disc.trim = (s.servo e).sch.disc.trim ∧
      (s.pulse v e).sch.disc.state = if e.natAbs ≤ 8 ∧ 3 ≤ s.sch.disc.close then 2 else 1 := by
  obtain ⟨hstate, hclose, -, -⟩ := s.pulseSeen_disc e
  obtain ⟨hacc, htrim⟩ := s.servo_pulseSeen e
  have hacquire : (s.pulseSeen e).sch.disc.state = 1 := hstate.trans h
  obtain ⟨n, hsch⟩ := State.approach_sch e hacquire
  rw [State.pulse_of_not_load v e hload, State.steer_of_acquire hacquire (by rw [State.pulseSeen_param]; exact hnear),
    hsch, ← hacc, ← htrim, ← hclose]
  exact ⟨rfl, rfl, rfl⟩

/-- It steers the trim in TRACK, which goes on. -/
theorem State.pulse_of_track (h : s.sch.disc.state = 2) (hnear : e.natAbs ≤ s.param 0xD000 6) :
    (s.pulse v e).sch.disc.acc = (s.servo e).sch.disc.acc ∧ (s.pulse v e).sch.disc.trim = (s.servo e).sch.disc.trim ∧
      (s.pulse v e).sch.disc.state = 2 := by
  obtain ⟨hstate, -, -, -⟩ := s.pulseSeen_disc e
  obtain ⟨hacc, htrim⟩ := s.servo_pulseSeen e
  have htrack : (s.pulseSeen e).sch.disc.state = 2 := hstate.trans h
  rw [State.pulse_of_not_load v e hload, State.steer_of_track htrack (by rw [State.pulseSeen_param]; exact hnear),
    State.follow_sch, ← hacc, ← htrim]
  exact ⟨rfl, rfl, htrack⟩

/-- In HOLDOVER it goes back, or faults. -/
theorem State.pulse_of_holdover (h : s.sch.disc.state = 3) :
    (s.pulse v e).sch.disc.state = if e.natAbs ≤ s.param 0xD000 5 then s.sch.disc.from_ else 4 := by
  obtain ⟨hstate, -, hfrom, -⟩ := s.pulseSeen_disc e
  obtain ⟨n, hsch⟩ := (s.pulseSeen e).ftcState_sch (if e.natAbs ≤ s.param 0xD000 5 then s.sch.disc.from_ else 4)
  rw [State.pulse_of_not_load v e hload, State.steer_of_holdover (hstate.trans h), State.pulseSeen_param, hfrom, hsch]

/-- In FAULT it is recorded and no more. -/
theorem State.pulse_of_fault (h : s.sch.disc.state = 4) : (s.pulse v e).sch.disc.state = 4 := by
  obtain ⟨hstate, -, -, -⟩ := s.pulseSeen_disc e
  have hfault : (s.pulseSeen e).sch.disc.state = 4 := hstate.trans h
  rw [State.pulse_of_not_load v e hload, State.steer_of_other e (by omega) (by omega) (by omega)]
  exact hfault

end Steered

/-- Settles O30, command by command: a write of FTC_RESYNC through the access that carries it, a pulse by whether it is
ignored, loads the FTC or steers, and the two expiries by the change of FTC_STATE that each makes. -/
theorem fabricTimeDiscipline : Obligations.FabricTimeDiscipline := by
  unfold Obligations.FabricTimeDiscipline
  refine ⟨fun s src value b o hvalue h => ⟨ftcResync_turnedAway hvalue h, ftcResync_does hvalue h⟩,
    fun s valid v ph e hv hph he => ⟨fun hignored => ?_, fun hvalid hlocked hlate => ?_⟩,
    fun s x hlast hdue hstate => ?_, fun s hstate hdue => ?_⟩
  · have counted : SameExcept [.obs, .tally] s (s.bump tallyBlock tbPulseIgnored 1) := s.bump_frame _ _ _
    exact ⟨_, exec_ftcPulse_ignored hv hph hignored, counted, counted.same .clk rfl⟩
  · subst hvalid he
    have hexec := exec_ftcPulse_accepted hv hph hlocked hlate
    refine ⟨fun hload => ⟨_, hexec, s.pulse_frame v _, State.pulse_of_load_leaves hload⟩, fun hfree hresync => ?_⟩
    have hload : ¬ (s.sch.disc.state = 0 ∨ s.sch.disc.resync = true) := by
      rw [hresync]
      exact fun h => h.elim hfree Bool.false_ne_true
    have steers := State.pulse_steers_frame (v := v) (e := 8 * (s.clk.ftc : Int) + ph - 8 * (v : Int)) hload
    obtain ⟨hlast, hctxs, herr⟩ :=
      State.pulse_steers_records (v := v) (e := 8 * (s.clk.ftc : Int) + ph - 8 * (v : Int)) hload
    refine ⟨_, hexec, steers, steers.same .clk rfl, hlast, hctxs, herr, State.pulse_of_far hload, ?_,
      State.pulse_of_holdover hload, State.pulse_of_fault hload⟩
    rintro (hacquire | htrack) hnear
    · obtain ⟨hacc, htrim, hstate⟩ := State.pulse_of_acquire hload hacquire hnear
      exact ⟨hacc, htrim, fun _ => hstate, fun htrack => by omega⟩
    · obtain ⟨hacc, htrim, hstate⟩ := State.pulse_of_track hload htrack hnear
      exact ⟨hacc, htrim, fun hacquire => by omega, fun _ => hstate⟩
  · obtain ⟨hsch, hnewest⟩ := State.toHoldover_of hstate
    exact ⟨_, exec_pulseTimeout_of_due hlast hdue, s.toHoldover_frame, congrArg Sch.disc hsch, by rw [hsch], hnewest⟩
  · obtain ⟨hsch, hnewest⟩ := State.ftcState_of_ne (s := s) (st := 4) (by rw [hstate]; decide)
    exact ⟨_, exec_holdoverMaxExpiry_of_due hstate hdue, s.ftcState_frame 4, congrArg Sch.disc hsch,
      by rw [hsch], hnewest⟩

end Sys2Proof.Machine
end

section
/-! SUPPORT. Bytes that spell a number, and lists sorted by a key. -/

namespace Sys2Proof.Machine

/-! ### Bytes that spell a number -/

theorem length_beBytes (n w : Nat) : (beBytes n w).length = n := by
  induction n with
  | zero => rfl
  | succ n ih => exact congrArg (· + 1) ih

/-- The bytes of a number, after bytes that spell `a`. -/
theorem foldl_beBytes (n w a : Nat) :
    (beBytes n w).foldl (fun a b => a * 256 + b.toNat) a = a * 256 ^ n + w % 256 ^ n := by
  induction n generalizing a with
  | zero => simp [beBytes, Nat.mod_one]
  | succ n ih =>
    have hbyte : (BitVec.ofNat 8 (w >>> (8 * n))).toNat = w / 256 ^ n % 256 := by
      rw [BitVec.toNat_ofNat, Nat.shiftRight_eq_div_pow, Nat.pow_mul]
    rw [beBytes, List.foldl_cons, ih, hbyte, Nat.mod_pow_succ, Nat.pow_succ, Nat.add_mul, Nat.mul_assoc,
      Nat.mul_comm 256, Nat.mul_comm (w / 256 ^ n % 256), Nat.add_assoc, Nat.add_comm (256 ^ n * _)]

theorem beNat_beBytes {n w : Nat} (h : w < 256 ^ n) : beNat (beBytes n w) = w := by
  rw [beNat, foldl_beBytes, Nat.zero_mul, Nat.zero_add, Nat.mod_eq_of_lt h]

/-! ### Lists sorted by a key -/

section Sorted

variable {α : Type} {key : α → Nat}

theorem insertBy_perm (x : α) (l : List α) : (insertBy key x l).Perm (x :: l) := by
  induction l with
  | nil => exact .refl _
  | cons y l ih =>
    unfold insertBy
    split
    · exact .refl _
    · exact (ih.cons y).trans (.swap x y l)

theorem foldl_insertBy_perm (l acc : List α) : (l.foldl (fun a x => insertBy key x a) acc).Perm (l ++ acc) := by
  induction l generalizing acc with
  | nil => exact .refl _
  | cons x l ih => exact (ih _).trans (((insertBy_perm x acc).append_left l).trans List.perm_middle)

theorem sortBy_perm (l : List α) : (sortBy key l).Perm l := by
  have h := foldl_insertBy_perm (key := key) l []
  rwa [List.append_nil] at h

/-- By the key, and by a relation among elements of an equal key. -/
def KeyThen (key : α → Nat) (R : α → α → Prop) (x y : α) : Prop := key x < key y ∨ (key x = key y ∧ R x y)

variable {R : α → α → Prop}

theorem insertBy_pairwise {x : α} {l : List α} (hl : l.Pairwise (KeyThen key R)) (hx : ∀ y ∈ l, R y x) :
    (insertBy key x l).Pairwise (KeyThen key R) := by
  induction l with
  | nil => exact List.pairwise_singleton _ x
  | cons y l ih =>
    obtain ⟨hy, hrest⟩ := List.pairwise_cons.mp hl
    unfold insertBy
    split
    next hlt =>
      refine List.pairwise_cons.mpr ⟨fun z hz => .inl ?_, hl⟩
      rcases List.mem_cons.mp hz with rfl | hz
      · exact hlt
      · rcases hy z hz with hyz | ⟨hyz, -⟩ <;> omega
    next hge =>
      refine List.pairwise_cons.mpr ⟨fun z hz => ?_, ih hrest fun z hz => hx z (List.mem_cons_of_mem _ hz)⟩
      rcases mem_insertBy key x z l hz with rfl | hz
      · have hyx : R y z := hx y List.mem_cons_self
        rcases Nat.lt_or_eq_of_le (Nat.not_lt.mp hge) with h | h
        · exact .inl h
        · exact .inr ⟨h, hyx⟩
      · exact hy z hz

/-- Sorting by a key keeps the order of elements of an equal key. -/
theorem sortBy_pairwise {l : List α} (h : l.Pairwise R) : (sortBy key l).Pairwise (KeyThen key R) := by
  have go (l acc : List α) (hl : l.Pairwise R) (hacc : acc.Pairwise (KeyThen key R))
      (hcross : ∀ y ∈ acc, ∀ x ∈ l, R y x) :
      (l.foldl (fun a x => insertBy key x a) acc).Pairwise (KeyThen key R) := by
    induction l generalizing acc with
    | nil => exact hacc
    | cons x l ih =>
      obtain ⟨hx, hrest⟩ := List.pairwise_cons.mp hl
      refine ih _ hrest (insertBy_pairwise hacc fun y hy => hcross y hy x List.mem_cons_self) fun y hy z hz => ?_
      rcases mem_insertBy key x y acc hy with rfl | hy
      · exact hx z hz
      · exact hcross y hy z (List.mem_cons_of_mem _ hz)
  exact go l [] h .nil fun _ hy => nomatch hy

end Sorted

end Sys2Proof.Machine
end

section
/-! SUPPORT. EVENT_ACK: the object, its checks, and the write (15 R451; 16 R454). -/

namespace Sys2Proof.Machine

/-! ### EVENT_ACK in the object table -/

/-- EVENT_ACK in the object table. -/
def eventAckObj : Obj := ⟨0xB000, .one, 0x04, .u64, .rw, 0, 18446744073709551615, 0, 0⟩

/-- In the builds of 00 R3 it is found at 0xB000. -/
theorem findObj_eventAck {b : Build} (h : b.valid = true) : findObj b 0xB000 4 = some eventAckObj := by
  have table : ∀ S ∈ [2, 4, 8], ∀ K ∈ [16, 32, 64], ∀ A ∈ [8, 16, 32],
      findObj { S := S, K := K, A := A } 0xB000 4 = some eventAckObj := by decide +kernel
  simp only [Build.valid, Bool.and_eq_true, List.contains_iff_mem] at h
  obtain ⟨⟨hS, hK⟩, hA⟩ := h
  exact table b.S hS b.K hK b.A hA

/-- Objects of sub-index 0x04: those only read, those whose values do not take 8 bytes, those at one index, and
CTR_CTL_4. -/
theorem inst_of_sub_04 : ∀ o ∈ objTable, o.sub = 0x04 →
    o.acc = .ro ∨ (o.acc ≠ .sel ∧ o.ty ≠ .blob ∧ o.ty.bytes ≠ 8) ∨ o.inst = .one ∨
      (o.inst = .perU ∧ o.base = 0x9400) := by
  decide +kernel

theorem eq_eventAckObj : ∀ o ∈ objTable, o.sub = 0x04 → o.base = 0xB000 → o = eventAckObj := by decide +kernel

/-- No build has a counter unit whose control words lie at 0xB000. -/
theorem inst?_perU_eq_none {b : Build} {o : Obj} (hinst : o.inst = .perU) (hbase : o.base = 0x9400) :
    o.inst? b 0xB000 = none := by
  simp [Obj.inst?, hinst, hbase, Build.hasCounters]

/-- An index at which an object is found is an index of the build. -/
theorem hasIndex_of_findObj {b : Build} {idx sub : Nat} {o : Obj} (h : findObj b idx sub = some o) :
    hasIndex b idx = true := by
  have hmatch := List.find?_some h
  rw [Bool.and_eq_true] at hmatch
  exact List.any_eq_true.mpr ⟨o, List.mem_of_find?_eq_some h, hmatch.2⟩

/-- A write of an object that is only read is refused by check 3. -/
theorem State.checkWrite_of_ro {s : State} {o : Obj} {idx sub : Nat} (r : Nat) (bulk : Bool) (ofs : Nat) (d : List Byte)
    (hfind : findObj s.build idx sub = some o) (hro : o.acc = .ro) :
    s.checkWrite r bulk idx sub ofs d = .error (refusal cFormat 36) := by
  simp only [State.checkWrite, hasIndex_of_findObj hfind, hfind, hro, Bool.not_true, Bool.false_eq_true, true_or,
    ↓reduceIte]

/-- Checks 3 and 6 of a write that passes. -/
theorem State.checkWrite_ok_value {s : State} {r idx sub ofs : Nat} {bulk : Bool} {d : List Byte} {o : Obj}
    (h : s.checkWrite r bulk idx sub ofs d = .ok o) : o.acc ≠ .ro ∧ s.valueOk o idx ofs d = true := by
  obtain ⟨hfind, -⟩ := State.checkWrite_ok h
  simp only [State.checkWrite, hfind, ite_error_eq_ok] at h
  obtain ⟨-, hacc, -, -, -, hvalue, -⟩ := h
  exact ⟨fun hro => hacc (.inl hro), by simpa using hvalue⟩

/-- Eight bytes that pass the checks of a write at 0xB000:04 are written to EVENT_ACK, whatever the build. -/
theorem State.checkWrite_eventAck {s : State} {r ofs : Nat} {d : List Byte} {o : Obj} (hlen : d.length = 8)
    (h : s.checkWrite r false 0xB000 4 ofs d = .ok o) : o = eventAckObj := by
  obtain ⟨hfind, hwritten⟩ := State.checkWrite_ok h
  obtain ⟨hwritable, -⟩ := State.checkWrite_ok_value h
  have hlisted : o ∈ objTable := List.mem_of_find?_eq_some hfind
  have hmatch := List.find?_some hfind
  simp only [Bool.and_eq_true, decide_eq_true_eq] at hmatch
  obtain ⟨hsub, hinst⟩ := hmatch
  rcases inst_of_sub_04 o hlisted hsub with hro | ⟨hsel, hblob, hshort⟩ | hone | ⟨hunit, hbase⟩
  · exact absurd hro hwritable
  · have hlong := hwritten rfl
    rw [State.writeLenOk, if_neg hsel, if_pos hblob, hlen, decide_eq_true_eq] at hlong
    exact absurd hlong.symm hshort
  · exact eq_eventAckObj o hlisted hsub (Obj.base_of_one hone hinst)
  · rw [inst?_perU_eq_none hunit hbase] at hinst
    cases hinst

/-- Check 6 of EVENT_ACK: a position of 8 bytes, at most the newest (15 R451). -/
theorem State.valueOk_eventAck (s : State) (ofs : Nat) {pos : Nat} (hpos : pos < 2 ^ 64) :
    s.valueOk eventAckObj 0xB000 ofs (beBytes 8 pos) = decide (pos ≤ s.evt.newest) := by
  have hvalue : beNat (beBytes 8 pos) = pos := beNat_beBytes hpos
  have hhi : pos ≤ 18446744073709551615 := by omega
  simp [State.valueOk, eventAckObj, State.wordOk, hvalue, hhi]

/-- In the builds of 00 R3 a position beyond the newest is refused by check 6. -/
theorem State.checkWrite_eventAck_late {s : State} {pos : Nat} (r : Nat) (hvalid : s.build.valid = true)
    (hpos : pos < 2 ^ 64) (hlate : s.evt.newest < pos) :
    s.checkWrite r false 0xB000 4 0 (beBytes 8 pos) = .error (refusal cFormat 64) := by
  have hfind := findObj_eventAck hvalid
  have hvalue : s.valueOk eventAckObj 0xB000 0 (beBytes 8 pos) = false := by
    rw [s.valueOk_eventAck 0 hpos, decide_eq_false (Nat.not_le.mpr hlate)]
  have hlen : s.writeLenOk eventAckObj 0xB000 8 = true := rfl
  simp only [State.checkWrite, hasIndex_of_findObj hfind, hfind, length_beBytes, hlen, hvalue]
  rfl

/-- The operation that an accepted write of EVENT_ACK does. -/
theorem State.writeObj_eventAck (s : State) (r : Nat) (again : Bool) (a : Access) :
    s.writeObj r again eventAckObj a [] =
      (s.modEvt fun e => { e with ack := beNat a.data }, { code := cDone, aux := a.data.length }) := rfl

/-! ### The access -/

/-- The offset of an access that its row names is the row's. -/
theorem taken_ofs {s : State} {src : MgmtSrc} {a b : Access} (h : Taken s src a b)
    (hnamed : a.loose = false) : b.ofs = a.ofs := by
  cases src with
  | port tag =>
    obtain ⟨-, -, -, -, -, rfl⟩ := h
    rfl
  | frame req seq =>
    obtain ⟨-, -, -, -, o, -, -, -, hframe⟩ := h
    simp only [State.frameAccess, Option.ite_none_right_eq_some, Option.some.injEq] at hframe
    obtain ⟨hguard, rfl⟩ := hframe
    simp only [hnamed, Bool.false_or, Bool.and_eq_true, decide_eq_true_eq] at hguard
    obtain ⟨⟨⟨-, hofs⟩, -⟩, -⟩ := hguard
    exact hofs

/-- The write that EVENT_ACK carries. -/
def ackAccess (pos : Nat) : Access := { kind := 2, idx := 0xB000, sub := 4, data := beBytes 8 pos }

/-- EVENT_ACK is the one access of its row. -/
theorem exec_eventAck {s : State} {src : MgmtSrc} {pos : Nat} {b : Access} (hpos : pos < 2 ^ 64)
    (h : Taken s src (ackAccess pos) b) :
    exec (.eventAck src pos) s = .next (s.access src (ackAccess pos) []) := by
  change s.runAccess src (decide (pos < 2 ^ 64)) (ackAccess pos) = _
  rw [State.runAccess, runIf_true _ (by rw [h.srcOk, decide_eq_true hpos]; rfl)]

/-- A write of EVENT_ACK that a check refuses is answered with that refusal. -/
theorem exec_eventAck_of_error {s : State} {src : MgmtSrc} {pos : Nat} {b : Access} {e : Answer} (hpos : pos < 2 ^ 64)
    (h : Taken s src (ackAccess pos) b)
    (hcheck : s.checkWrite (reader src) false 0xB000 4 b.ofs (beBytes 8 pos) = .error e) :
    exec (.eventAck src pos) s = .next (s.respond src b.kind e) := by
  obtain ⟨hidx, hsub, hwritten⟩ := h.names
  obtain ⟨hkind, hdata⟩ := hwritten rfl rfl rfl
  obtain ⟨again, haccess, -⟩ := h.access_eq []
  have hwrite : b.reads = false := by rw [Access.reads, hkind]; rfl
  have hsingle : decide (b.kind = 4) = false := by rw [hkind]; rfl
  rw [exec_eventAck hpos h, haccess, State.perform, hwrite, hidx, hsub, hdata, hsingle]
  simp only [ackAccess, hcheck, Bool.false_eq_true, ↓reduceIte]

/-- 15 R451: an accepted EVENT_ACK names a position that has been reached, and moves the acknowledged position there. -/
theorem eventAck_does {s : State} {src : MgmtSrc} {pos : Nat} {b : Access} {o : Obj} (hpos : pos < 2 ^ 64)
    (h : Accepted s src (ackAccess pos) b o) :
    pos ≤ s.evt.newest ∧
      Does (.eventAck src pos) s src b [.evt] fun t => t.evt = { s.evt with ack := pos } := by
  obtain ⟨-, -, hwritten⟩ := h.taken.names
  obtain ⟨hkind, hdata : b.data = beBytes 8 pos⟩ := hwritten rfl rfl rfl
  have hsingle : decide (b.kind = 4) = false := by rw [hkind]; rfl
  have hwrite : b.reads = false := by rw [Access.reads, hkind]; rfl
  have hvalue : beNat b.data = pos := by rw [hdata, beNat_beBytes hpos]
  have hchecks := h.checks
  rw [hsingle, hdata] at hchecks
  obtain rfl : o = eventAckObj := State.checkWrite_eventAck (length_beBytes 8 pos) hchecks
  obtain ⟨-, hreached⟩ := State.checkWrite_ok_value hchecks
  refine ⟨of_decide_eq_true ((s.valueOk_eventAck _ hpos).symm.trans hreached), ?_⟩
  let u := s.modEvt fun e => { e with ack := pos }
  refine does_of_respond (u := u) h.taken.answersMgmt ?_ (s.modEvt_frame _) rfl rfl ?_
  · obtain ⟨again, -, haccess⟩ := h.access_eq hwrite
    rw [exec_eventAck hpos h.taken, haccess, State.writeObj_eventAck, hvalue]
    rfl
  · have humgmt : u.AnswersMgmt src := h.taken.answersMgmt.congr rfl
    have hevt := (State.respond_answerGroups b.kind { code := cDone, aux := b.data.length } humgmt).same .evt
      (by cases src <;> rfl)
    exact hevt

/-- In the builds of 00 R3 an EVENT_ACK that names a position beyond the newest is refused by check 6. -/
theorem eventAck_turnedAway {s : State} {src : MgmtSrc} {pos : Nat} {b : Access} (hvalid : s.build.valid = true)
    (hpos : pos < 2 ^ 64) (h : Taken s src (ackAccess pos) b) (hlate : s.evt.newest < pos) :
    TurnedAway (.eventAck src pos) s src b cFormat 64 := by
  have hofs : b.ofs = 0 := taken_ofs h rfl
  refine turnedAway_of_respond h.answersMgmt (exec_eventAck_of_error hpos h ?_)
  rw [hofs]
  exact State.checkWrite_eventAck_late _ hvalid hpos hlate

end Sys2Proof.Machine
end

section
/-! SUPPORT. EVENT_NOTIFICATION, said once: the records that a frame takes, the frame, and the mark that it leaves
(15 R451). -/

namespace Sys2Proof.Machine

/-- The records that the next notification frame takes, where they fit into one: by FTC, and then by source. -/
def State.noticeRecs (s : State) : List EvRec := sortBy (fun r => r.ftc) (sortBy (fun r => r.src) s.toNotify)

/-- Records are missing before the first record of the frame. -/
def State.noticeGap (s : State) : Bool :=
  match s.evt.ring.head? with
  | some r => decide (s.evt.notified + 1 < r.pos)
  | none => false

/-- The payload of a notification frame: copies of its records, each marked as notified in band. -/
def noticePayload (lost : Bool) (rs : List EvRec) : List Byte :=
  (rs.mapIdx fun i r => ({ r with inband := true, gap := r.gap || (lost && decide (i = 0)) } : EvRec).bytes).flatten

/-- The notification frame. -/
def State.notice (s : State) : Resp :=
  { req := s.param 0xB000 6, seq := mapGet 0 s.frm.notif (s.param 0xB000 6), op := 0xBF, code := cDone,
    aux := s.noticeRecs.length, payload := noticePayload s.noticeGap s.noticeRecs, cls := s.sysClass,
    source := s.srcDuty 4, eq := s.egressQ s.sysClass, kind := 5, ftc := s.clk.ftc }

/-- The log once the frame has taken its records. -/
def Evt.marked (e : Evt) (ps : List Nat) : Evt :=
  { e with
    ring := e.ring.map fun r => if ps.contains r.pos then { r with inband := true } else r
    notified := max e.notified (ps.foldl max 0) }

/-- The endpoint's next number is taken, and the records are marked. -/
def State.noticed (s : State) : State :=
  (s.modFrm fun f => { f with
    notif := mapSet 0 f.notif (s.param 0xB000 6) ((mapGet 0 s.frm.notif (s.param 0xB000 6) + 1) % 2 ^ 32) }).modEvt
    fun e => e.marked (s.noticeRecs.map fun r => r.pos)

/-- The frame and the records beyond the 320th, of which there is none, are counted. -/
def State.noticeCounted (s : State) : State :=
  (s.noticed.bump tallyBlock tbNotifySent 1).bump tallyBlock tbNotifyDropped 0

theorem State.noticeRecs_perm (s : State) : s.noticeRecs.Perm s.toNotify := (sortBy_perm _).trans (sortBy_perm _)

theorem State.noticeRecs_pairwise (s : State) :
    s.noticeRecs.Pairwise fun a b => a.ftc < b.ftc ∨ (a.ftc = b.ftc ∧ a.src ≤ b.src) := by
  have bySrc : (sortBy (fun r => r.src) s.toNotify).Pairwise fun a b => a.src ≤ b.src :=
    (sortBy_pairwise (List.pairwise_of_forall (R := fun _ _ => True) fun _ _ => trivial)).imp fun h =>
      h.elim Nat.le_of_lt fun h => Nat.le_of_eq h.1
  exact sortBy_pairwise bySrc

/-- An outstanding record is one of those that the next frame takes. -/
theorem State.contains_noticeRecs (s : State) (p : Nat) :
    (s.noticeRecs.map fun r => r.pos).contains p = (s.toNotify.map fun r => r.pos).contains p :=
  (s.noticeRecs_perm.map _).contains_eq

/-- EVENT_NOTIFICATION while records that fit into one frame wait for it. -/
theorem exec_eventNotification {s : State} (hlive : s.live = true) (hserved : s.served 4 = true)
    (hep : s.param 0xB000 6 ≠ 0) (hstage : s.ldl.stage = 6) (hsome : s.toNotify ≠ []) (hfit : s.toNotify.length ≤ 32) :
    exec .eventNotification s = .next (s.noticeCounted.stagePick s.notice) := by
  have hextra : s.toNotify.length - 320 = 0 := by omega
  have htake : s.toNotify.take 32 = s.toNotify := List.take_of_length_le hfit
  have hrecs : s.noticeRecs ≠ [] := fun h => hsome (List.nil_perm.mp (h ▸ s.noticeRecs_perm))
  change execEventNotification s = _
  rw [execEventNotification, State.runDuty_on _ rfl hlive hserved]
  simp only [hextra, htake, List.drop_zero]
  rw [if_neg fun h => h.elim hep fun h => h.elim (fun h => h hstage) hrecs]
  simp only [Nat.lt_irrefl, decide_false, Bool.false_or]
  rfl

/-! ### What it leaves -/

theorem State.noticeCounted_frame (s : State) : SameExcept [.obs, .tally] s.noticed s.noticeCounted :=
  (State.bump_frame _ _ _ _).step rfl (State.bump_frame _ _ _ _)

theorem State.noticeCounted_frm (s : State) :
    s.noticeCounted.frm = { s.frm with
      notif := mapSet 0 s.frm.notif (s.param 0xB000 6) ((mapGet 0 s.frm.notif (s.param 0xB000 6) + 1) % 2 ^ 32) } :=
  s.noticeCounted_frame.same .frm rfl

theorem State.noticeCounted_evt (s : State) :
    s.noticeCounted.evt = s.evt.marked (s.noticeRecs.map fun r => r.pos) := s.noticeCounted_frame.same .evt rfl

theorem State.noticeCounted_port (s : State) (p : Nat) : s.noticeCounted.port p = s.port p := by
  rw [State.port, State.noticeCounted_frm, State.port]

theorem State.noticeCounted_upPorts (s : State) : s.noticeCounted.upPorts = s.upPorts := by
  have hbuild : s.noticeCounted.build = s.build := s.noticeCounted_frame.same .build rfl
  simp only [State.upPorts, hbuild, State.noticeCounted_port]

/-- A staged frame waits on a port, or for one; no number is taken. -/
theorem State.stagePick_notif (s : State) (x : Resp) : (s.stagePick x).frm.notif = s.frm.notif := by
  unfold State.stagePick
  split <;> rfl

theorem State.stagePick_of_no_port {s : State} (x : Resp) (h : s.upPorts = []) :
    (s.stagePick x).frm.noPort = s.frm.noPort ++ [x] := by
  rw [State.stagePick, h]
  rfl

/-- With a port up, it stands in the queue that it names, on a port that is up. -/
theorem State.stagePick_queued {s : State} {x : Resp} (hup : s.upPorts ≠ [])
    (hqueue : ∀ p, x.eq < (s.port p).queues.length) :
    ∃ p ∈ s.upPorts, ∃ q ∈ ((s.stagePick x).port p).queues.flatten, q.resp = x := by
  have hlt : x.seq % s.upPorts.length < s.upPorts.length := Nat.mod_lt _ (List.length_pos_iff.mpr hup)
  let p := s.upPorts.getD (x.seq % s.upPorts.length) 0
  have hp : p ∈ s.upPorts := by
    simp only [p, List.getD_eq_getElem?_getD, hlt, getElem?_pos, Option.getD_some, List.getElem_mem]
  have hstage : s.stagePick x = s.stage p x := by
    unfold State.stagePick
    split
    next h => exact absurd h hup
    next => rfl
  obtain ⟨f, hlast, hresp, -⟩ := s.stage_queue p x (hqueue p)
  have hf : f ∈ ((s.stage p x).port p).queues.getD x.eq [] := by
    rw [hlast]
    exact List.mem_append_right _ (List.mem_singleton_self f)
  refine ⟨p, hp, f, ?_, hresp⟩
  rw [hstage]
  rw [List.getD_eq_getElem?_getD] at hf
  cases hget : ((s.stage p x).port p).queues[x.eq]? with
  | none => rw [hget] at hf; exact nomatch hf
  | some l => rw [hget] at hf; exact List.mem_flatten_of_mem (List.mem_of_getElem? hget) hf

/-- A position is at most the highest of its list. -/
theorem le_foldl_max {p : Nat} {l : List Nat} (h : p ∈ l) (a : Nat) : p ≤ l.foldl max a := by
  rw [List.foldl_max]
  exact Nat.le_trans (List.le_max?_getD_of_mem h) (Nat.le_max_right _ _)

/-- A log that is marked with the outstanding records has none. -/
theorem State.toNotify_of_marked {s t : State} (hdict : t.dict = s.dict) (hbuild : t.build = s.build)
    (hevt : t.evt = s.evt.marked (s.noticeRecs.map fun r => r.pos)) : t.toNotify = [] := by
  have hlevel : t.param 0xB000 5 = s.param 0xB000 5 := State.param_congr hdict hbuild _ _
  refine List.filter_eq_nil_iff.mpr fun x hx hout => ?_
  rw [hevt] at hx hout
  obtain ⟨r, hr, rfl⟩ := List.mem_map.mp hx
  have hsame : (if (s.noticeRecs.map fun r => r.pos).contains r.pos then { r with inband := true } else r).sev = r.sev ∧
      (if (s.noticeRecs.map fun r => r.pos).contains r.pos then { r with inband := true } else r).pos = r.pos := by
    split <;> exact ⟨rfl, rfl⟩
  rw [hsame.1, hsame.2, hlevel, Bool.and_eq_true, decide_eq_true_eq, decide_eq_true_eq] at hout
  obtain ⟨hsev, hpos⟩ := hout
  have hnew : s.evt.notified < r.pos := Nat.lt_of_le_of_lt (Nat.le_max_left _ _) hpos
  have hwaits : r ∈ s.toNotify := List.mem_filter.mpr ⟨hr, by simp only [hsev, hnew, decide_true, Bool.and_self]⟩
  have hle := le_foldl_max (List.mem_map_of_mem (f := fun r => r.pos) (s.noticeRecs_perm.mem_iff.mpr hwaits)) 0
  exact Nat.lt_irrefl _ (Nat.lt_of_lt_of_le hpos (Nat.le_trans hle (Nat.le_max_right _ _)))

/-- 15 R451: a notification frame takes the outstanding records, by FTC and then by source, and marks them. -/
theorem eventNotification_completes {s : State} (hlive : s.live = true) (hserved : s.served 4 = true)
    (hep : s.param 0xB000 6 ≠ 0) (hstage : s.ldl.stage = 6) (hsome : s.toNotify ≠ []) (hfit : s.toNotify.length ≤ 32) :
    Completes .eventNotification s [.frm, .evt, .obs, .tally] fun t =>
      t.toNotify = [] ∧ t.evt.newest = s.evt.newest ∧ t.evt.ack = s.evt.ack ∧
      t.evt.ring = s.evt.ring.map (fun r =>
        if (s.toNotify.map fun x => x.pos).contains r.pos then { r with inband := true } else r) ∧
      mapGet 0 t.frm.notif (s.param 0xB000 6) = (mapGet 0 s.frm.notif (s.param 0xB000 6) + 1) % 2 ^ 32 ∧
      ∃ x : Resp, x.req = s.param 0xB000 6 ∧ x.seq = mapGet 0 s.frm.notif (s.param 0xB000 6) ∧ x.op = 0xBF ∧
        x.aux = s.toNotify.length ∧
        (∃ (rs : List EvRec) (lost : Bool), rs.Perm s.toNotify ∧
          rs.Pairwise (fun a b => a.ftc < b.ftc ∨ (a.ftc = b.ftc ∧ a.src ≤ b.src)) ∧
          x.payload = noticePayload lost rs) ∧
        (s.upPorts = [] → t.frm.noPort = s.frm.noPort ++ [x]) ∧
        (s.upPorts ≠ [] → s.egressQ s.sysClass < 16 → (∀ p, (s.port p).queues.length = 16) →
          ∃ p ∈ s.upPorts, ∃ q ∈ (t.port p).queues.flatten, q.resp = x) := by
  have hexec := exec_eventNotification hlive hserved hep hstage hsome hfit
  have hframe := execEventNotification_frame s
  rw [show execEventNotification s = _ from hexec] at hframe
  have staged := s.noticeCounted.stagePick_frame s.notice
  have hevt : (s.noticeCounted.stagePick s.notice).evt = s.evt.marked (s.noticeRecs.map fun r => r.pos) :=
    (staged.same .evt rfl).trans s.noticeCounted_evt
  refine ⟨_, hexec, hframe, State.toNotify_of_marked (hframe.same .dict rfl) (hframe.same .build rfl) hevt,
    by rw [hevt]; rfl, by rw [hevt]; rfl, ?_, ?_, s.notice, rfl, rfl, rfl, s.noticeRecs_perm.length_eq,
    ⟨s.noticeRecs, s.noticeGap, s.noticeRecs_perm, s.noticeRecs_pairwise, rfl⟩, fun hdown => ?_, fun hup hq hlen => ?_⟩
  · rw [hevt]
    simp only [Evt.marked, State.contains_noticeRecs]
  · rw [State.stagePick_notif, State.noticeCounted_frm, mapGet_mapSet_self]
  · rw [State.stagePick_of_no_port _ (s.noticeCounted_upPorts.trans hdown), State.noticeCounted_frm]
  · rw [← s.noticeCounted_upPorts]
    refine State.stagePick_queued (by rwa [s.noticeCounted_upPorts]) fun p => ?_
    rw [s.noticeCounted_port, hlen]
    exact hq

end Sys2Proof.Machine
end

section
/-! SUPPORT. The test access port, said once per instruction and level of rst_cold_n (18 R490). -/

namespace Sys2Proof.Machine

/-- The fields of the identity code. -/
theorem tapIdCode_fields :
    tapIdCode % 2 = 1 ∧ tapIdCode / 2 % 2 ^ 11 = Config.idCode.toNat / 2 % 2 ^ 11 ∧ tapIdCode / 4096 = 0x34B57 := by
  have hmaker : bits Config.idCode.toNat 11 1 = Config.idCode.toNat / 2 % 2 ^ 11 := rfl
  rw [tapIdCode, hmaker]
  omega

/-- An instruction that rst_cold_n must be low for is replaced by BYPASS while it is high. -/
theorem exec_tap_of_high {s : State} {word stack : Nat} {c : Instr} (hhigh : s.pin.coldN = true)
    (hstack : stack < s.build.S) (hc : c = .samplePreload word ∨ c = .extest ∨ c = .stack1500 stack) :
    exec c s = .next s.tapBypass := by
  rcases hc with rfl | rfl | rfl
  · change execSamplePreload word s = _
    rw [execSamplePreload, if_pos hhigh]
  · change execExtest s = _
    rw [execExtest, if_pos hhigh]
  · change execStack1500 stack s = _
    rw [execStack1500, runIf_true _ (decide_eq_true hstack), if_pos hhigh]

section Low

variable {s : State} (hlow : s.pin.coldN = false)
include hlow

theorem exec_samplePreload_of_low (word : Nat) :
    exec (.samplePreload word) s =
      .next ((s.tapSet 2 s.tapCapture none).modPin fun p => { p with boundary := word }).spend := by
  change execSamplePreload word s = _
  rw [execSamplePreload, hlow]
  rfl

theorem exec_extest_of_low : exec .extest s = .next (s.tapSet 3 s.tapCapture none).spend := by
  change execExtest s = _
  rw [execExtest, hlow]
  rfl

theorem exec_stack1500_of_low {stack : Nat} (hstack : stack < s.build.S) :
    exec (.stack1500 stack) s = .next (s.tapSet 4 stack (some stack)) := by
  change execStack1500 stack s = _
  rw [execStack1500, runIf_true _ (decide_eq_true hstack), hlow]
  rfl

end Low

/-- 18 R490: BYPASS and IDCODE act at any time, the other instructions only while rst_cold_n is low; while it is high
they are replaced by BYPASS. -/
theorem testPort_completes (s : State) (word stack : Nat) (hstack : stack < s.build.S) :
    (Completes .bypass s [.pin] fun t => t.pin = { s.pin with tap := 0, tapReg := 0, tapStack := none }) ∧
    (Completes .idcode s [.pin] fun t =>
      t.pin = { s.pin with tap := 1, tapReg := t.pin.tapReg, tapStack := none } ∧ t.pin.tapReg % 2 = 1 ∧
      t.pin.tapReg / 2 % 2 ^ 11 = Config.idCode.toNat / 2 % 2 ^ 11 ∧ t.pin.tapReg / 4096 = 0x34B57) ∧
    (s.pin.coldN = true → ∀ c, (c = .samplePreload word ∨ c = .extest ∨ c = .stack1500 stack) →
      Completes c s [.pin] fun t => t.pin = { s.pin with tap := 0, tapReg := 0, tapStack := none }) ∧
    (s.pin.coldN = false →
      (Completes (.samplePreload word) s [.pin, .free] fun t =>
        t.pin.tap = 2 ∧ t.pin.boundary = word ∧ t.pin.tapStack = none) ∧
      (Completes .extest s [.pin, .free] fun t => t.pin.tap = 3 ∧ t.pin.boundary = s.pin.boundary) ∧
      (Completes (.stack1500 stack) s [.pin] fun t =>
        t.pin = { s.pin with tap := 4, tapReg := stack, tapStack := some stack })) := by
  refine ⟨⟨_, rfl, s.tapBypass_frame, rfl⟩, ⟨_, rfl, s.tapSet_frame _ _ _, rfl, tapIdCode_fields⟩,
    fun hhigh c hc => ⟨_, exec_tap_of_high hhigh hstack hc, s.tapBypass_frame, rfl⟩, fun hlow => ⟨?_, ?_, ?_⟩⟩
  · refine ⟨_, exec_samplePreload_of_low hlow word, ?_, rfl, rfl, rfl⟩
    have captured := (s.tapSet_frame 2 s.tapCapture none).mono (l := [.pin, .free]) rfl
    exact (State.spend_frame _).step rfl ((State.modPin_frame _ _).step rfl captured)
  · refine ⟨_, exec_extest_of_low hlow, ?_, rfl, rfl⟩
    exact (State.spend_frame _).step rfl ((s.tapSet_frame 3 s.tapCapture none).mono rfl)
  · exact ⟨_, exec_stack1500_of_low hlow hstack, s.tapSet_frame _ _ _, rfl⟩

end Sys2Proof.Machine
end

section
/-! SUPPORT. A block that 00 R3 does not allow, in which the statement about events and the test port fails. -/

namespace Sys2Proof.Machine

/-- A block out of reset with 129 stacks: the objects of stack 128 lie at the index of the event log, 0xB000. -/
def overbuilt : State := { State.reset with build := { S := 129 } }

theorem taken_overbuilt : Taken overbuilt (.port 0) (ackAccess 1) (ackAccess 1) :=
  ⟨by decide +kernel, by decide, rfl, by decide, by decide, rfl⟩

/-- EVENT_ACK is hidden behind an object of stack 128, which is only read. -/
theorem findObj_overbuilt :
    findObj overbuilt.build 0xB000 4 = some ⟨0x3000, .perS, 0x04, .blob, .ro, 0, 0, 240, 0⟩ := by decide +kernel

theorem checkWrite_overbuilt :
    overbuilt.checkWrite (reader (.port 0)) false 0xB000 4 0 (beBytes 8 1) = .error (refusal cFormat 36) :=
  State.checkWrite_of_ro _ _ _ _ findObj_overbuilt rfl

theorem exec_overbuilt :
    exec (.eventAck (.port 0) 1) overbuilt = .next (overbuilt.respond (.port 0) 2 (refusal cFormat 36)) :=
  (exec_eventAck_of_error (Nat.one_lt_two_pow (by decide)) taken_overbuilt checkWrite_overbuilt :)

/-- Refutes O52: the statement does not keep to the builds of 00 R3. With 129 stacks an object of stack 128 lies at the
index of EVENT_ACK, and the write that names a position beyond the newest is answered with AUX 36, a write of an object
that is only read, and not with AUX 64. In the builds of 00 R3 it is answered with AUX 64 (`eventAck_turnedAway`), and
the other clauses hold in every build (`eventAck_does`, `eventNotification_completes`, `testPort_completes`). -/
theorem not_eventsAndTestPort : ¬ Obligations.EventsAndTestPort := by
  unfold Obligations.EventsAndTestPort
  rintro ⟨hack, -, -⟩
  obtain ⟨-, hrefused⟩ := hack overbuilt (.port 0) 1 (ackAccess 1) (ackAccess 1) (by decide) rfl
  obtain ⟨t, hexec, -, hwords, -⟩ := hrefused taken_overbuilt (by decide)
  obtain rfl : overbuilt.respond (.port 0) 2 (refusal cFormat 36) = t :=
    Host.Outcome.next.inj (exec_overbuilt.symm.trans hexec)
  have hsent : rspWords 2 0 cFormat 36 [] = rspWords 2 0 cFormat 64 [] :=
    (overbuilt.portAnswer_words 2 0 cFormat 36 []).symm.trans hwords
  exact absurd hsent (by decide)

end Sys2Proof.Machine
end
